-- ==== Sys2Proof/Word.lean ====
section
/-! DEFINITION. The machine's words: 32-bit register words, 64-bit doublewords of the engines and bytes of its memories. -/

namespace Sys2Proof

/-- A register word (R50). -/
abbrev Word := BitVec 32

/-- An engine register or a ring doubleword (R270, R261). -/
abbrev DWord := BitVec 64

/-- A byte of a memory or of a frame. -/
abbrev Byte := BitVec 8

end Sys2Proof
end

