-- ==== Sys2Proof/Syntax.lean ====
section
/-! DEFINITION. The commands of the block: one constructor of Instr per row of spec/opcode_table.json, with the row's operands, and the
plain types those operands use. -/

namespace Sys2Proof

/-- The masters and sides of the device, with the IDs of R387: hosts 1–3, SE 4, engines 5–10, DMA 11, daisy peers 16–23. -/
inductive Master where
  | hostPcie
  | hostSpi
  | hostI2c
  | se
  | te (t : Fin 2)
  | pe (p : Fin 4)
  | dma
  | peer (i : Fin 8)
  deriving DecidableEq, Repr

/-- The master ID of R387. -/
def Master.id : Master → Nat
  | .hostPcie => 1
  | .hostSpi => 2
  | .hostI2c => 3
  | .se => 4
  | .te t => 5 + t.val
  | .pe p => 7 + p.val
  | .dma => 11
  | .peer i => 16 + i.val

/-- A packet servo's output as its TE lap code gives it (R112): whether it is marked valid, its pin time, its frequency estimate
in 2⁻⁴⁸ and whether the estimate is fresh. -/
structure PktOut where
  p : Fin 4
  valid : Bool
  pin : Nat
  y : Int
  fresh : Bool
  deriving DecidableEq, Repr

/-- The strongest cell of a search (R211): its Doppler bin from the middle one, and its code phase in samples. -/
structure AcqCell where
  bin : Int
  phase : Nat
  deriving DecidableEq, Repr

/-- What a search ends with (R211): whether firmware had narrowed its window, and the strongest cell, if any. -/
structure AcqFound where
  aided : Bool
  cell : Option AcqCell
  deriving DecidableEq, Repr

/-- One complex correlator output per tap of R209: VE, E, P, L, VL, PD and N. -/
abbrev Taps := Vector (Int × Int) 7

/-- What firmware solves at a 1 Hz epoch (R212, R214): whether there is a 3D fix, the satellites with ephemeris, the range residuals in mm
of the channels in view, the position in mm, and the top of second on the GSCLK scale in stamp units with the drift in 2⁻⁴⁸. -/
structure GnssEpoch where
  fix : Bool
  eph : Nat
  resid : List (Fin 48 × Int)
  x : Int
  y : Int
  z : Int
  top : Nat
  drift : Int
  deriving DecidableEq, Repr

/-- A solution record (R216): the second of its pulse in the time of constellation `k`, PDOP in 0.1, the estimated time error in ns, and
the broadcast UTC offset and leap second. -/
structure GnssSol where
  k : Fin 3
  sec : Nat
  pdop : Nat
  terr : Nat
  utcOff : Int
  leapAnn : Bool
  leapDir : Bool
  leapAt : Nat
  deriving DecidableEq, Repr

/-- What a memory's check bits say at an access (R265): good, corrected, or not correctable. -/
inductive Ecc where
  | good
  | corrected
  | bad
  deriving DecidableEq, Repr

/-- A frame at the receive MAC (R222, R230): its octets with the FCS, whether link loss cut it, the invalid blocks and FEC codewords
corrected and not correctable within it, the interval φ from the recovered-clock edge to the FCLK edge in ps, and the bit that
carries the timestamp point within its word. -/
structure RxIn where
  octets : List Byte
  cut : Bool
  codeErr : Nat
  fecCorr : Nat
  fecUncorr : Nat
  phi : Nat
  bit : Nat
  deriving DecidableEq, Repr

/-- An engine (R243). -/
inductive Eng where
  | pe (p : Fin 4)
  | te (t : Fin 2)
  | se
  deriving DecidableEq, Repr

/-- The engine number: 0–3 PE, 4–5 TE (R314), 6 for the SE. -/
def Eng.num : Eng → Nat
  | .pe p => p.val
  | .te t => 4 + t.val
  | .se => 6

/-- A syllable as it issues (R270): its engine, the instance it belongs to (none for lap code, a TE and the SE), its fields but for the
opcode, its slot, whether its bundle holds a LIMM of the same stream (R281), and whether it is the last syllable of its stream's bundle to
be given. -/
structure Syl where
  e : Eng
  inst : Option Nat
  slot : Fin 8
  pred : Fin 16
  sense : Bool
  dst : Fin 64
  a : Fin 64
  b : Fin 64
  md : Fin 8
  limm : Bool
  last : Bool
  deriving DecidableEq, Repr

/-- A syllable that reads through an arrival gate: whether what it reads has waited beyond its phase (R20). -/
structure GateSyl where
  y : Syl
  late : Bool
  deriving DecidableEq, Repr

/-- A sample that crosses the sample gate: its port, and whether it has waited beyond its phase (R20). -/
structure SampleIn where
  port : Fin 4
  late : Bool
  deriving DecidableEq, Repr

/-- The commands and events of the JZ9240, one constructor per row of the table of operations (95_what_each_step_holds.md). -/
inductive Instr where
  /-- REGISTER_WRITE (R59): A master writes a register that has no row of its own; near writes take effect at once, far writes are posted and set BUSY. -/
  | registerWrite (m : Master) (a : BitVec 21) (ws : List Word) (whole : Bool)
  /-- POSTED_WRITE_TAKES_EFFECT (R25): A posted write lands in its far island, takes effect and clears BUSY. -/
  | postedWriteTakesEffect (b : Fin 16) (late : Bool)
  /-- POSTED_WRITE_DISCARD (R25): A pending posted write is discarded 4 µs after its island's clock stopped or its domain turned off; BUSY clears and DISCARDED is set. -/
  | postedWriteDiscard (b : Fin 16)
  /-- STAGED_WORD_WRITE (R66): A write to a word of a multi-word quantity is staged; writing the highest word applies the whole quantity. -/
  | stagedWordWrite (m : Master) (a : BitVec 20) (v : Word)
  /-- SNAPSHOT_READ (R65): A read of the lowest word of a multi-word quantity latches the whole quantity into the master's snapshot buffer. -/
  | snapshotRead (m : Master) (a : BitVec 20)
  /-- GUARD_VALUE_WRITE (R62): A master writes the value word of a guarded register and arms its 64-cycle complement window. -/
  | guardValueWrite (m : Master) (a : BitVec 20) (v : Word)
  /-- GUARD_WINDOW_EXPIRY (R62): No complement arrives by the end of the guard window; the value is discarded. -/
  | guardWindowExpiry (m : Master)
  /-- ACKNOWLEDGE_WRITE (R68): The host writes an acknowledge copy; the source stays pending if the counter moved on, and the vector may be resent. -/
  | acknowledgeWrite (m : Master) (a : BitVec 21) (v : Word)
  /-- INT_ROUTE_WRITE (R71): A write to INT_ROUTE_LO or INT_ROUTE_HI reroutes vectors and sends a message for a newly host-routed vector whose condition is 1. -/
  | intRouteWrite (m : Master) (hi : Bool) (v : Word)
  /-- MSIX_UNMASK (R71): The host unmasks a vector; a pending message is sent if the condition is still 1, else the pending bit clears. -/
  | msixUnmask (v : Fin 32)
  /-- MSIX_SEND_RESUME (R71): The endpoint becomes able to send messages again and sends or clears every pending vector. -/
  | msixSendResume
  /-- HWIN_ADDR_WRITE (R57): A write to HWIN_ADDR starts a prefetch of that hamper word through the host hamper gate. -/
  | hwinAddrWrite (m : Master) (v : Word)
  /-- HWIN_PREFETCH_DONE (R57): The HWIN prefetch completes and VALID is set, with ECC reported if uncorrectable. -/
  | hwinPrefetchDone (ecc : Ecc)
  /-- HWIN_DATA_READ (R57): A read of HWIN_DATA returns the prefetched word, advances HWIN_ADDR and starts the next prefetch. -/
  | hwinDataRead (m : Master)
  /-- HWIN_DATA_WRITE (R57): A write to HWIN_DATA writes the hamper word at HWIN_ADDR and advances HWIN_ADDR. -/
  | hwinDataWrite (m : Master) (v : Word)
  /-- QSPI_READ_FRAME (R54): A single-lane QSPI read frame (0x0B) reads words from the addressed space after the dummy and status phases. -/
  | qspiReadFrame (a : BitVec 24) (n : Nat) (pf : List (Option Ecc)) (part : Bool)
  /-- QSPI_QUAD_READ_FRAME (R411): A quad QSPI read frame (0xEB) reads words over four lanes. -/
  | qspiQuadReadFrame (a : BitVec 24) (n : Nat) (pf : List (Option Ecc)) (gnss : Bool) (part : Bool)
  /-- QSPI_WRITE_FRAME (R54): A single-lane QSPI write frame (0x02) writes words to the addressed space. -/
  | qspiWriteFrame (a : BitVec 24) (ws : List Word) (part : Bool)
  /-- QSPI_QUAD_WRITE_FRAME (R411): A quad QSPI write frame (0x38) writes words over four lanes. -/
  | qspiQuadWriteFrame (a : BitVec 24) (ws : List Word) (gnss : Bool) (part : Bool)
  /-- QSPI_STATUS_FRAME (R54): A QSPI status frame (0x05) returns the status of the last completed write frame. -/
  | qspiStatusFrame
  /-- QSPI_UNKNOWN_OPCODE (R411): A QSPI frame with any other opcode is ignored until SPI_CS_N rises and counted in BAD_ACCESS. -/
  | qspiUnknownOpcode
  /-- I2C_WRITE (R55): An I2C write transaction sets the address pointer and writes data words. -/
  | i2cWrite (dev : BitVec 7) (ptr : BitVec 24) (ws : List Word) (part : Bool)
  /-- I2C_READ (R55): An I2C read transaction sets the pointer, repeats start and reads data words. -/
  | i2cRead (dev : BitVec 7) (ptr : BitVec 24) (n : Nat) (pf : List (Option Ecc)) (part : Bool)
  /-- RATION_WINDOW (R45): A ration window ends; the monitor takes its mean current and the window-rate mechanisms advance. -/
  | rationWindow (mean : Nat) (mv : Nat)
  /-- GRANT_PART_END (R40): The grant part of a governor's window ends and unspent charge is drawn by levelling cells. -/
  | grantPartEnd (g : Fin 4)
  /-- ALLOWANCE_WRITE (R41): A write to an allowance register requests a transfer between that allowance and the trim. `g`: 0 SE, 1 DMA, 2 PCIe, 3 TIU calibration. -/
  | allowanceWrite (g : Fin 4) (v : Word)
  /-- TB_CTRL_WRITE (R79): The write-once timebase source selection locks TB_CTRL and moves the TBM, or is refused while an APLL is locked. -/
  | tbCtrlWrite (v : Word)
  /-- TB_OVEN_WRITE (R76): A write of HTR_EN enables or disables the oven loop. -/
  | tbOvenWrite (v : Word)
  /-- OVEN_LOOP_UPDATE (R76): Each millisecond the oven loop updates heater demand and TB_PRED_DEV from the crystal temperature. `tc` in mK, the die sensors in 1/64 K, as measured. -/
  | ovenLoopUpdate (tc : Int) (d0 : Int) (d1 : Int) (d2 : Int) (d3 : Int)
  /-- TB_WARM_RISE (R77): The warm conditions have held for 1 s, or the TBM has held lock to an external source for 1 s, and TB_WARM becomes 1. -/
  | tbWarmRise
  /-- HTR_LIMIT (R78): The heater has run at its cap for 10 s below set point and HTR_LIMIT is set. -/
  | htrLimit
  /-- TBM_SLEW_DONE (R81): The TBM reaches its source within 1 ppb and SLEWING clears. -/
  | tbmSlewDone
  /-- EXT_LOST (R81): Four source periods pass without an edge; the TBM freewheels and TB_WARM clears. -/
  | extLost
  /-- EXT_RETURN (R81): The external source has been back for 1 s without loss; EXT_LOST clears and the TBM slews back. -/
  | extReturn
  /-- COARSE_WRAP (R91): The 48-bit coarse counter wraps and the era increments. -/
  | coarseWrap
  /-- TIU_EDGE (R84): A selected edge reaches a TIU channel and starts a stamp conversion unless it falls in dead time. `t` is the pin time in units of 2⁻¹⁶ TCLK cycle since TCLK first started. -/
  | tiuEdge (n : Fin 24) (rising : Bool) (t : Nat)
  /-- STAMP_CONVERSION_DONE (R87): The interpolator conversion completes and the absolute stamp and its record are formed. `q` is what the calibration table gives for the code. -/
  | stampConversionDone (n : Fin 24) (q : Nat)
  /-- GROUP_WINDOW_TIMEOUT (R97): A NEAREST start sees no later stamp for 1 ms of pin time and its result is emitted. -/
  | groupWindowTimeout (g : Fin 8) (ch : Fin 24)
  /-- GRP_RES_POP (R99): A read of GRP_RES word 0 pops a group result into the snapshot buffer. -/
  | grpResPop (m : Master) (g : Fin 8)
  /-- HCAP_REC_POP (R85): A read of HCAP_REC word 0 pops a record from the host capture FIFO. -/
  | hcapRecPop (m : Master)
  /-- CH_CFG_WRITE (R86): A CH_CFG write takes effect at the control gate, re-phasing prescalers and restarting index, regression and groups. -/
  | chCfgWrite (n : Fin 24) (v : Word)
  /-- CH_DIV_WRITE (R86): A CH_DIV write takes effect with the same restarts as CH_CFG. -/
  | chDivWrite (n : Fin 24) (v : Word)
  /-- CH_DELAY_WRITE (R89): A CH_DELAY write sets the board delay subtracted from stamps, with the effects of a CH_CFG write. -/
  | chDelayWrite (n : Fin 24) (v : Word)
  /-- CAL_STEP_START (R92): Every 10 ms a calibration step of 25 sub-steps starts. -/
  | calStepStart
  /-- CAL_SUBSTEP_START (R92): The spare interpolator is connected in parallel with channel k's. -/
  | calSubstepStart (k : Fin 25)
  /-- CAL_TAKEOVER (R93): At TCLK 500 the spare takes channel k and the channel's interpolator is calibrated. -/
  | calTakeover (k : Fin 25)
  /-- CAL_RECONNECT (R92): At TCLK 9,000 the calibrated interpolator is connected in parallel with the spare. `moved`: the offset differs from the previous calibration by more than 10 ps. -/
  | calReconnect (k : Fin 25) (moved : Bool)
  /-- CAL_TAKEOVER_BACK (R93): At TCLK 9,500 the channel's interpolator serves again and the spare is free. -/
  | calTakeoverBack (k : Fin 25)
  /-- CAL_STALE (R94): A channel's calibration becomes older than 1 s and its records carry STALE. -/
  | calStale (n : Fin 24)
  /-- REG_GATE_END (R100): A regression gate ends on the grid and its fit is closed. `e` is the era:coarse count at the gate end. -/
  | regGateEnd (n : Fin 24) (e : Nat)
  /-- REG_PUBLISH (R101): 40 TCLK after the gate end the regression results publish and REG_SEQ increments. -/
  | regPublish (n : Fin 24)
  /-- REG_CFG_WRITE (R102): A write to REG_CFG discards the gate in progress and starts a PARTIAL gate. -/
  | regCfgWrite (n : Fin 24) (v : Word)
  /-- NOM_PERIOD_WRITE (R102): A write of NOM_PERIOD discards the gate in progress and starts a PARTIAL gate. -/
  | nomPeriodWrite (n : Fin 24) (v : DWord)
  /-- STAT_CFG_WRITE (R104): A write to STAT_CFG discards the partial statistics block. -/
  | statCfgWrite (k : Fin 8) (v : Word)
  /-- STAT_N_WRITE (R104): A write to STAT_N discards the partial statistics block. -/
  | statNWrite (k : Fin 8) (v : Word)
  /-- STAT_ANCHOR_WRITE (R104): A write to STAT_ANCHOR discards the partial statistics block. -/
  | statAnchorWrite (k : Fin 8) (v : DWord)
  /-- SELECTION_TICK (R111): Once per TE0 lap the selection routine evaluates every reference and selector. delta: the phase outputs of the packet servos, device time less the parent's time at the pin time, in ps (R133). -/
  | selectionTick (pkt : List PktOut) (delta : List (Fin 4 × Int))
  /-- ACTIVITY_WINDOW_CLOSE (R116): An activity window closes in pin time without an edge and the reference fails activity. -/
  | activityWindowClose (i : Fin 22) (p : Nat)
  /-- HOLDOFF_EXPIRY (R120): A reference's hold-off expires and it goes to FAILED. -/
  | holdoffExpiry (i : Fin 22)
  /-- WTR_EXPIRY (R120): A wait-to-restore timer expires with all tests passing and the reference becomes QUALIFIED. -/
  | wtrExpiry (i : Fin 22)
  /-- SEL_FORCE_WRITE (R123): The host writes the dual-owner forced selection of a selector. -/
  | selForceWrite (d : Fin 8) (v : Word) (tie : Bool)
  /-- SWITCH_COMPLETE (R124): The remaining switch phase reaches zero; SELECTED takes TARGET and SEL_EVT increments. -/
  | switchComplete (d : Fin 8)
  /-- TE_LAP_BOUNDARY (R282): A TE lap of 62,500 issues ends; steering words, steps and posted commands take effect and the lap restarts. -/
  | teLapBoundary (t : Fin 2)
  /-- STEERING_UPDATE (R131): Every 125 ns a steering port applies the next one-thousandth of the change to its word. -/
  | steeringUpdate (k : Fin 32)
  /-- DPLL_TICK (R137): Once per lap each DPLL runs its loop or model and evaluates its state rows. m: the engine whose lap it is. -/
  | dpllTick (d : Fin 8) (m : Fin 2)
  /-- DPLL_LOCK (R137): The phase error has stayed within LOCK_THR for LOCK_S and the DPLL becomes LOCKED. -/
  | dpllLock (d : Fin 8)
  /-- DPLL_UNLOCK (R137): The phase error has exceeded 4 × LOCK_THR for 1 s and the DPLL returns to ACQUIRING. -/
  | dpllUnlock (d : Fin 8)
  /-- HOLDOVER_LIMIT (R137): HO_DUR reaches LOST_S or TE_EST exceeds LOST_TE and the DPLL goes to LOST. -/
  | holdoverLimit (d : Fin 8)
  /-- ABSENCE_LIMIT (R137): The absence timer of an absent servo reaches LOST_S and the DPLL goes to LOST. -/
  | absenceLimit (d : Fin 8)
  /-- DPLL_STEP (R147): The STEP command is accepted for the next lap boundary or refused. -/
  | dpllStep (d : Fin 8)
  /-- DPLL_RESET (R137): The RESET command returns the DPLL to FREERUN and clears its learned model. -/
  | dpllReset (d : Fin 8)
  /-- DPLL_HOLD (R137): The HOLD command forces holdover with HO_FORCED. -/
  | dpllHold (d : Fin 8)
  /-- DPLL_RELEASE (R137): The RELEASE command lets a forced holdover follow references again. -/
  | dpllRelease (d : Fin 8)
  /-- TS_SET (R157): The SET command gives the timescale the value of TS_ARG at the next lap boundary. -/
  | tsSet (t : Fin 16)
  /-- TS_ADJ (R157): The ADJ command moves the timescale by TS_ARG at the next lap boundary. -/
  | tsAdj (t : Fin 16)
  /-- TS_HRATE (R157): The HRATE command applies TS_HRATE as the timescale rate if no DPLL owns it. -/
  | tsHrate (t : Fin 16)
  /-- TS_CFG_WRITE (R155): Enabling a timescale starts it at zero at the next boundary; disabling disarms its triggers. -/
  | tsCfgWrite (t : Fin 16) (v : Word)
  /-- TIME_SNAP_GO (R161): GO latches the MTC and all timescales at one edge and sets DONE. -/
  | timeSnapGo
  /-- TIE_TABLE_PUBLISH (R288): 500 TCLK before a lap boundary the timescale tie-table entry for that boundary is published. -/
  | tieTablePublish (t : Fin 16)
  /-- PC_TIE_LATCH (R154): Each PCn latches at the tie pulse; the tie phase is measured for the next correction. -/
  | pcTieLatch (p : Fin 4) (ph : Nat)
  /-- TRG_ARM (R165): ARM loads the fire time and anchor, or is refused, with LATE and MISSED by its lead. -/
  | trgArm (i : Fin 16)
  /-- TRG_DISARM (R165): DISARM disarms the trigger. -/
  | trgDisarm (i : Fin 16)
  /-- TRG_ALIGN (R166): ALIGN moves a periodic trigger to its grid and clears MISALIGNED and TRG_SKEW. -/
  | trgAlign (i : Fin 16)
  /-- TRIGGER_FIRE (R164): The timescale reaches a trigger's fire time and the trigger fires its pins, outputs, interrupt and events. -/
  | triggerFire (i : Fin 16)
  /-- TRIG_PIN_PULSE_END (R167): A TRIG pin pulse's width runs out and the pin returns to its inactive level. -/
  | trigPinPulseEnd (k : Fin 4)
  /-- TRIGGER_EVENT_DELIVERY (R21): A trigger event crosses the trigger event gate to a PE lap. -/
  | triggerEventDelivery (p : Fin 4) (i : Fin 16) (late : Bool)
  /-- APLL_FREQ_WRITE (R180): The highest word of a nominal frequency lands and slews, relocks, is staged or is refused. -/
  | apllFreqWrite (a : Fin 4) (v : Nat)
  /-- APLL_CFG_WRITE (R180): An APLL enable or PFDSEL change starts or stops the APLL or a relock. -/
  | apllCfgWrite (a : Fin 4) (v : Word)
  /-- APLL_COMMIT (R184): COMMIT schedules divider and ALIGN_DIV copies for the next alignment tick, or is refused. -/
  | apllCommit (a : Fin 4)
  /-- APLL_RELOCK (R180): RELOCK sends the APLL to WAIT_LOW, or restarts its search. -/
  | apllRelock (a : Fin 4)
  /-- BAND_SEARCH_START (R175): Once every output of the group is low or handed over, the band search starts. -/
  | bandSearchStart (a : Fin 4)
  /-- LOCK_DECLARED (R175): 2.0 ms after the band search started, lock is declared and staged changes apply. -/
  | lockDeclared (a : Fin 4) (band : Fin 64) (t9 : BitVec 8)
  /-- VCO_RANGE_CHECK (R176): Each 1 ms the VCO-range monitor compares the VCO with its expected frequency. -/
  | vcoRangeCheck (a : Fin 4) (hz : Nat)
  /-- APLL_SLEW_DONE (R180): The DCO reaches its nominal target and the APLL returns to LOCKED. -/
  | apllSlewDone (a : Fin 4)
  /-- ALIGNMENT_TICK (R184): The alignment counter wraps; pending COMMITs copy and waiting outputs start. -/
  | alignmentTick (a : Fin 4)
  /-- OUT_CFG_WRITE (R186): An output enable or disable is written. -/
  | outCfgWrite (o : Fin 16) (v : Word)
  /-- OUTPUT_STOP (R181): An output completes its high phase and stops at low level. -/
  | outputStop (o : Fin 16)
  /-- OUT_PHASE_WRITE (R188): A new desired phase is written and the stepper is redirected. -/
  | outPhaseWrite (o : Fin 16) (v : Word)
  /-- PHASE_STEP (R188): Every 2^PH_RATE periods the stepper moves one step. -/
  | phaseStep (o : Fin 16)
  /-- HANDOVER_SWITCH (R190): When both sources are low a HANDOVER output switches glitch-free. -/
  | handoverSwitch (o : Fin 16)
  /-- PULSE_END (R194): A pulse output's width runs out and it goes low. -/
  | pulseEnd (o : Fin 16)
  /-- GFE_CTRL_WRITE (R205): A GFE_CTRL write starts or stops GFE_CLK, applying stored DIV, EDGE and FMT at EN rising. -/
  | gfeCtrlWrite (v : Word)
  /-- GNSS_CTRL_WRITE (R212): A GNSS_CTRL write enables the baseband, PPS and constellations; BB_EN falling goes to OFF at once. -/
  | gnssCtrlWrite (v : Word)
  /-- GSCLK_FREQ_CHECK (R207): Each second the GSCLK monitor reports the offset and sets FREQ_ERR. -/
  | gsclkFreqCheck (edges : Nat)
  /-- GSCLK_LOST (R207): 1 µs passes without a GSCLK edge; ACTIVE clears and the island is unclocked. -/
  | gsclkLost
  /-- GSCLK_RETURN (R207): After 1 ms of edges ACTIVE returns to 1. -/
  | gsclkReturn
  /-- TRACKING_LOOP_UPDATE (R209): Once per coherent integration the channel loops update in hardware. -/
  | trackingLoopUpdate (c : Fin 48) (lock : Option Bool) (cn0 : Fin 256) (taps : Taps)
  /-- ACQUISITION_DONE (R211): The acquisition engine completes a satellite search and returns the strongest cell. -/
  | acquisitionDone (c : Fin 48) (k : Fin 3) (sat : Fin 256) (found : AcqFound)
  /-- SOLUTION_EPOCH (R212): At the 1 Hz epoch firmware solves and evaluates the receiver state. -/
  | solutionEpoch (e : GnssEpoch) (tie : Bool)
  /-- FIX_TIMEOUT (R212): NAV or SURVEY has had no 3D fix for 10 s and returns to ACQUIRE. -/
  | fixTimeout
  /-- NO_SATELLITE_TIMEOUT (R212): HOLD has used no satellite for 10 s and returns to ACQUIRE. -/
  | noSatelliteTimeout
  /-- HOLD_FIXED (R212): HOLD_FIXED takes the position from POS_X–POS_Z and enters HOLD. -/
  | holdFixed
  /-- RESURVEY (R212): RESURVEY clears the survey and returns to ACQUIRE. -/
  | resurvey
  /-- PPS (R214): The baseband emits its PPS on the GSCLK edge nearest the predicted top of second. -/
  | pps (t : Nat)
  /-- SOLUTION_PUBLISH (R216): Firmware publishes the solution record for a pulse and SOL_SEQ increments. -/
  | solutionPublish (r : GnssSol)
  /-- RECORD_DEADLINE (R215): 900 ms pass after a PPS stamp without its record and the pulse is left unused. -/
  | recordDeadline
  /-- BURST_WINDOW_OPEN (R218): In rung L2 the 100 ms burst window opens 50 ms before the pulse. -/
  | burstWindowOpen
  /-- BURST_WINDOW_CLOSE (R218): The burst window closes and channels go to COAST, weak ones to IDLE. -/
  | burstWindowClose
  /-- PORT_CFG_WRITE (R241): A PORT_CFG write is stored, or requests a current transfer. -/
  | portCfgWrite (p : Fin 4) (v : Word)
  /-- PORT_RESTART (R225): RESTART sends the port to AN or LOCKING and clears TRAIN_COEF.VALID. -/
  | portRestart (p : Fin 4)
  /-- PORT_RETRAIN (R225): RETRAIN sends an UP port to TRAIN, or is refused. -/
  | portRetrain (p : Fin 4)
  /-- AN_COMPLETE (R223): Auto-negotiation completes and resolves mode and FEC, or restarts. -/
  | anComplete (p : Fin 4) (lp : Fin 64)
  /-- TRAIN_COMPLETE (R224): Both sides report receiver ready; coefficients are stored and the port goes to LOCKING. -/
  | trainComplete (p : Fin 4) (pre : Fin 64) (main : Fin 64) (post : Fin 64)
  /-- TRAIN_TIMEOUT (R226): 500 ms of training pass without completion and training restarts. -/
  | trainTimeout (p : Fin 4)
  /-- LINK_UP (R225): Lock conditions are met and the port goes UP with RXC_VALID. -/
  | linkUp (p : Fin 4) (gear : Fin 128)
  /-- LOCKING_TIMEOUT (R226): 500 ms in LOCKING pass without lock and the port restarts. -/
  | lockingTimeout (p : Fin 4)
  /-- LINK_LOSS (R225): Lock, FEC or bit error rate fails, or a local fault starts, and an UP port returns to LOCKING. -/
  | linkLoss (p : Fin 4) (block : Bool) (fec : Bool) (localFault : Bool) (frame : Bool)
  /-- REMOTE_FAULT (R227): Remote fault is received and unstarted frames are replaced by idle. -/
  | remoteFault (p : Fin 4)
  /-- RX_FRAME (R222): The receive MAC receives a frame, stamps it and counts it. -/
  | rxFrame (p : Fin 4) (r : RxIn)
  /-- INSTANCE_START (R251): Beat 0 is released at the receive gate and starts a template instance. c is the fabric cycle, grid one at which the transmitter's word clock is at the phase of PORT_TX_PHASE (R234). -/
  | instanceStart (p : Fin 4) (c : Nat) (grid : Nat)
  /-- BEAT_RELEASE (R251): A later beat is released to the live instance at its gate phase. late: the beat missed its gate phase; grid as in INSTANCE_START. -/
  | beatRelease (p : Fin 4) (late : Bool) (grid : Nat)
  /-- REPLY_DEPARTURE (R254): The transmitter picks up a committed reply and sends it at its claimed opportunity. -/
  | replyDeparture (p : Fin 4)
  /-- ORIG_RESERVATION (R258): Once the credit is enough, the head originated frame is reserved at an opportunity. grid as in INSTANCE_START. -/
  | origReservation (p : Fin 4) (grid : Nat)
  /-- ORIG_DEPARTURE (R259): A reserved originated frame is sent. -/
  | origDeparture (p : Fin 4)
  /-- BASKET_POP (R377): A read of BASKET_REC word 0 pops the oldest basket record. -/
  | basketPop (p : Fin 4) (m : Master)
  /-- ESMC_TIMEOUT (R240): No ESMC information PDU for 5 s; firmware writes QL_RANK 15. -/
  | esmcTimeout (p : Fin 4)
  /-- PE_LAP_BOUNDARY (R246): A PE issues lap bundle 0 at a fabric cycle with c mod L = 0. -/
  | peLapBoundary (p : Fin 4)
  /-- HOST_HAMPER_GATE_RELEASE (R264): At c mod 16 = 4 queued host hamper accesses are injected on their rings. -/
  | hostHamperGateRelease
  /-- BAR2_READ (R409): A BAR 2 read queues at the host hamper gate and completes within 230 ns. -/
  | bar2Read (a : BitVec 24) (whole : Bool) (ecc : Ecc)
  /-- BAR2_WRITE (R409): A BAR 2 write queues at the host hamper gate. -/
  | bar2Write (a : BitVec 24) (v : Word) (whole : Bool)
  /-- TE_HAMPER_DELIVERY (R23): A TE hamper operation is delivered exactly 40 TCLK after issue, or zero if the fabric is dark. -/
  | teHamperDelivery (t : Fin 2) (late : Bool) (ecc : Ecc)
  /-- HAMPER_INIT_DONE (R266): Hamper initialisation finishes and INIT returns to 0. -/
  | hamperInitDone
  /-- RESULT_DELIVERY (R276): A long-latency operation delivers its result at its fixed latency. -/
  | resultDelivery (e : Eng) (n : Nat)
  /-- SAMPLE_DELIVERY (R21): A PE sample crosses the sample gate to the TE copy and the statistics engines. -/
  | sampleDelivery (p : SampleIn)
  /-- DOORBELL_WRITE (R339): A doorbell word is written and PEND is set, or it is dropped. -/
  | doorbellWrite (p : Fin 4) (v : Word)
  /-- NOP (R304): No operation, drawing 0.6 + 4.0 × m pC. ue: the offset of the fetched word that could not be corrected. -/
  | nop (y : Syl) (ue : Option (Fin 1048576))
  /-- ADD (R285): gd = ga + B. -/
  | add (y : Syl)
  /-- SUB (R285): gd = ga − B. -/
  | sub (y : Syl)
  /-- AND (R285): gd = ga and B. -/
  | and (y : Syl)
  /-- OR (R285): gd = ga or B. -/
  | or (y : Syl)
  /-- XOR (R285): gd = ga xor B. -/
  | xor (y : Syl)
  /-- SHL (R285): Shift left. -/
  | shl (y : Syl)
  /-- SHR (R285): Logical shift right. -/
  | shr (y : Syl)
  /-- SAR (R285): Arithmetic shift right. -/
  | sar (y : Syl)
  /-- CMPEQ (R285): Equality compare into a predicate. -/
  | cmpeq (y : Syl)
  /-- CMPLT (R285): Signed less-than compare into a predicate. -/
  | cmplt (y : Syl)
  /-- CMPLTU (R285): Unsigned less-than compare into a predicate. -/
  | cmpltu (y : Syl)
  /-- SEL (R285): Selects ga or gb by the predicate. -/
  | sel (y : Syl)
  /-- EXTR (R285): Extracts a bit field. -/
  | extr (y : Syl)
  /-- INSR (R285): Inserts a bit field. -/
  | insr (y : Syl)
  /-- BSWAP (R285): Byte reversal. -/
  | bswap (y : Syl)
  /-- CSUM16 (R285): Accumulates a one's-complement checksum. -/
  | csum16 (y : Syl)
  /-- MOVI (R285): Loads a sign-extended 15-bit immediate. -/
  | movi (y : Syl)
  /-- TADD (R287): Adds a duration to a time value. -/
  | tadd (y : Syl)
  /-- TSUB (R286): Subtracts two times into a duration. -/
  | tsub (y : Syl)
  /-- TCONV (R288): Converts between stamp, device and timescale time. -/
  | tconv (y : Syl)
  /-- TSCALE (R290): Produces NTP, PTP or NTP short wire formats. -/
  | tscale (y : Syl)
  /-- TREAD (R286): Reads a present time, TS_UTC and TS_ERR, or a cycle count. -/
  | tread (y : Syl)
  /-- TCMP (R286): Compares two time values into a predicate. -/
  | tcmp (y : Syl)
  /-- RXB (R291): Reads a beat of the instance's frame. -/
  | rxb (y : Syl)
  /-- RXLEN (R291): Reads the frame length. -/
  | rxlen (y : Syl)
  /-- RXSTAT (R292): Reads the frame status word or its OK predicate. -/
  | rxstat (y : Syl)
  /-- RXTS (R291): Reads the start-of-frame stamp. -/
  | rxts (y : Syl)
  /-- TXB (R291): Writes a reply beat. -/
  | txb (y : Syl)
  /-- TXTS (R291): Claims a start opportunity for a target and returns its timestamp point. grid as in INSTANCE_START. -/
  | txts (y : Syl) (grid : Nat)
  /-- TXCSUM (R291): Writes a complemented checksum into a reply beat. -/
  | txcsum (y : Syl)
  /-- TXGO (R293): Commits the reply for departure at the claimed opportunity. -/
  | txgo (y : Syl)
  /-- TE_RXB (R294): A TE reads a doubleword of the TIU block. -/
  | teRxb (y : Syl)
  /-- TE_RXTS (R294): A TE reads or pops a channel record at its read phase. -/
  | teRxts (y : GateSyl)
  /-- TE_TXB (R294): A TE writes a steering port for the next lap boundary. -/
  | teTxb (y : Syl)
  /-- TE_TXGO (R294): A TE requests a step of the MTC or a timescale at the next lap boundary. -/
  | teTxgo (y : Syl)
  /-- HLD (R295): Loads a hamper doubleword. -/
  | hld (y : Syl) (ecc : Ecc)
  /-- HST (R295): Stores a hamper doubleword. -/
  | hst (y : Syl)
  /-- HBKT (R297): Atomically updates a leaky bucket at the bank. -/
  | hbkt (y : Syl) (ecc : Ecc)
  /-- LLD (R295): Loads a local doubleword from a local space or window. late: a doorbell word has waited beyond its phase (R20). -/
  | lld (y : Syl) (ecc : Ecc) (late : Bool)
  /-- LST (R295): Stores a local doubleword to a local space or window. -/
  | lst (y : Syl)
  /-- MUL (R299): Low 64 bits of a product. -/
  | mul (y : Syl)
  /-- MULH (R299): High 64 bits of a product. -/
  | mulh (y : Syl)
  /-- HASH (R302): Computes the 64-bit mixing hash on a lane. -/
  | hash (y : Syl)
  /-- HASH_SEED (R302): Sets a hash lane's seed. -/
  | hashSeed (y : Syl)
  /-- CRC32 (R299): Advances a CRC-32 state. -/
  | crc32 (y : Syl)
  /-- AESB (R300): Encrypts a block under a key slot. -/
  | aesb (y : Syl)
  /-- AESK (R300): Writes half of a working key slot. -/
  | aesk (y : Syl)
  /-- DBL (R299): Doubles a value in GF(2^128). -/
  | dbl (y : Syl)
  /-- DIVU (R303): Unsigned divide or remainder occupying a multiplier for 34 cycles. -/
  | divu (y : Syl)
  /-- LIMM (R281): Supplies a long immediate to its stream. -/
  | limm (y : Syl)
  /-- PSET (R304): Sets a predicate. -/
  | pset (y : Syl)
  /-- PAND (R304): Predicate and. -/
  | pand (y : Syl)
  /-- POR (R304): Predicate or. -/
  | por (y : Syl)
  /-- LOOP (R305): Repeats a static loop body on a TE. -/
  | loop (y : Syl)
  /-- EVT_TEST (R306): Tests whether an event source is pending. -/
  | evtTest (y : Syl)
  /-- EVT_TAKE (R306): Consumes the oldest event of a source. -/
  | evtTake (y : Syl)
  /-- FAULT (R495): Sends a fault message of the given kind and address. -/
  | fault (y : Syl)
  /-- BR (R307): SE relative branch. -/
  | br (y : Syl)
  /-- JMP (R307): SE jump. -/
  | jmp (y : Syl)
  /-- CALL (R307): SE call pushing the return stack. -/
  | call (y : Syl)
  /-- RET (R307): SE return popping the stack. -/
  | ret (y : Syl)
  /-- RETURN_FROM_TRAP (R307): RET with MOD[0] = 1 jumps to g62 and clears TRAP_ACTIVE. -/
  | returnFromTrap (y : Syl)
  /-- TRAP (R308): SE software trap. -/
  | trap (y : Syl)
  /-- STORE_WRITE (R322): A DMA write lands in the load bank and the bank becomes LOADED, or it is refused. The octets `l` at offset `o` of bank `b`. -/
  | storeWrite (b : Fin 2) (o : Nat) (l : List Byte)
  /-- VERIFY (R323): VERIFY starts the verifier on a bank, or is refused. -/
  | verify (b : Fin 2)
  /-- VERIFY_DONE (R323): Verification ends and the bank becomes VERIFIED or REJECTED. us: the µs that the verification has taken, where more than the clock edges show. -/
  | verifyDone (us : Nat)
  /-- SWAP (R326): SWAP checks R44, evaluates compatibility and arms a swap cycle. -/
  | swap (b : Fin 2)
  /-- CANCEL (R333): CANCEL disarms a swap before the commit point. -/
  | cancel
  /-- CLEAR (R323): CLEAR empties a bank. -/
  | clear (b : Fin 2)
  /-- SWAP_COMMIT_POINT (R326): 1,024 cycles before c_s the R44 checks rerun and the swap becomes irrevocable or is cancelled. -/
  | swapCommitPoint
  /-- SWAP_GAP_OPEN (R330): On an incompatible port, instance starts stop DCYC before c_s. -/
  | swapGapOpen (p : Fin 4)
  /-- SWAP_CYCLE (R327): At c_s the PEs run the new bank and the old bank drains. -/
  | swapCycle
  /-- TE_SWAP (R328): Each TE swaps at its first lap boundary after c_s. -/
  | teSwap (t : Fin 2)
  /-- DRAIN_END (R323): The last old instance ends and both TEs have swapped; the old bank becomes VERIFIED. -/
  | drainEnd
  /-- STORE_SCRUB (R325): Every 100 ms the idle verifier scrubs both banks. `corr` words are corrected; `bad` are the store addresses of words that cannot be. -/
  | storeScrub (corr : Nat) (bad : List Nat)
  /-- BOOT (R382): BOOT moves the SE from LOADING to VERIFYING. -/
  | boot (m : Master)
  /-- SE_RESTART (R382): RESTART sends the SE to ROM_TEST, or is refused. -/
  | seRestart (m : Master)
  /-- ROM_TEST_DONE (R382): Recall and self-tests finish; the SE enters LOADING or FAILED. Bit k of `fails`: test k + 1 failed. -/
  | romTestDone (fails : BitVec 8)
  /-- FIRMWARE_VERIFY_DONE (R385): The ROM's checks end; the SE runs the firmware or returns to LOADING with FW_REJ. `ue`: the staging area holds a word that cannot be corrected. -/
  | firmwareVerifyDone (ue : Bool)
  /-- FW_WIN_DATA_WRITE (R384): A word is written to the staging area and FW_WIN_ADDR advances. -/
  | fwWinDataWrite (v : Word)
  /-- MAILBOX_POST (R392): A side posts a word to a queue channel. -/
  | mailboxPost (m : Master) (n : Fin 12) (v : Word)
  /-- MAILBOX_TAKE (R392): A side pops the head of its inbound queue. -/
  | mailboxTake (m : Master) (n : Fin 12)
  /-- BLOCK_POST (R393): A control word with GO posts a block. Channel MB12 + `c`; `v` is the control word. -/
  | blockPost (m : Master) (c : Fin 4) (v : Word)
  /-- BLOCK_RELEASE (R393): The receiver releases a block, clearing GO. Channel MB12 + `c`. -/
  | blockRelease (m : Master) (c : Fin 4)
  /-- MB_BIND_WRITE (R390): The SE binds a channel to a master pair and locks it, or the write is refused. -/
  | mbBindWrite (m : Master) (n : Fin 16) (v : Word)
  /-- MB_SIDE_RESET (R399): A master resets its side on every channel bound to it. -/
  | mbSideReset (m : Master)
  /-- MAILBOX_CROSSED (R396): Both directions hold unread content for 1 ms; CROSSED is set and the fault is sent. -/
  | mailboxCrossed (n : Fin 16)
  /-- PING (R405): Host command that echoes its arguments. The message is at the head of queue channel n. -/
  | ping (n : Fin 12)
  /-- VERSION (R405): Host command returning firmware and ROM versions. -/
  | version (n : Fin 12)
  /-- STATUS (R405): Host command returning services and counts. -/
  | status (n : Fin 12)
  /-- BIND (R405): Host command asking firmware to bind a channel. -/
  | bind (n : Fin 12)
  /-- KEY_LOAD (R468): Host command loading a wrapped NTS master key. The block is on channel MB12 + c. -/
  | keyLoad (c : Fin 4)
  /-- KEY_RETIRE (R361): Host command retiring a master key after the waits. -/
  | keyRetire (n : Fin 12)
  /-- KEY_SELECT (R361): Host command making a slot CUR_SLOT. -/
  | keySelect (n : Fin 12)
  /-- COOKIE_MINT (R362): Host command returning cookies minted from client keys. -/
  | cookieMint (c : Fin 4)
  /-- CO_CHALLENGE (R461): Host command returning a CO challenge. -/
  | coChallenge (n : Fin 12)
  /-- CO_RESPONSE (R461): Host command carrying the CO response for verification. -/
  | coResponse (c : Fin 4)
  /-- PTP_DATASET (R405): Host command supplying PTP profile datasets. -/
  | ptpDataset (c : Fin 4)
  /-- CUT_MESSAGE (R404): A queue message's words do not arrive within 1 ms and it is discarded. -/
  | cutMessage (n : Fin 12)
  /-- DMA_START (R418): START begins a list fetch, or is refused. -/
  | dmaStart (m : Master) (c : Fin 8)
  /-- DMA_ABORT (R420): ABORT ends a transfer at the next burst boundary. -/
  | dmaAbort (m : Master) (c : Fin 8)
  /-- DMA_LIST_CHECK (R418): The list is read and checked; the channel moves or ends. l is the list as host memory holds it: address, length, reserved word; the BARs are where the system placed them. -/
  | dmaListCheck (c : Fin 8) (l : List (Nat × Nat × Nat)) (bar0 : Nat) (bar2 : Nat) (bar4 : Nat)
  /-- DMA_BURST (R421): A granted burst completes at the destination. data is what host memory holds at the burst, for a transfer to the device. -/
  | dmaBurst (data : List Byte)
  /-- DMA_HALT (R424): A bad completion, refused write or link down halts every channel. -/
  | dmaHalt (cause : Fin 7) (tag : BitVec 8) (addr : DWord) (tags : Fin 17)
  /-- COMPLETION_TIMEOUT (R424): A read's 10 ms completion timeout expires and DMA halts. -/
  | completionTimeout (tag : BitVec 8) (addr : DWord) (tags : Fin 17)
  /-- DMA_HALT_CLR (R424): CLEAR clears HALTED once no read is outstanding. -/
  | dmaHaltClr
  /-- DMA_OWNER_WRITE (R415): The SE changes a channel's owner while IDLE. -/
  | dmaOwnerWrite (m : Master) (c : Fin 8) (v : Word)
  /-- PCIE_RESET (R514): A fundamental, hot or function-level reset resets the endpoint and its mailbox sides. kind: 0 fundamental, 1 hot, 2 function-level. -/
  | pcieReset (kind : Fin 3)
  /-- PCIE_LINK_DOWN (R399): The PCIe link goes down. -/
  | pcieLinkDown
  /-- PCIE_LINK_UP (R519): Link training completes and the endpoint answers configuration. -/
  | pcieLinkUp
  /-- HOST_CLOCK_FAILOVER (R13): The PCIe reference clock stops and the host island moves to TBCLK × 5. -/
  | hostClockFailover
  /-- NVS_RDATA_READ (R433): A read returns four store bytes and advances NVS_ADDR. -/
  | nvsRdataRead (m : Master)
  /-- NVS_WDATA_WRITE (R434): A word enters the write buffer and NVS_ADDR advances. -/
  | nvsWdataWrite (m : Master) (v : Word)
  /-- NVS_ADDR_WRITE (R435): A new NVS_ADDR is set, clearing STOPPED. -/
  | nvsAddrWrite (m : Master) (v : Word)
  /-- NVS_BUFFER_DRAIN (R434): A buffered word is written into the array. -/
  | nvsBufferDrain
  /-- OPEN_READ (R438): Compares the staged password and opens read access. `r`: 0 C0, 1 C1. -/
  | openRead (m : Master) (r : Fin 2)
  /-- OPEN_WRITE (R438): Compares the staged password and opens write access. -/
  | openWrite (m : Master) (r : Fin 2)
  /-- CLOSE (R438): Closes the master's open access to a region. -/
  | close (m : Master) (r : Fin 2)
  /-- SET_READ_PW (R440): Stores a new read password. -/
  | setReadPw (m : Master) (r : Fin 2)
  /-- SET_WRITE_PW (R440): Stores a new write password. -/
  | setWritePw (m : Master) (r : Fin 2)
  /-- COUNTER_INCREMENT (R446): NVS_CTR_CMD starts a two-copy increment of a monotonic counter. -/
  | counterIncrement (m : Master) (n : Fin 256)
  /-- COUNTER_INCREMENT_DONE (R446): The commit byte is written and the shadow takes the new value. -/
  | counterIncrementDone
  /-- LOG_APPEND (R448): LOG_CMD starts writing a log record. -/
  | logAppend
  /-- LOG_APPEND_DONE (R448): The record's flag is written valid; LOG_SEQ advances and LOG_EVT increments. -/
  | logAppendDone
  /-- RECALL_DONE (R441): Recall settles counters, finds the log head, loads passwords and sets READY. -/
  | recallDone
  /-- POWER_FAIL (R443): VDD_18 falls below 1.60 V; the store stops writing and refuses access. -/
  | powerFail
  /-- ZEROISE (R473): Starts zeroisation of every zeroisable secret. -/
  | zeroise (m : Master)
  /-- ZERO_DONE (R473): The key pool is refilled and ZEROISING clears. -/
  | zeroDone
  /-- SELFTEST (R467): Reruns tests 0x01–0x08. -/
  | selftest (m : Master)
  /-- CO_LOGOUT (R463): Ends the CO session. -/
  | coLogout (m : Master)
  /-- ENTER_MAINT (R477): Zeroises and enters Maintenance, opening test access. -/
  | enterMaint (m : Master)
  /-- CO_SET (R456): Stores a new wrapped CO secret. -/
  | coSet (m : Master)
  /-- OTP_PROG (R457): Programs a key-hash slot to IN_FORCE. -/
  | otpProg (m : Master) (arg : BitVec 8)
  /-- OTP_REVOKE (R457): Revokes a key-hash slot unless it is the last. -/
  | otpRevoke (m : Master) (arg : BitVec 8)
  /-- COMMIT_FW (R471): Raises the firmware anti-rollback counter to FW_SECVER. -/
  | commitFw (m : Master)
  /-- COMMIT_ITIN (R471): Raises the itinerary anti-rollback counter to BANK_SECVER. -/
  | commitItin (m : Master)
  /-- CHALLENGE (R461): Draws a 16-octet challenge from the DRBG. -/
  | challenge (m : Master)
  /-- VERIFY_CO (R461): Compares a CO response and starts a session. -/
  | verifyCo (m : Master) (arg : BitVec 8) (arg2 : BitVec 8)
  /-- CHALLENGE_EXPIRY (R462): A challenge becomes unusable 10 s after issue. -/
  | challengeExpiry
  /-- SEC_KEY_LOAD (R468): The security block unwraps and loads a master key into the pipelines and store. -/
  | secKeyLoad (m : Master) (arg : BitVec 8)
  /-- SEC_KEY_RETIRE (R469): The security block replaces a master key with a DRBG key and invalidates its record. -/
  | secKeyRetire (m : Master) (arg : BitVec 8)
  /-- ES_FAIL (R465): A continuous entropy test fails and the DRBG stops. `prop`: the adaptive proportion test, else the repetition count. -/
  | esFail (prop : Bool)
  /-- TAMPER (R474): TAMPER_N is latched low and zeroisation starts. -/
  | tamper
  /-- TAMPER_RELEASE (R474): TAMPER_N has been high for 1 s and TAMPER_HELD clears. -/
  | tamperRelease
  /-- KEY_FILL_DONE (R470): The master slot fill after fabric power-up completes. -/
  | keyFillDone
  /-- RUNG_REQ (R481): A rung is requested, or the request is refused. -/
  | rungReq (m : Master) (r : Fin 8) (tie : Bool)
  /-- STEP_L0_TO_L1 (R484): The device drains the fabric, stops ports and APLL0 and enters Stroll. -/
  | stepL0ToL1
  /-- STEP_L1_TO_L2 (R484): The device stops outputs and APLLs, powers down the fabric and enters Rest. -/
  | stepL1ToL2
  /-- STEP_L2_TO_L3 (R484): The device powers down the supervisor, TIU and TEs and enters Shade. -/
  | stepL2ToL3
  /-- STEP_L3_TO_L4 (R484): The heater ramps to zero, MTC and AO_TIME latch and the device enters Blanket. -/
  | stepL3ToL4
  /-- STEP_L4_TO_L3 (R489): The TBM starts, warm-up begins and the MTC is rebuilt. -/
  | stepL4ToL3
  /-- STEP_L3_TO_L2 (R489): Supervisor and timekeeping islands power up and ROM_TEST runs. -/
  | stepL3ToL2
  /-- STEP_L2_TO_L1 (R489): The SE speeds up, TIU channels and fabric power up and APLL1–APLL3 relock. -/
  | stepL2ToL1
  /-- STEP_L1_TO_L0 (R489): The level ramps, APLL0 locks, FCLK starts and ports begin bring-up. -/
  | stepL1ToL0
  /-- WAKE_TIMER (R488): The wake timer falls due and the device wakes to WAKE_RUNG. -/
  | wakeTimer
  /-- I2C_WAKE (R488): The device's I2C address is seen in L4 and it wakes. -/
  | i2cWake
  /-- REST_LAP (R485): In L2 TE0 runs one whole lap each second. delta as in SELECTION_TICK, m the engine whose lap it is. -/
  | restLap (pkt : List PktOut) (delta : List (Fin 4 × Int)) (m : Fin 2)
  /-- FAULT_MESSAGE (R497): The collector accepts a fault message and updates the source's record. The oldest message of local source `c`. -/
  | faultMessage (c : Fin 32)
  /-- FLT_CLEAR (R499): Clears the record of one source. -/
  | fltClear (m : Master) (c : Fin 256)
  /-- FLT_CLEAR_ALL (R499): Clears every fault record. -/
  | fltClearAll (m : Master)
  /-- WHISTLE_FABRIC (R334): Whistle to the fabric: PEs stop at the next lap boundary and drain. On this device, or on the device `peer` (R539). -/
  | whistleFabric (m : Master) (peer : Option (Fin 8))
  /-- WHISTLE_TEMPLATES (R336): Whistle to one PE's templates: no instance starts. -/
  | whistleTemplates (m : Master) (p : Fin 4) (peer : Option (Fin 8))
  /-- WHISTLE_AES (R505): Whistle to AES pipelines: blocks deliver zero. None: INDEX 31, every PE. -/
  | whistleAes (m : Master) (p : Option (Fin 4)) (peer : Option (Fin 8))
  /-- WHISTLE_TIU_CHANNEL (R505): Whistle to a TIU channel: it stops stamping and its measurements are discarded. -/
  | whistleTiuChannel (m : Master) (n : Fin 24) (peer : Option (Fin 8))
  /-- WHISTLE_DMA (R505): Whistle to DMA channels: each goes IDLE with RESULT WHISTLED. None: INDEX 31, every channel. -/
  | whistleDma (m : Master) (c : Option (Fin 8)) (peer : Option (Fin 8))
  /-- WHISTLE_SE (R505): Whistle to the SE: it goes HALTED. -/
  | whistleSe (m : Master) (peer : Option (Fin 8))
  /-- WHISTLE_TE (R337): Whistle to a TE: issue stops and its DPLLs hold. -/
  | whistleTe (m : Master) (t : Fin 2) (peer : Option (Fin 8))
  /-- WHISTLE_GNSS (R219): Whistle to the GNSS baseband: channels idle and no PPS. -/
  | whistleGnss (m : Master) (peer : Option (Fin 8))
  /-- WHISTLE_PORT (R505): Whistle to a port PCS and MAC: the port is held DISABLED. -/
  | whistlePort (m : Master) (p : Fin 4) (peer : Option (Fin 8))
  /-- WHISTLE_MAILBOX (R401): Whistle to a mailbox channel: both directions are emptied. -/
  | whistleMailbox (m : Master) (n : Fin 16) (peer : Option (Fin 8))
  /-- WHISTLE_NVS (R450): Whistle to the NVS controller: buffer discarded and access refused. -/
  | whistleNvs (m : Master) (peer : Option (Fin 8))
  /-- RELEASE (R338): RELEASE ends a whistle and the target resumes. -/
  | release (m : Master) (t : Fin 16) (i : Fin 32) (peer : Option (Fin 8))
  /-- WHISTLE_COMPLETE (R506): A whistled target reaches its idle state; IDLE is set and WHISTLE_EVT increments. What INDEX `i` of target `t` names has drained. -/
  | whistleComplete (t : Fin 16) (i : Fin 32)
  /-- WHISTLE_N (R509): WHISTLE_N is latched low and whistles the SE. -/
  | whistleN
  /-- POWER_ON_RESET (R514): VDD_AO rises through its threshold and the whole device resets. -/
  | powerOnReset (cut : Bool)
  /-- RESET_N (R515): RESET_N is held low and every island but the always-on resets. -/
  | resetN
  /-- RAIL_RESET (R513): A monitored rail falls below its threshold and resets the device. -/
  | railReset (rails : BitVec 5)
  /-- RESET_RELEASE (R518): Rails and RESET_N have been good for 1 ms; the release sequence runs to register access and ROM_TEST. -/
  | resetRelease (master : Bool) (id : Fin 8) (refClk : Bool) (perstHigh : Bool)
  /-- COLD_GO (R521): Releases the band searches without waiting for TB_WARM. -/
  | coldGo (m : Master)
  /-- DZ_CTRL_WRITE (R529): A write of DZ_CTRL enables or disables the daisy link. `lost` remote commands had not been delivered when the ring broke. -/
  | dzCtrlWrite (v : Word) (lost : Nat)
  /-- DZ_SIGNAL_PRESENT (R529): Signal has been present on DZ_IN for 100 µs; the lane goes to BITLOCK. -/
  | dzSignalPresent
  /-- DZ_BITLOCK (R529): The CDR locks to DZ_IN and the lane goes to WORDLOCK. -/
  | dzBitlock
  /-- DZ_WORDLOCK (R529): Block lock on DZ_IN is reached. -/
  | dzWordlock
  /-- DISCOVER (R529): A DISCOVER word is received, checked, counted on and forwarded, or closes the ring. On a member `size` is the ring's size if it then closes, else 0; `coef`: every other device keeps its coefficients. -/
  | discover (count : BitVec 8) (size : Fin 9) (coef : Bool)
  /-- DZ_TRAIN_DONE (R529): Every hop's coefficients are agreed; the lane goes to CAL. -/
  | dzTrainDone (pre : BitVec 6) (main : BitVec 6) (post : BitVec 6)
  /-- DZ_CAL_DONE (R531): 64 round trips are measured, hop delays distributed and the ring is READY. On the master the mean round trip, the members' mean residences and their CAL_TX, BOARD and CAL_RX, ps; on a member the hop delay sent to it. -/
  | dzCalDone (trip : Int) (res : List Int) (members : List (Nat × Nat × Nat)) (hop : Nat)
  /-- RING_BROKEN (R529): RING_BROKEN is received and the device returns to WORDLOCK. -/
  | ringBroken (lost : Nat)
  /-- DZ_LOCK_LOST (R529): A READY lane loses block lock and sends RING_BROKEN. -/
  | dzLockLost (lost : Nat)
  /-- DZ_STATE_TIMEOUT (R529): A daisy state limit expires and the lane returns to SIGNAL. The limit of state `st`. -/
  | dzStateTimeout (st : Fin 8)
  /-- DZ_RESTART (R529): Sends the lane to SIGNAL and clears DZ_COEF.VALID. -/
  | dzRestart (m : Master) (lost : Nat)
  /-- DZ_RECAL (R529): The master sends every device back to CAL. `ring`: the master's word arrives on a member. -/
  | dzRecal (ring : Bool)
  /-- SECOND_MARK (R533): The master sends the second mark at the top of each TS0 second. Departure after the top of the TS0 second, 2⁻³² ns. -/
  | secondMark (ofs : Nat)
  /-- SECOND_MARK_ARRIVAL (R534): A member receives, stamps and forwards the second mark. Stamped on CH23 at `t`; residence `res`, 2⁻¹⁶ ns. -/
  | secondMarkArrival (t : Nat) (res : Nat)
  /-- MARK_RETURN (R532): The mark returns to the master and the round trip is measured. Round trip and residences, ps. -/
  | markReturn (t : Nat) (trip : Int) (res : List Int)
  /-- TIME_BLOCK_SEND (R533): The master sends the time block within 1 ms of the mark. -/
  | timeBlockSend
  /-- TIME_BLOCK (R534): A member adds its path, forwards the block and takes a DSY sample. The lane meter's last result in 2⁻⁴⁸, and a hop delay received since the last block. -/
  | timeBlock (b : List Byte) (freq : Int) (hop : Option Nat)
  /-- DSY_DEADLINE (R534): No time block arrives within 900 ms of the mark stamp and the mark is unused. -/
  | dsyDeadline
  /-- TUNNEL_BLOCK_ARRIVAL (R537): A tunnelled block arrives on the peer device. A block, or a SENDER_RESET marker, from device `x` on MB12 + `c`. -/
  | tunnelBlockArrival (x : Fin 8) (c : Fin 4) (marker : Bool) (octets : List Byte) (ctl : Word)
  /-- TUNNEL_RELEASE_ARRIVAL (R537): A tunnelled release returns and clears GO on the sender. `reset`: the block was discarded, or its receiver reset. -/
  | tunnelReleaseArrival (x : Fin 8) (c : Fin 4) (reset : Bool)
  /-- REMOTE_FAULT_ARRIVAL (R538): A member's fault message reaches the master's collector. `again`: marked RESYNC. -/
  | remoteFaultArrival (c : Fin 256) (kind : BitVec 6) (addr : BitVec 24) (loss : Bool) (again : Bool)
  /-- DZ_FLT_CLEAR (R538): The master clears a member's fault record and its own copy. `lost`: the ring breaks before it arrives. -/
  | dzFltClear (c : Fin 256) (allPeer : Bool) (lost : Bool)
  /-- REMOTE_COMMAND_ARRIVAL (R539): A remote whistle or release arrives and is applied as local. The WHISTLE word that device `x` issued or, with `clear`, the master's DZ_FLT_CLEAR word. -/
  | remoteCommandArrival (x : Fin 8) (v : Word) (clear : Bool)
  /-- REMOTE_COMPLETION_REPORT (R539): A remote completion report arrives and the issuer records it. -/
  | remoteCompletionReport (v : Word) (ns : BitVec 16)
  /-- TMUX_SEL_WRITE (R545): A TMUX selection is written. -/
  | tmuxSelWrite (m : Master) (k : Fin 4) (v : Word)
  /-- TMUX_SWITCH (R545): At the old signal's low phase the pin switches after a 20 ns hold. -/
  | tmuxSwitch (k : Fin 4)
  /-- TMUX_METER (R544): Every 10 µs a comparator selection's frequency is metered and TOO_FAST updated. -/
  | tmuxMeter (k : Fin 4) (edges : Nat)
  /-- IDCODE (R548): JTAG instruction selecting the identification register. -/
  | idcode
  /-- SAMPLE_PRELOAD (R548): JTAG instruction selecting the boundary register. -/
  | samplePreload (scan : Option (BitVec 56 × BitVec 56))
  /-- EXTEST (R551): JTAG instruction driving balls from the boundary register. -/
  | extest (scan : Option (BitVec 56 × BitVec 56))
  /-- CLAMP (R551): JTAG instruction clamping balls with bypass. -/
  | clamp
  /-- HIGHZ (R551): JTAG instruction putting balls in high impedance. -/
  | highz
  /-- BYPASS (R548): JTAG instruction selecting the 1-bit bypass register. -/
  | bypass
  /-- TEST_LOGIC_RESET (R548): The TAP enters Test-Logic-Reset and IDCODE is selected. -/
  | testLogicReset
  /-- REGISTER_READ (R61): A PCIe memory read of BAR 0 completes with data, or with completer abort and a count in BAD_ACCESS or OFF_ACCESS. -/
  | registerRead (m : Master) (a : BitVec 21) (whole : Bool)
  /-- WHISTLE_N_RETURN_HIGH (R509): WHISTLE_N returns high, HOLDING clears and a RELEASE of the SE becomes acceptable. -/
  | whistleNReturnHigh
  /-- SELFTEST_DONE (R467): The rerun of tests 0x01–0x08 ends within 34 ms; BUSY answers stop and a failure clears APPROVED or sets ES_FAIL effects. Bit k of `fails`: test k + 1 failed. -/
  | selftestDone (fails : BitVec 8)
  /-- HEATER_GOVERNOR_UPDATE (R486): Outside rationed windows (rung L3, once per 8 TBCLK) the heater governor steps the heater current toward demand by at most its ramp step. -/
  | heaterGovernorUpdate (mv : Nat)
  /-- REMOTE_FAULT_CLEAR (R227): The partner stops sending remote fault; REMOTE_FAULT clears and frames are sent again instead of idle. -/
  | remoteFaultClear (p : Fin 4)
  /-- MSIX_MASK (R71): The host masks a vector or disables MSI-X, so the device sets pending bits instead of sending messages. none disables MSI-X. -/
  | msixMask (v : Option (Fin 32))
  /-- D3HOT_ENTRY (R408): The function is put in D3hot; the BARs stop decoding and every host-routed vector is treated as masked. -/
  | d3hotEntry
  deriving DecidableEq, Repr

end Sys2Proof
end

