-- ==== Sys2Proof/Decode.lean ====
section
/-! DEFINITION. Table words. The table of operations gives no row any bits: a command is not encoded in a word but is an access, a frame, a
message or an event, whose encodings (link frames, syllables, mailbox words, daisy messages) the meanings read for themselves. -/

namespace Sys2Proof

/-- The command that a table word spells: none, for no row of the table has bits. -/
def decodeTableWord (nbits w : Nat) : Option Instr :=
  match nbits, w with
  | _, _ => none

end Sys2Proof
end

