-- ==== Sys2Proof/Config.lean ====
section
/-! DEFINITION. What the spec leaves open: values it says exist and does not give (vendor constants, laws it does not state,
results it leaves undefined). Each is an opaque constant with no body, so nothing can be proved about the value. The numbered
assumption entries name each one. -/

namespace Sys2Proof.Config

/-- A fresh value the spec leaves open; the argument is the state's counter of such values. -/
opaque freeValue : Nat → Nat

/-- The vendor frequency–temperature curve (R77): the offset in 2⁻⁴⁸ at a crystal temperature in mK. -/
opaque tbCurve : Int → Int

/-- The unit's retrace amplitude in 2⁻⁴⁸ (R77). -/
opaque retraceAmp : Int

/-- The unit's retrace time constant in ms (R77). -/
opaque retraceTau : Nat

/-- The oven loop's demand in mW from the crystal temperature and the set point, in mK (R76). -/
opaque ovenDemand : Int → Nat → Nat

/-- The folded phase of a KIND 2 sample when NOM_PERIOD is zero (R103 states none). -/
opaque phaseNoPeriod : Int → Int

/-- The phase of a reference of which no sample has been read (R133 gives none). -/
opaque phaseNoSample : Int

/-- The proportional gain of the loop filter, in 2⁻¹¹² per ps, for a bandwidth code and a damping code (R132 gives the parameters of the
filter and not its coefficients). -/
opaque loopKp : Nat → Nat → Nat

/-- The integral gain of the loop filter, in 2⁻¹¹² per ps at a sample, for a bandwidth code, a damping code and the time since the sample
before it in units of 125 µs (R132, R133). -/
opaque loopKi : Nat → Nat → Nat → Nat

/-- What the TE adds to the increment of a port stamping clock for an error in ps at the tie, in 2⁻⁴⁰ ns (R154 gives no law). -/
opaque pcCorrection : Int → Int

/-- The carrier NCO of a GNSS channel after a coherent integration, from its value before and the seven correlator outputs; firmware sets
the coefficients (R204, R209 give no law). -/
opaque carrierLoop : Int → List (Int × Int) → Int

/-- The code NCO of a GNSS channel, in the same way (R209). -/
opaque codeLoop : Int → List (Int × Int) → Int

/-- The offset in the NVS vendor region of the constant CAL_RX[m] (false) or CAL_TX[m] (true) of a port, of DZ_CAL_RX and DZ_CAL_TX, and of
BASE_RESERVE (R47, R231, R531 give no layout). -/
opaque calAt : Bool → Nat → Nat → Nat

opaque dzCalAt : Bool → Nat

opaque baseReserveAt : Nat

/-- The offset there of the word that firmware writes to MB_BIND of a channel (R387 gives no layout). -/
opaque bindAt : Nat → Nat

/-- Whether the board holds VDD_18 up for the byte in progress at a power failure, as R444 asks of it. -/
opaque holdUp : Bool

/-- The byte that is left at an address where the board does not, at a failure at a given time in ps (R444 leaves it undefined). -/
opaque cutByte : Nat → Nat → Nat

/-- Whether output bank `b` (0–3, VDDIO_A–VDDIO_D) is supplied below 2.5 V, which the board decides (R199). -/
opaque vddioLow : Nat → Bool

/-- The initial CO secret of the unit, 32 octets as a number, most significant first (R456). -/
opaque initialCoSecret : Nat

/-- The SHA-384 hash of Obvokan's own image-signing key in OTP slot 0 or 4, 48 octets as a number (R457). -/
opaque obvokanKeyHash : Nat → Nat

/-- The key of a master slot derived from the device root key, by pipeline and slot, 256 bits (R470). -/
opaque derivedKey : Nat → Nat → Nat

end Sys2Proof.Config
end

