-- ==== Sys2Proof/Machine/RegMap.lean ====
section
/-! DEFINITION. The register map: every register of the spec's register tables (R47, R73, R107, R128, R150, R169, R203,
R220, R242, R268, R340, R378, R406, R429, R452, R478, R491, R511, R524, R541, R552) by its spec name, its address in BAR 0,
its access code, writable bits and reset words; and every named field. The mailbox registers of R407 are in Mailbox.lean. -/

namespace Sys2Proof.Machine

/-- The access code of a register (R7), with the chapter-specific kinds the tables name. -/
inductive Acc where
  | ro    -- read only
  | rw    -- read and write
  | rw0   -- read and write; instance 0 is read only (R203)
  | wo    -- write only command, reads as zero
  | w1    -- write once (R64)
  | gd    -- guarded pair, complement at the next word (R62)
  | se    -- written by the SE only (R220, R231, R429)
  | rwb   -- read and write, one copy per master (R452)
  | rob   -- read only, one copy per master (R452)
  | wob   -- write only, one copy per master (R452, R478)
  deriving DecidableEq, Repr

/-- One row of a register table: `count` instances `stride` apart (and `count2` at `stride2` inside each), each of
`words` consecutive 32-bit words. `mask` gives the writable bits and `reset` the reset value, word by word; the first `n0`
instances reset to `reset0`. -/
structure Row where
  base : Nat
  stride : Nat
  count : Nat
  stride2 : Nat
  count2 : Nat
  words : Nat
  acc : Acc
  mask : List Nat
  reset : List Nat
  n0 : Nat
  reset0 : List Nat
  deriving DecidableEq, Repr

/-- A field: the register word's address, its lowest bit and its width. -/
structure Fld where
  addr : Nat
  lo : Nat
  w : Nat
  deriving DecidableEq, Repr


/-! ### RATION -/

abbrev Reg.RATION_LEVEL : Nat := 0x10000
abbrev F.RATION_LEVEL_LEVEL_MA : Fld := ⟨Reg.RATION_LEVEL, 0, 13⟩
abbrev F.RATION_LEVEL_TARGET_MA : Fld := ⟨Reg.RATION_LEVEL, 16, 13⟩
abbrev Reg.RATION_STATUS : Nat := 0x10004
abbrev F.RATION_STATUS_IN_BAND : Fld := ⟨Reg.RATION_STATUS, 0, 1⟩
abbrev F.RATION_STATUS_RAMPING : Fld := ⟨Reg.RATION_STATUS, 1, 1⟩
abbrev F.RATION_STATUS_TRIM_SAT_LO : Fld := ⟨Reg.RATION_STATUS, 2, 1⟩
abbrev F.RATION_STATUS_TRIM_SAT_HI : Fld := ⟨Reg.RATION_STATUS, 3, 1⟩
abbrev F.RATION_STATUS_WINDOW_TCLK : Fld := ⟨Reg.RATION_STATUS, 4, 1⟩
abbrev F.RATION_STATUS_SUSPENDED : Fld := ⟨Reg.RATION_STATUS, 5, 1⟩
abbrev F.RATION_STATUS_FABRIC_BACKFILL : Fld := ⟨Reg.RATION_STATUS, 6, 1⟩
abbrev Reg.RATION_MEASURED : Nat := 0x10008
abbrev F.RATION_MEASURED_MEAN : Fld := ⟨Reg.RATION_MEASURED, 0, 13⟩
abbrev F.RATION_MEASURED_STEP : Fld := ⟨Reg.RATION_MEASURED, 16, 9⟩
abbrev Reg.RATION_TARGETS : Nat := 0x1000c
abbrev F.RATION_TARGETS_TE : Fld := ⟨Reg.RATION_TARGETS, 16, 13⟩
abbrev F.RATION_TARGETS_FABRIC : Fld := ⟨Reg.RATION_TARGETS, 0, 13⟩
abbrev Reg.RATION_TRIM : Nat := 0x10010
abbrev Reg.BASE_RESERVE : Nat := 0x10014
abbrev Reg.L1_LEVEL : Nat := 0x10018
abbrev Reg.ALLOW_SE : Nat := 0x10020
abbrev Reg.ALLOW_DMA : Nat := 0x10024
abbrev Reg.ALLOW_PCIE : Nat := 0x10028
abbrev Reg.ALLOW_TIUCAL : Nat := 0x1002c
abbrev Reg.HTR_CTRL : Nat := 0x10030
abbrev F.HTR_CTRL_RAMP : Fld := ⟨Reg.HTR_CTRL, 0, 8⟩
abbrev F.HTR_CTRL_CAP : Fld := ⟨Reg.HTR_CTRL, 16, 12⟩
abbrev Reg.WIN_OUT : Nat := 0x10040
abbrev Reg.WIN_OUT_ACK : Nat := 0x10044
abbrev Reg.STEP_OUT : Nat := 0x10048
abbrev Reg.STEP_OUT_ACK : Nat := 0x1004c
abbrev Reg.TRANSFER_REFUSED : Nat := 0x10050
abbrev Reg.TRANSFER_REFUSED_ACK : Nat := 0x10054
abbrev Reg.STALL_SE : Nat := 0x10060
abbrev Reg.STALL_DMA : Nat := 0x10064
abbrev Reg.STALL_PCIE : Nat := 0x10068
abbrev Reg.STALL_TIUCAL : Nat := 0x1006c

/-- The rows of RATION. -/
def rowsRATION : List Row := [
  ⟨0x10000, 0x0, 1, 0x0, 1, 1, .ro, [], [0x12c012c0], 0, []⟩,
  ⟨0x10004, 0x0, 1, 0x0, 1, 1, .ro, [], [], 0, []⟩,
  ⟨0x10008, 0x0, 1, 0x0, 1, 1, .ro, [], [], 0, []⟩,
  ⟨0x1000c, 0x0, 1, 0x0, 1, 1, .ro, [], [], 0, []⟩,
  ⟨0x10010, 0x0, 1, 0x0, 1, 1, .ro, [], [], 0, []⟩,
  ⟨0x10014, 0x0, 1, 0x0, 1, 1, .w1, [0x1fff], [], 0, []⟩,
  ⟨0x10018, 0x0, 1, 0x0, 1, 1, .rw, [0x1fff], [0x230], 0, []⟩,
  ⟨0x10020, 0x0, 1, 0x0, 1, 1, .rw, [0xfff], [0x118], 0, []⟩,
  ⟨0x10024, 0x0, 1, 0x0, 1, 1, .rw, [0xfff], [0x78], 0, []⟩,
  ⟨0x10028, 0x0, 1, 0x0, 1, 1, .rw, [0xfff], [0x5a], 0, []⟩,
  ⟨0x1002c, 0x0, 1, 0x0, 1, 1, .rw, [0xfff], [0x28], 0, []⟩,
  ⟨0x10030, 0x0, 1, 0x0, 1, 1, .rw, [0xfff00ff], [0x6400032], 0, []⟩,
  ⟨0x10040, 0x0, 1, 0x0, 1, 1, .ro, [], [], 0, []⟩,
  ⟨0x10044, 0x0, 1, 0x0, 1, 1, .rw, [0xffffffff], [], 0, []⟩,
  ⟨0x10048, 0x0, 1, 0x0, 1, 1, .ro, [], [], 0, []⟩,
  ⟨0x1004c, 0x0, 1, 0x0, 1, 1, .rw, [0xffffffff], [], 0, []⟩,
  ⟨0x10050, 0x0, 1, 0x0, 1, 1, .ro, [], [], 0, []⟩,
  ⟨0x10054, 0x0, 1, 0x0, 1, 1, .rw, [0xffffffff], [], 0, []⟩,
  ⟨0x10060, 0x0, 1, 0x0, 1, 1, .ro, [], [], 0, []⟩,
  ⟨0x10064, 0x0, 1, 0x0, 1, 1, .ro, [], [], 0, []⟩,
  ⟨0x10068, 0x0, 1, 0x0, 1, 1, .ro, [], [], 0, []⟩,
  ⟨0x1006c, 0x0, 1, 0x0, 1, 1, .ro, [], [], 0, []⟩]

/-! ### GLOBAL -/

abbrev Reg.GLOBAL_ID : Nat := 0x0
abbrev Reg.GLOBAL_REV : Nat := 0x4
abbrev Reg.INT_PEND : Nat := 0x10
abbrev Reg.INT_ROUTE_LO : Nat := 0x14
abbrev Reg.INT_ROUTE_HI : Nat := 0x18
abbrev Reg.INTN_CTRL : Nat := 0x1c
abbrev F.INTN_CTRL_EN : Fld := ⟨Reg.INTN_CTRL, 0, 1⟩
abbrev Reg.HWIN_ADDR : Nat := 0x20
abbrev Reg.HWIN_DATA : Nat := 0x24
abbrev Reg.HWIN_STATUS : Nat := 0x28
abbrev F.HWIN_STATUS_VALID : Fld := ⟨Reg.HWIN_STATUS, 0, 1⟩
abbrev F.HWIN_STATUS_ECC : Fld := ⟨Reg.HWIN_STATUS, 1, 1⟩
abbrev Reg.BAD_ACCESS : Nat := 0x30
abbrev Reg.OFF_ACCESS : Nat := 0x34
abbrev Reg.LINK_STATUS : Nat := 0x38
abbrev F.LINK_STATUS_QSPI : Fld := ⟨Reg.LINK_STATUS, 0, 8⟩
abbrev F.LINK_STATUS_I2C : Fld := ⟨Reg.LINK_STATUS, 8, 8⟩
abbrev Reg.RUNG_REQ : Nat := 0x100
abbrev Reg.RUNG_STATUS : Nat := 0x108
abbrev F.RUNG_STATUS_RUNG : Fld := ⟨Reg.RUNG_STATUS, 0, 3⟩
abbrev F.RUNG_STATUS_TARGET : Fld := ⟨Reg.RUNG_STATUS, 3, 3⟩
abbrev F.RUNG_STATUS_MOVING : Fld := ⟨Reg.RUNG_STATUS, 6, 1⟩
abbrev F.RUNG_STATUS_WARM_WAIT : Fld := ⟨Reg.RUNG_STATUS, 7, 1⟩
abbrev F.RUNG_STATUS_CAUSE : Fld := ⟨Reg.RUNG_STATUS, 8, 3⟩
abbrev Reg.RUNG_EVT : Nat := 0x10c
abbrev Reg.RUNG_EVT_ACK : Nat := 0x110
abbrev Reg.RUNG_REF : Nat := 0x114
abbrev Reg.WAKE_CFG : Nat := 0x118
abbrev F.WAKE_CFG_TIMER_EN : Fld := ⟨Reg.WAKE_CFG, 0, 1⟩
abbrev F.WAKE_CFG_I2C_EN : Fld := ⟨Reg.WAKE_CFG, 1, 1⟩
abbrev F.WAKE_CFG_WAKE_RUNG : Fld := ⟨Reg.WAKE_CFG, 4, 3⟩
abbrev Reg.WAKE_AT : Nat := 0x11c
abbrev Reg.AO_TIME : Nat := 0x120
abbrev Reg.RUNG_TIME : Nat := 0x128
abbrev Reg.RST_CAUSE : Nat := 0x200
abbrev F.RST_CAUSE_POR : Fld := ⟨Reg.RST_CAUSE, 0, 1⟩
abbrev F.RST_CAUSE_RAIL : Fld := ⟨Reg.RST_CAUSE, 1, 1⟩
abbrev F.RST_CAUSE_PIN : Fld := ⟨Reg.RST_CAUSE, 2, 1⟩
abbrev F.RST_CAUSE_RAIL_ID : Fld := ⟨Reg.RST_CAUSE, 8, 5⟩
abbrev Reg.RST_COUNT : Nat := 0x204
abbrev F.RST_COUNT_RESET_N : Fld := ⟨Reg.RST_COUNT, 0, 16⟩
abbrev Reg.BOOT_STATUS : Nat := 0x208
abbrev F.BOOT_STATUS_NVS_READY : Fld := ⟨Reg.BOOT_STATUS, 0, 1⟩
abbrev F.BOOT_STATUS_SE_LOADING : Fld := ⟨Reg.BOOT_STATUS, 1, 1⟩
abbrev F.BOOT_STATUS_SE_RUNNING : Fld := ⟨Reg.BOOT_STATUS, 2, 1⟩
abbrev F.BOOT_STATUS_TB_LOCKED : Fld := ⟨Reg.BOOT_STATUS, 3, 1⟩
abbrev F.BOOT_STATUS_TB_WARMED : Fld := ⟨Reg.BOOT_STATUS, 4, 1⟩
abbrev F.BOOT_STATUS_FCLK_RUN : Fld := ⟨Reg.BOOT_STATUS, 5, 1⟩
abbrev F.BOOT_STATUS_FABRIC_READY : Fld := ⟨Reg.BOOT_STATUS, 6, 1⟩
abbrev F.BOOT_STATUS_ITIN_RUN : Fld := ⟨Reg.BOOT_STATUS, 7, 1⟩
abbrev F.BOOT_STATUS_COLD : Fld := ⟨Reg.BOOT_STATUS, 8, 1⟩
abbrev F.BOOT_STATUS_GATED : Fld := ⟨Reg.BOOT_STATUS, 9, 1⟩
abbrev Reg.BOOT_CMD : Nat := 0x20c
abbrev Reg.BOOT_REF : Nat := 0x214
abbrev Reg.BOOT_EVT : Nat := 0x218
abbrev Reg.BOOT_EVT_ACK : Nat := 0x21c
abbrev Reg.BOOT_TIME (k : Nat) : Nat := 0x220 + 0x4 * k
abbrev Reg.TMUX_SEL (k : Nat) : Nat := 0x300 + 0x4 * k
abbrev F.TMUX_SEL_SEL (k : Nat) : Fld := ⟨(Reg.TMUX_SEL k), 0, 8⟩
abbrev F.TMUX_SEL_DIV (k : Nat) : Fld := ⟨(Reg.TMUX_SEL k), 8, 4⟩
abbrev F.TMUX_SEL_INV (k : Nat) : Fld := ⟨(Reg.TMUX_SEL k), 12, 1⟩
abbrev Reg.TMUX_STATUS : Nat := 0x310
abbrev F.TMUX_STATUS_OPEN : Fld := ⟨Reg.TMUX_STATUS, 0, 1⟩
abbrev F.TMUX_STATUS_TOO_FAST : Fld := ⟨Reg.TMUX_STATUS, 4, 4⟩
abbrev Reg.JTAG_STATUS : Nat := 0x314
abbrev F.JTAG_STATUS_EXT : Fld := ⟨Reg.JTAG_STATUS, 8, 1⟩
abbrev F.JTAG_STATUS_INSTR : Fld := ⟨Reg.JTAG_STATUS, 0, 8⟩

/-- The rows of GLOBAL, part 1. -/
def rowsGLOBAL1 : List Row := [
  ⟨0x0, 0x0, 1, 0x0, 1, 1, .ro, [], [0x92401f0b], 0, []⟩,
  ⟨0x4, 0x0, 1, 0x0, 1, 1, .ro, [], [0x1b0], 0, []⟩,
  ⟨0x10, 0x0, 1, 0x0, 1, 1, .ro, [], [], 0, []⟩,
  ⟨0x14, 0x0, 1, 0x0, 1, 1, .rw, [0xffffffff], [0x55555555], 0, []⟩,
  ⟨0x18, 0x0, 1, 0x0, 1, 1, .rw, [0xffffffff], [0x55555555], 0, []⟩,
  ⟨0x1c, 0x0, 1, 0x0, 1, 1, .rw, [1], [1], 0, []⟩,
  ⟨0x20, 0x0, 1, 0x0, 1, 1, .rw, [0xfffffc], [], 0, []⟩,
  ⟨0x24, 0x0, 1, 0x0, 1, 1, .rw, [0xffffffff], [], 0, []⟩,
  ⟨0x28, 0x0, 1, 0x0, 1, 1, .ro, [], [], 0, []⟩,
  ⟨0x30, 0x0, 1, 0x0, 1, 1, .ro, [], [], 0, []⟩,
  ⟨0x34, 0x0, 1, 0x0, 1, 1, .ro, [], [], 0, []⟩,
  ⟨0x38, 0x0, 1, 0x0, 1, 1, .ro, [], [], 0, []⟩,
  ⟨0x100, 0x0, 1, 0x0, 1, 1, .gd, [7], [], 0, []⟩,
  ⟨0x108, 0x0, 1, 0x0, 1, 1, .ro, [], [0x400], 0, []⟩,
  ⟨0x10c, 0x0, 1, 0x0, 1, 1, .ro, [], [], 0, []⟩,
  ⟨0x110, 0x0, 1, 0x0, 1, 1, .rw, [0xffffffff], [], 0, []⟩,
  ⟨0x114, 0x0, 1, 0x0, 1, 1, .ro, [], [], 0, []⟩,
  ⟨0x118, 0x0, 1, 0x0, 1, 1, .rw, [0x73], [], 0, []⟩,
  ⟨0x11c, 0x0, 1, 0x0, 1, 1, .rw, [0xffffffff], [], 0, []⟩,
  ⟨0x120, 0x0, 1, 0x0, 1, 2, .ro, [], [], 0, []⟩,
  ⟨0x128, 0x0, 1, 0x0, 1, 1, .ro, [], [], 0, []⟩,
  ⟨0x200, 0x0, 1, 0x0, 1, 1, .ro, [], [1], 0, []⟩,
  ⟨0x204, 0x0, 1, 0x0, 1, 1, .ro, [], [], 0, []⟩,
  ⟨0x208, 0x0, 1, 0x0, 1, 1, .ro, [], [], 0, []⟩]
/-- The rows of GLOBAL, part 2. -/
def rowsGLOBAL2 : List Row := [
  ⟨0x20c, 0x0, 1, 0x0, 1, 1, .gd, [0xf], [], 0, []⟩,
  ⟨0x214, 0x0, 1, 0x0, 1, 1, .ro, [], [], 0, []⟩,
  ⟨0x218, 0x0, 1, 0x0, 1, 1, .ro, [], [], 0, []⟩,
  ⟨0x21c, 0x0, 1, 0x0, 1, 1, .rw, [0xffffffff], [], 0, []⟩,
  ⟨0x220, 0x4, 8, 0x0, 1, 1, .ro, [], [], 0, []⟩,
  ⟨0x300, 0x4, 4, 0x0, 1, 1, .rw, [0x1fff], [], 0, []⟩,
  ⟨0x310, 0x0, 1, 0x0, 1, 1, .ro, [], [], 0, []⟩,
  ⟨0x314, 0x0, 1, 0x0, 1, 1, .ro, [], [1], 0, []⟩]
/-- The rows of GLOBAL. -/
def rowsGLOBAL : List Row := rowsGLOBAL1 ++ rowsGLOBAL2

/-! ### TIU -/

abbrev Reg.TB_CTRL : Nat := 0x20000
abbrev F.TB_CTRL_SRC : Fld := ⟨Reg.TB_CTRL, 0, 2⟩
abbrev F.TB_CTRL_EXT_FREQ : Fld := ⟨Reg.TB_CTRL, 2, 2⟩
abbrev Reg.TB_STATUS : Nat := 0x20004
abbrev F.TB_STATUS_TB_WARM : Fld := ⟨Reg.TB_STATUS, 0, 1⟩
abbrev F.TB_STATUS_AT_SETPOINT : Fld := ⟨Reg.TB_STATUS, 1, 1⟩
abbrev F.TB_STATUS_HTR_LIMIT : Fld := ⟨Reg.TB_STATUS, 2, 1⟩
abbrev F.TB_STATUS_OVERTEMP : Fld := ⟨Reg.TB_STATUS, 3, 1⟩
abbrev F.TB_STATUS_EXT_ACTIVE : Fld := ⟨Reg.TB_STATUS, 4, 1⟩
abbrev F.TB_STATUS_EXT_LOST : Fld := ⟨Reg.TB_STATUS, 5, 1⟩
abbrev F.TB_STATUS_SLEWING : Fld := ⟨Reg.TB_STATUS, 6, 1⟩
abbrev F.TB_STATUS_SRC_REFUSED : Fld := ⟨Reg.TB_STATUS, 7, 1⟩
abbrev F.TB_STATUS_SRC_IN_USE : Fld := ⟨Reg.TB_STATUS, 8, 2⟩
abbrev Reg.TB_OVEN : Nat := 0x20008
abbrev F.TB_OVEN_HTR_EN : Fld := ⟨Reg.TB_OVEN, 0, 1⟩
abbrev Reg.TB_SETPOINT : Nat := 0x2000c
abbrev Reg.TB_TEMP : Nat := 0x20010
abbrev Reg.TB_TEMP_DIE01 : Nat := 0x20014
abbrev Reg.TB_TEMP_DIE23 : Nat := 0x20018
abbrev Reg.TB_LEARNED : Nat := 0x2001c
abbrev Reg.TB_PRED_DEV : Nat := 0x20020
abbrev Reg.TB_EVT : Nat := 0x20024
abbrev Reg.TB_EVT_ACK : Nat := 0x20028
abbrev Reg.CAL_STATUS : Nat := 0x20030
abbrev F.CAL_STATUS_SPARE : Fld := ⟨Reg.CAL_STATUS, 0, 5⟩
abbrev F.CAL_STATUS_STALE : Fld := ⟨Reg.CAL_STATUS, 5, 1⟩
abbrev F.CAL_STATUS_NO_SPARE : Fld := ⟨Reg.CAL_STATUS, 6, 1⟩
abbrev Reg.CAL_RETIRED : Nat := 0x20034
abbrev Reg.CAL_EVT : Nat := 0x20038
abbrev Reg.CAL_EVT_ACK : Nat := 0x2003c
abbrev Reg.COARSE_LO : Nat := 0x20040
abbrev Reg.COARSE_HI : Nat := 0x20044
abbrev Reg.L2_CH : Nat := 0x20048
abbrev Reg.CH_CFG (n : Nat) : Nat := 0x20100 + 0x20 * n
abbrev F.CH_CFG_EN (n : Nat) : Fld := ⟨(Reg.CH_CFG n), 0, 1⟩
abbrev F.CH_CFG_SLOPE (n : Nat) : Fld := ⟨(Reg.CH_CFG n), 1, 2⟩
abbrev F.CH_CFG_PRE2 (n : Nat) : Fld := ⟨(Reg.CH_CFG n), 3, 1⟩
abbrev F.CH_CFG_DIFF (n : Nat) : Fld := ⟨(Reg.CH_CFG n), 4, 1⟩
abbrev F.CH_CFG_HCAP (n : Nat) : Fld := ⟨(Reg.CH_CFG n), 5, 1⟩
abbrev F.CH_CFG_LATEST (n : Nat) : Fld := ⟨(Reg.CH_CFG n), 6, 1⟩
abbrev F.CH_CFG_SRCSEL (n : Nat) : Fld := ⟨(Reg.CH_CFG n), 8, 5⟩
abbrev F.CH_CFG_THRESH (n : Nat) : Fld := ⟨(Reg.CH_CFG n), 16, 8⟩
abbrev Reg.CH_DIV (n : Nat) : Nat := 0x20104 + 0x20 * n
abbrev Reg.CH_STATUS (n : Nat) : Nat := 0x20108 + 0x20 * n
abbrev F.CH_STATUS_RUNNING (n : Nat) : Fld := ⟨(Reg.CH_STATUS n), 0, 1⟩
abbrev F.CH_STATUS_FAST (n : Nat) : Fld := ⟨(Reg.CH_STATUS n), 1, 1⟩
abbrev F.CH_STATUS_INTERP (n : Nat) : Fld := ⟨(Reg.CH_STATUS n), 8, 5⟩
abbrev Reg.CH_STAMPS (n : Nat) : Nat := 0x2010c + 0x20 * n
abbrev Reg.CH_ERR (n : Nat) : Nat := 0x20114 + 0x20 * n
abbrev F.CH_ERR_TOO_CLOSE (n : Nat) : Fld := ⟨(Reg.CH_ERR n), 0, 16⟩
abbrev F.CH_ERR_DROPPED (n : Nat) : Fld := ⟨(Reg.CH_ERR n), 16, 16⟩
abbrev Reg.CH_ERR_ACK (n : Nat) : Nat := 0x20118 + 0x20 * n
abbrev Reg.CH_DELAY (n : Nat) : Nat := 0x2011c + 0x20 * n
abbrev Reg.GRP_CFG (g : Nat) : Nat := 0x20400 + 0x20 * g
abbrev F.GRP_CFG_EN (g : Nat) : Fld := ⟨(Reg.GRP_CFG g), 0, 1⟩
abbrev F.GRP_CFG_MODE (g : Nat) : Fld := ⟨(Reg.GRP_CFG g), 1, 1⟩
abbrev F.GRP_CFG_START (g : Nat) : Fld := ⟨(Reg.GRP_CFG g), 4, 5⟩
abbrev Reg.GRP_STOPS (g : Nat) : Nat := 0x20404 + 0x20 * g
abbrev Reg.GRP_WIN (g : Nat) : Nat := 0x20408 + 0x20 * g
abbrev Reg.GRP_STATUS (g : Nat) : Nat := 0x2040c + 0x20 * g
abbrev F.GRP_STATUS_FIFO (g : Nat) : Fld := ⟨(Reg.GRP_STATUS g), 0, 7⟩
abbrev F.GRP_STATUS_CFG_TRUNC (g : Nat) : Fld := ⟨(Reg.GRP_STATUS g), 8, 1⟩
abbrev F.GRP_STATUS_DROPPED (g : Nat) : Fld := ⟨(Reg.GRP_STATUS g), 16, 16⟩
abbrev F.GRP_STATUS_LEVEL (g : Nat) : Fld := ⟨(Reg.GRP_STATUS g), 0, 7⟩
abbrev Reg.GRP_RES (g : Nat) : Nat := 0x20410 + 0x20 * g
abbrev Reg.GRP_CNT (g : Nat) : Nat := 0x20500 + 0x8 * g
abbrev Reg.GRP_CNT_ACK (g : Nat) : Nat := 0x20504 + 0x8 * g
abbrev Reg.REG_CFG (n : Nat) : Nat := 0x20600 + 0x40 * n
abbrev F.REG_CFG_EN (n : Nat) : Fld := ⟨(Reg.REG_CFG n), 0, 1⟩
abbrev F.REG_CFG_GATE_MS (n : Nat) : Fld := ⟨(Reg.REG_CFG n), 1, 20⟩
abbrev F.REG_CFG_DECIM (n : Nat) : Fld := ⟨(Reg.REG_CFG n), 21, 4⟩
abbrev Reg.NOM_PERIOD (n : Nat) : Nat := 0x20604 + 0x40 * n
abbrev Reg.REG_Y (n : Nat) : Nat := 0x2060c + 0x40 * n
abbrev Reg.REG_RESID (n : Nat) : Nat := 0x20614 + 0x40 * n
abbrev Reg.REG_COUNT (n : Nat) : Nat := 0x20618 + 0x40 * n
abbrev Reg.REG_FLAGS (n : Nat) : Nat := 0x2061c + 0x40 * n
abbrev F.REG_FLAGS_GAP (n : Nat) : Fld := ⟨(Reg.REG_FLAGS n), 0, 1⟩
abbrev F.REG_FLAGS_TOO_FEW (n : Nat) : Fld := ⟨(Reg.REG_FLAGS n), 1, 1⟩
abbrev F.REG_FLAGS_COLD (n : Nat) : Fld := ⟨(Reg.REG_FLAGS n), 2, 1⟩
abbrev F.REG_FLAGS_SWAP (n : Nat) : Fld := ⟨(Reg.REG_FLAGS n), 3, 1⟩
abbrev F.REG_FLAGS_PARTIAL (n : Nat) : Fld := ⟨(Reg.REG_FLAGS n), 4, 1⟩
abbrev F.REG_FLAGS_SATURATED (n : Nat) : Fld := ⟨(Reg.REG_FLAGS n), 5, 1⟩
abbrev F.REG_FLAGS_NO_PERIOD (n : Nat) : Fld := ⟨(Reg.REG_FLAGS n), 6, 1⟩
abbrev F.REG_FLAGS_RANGE (n : Nat) : Fld := ⟨(Reg.REG_FLAGS n), 7, 1⟩
abbrev Reg.REG_END (n : Nat) : Nat := 0x20620 + 0x40 * n
abbrev Reg.REG_SEQ (n : Nat) : Nat := 0x2062c + 0x40 * n
abbrev Reg.REG_SEQ_ACK (n : Nat) : Nat := 0x20630 + 0x40 * n
abbrev Reg.STAT_CFG (s : Nat) : Nat := 0x20c00 + 0x40 * s
abbrev F.STAT_CFG_EN (s : Nat) : Fld := ⟨(Reg.STAT_CFG s), 0, 1⟩
abbrev F.STAT_CFG_KIND (s : Nat) : Fld := ⟨(Reg.STAT_CFG s), 1, 3⟩
abbrev F.STAT_CFG_GROUP (s : Nat) : Fld := ⟨(Reg.STAT_CFG s), 8, 3⟩
abbrev F.STAT_CFG_CHANNEL (s : Nat) : Fld := ⟨(Reg.STAT_CFG s), 16, 5⟩
abbrev Reg.STAT_N (s : Nat) : Nat := 0x20c04 + 0x40 * s
abbrev Reg.STAT_ANCHOR (s : Nat) : Nat := 0x20c08 + 0x40 * s
abbrev Reg.STAT_MEAN (s : Nat) : Nat := 0x20c10 + 0x40 * s
abbrev Reg.STAT_SDEV (s : Nat) : Nat := 0x20c18 + 0x40 * s
abbrev Reg.STAT_MIN (s : Nat) : Nat := 0x20c20 + 0x40 * s
abbrev Reg.STAT_MAX (s : Nat) : Nat := 0x20c28 + 0x40 * s
abbrev Reg.STAT_FLAGS (s : Nat) : Nat := 0x20c30 + 0x40 * s
abbrev F.STAT_FLAGS_COLD (s : Nat) : Fld := ⟨(Reg.STAT_FLAGS s), 0, 1⟩
abbrev F.STAT_FLAGS_SWAP (s : Nat) : Fld := ⟨(Reg.STAT_FLAGS s), 1, 1⟩
abbrev F.STAT_FLAGS_SINGLE (s : Nat) : Fld := ⟨(Reg.STAT_FLAGS s), 2, 1⟩
abbrev F.STAT_FLAGS_BAD_KIND (s : Nat) : Fld := ⟨(Reg.STAT_FLAGS s), 3, 1⟩
abbrev F.STAT_FLAGS_EXCLUDED (s : Nat) : Fld := ⟨(Reg.STAT_FLAGS s), 8, 24⟩
abbrev Reg.STAT_SEQ (s : Nat) : Nat := 0x20c34 + 0x40 * s
abbrev Reg.STAT_SEQ_ACK (s : Nat) : Nat := 0x20c38 + 0x40 * s
abbrev Reg.HCAP_REC : Nat := 0x20e00
abbrev Reg.HCAP_STATUS : Nat := 0x20e10
abbrev F.HCAP_STATUS_DROPPED : Fld := ⟨Reg.HCAP_STATUS, 16, 16⟩
abbrev F.HCAP_STATUS_LEVEL : Fld := ⟨Reg.HCAP_STATUS, 0, 9⟩

/-- The rows of TIU, part 1. -/
def rowsTIU1 : List Row := [
  ⟨0x20000, 0x0, 1, 0x0, 1, 1, .w1, [0xf], [], 0, []⟩,
  ⟨0x20004, 0x0, 1, 0x0, 1, 1, .ro, [], [], 0, []⟩,
  ⟨0x20008, 0x0, 1, 0x0, 1, 1, .rw, [1], [], 0, []⟩,
  ⟨0x2000c, 0x0, 1, 0x0, 1, 1, .ro, [], [0x19e10], 0, []⟩,
  ⟨0x20010, 0x0, 1, 0x0, 1, 1, .ro, [], [], 0, []⟩,
  ⟨0x20014, 0x0, 1, 0x0, 1, 1, .ro, [], [], 0, []⟩,
  ⟨0x20018, 0x0, 1, 0x0, 1, 1, .ro, [], [], 0, []⟩,
  ⟨0x2001c, 0x0, 1, 0x0, 1, 1, .rw, [0xffffffff], [], 0, []⟩,
  ⟨0x20020, 0x0, 1, 0x0, 1, 1, .ro, [], [], 0, []⟩,
  ⟨0x20024, 0x0, 1, 0x0, 1, 1, .ro, [], [], 0, []⟩,
  ⟨0x20028, 0x0, 1, 0x0, 1, 1, .rw, [0xffffffff], [], 0, []⟩,
  ⟨0x20030, 0x0, 1, 0x0, 1, 1, .ro, [], [0x18], 0, []⟩,
  ⟨0x20034, 0x0, 1, 0x0, 1, 1, .ro, [], [], 0, []⟩,
  ⟨0x20038, 0x0, 1, 0x0, 1, 1, .ro, [], [], 0, []⟩,
  ⟨0x2003c, 0x0, 1, 0x0, 1, 1, .rw, [0xffffffff], [], 0, []⟩,
  ⟨0x20040, 0x0, 1, 0x0, 1, 1, .ro, [], [], 0, []⟩,
  ⟨0x20044, 0x0, 1, 0x0, 1, 1, .ro, [], [], 0, []⟩,
  ⟨0x20048, 0x0, 1, 0x0, 1, 1, .rw, [0x1f1f], [0x1516], 0, []⟩,
  ⟨0x20100, 0x20, 24, 0x0, 1, 1, .rw, [0xff1f7f], [0x800050], 0, []⟩,
  ⟨0x20104, 0x20, 24, 0x0, 1, 1, .rw, [0xffffff], [], 0, []⟩,
  ⟨0x20108, 0x20, 24, 0x0, 1, 1, .ro, [], [], 0, []⟩,
  ⟨0x2010c, 0x20, 24, 0x0, 1, 2, .ro, [], [], 0, []⟩,
  ⟨0x20114, 0x20, 24, 0x0, 1, 1, .ro, [], [], 0, []⟩,
  ⟨0x20118, 0x20, 24, 0x0, 1, 1, .rw, [0xffffffff], [], 0, []⟩]
/-- The rows of TIU, part 2. -/
def rowsTIU2 : List Row := [
  ⟨0x2011c, 0x20, 24, 0x0, 1, 1, .rw, [0xffff], [], 0, []⟩,
  ⟨0x20400, 0x20, 8, 0x0, 1, 1, .rw, [0x1f3], [], 0, []⟩,
  ⟨0x20404, 0x20, 8, 0x0, 1, 1, .rw, [0xffffff], [], 0, []⟩,
  ⟨0x20408, 0x20, 8, 0x0, 1, 1, .rw, [0xffffffff], [], 0, []⟩,
  ⟨0x2040c, 0x20, 8, 0x0, 1, 1, .ro, [], [], 0, []⟩,
  ⟨0x20410, 0x20, 8, 0x0, 1, 4, .ro, [], [], 0, []⟩,
  ⟨0x20500, 0x8, 8, 0x0, 1, 1, .ro, [], [], 0, []⟩,
  ⟨0x20504, 0x8, 8, 0x0, 1, 1, .rw, [0xffffffff], [], 0, []⟩,
  ⟨0x20600, 0x40, 24, 0x0, 1, 1, .rw, [0x1ffffff], [], 0, []⟩,
  ⟨0x20604, 0x40, 24, 0x0, 1, 2, .rw, [0xffffffff, 0xffffffff], [], 0, []⟩,
  ⟨0x2060c, 0x40, 24, 0x0, 1, 2, .ro, [], [], 0, []⟩,
  ⟨0x20614, 0x40, 24, 0x0, 1, 1, .ro, [], [], 0, []⟩,
  ⟨0x20618, 0x40, 24, 0x0, 1, 1, .ro, [], [], 0, []⟩,
  ⟨0x2061c, 0x40, 24, 0x0, 1, 1, .ro, [], [], 0, []⟩,
  ⟨0x20620, 0x40, 24, 0x0, 1, 3, .ro, [], [], 0, []⟩,
  ⟨0x2062c, 0x40, 24, 0x0, 1, 1, .ro, [], [], 0, []⟩,
  ⟨0x20630, 0x40, 24, 0x0, 1, 1, .rw, [0xffffffff], [], 0, []⟩,
  ⟨0x20c00, 0x40, 8, 0x0, 1, 1, .rw, [0x1f070f], [], 0, []⟩,
  ⟨0x20c04, 0x40, 8, 0x0, 1, 1, .rw, [0xffffff], [], 0, []⟩,
  ⟨0x20c08, 0x40, 8, 0x0, 1, 2, .rw, [0xffffffff, 0xffffffff], [], 0, []⟩,
  ⟨0x20c10, 0x40, 8, 0x0, 1, 2, .ro, [], [], 0, []⟩,
  ⟨0x20c18, 0x40, 8, 0x0, 1, 2, .ro, [], [], 0, []⟩,
  ⟨0x20c20, 0x40, 8, 0x0, 1, 2, .ro, [], [], 0, []⟩,
  ⟨0x20c28, 0x40, 8, 0x0, 1, 2, .ro, [], [], 0, []⟩]
/-- The rows of TIU, part 3. -/
def rowsTIU3 : List Row := [
  ⟨0x20c30, 0x40, 8, 0x0, 1, 1, .ro, [], [], 0, []⟩,
  ⟨0x20c34, 0x40, 8, 0x0, 1, 1, .ro, [], [], 0, []⟩,
  ⟨0x20c38, 0x40, 8, 0x0, 1, 1, .rw, [0xffffffff], [], 0, []⟩,
  ⟨0x20e00, 0x0, 1, 0x0, 1, 4, .ro, [], [], 0, []⟩,
  ⟨0x20e10, 0x0, 1, 0x0, 1, 1, .ro, [], [], 0, []⟩]
/-- The rows of TIU. -/
def rowsTIU : List Row := rowsTIU1 ++ rowsTIU2 ++ rowsTIU3

/-! ### REFSEL -/

abbrev Reg.REF_CFG (i : Nat) : Nat := 0x30000 + 0x40 * i
abbrev F.REF_CFG_EN (i : Nat) : Fld := ⟨(Reg.REF_CFG i), 0, 1⟩
abbrev F.REF_CFG_KIND (i : Nat) : Fld := ⟨(Reg.REF_CFG i), 1, 2⟩
abbrev F.REF_CFG_STAT (i : Nat) : Fld := ⟨(Reg.REF_CFG i), 4, 3⟩
abbrev Reg.REF_FREQ (i : Nat) : Nat := 0x30004 + 0x40 * i
abbrev F.REF_FREQ_FREQ_ACC (i : Nat) : Fld := ⟨(Reg.REF_FREQ i), 0, 16⟩
abbrev F.REF_FREQ_FREQ_REJ (i : Nat) : Fld := ⟨(Reg.REF_FREQ i), 16, 16⟩
abbrev Reg.REF_PN (i : Nat) : Nat := 0x30008 + 0x40 * i
abbrev F.REF_PN_PN_MAX (i : Nat) : Fld := ⟨(Reg.REF_PN i), 0, 16⟩
abbrev Reg.REF_HOLDOFF (i : Nat) : Nat := 0x3000c + 0x40 * i
abbrev F.REF_HOLDOFF_HOLDOFF_MS (i : Nat) : Fld := ⟨(Reg.REF_HOLDOFF i), 0, 16⟩
abbrev Reg.REF_WTR (i : Nat) : Nat := 0x30010 + 0x40 * i
abbrev F.REF_WTR_WTR_S (i : Nat) : Fld := ⟨(Reg.REF_WTR i), 0, 12⟩
abbrev F.REF_WTR_WTR_JUMP_S (i : Nat) : Fld := ⟨(Reg.REF_WTR i), 16, 12⟩
abbrev Reg.REF_ACT (i : Nat) : Nat := 0x30014 + 0x40 * i
abbrev F.REF_ACT_ACT_WIN (i : Nat) : Fld := ⟨(Reg.REF_ACT i), 0, 24⟩
abbrev Reg.REF_QL (i : Nat) : Nat := 0x30018 + 0x40 * i
abbrev F.REF_QL_QL_RANK (i : Nat) : Fld := ⟨(Reg.REF_QL i), 0, 4⟩
abbrev F.REF_QL_QL_MAX (i : Nat) : Fld := ⟨(Reg.REF_QL i), 8, 4⟩
abbrev Reg.REF_STATUS (i : Nat) : Nat := 0x3001c + 0x40 * i
abbrev F.REF_STATUS_STATE (i : Nat) : Fld := ⟨(Reg.REF_STATUS i), 0, 3⟩
abbrev F.REF_STATUS_ACT_FAIL (i : Nat) : Fld := ⟨(Reg.REF_STATUS i), 8, 1⟩
abbrev F.REF_STATUS_FREQ_FAIL (i : Nat) : Fld := ⟨(Reg.REF_STATUS i), 9, 1⟩
abbrev F.REF_STATUS_PN_FAIL (i : Nat) : Fld := ⟨(Reg.REF_STATUS i), 10, 1⟩
abbrev F.REF_STATUS_QL_FAIL (i : Nat) : Fld := ⟨(Reg.REF_STATUS i), 11, 1⟩
abbrev F.REF_STATUS_AGREE_FAIL (i : Nat) : Fld := ⟨(Reg.REF_STATUS i), 12, 1⟩
abbrev F.REF_STATUS_DISPUTED (i : Nat) : Fld := ⟨(Reg.REF_STATUS i), 13, 1⟩
abbrev F.REF_STATUS_JUMPED (i : Nat) : Fld := ⟨(Reg.REF_STATUS i), 14, 1⟩
abbrev F.REF_STATUS_STALE (i : Nat) : Fld := ⟨(Reg.REF_STATUS i), 15, 1⟩
abbrev F.REF_STATUS_SEL_BY (i : Nat) : Fld := ⟨(Reg.REF_STATUS i), 16, 8⟩
abbrev Reg.REF_Y (i : Nat) : Nat := 0x30020 + 0x40 * i
abbrev Reg.REF_PN_MEAS (i : Nat) : Nat := 0x30028 + 0x40 * i
abbrev Reg.REF_EVT (i : Nat) : Nat := 0x3002c + 0x40 * i
abbrev Reg.REF_EVT_ACK (i : Nat) : Nat := 0x30030 + 0x40 * i
abbrev Reg.REF_TIMER (i : Nat) : Nat := 0x30034 + 0x40 * i
abbrev Reg.SEL_CFG (d : Nat) : Nat := 0x30800 + 0x40 * d
abbrev F.SEL_CFG_EN (d : Nat) : Fld := ⟨(Reg.SEL_CFG d), 0, 1⟩
abbrev F.SEL_CFG_REVERT (d : Nat) : Fld := ⟨(Reg.SEL_CFG d), 1, 1⟩
abbrev F.SEL_CFG_PSL (d : Nat) : Fld := ⟨(Reg.SEL_CFG d), 16, 16⟩
abbrev Reg.SEL_RANK_A (d : Nat) : Nat := 0x30804 + 0x40 * d
abbrev Reg.SEL_RANK_B (d : Nat) : Nat := 0x30808 + 0x40 * d
abbrev Reg.SEL_RANK_C (d : Nat) : Nat := 0x3080c + 0x40 * d
abbrev Reg.SEL_FORCE (d : Nat) : Nat := 0x30810 + 0x40 * d
abbrev F.SEL_FORCE_FORCE_EN (d : Nat) : Fld := ⟨(Reg.SEL_FORCE d), 0, 1⟩
abbrev F.SEL_FORCE_FORCE_ID (d : Nat) : Fld := ⟨(Reg.SEL_FORCE d), 8, 5⟩
abbrev Reg.SEL_STATUS (d : Nat) : Nat := 0x30814 + 0x40 * d
abbrev F.SEL_STATUS_SELECTED (d : Nat) : Fld := ⟨(Reg.SEL_STATUS d), 0, 5⟩
abbrev F.SEL_STATUS_TARGET (d : Nat) : Fld := ⟨(Reg.SEL_STATUS d), 8, 5⟩
abbrev F.SEL_STATUS_STATE (d : Nat) : Fld := ⟨(Reg.SEL_STATUS d), 16, 2⟩
abbrev F.SEL_STATUS_PENDING (d : Nat) : Fld := ⟨(Reg.SEL_STATUS d), 18, 1⟩
abbrev F.SEL_STATUS_FORCE_DROPPED (d : Nat) : Fld := ⟨(Reg.SEL_STATUS d), 19, 1⟩
abbrev F.SEL_STATUS_FORCED (d : Nat) : Fld := ⟨(Reg.SEL_STATUS d), 20, 1⟩
abbrev F.SEL_STATUS_NONE (d : Nat) : Fld := ⟨(Reg.SEL_STATUS d), 21, 1⟩
abbrev Reg.SEL_SLEW (d : Nat) : Nat := 0x30818 + 0x40 * d
abbrev Reg.SEL_EVT (d : Nat) : Nat := 0x3081c + 0x40 * d
abbrev Reg.SEL_EVT_ACK (d : Nat) : Nat := 0x30820 + 0x40 * d
abbrev Reg.AGREE : Nat := 0x30c00
abbrev F.AGREE_AGREE_THR : Fld := ⟨Reg.AGREE, 0, 16⟩
abbrev Reg.DISPUTE_EVT : Nat := 0x30c04
abbrev Reg.DISPUTE_EVT_ACK : Nat := 0x30c08
abbrev Reg.SEL_VER : Nat := 0x30c0c

/-- The rows of REFSEL, part 1. -/
def rowsREFSEL1 : List Row := [
  ⟨0x30000, 0x40, 22, 0x0, 1, 1, .rw, [0x77], [], 0, []⟩,
  ⟨0x30004, 0x40, 22, 0x0, 1, 1, .rw, [0xffffffff], [0x27101388], 0, []⟩,
  ⟨0x30008, 0x40, 22, 0x0, 1, 1, .rw, [0xffff], [0xffff], 0, []⟩,
  ⟨0x3000c, 0x40, 22, 0x0, 1, 1, .rw, [0xffff], [0x12c], 0, []⟩,
  ⟨0x30010, 0x40, 22, 0x0, 1, 1, .rw, [0xfff0fff], [0x384012c], 0, []⟩,
  ⟨0x30014, 0x40, 22, 0x0, 1, 1, .rw, [0xffffff], [0x64], 0, []⟩,
  ⟨0x30018, 0x40, 22, 0x0, 1, 1, .rw, [0xf0f], [0xe04], 0, []⟩,
  ⟨0x3001c, 0x40, 22, 0x0, 1, 1, .ro, [], [], 0, []⟩,
  ⟨0x30020, 0x40, 22, 0x0, 1, 2, .ro, [], [], 0, []⟩,
  ⟨0x30028, 0x40, 22, 0x0, 1, 1, .ro, [], [], 0, []⟩,
  ⟨0x3002c, 0x40, 22, 0x0, 1, 1, .ro, [], [], 0, []⟩,
  ⟨0x30030, 0x40, 22, 0x0, 1, 1, .rw, [0xffffffff], [], 0, []⟩,
  ⟨0x30034, 0x40, 22, 0x0, 1, 1, .ro, [], [], 0, []⟩,
  ⟨0x30800, 0x40, 8, 0x0, 1, 1, .rw, [0xffff0003], [0xc80002], 0, []⟩,
  ⟨0x30804, 0x40, 8, 0x0, 1, 1, .rw, [0xffffffff], [], 0, []⟩,
  ⟨0x30808, 0x40, 8, 0x0, 1, 1, .rw, [0xffffffff], [], 0, []⟩,
  ⟨0x3080c, 0x40, 8, 0x0, 1, 1, .rw, [0xffffff], [], 0, []⟩,
  ⟨0x30810, 0x40, 8, 0x0, 1, 1, .rw, [0x1f01], [], 0, []⟩,
  ⟨0x30814, 0x40, 8, 0x0, 1, 1, .ro, [], [0x1f1f], 0, []⟩,
  ⟨0x30818, 0x40, 8, 0x0, 1, 1, .ro, [], [], 0, []⟩,
  ⟨0x3081c, 0x40, 8, 0x0, 1, 1, .ro, [], [], 0, []⟩,
  ⟨0x30820, 0x40, 8, 0x0, 1, 1, .rw, [0xffffffff], [], 0, []⟩,
  ⟨0x30c00, 0x0, 1, 0x0, 1, 1, .rw, [0xffff], [0x3e8], 0, []⟩,
  ⟨0x30c04, 0x0, 1, 0x0, 1, 1, .ro, [], [], 0, []⟩]
/-- The rows of REFSEL, part 2. -/
def rowsREFSEL2 : List Row := [
  ⟨0x30c08, 0x0, 1, 0x0, 1, 1, .rw, [0xffffffff], [], 0, []⟩,
  ⟨0x30c0c, 0x0, 1, 0x0, 1, 1, .ro, [], [], 0, []⟩]
/-- The rows of REFSEL. -/
def rowsREFSEL : List Row := rowsREFSEL1 ++ rowsREFSEL2

/-! ### DPLL -/

abbrev Reg.DPLL_CFG (d : Nat) : Nat := 0x40000 + 0x100 * d
abbrev F.DPLL_CFG_EN (d : Nat) : Fld := ⟨(Reg.DPLL_CFG d), 0, 1⟩
abbrev F.DPLL_CFG_STEER (d : Nat) : Fld := ⟨(Reg.DPLL_CFG d), 1, 2⟩
abbrev F.DPLL_CFG_APLL (d : Nat) : Fld := ⟨(Reg.DPLL_CFG d), 4, 2⟩
abbrev F.DPLL_CFG_TS (d : Nat) : Fld := ⟨(Reg.DPLL_CFG d), 8, 4⟩
abbrev F.DPLL_CFG_JUMP_POL (d : Nat) : Fld := ⟨(Reg.DPLL_CFG d), 12, 1⟩
abbrev F.DPLL_CFG_INIT_STEP (d : Nat) : Fld := ⟨(Reg.DPLL_CFG d), 13, 1⟩
abbrev Reg.DPLL_BW (d : Nat) : Nat := 0x40004 + 0x100 * d
abbrev F.DPLL_BW_BW_CODE (d : Nat) : Fld := ⟨(Reg.DPLL_BW d), 0, 6⟩
abbrev F.DPLL_BW_ACQ_BW_CODE (d : Nat) : Fld := ⟨(Reg.DPLL_BW d), 8, 6⟩
abbrev F.DPLL_BW_DAMP (d : Nat) : Fld := ⟨(Reg.DPLL_BW d), 16, 5⟩
abbrev Reg.DPLL_LOCK (d : Nat) : Nat := 0x40008 + 0x100 * d
abbrev F.DPLL_LOCK_LOCK_THR (d : Nat) : Fld := ⟨(Reg.DPLL_LOCK d), 0, 16⟩
abbrev F.DPLL_LOCK_LOCK_S (d : Nat) : Fld := ⟨(Reg.DPLL_LOCK d), 16, 8⟩
abbrev Reg.DPLL_JUMP (d : Nat) : Nat := 0x4000c + 0x100 * d
abbrev F.DPLL_JUMP_JUMP_THR (d : Nat) : Fld := ⟨(Reg.DPLL_JUMP d), 0, 16⟩
abbrev F.DPLL_JUMP_MAX_SLEW (d : Nat) : Fld := ⟨(Reg.DPLL_JUMP d), 16, 16⟩
abbrev Reg.DPLL_HO_WIN (d : Nat) : Nat := 0x40010 + 0x100 * d
abbrev F.DPLL_HO_WIN_HO_WIN_S (d : Nat) : Fld := ⟨(Reg.DPLL_HO_WIN d), 0, 17⟩
abbrev Reg.DPLL_LOST_TE (d : Nat) : Nat := 0x40014 + 0x100 * d
abbrev F.DPLL_LOST_TE_LOST_TE (d : Nat) : Fld := ⟨(Reg.DPLL_LOST_TE d), 0, 32⟩
abbrev Reg.DPLL_LOST_S (d : Nat) : Nat := 0x40018 + 0x100 * d
abbrev F.DPLL_LOST_S_LOST_S (d : Nat) : Fld := ⟨(Reg.DPLL_LOST_S d), 0, 32⟩
abbrev Reg.DPLL_CMD (d : Nat) : Nat := 0x4001c + 0x100 * d
abbrev Reg.DPLL_STATUS (d : Nat) : Nat := 0x40024 + 0x100 * d
abbrev F.DPLL_STATUS_STATE (d : Nat) : Fld := ⟨(Reg.DPLL_STATUS d), 0, 3⟩
abbrev F.DPLL_STATUS_SERVO_ABSENT (d : Nat) : Fld := ⟨(Reg.DPLL_STATUS d), 3, 1⟩
abbrev F.DPLL_STATUS_SEL_ABSENT (d : Nat) : Fld := ⟨(Reg.DPLL_STATUS d), 4, 1⟩
abbrev F.DPLL_STATUS_HO_SHORT (d : Nat) : Fld := ⟨(Reg.DPLL_STATUS d), 5, 1⟩
abbrev F.DPLL_STATUS_HO_FORCED (d : Nat) : Fld := ⟨(Reg.DPLL_STATUS d), 6, 1⟩
abbrev F.DPLL_STATUS_STEP_WAIT (d : Nat) : Fld := ⟨(Reg.DPLL_STATUS d), 7, 1⟩
abbrev F.DPLL_STATUS_PULL_LIM (d : Nat) : Fld := ⟨(Reg.DPLL_STATUS d), 8, 1⟩
abbrev F.DPLL_STATUS_BW_CLAMPED (d : Nat) : Fld := ⟨(Reg.DPLL_STATUS d), 9, 1⟩
abbrev F.DPLL_STATUS_CFG_CONFLICT (d : Nat) : Fld := ⟨(Reg.DPLL_STATUS d), 10, 1⟩
abbrev F.DPLL_STATUS_TB_COLD (d : Nat) : Fld := ⟨(Reg.DPLL_STATUS d), 11, 1⟩
abbrev F.DPLL_STATUS_MODEL_VALID (d : Nat) : Fld := ⟨(Reg.DPLL_STATUS d), 12, 1⟩
abbrev F.DPLL_STATUS_REF (d : Nat) : Fld := ⟨(Reg.DPLL_STATUS d), 16, 5⟩
abbrev Reg.DPLL_PHERR (d : Nat) : Nat := 0x40028 + 0x100 * d
abbrev Reg.DPLL_FREQ (d : Nat) : Nat := 0x4002c + 0x100 * d
abbrev Reg.DPLL_TE_EST (d : Nat) : Nat := 0x40034 + 0x100 * d
abbrev Reg.DPLL_HO_DUR (d : Nat) : Nat := 0x40038 + 0x100 * d
abbrev Reg.DPLL_STEP_PEND (d : Nat) : Nat := 0x4003c + 0x100 * d
abbrev Reg.DPLL_EVT (d : Nat) : Nat := 0x40044 + 0x100 * d
abbrev Reg.DPLL_EVT_ACK (d : Nat) : Nat := 0x40048 + 0x100 * d
abbrev Reg.DPLL_CMD_REF (d : Nat) : Nat := 0x4004c + 0x100 * d
abbrev Reg.HO_Y_AVG (d : Nat) : Nat := 0x40060 + 0x100 * d
abbrev Reg.HO_AGE (d : Nat) : Nat := 0x40068 + 0x100 * d
abbrev Reg.HO_KC (d : Nat) : Nat := 0x4006c + 0x100 * d
abbrev Reg.HO_KD (d : Nat) : Nat := 0x40070 + 0x100 * d
abbrev Reg.HO_UNC_Y (d : Nat) : Nat := 0x40074 + 0x100 * d
abbrev Reg.HO_UNC_A (d : Nat) : Nat := 0x40078 + 0x100 * d
abbrev Reg.HO_UNC_K (d : Nat) : Nat := 0x4007c + 0x100 * d
abbrev Reg.HO_TE0 (d : Nat) : Nat := 0x40080 + 0x100 * d
abbrev Reg.HO_CTRL (d : Nat) : Nat := 0x40084 + 0x100 * d
abbrev F.HO_CTRL_MODEL_OK (d : Nat) : Fld := ⟨(Reg.HO_CTRL d), 0, 1⟩
abbrev Reg.SERVO_ITER0 : Nat := 0x40800
abbrev Reg.SERVO_ITER1 : Nat := 0x40804
abbrev Reg.DPLL_VER : Nat := 0x40808

/-- The rows of DPLL, part 1. -/
def rowsDPLL1 : List Row := [
  ⟨0x40000, 0x100, 8, 0x0, 1, 1, .rw, [0x3f37], [0x2000], 1, [0x2002]⟩,
  ⟨0x40004, 0x100, 8, 0x0, 1, 1, .rw, [0x1f3f3f], [0x143228], 0, []⟩,
  ⟨0x40008, 0x100, 8, 0x0, 1, 1, .rw, [0xffffff], [0xa0064], 0, []⟩,
  ⟨0x4000c, 0x100, 8, 0x0, 1, 1, .rw, [0xffffffff], [0x3e80032], 0, []⟩,
  ⟨0x40010, 0x100, 8, 0x0, 1, 1, .rw, [0x1ffff], [0xe10], 0, []⟩,
  ⟨0x40014, 0x100, 8, 0x0, 1, 1, .rw, [0xffffffff], [0x5dc], 0, []⟩,
  ⟨0x40018, 0x100, 8, 0x0, 1, 1, .rw, [0xffffffff], [0x15180], 0, []⟩,
  ⟨0x4001c, 0x100, 8, 0x0, 1, 1, .gd, [0xf], [], 0, []⟩,
  ⟨0x40024, 0x100, 8, 0x0, 1, 1, .ro, [], [0x1f0000], 0, []⟩,
  ⟨0x40028, 0x100, 8, 0x0, 1, 1, .ro, [], [], 0, []⟩,
  ⟨0x4002c, 0x100, 8, 0x0, 1, 2, .ro, [], [], 0, []⟩,
  ⟨0x40034, 0x100, 8, 0x0, 1, 1, .ro, [], [], 0, []⟩,
  ⟨0x40038, 0x100, 8, 0x0, 1, 1, .ro, [], [], 0, []⟩,
  ⟨0x4003c, 0x100, 8, 0x0, 1, 2, .ro, [], [], 0, []⟩,
  ⟨0x40044, 0x100, 8, 0x0, 1, 1, .ro, [], [], 0, []⟩,
  ⟨0x40048, 0x100, 8, 0x0, 1, 1, .rw, [0xffffffff], [], 0, []⟩,
  ⟨0x4004c, 0x100, 8, 0x0, 1, 1, .ro, [], [], 0, []⟩,
  ⟨0x40060, 0x100, 8, 0x0, 1, 2, .ro, [], [], 0, []⟩,
  ⟨0x40068, 0x100, 8, 0x0, 1, 1, .se, [0xffffffff], [], 0, []⟩,
  ⟨0x4006c, 0x100, 8, 0x0, 1, 1, .se, [0xffffffff], [], 0, []⟩,
  ⟨0x40070, 0x100, 8, 0x0, 1, 1, .se, [0xffffffff], [], 0, []⟩,
  ⟨0x40074, 0x100, 8, 0x0, 1, 1, .se, [0xffffffff], [0x44b83], 0, []⟩,
  ⟨0x40078, 0x100, 8, 0x0, 1, 1, .se, [0xffffffff], [], 0, []⟩,
  ⟨0x4007c, 0x100, 8, 0x0, 1, 1, .se, [0xffffffff], [0x6df3], 0, []⟩]
/-- The rows of DPLL, part 2. -/
def rowsDPLL2 : List Row := [
  ⟨0x40080, 0x100, 8, 0x0, 1, 1, .se, [0xffffffff], [0x14], 0, []⟩,
  ⟨0x40084, 0x100, 8, 0x0, 1, 1, .se, [1], [], 0, []⟩,
  ⟨0x40800, 0x0, 1, 0x0, 1, 1, .ro, [], [], 0, []⟩,
  ⟨0x40804, 0x0, 1, 0x0, 1, 1, .ro, [], [], 0, []⟩,
  ⟨0x40808, 0x0, 1, 0x0, 1, 1, .ro, [], [], 0, []⟩]
/-- The rows of DPLL. -/
def rowsDPLL : List Row := rowsDPLL1 ++ rowsDPLL2

/-! ### TIME -/

abbrev Reg.MTC_NOW : Nat := 0x50000
abbrev Reg.MTC_INC : Nat := 0x50010
abbrev Reg.MTC_STATUS : Nat := 0x50018
abbrev F.MTC_STATUS_SLOW : Fld := ⟨Reg.MTC_STATUS, 0, 1⟩
abbrev F.MTC_STATUS_RESTORED : Fld := ⟨Reg.MTC_STATUS, 1, 1⟩
abbrev Reg.PC_TRACK (p : Nat) : Nat := 0x50020 + 0x4 * p
abbrev F.PC_TRACK_SYNC (p : Nat) : Fld := ⟨(Reg.PC_TRACK p), 16, 1⟩
abbrev F.PC_TRACK_DELTA (p : Nat) : Fld := ⟨(Reg.PC_TRACK p), 0, 16⟩
abbrev Reg.TIME_SNAP : Nat := 0x50040
abbrev F.TIME_SNAP_GO : Fld := ⟨Reg.TIME_SNAP, 0, 1⟩
abbrev F.TIME_SNAP_DONE : Fld := ⟨Reg.TIME_SNAP, 1, 1⟩
abbrev Reg.SNAP_MTC : Nat := 0x50044
abbrev Reg.SNAP_TS (t : Nat) : Nat := 0x50100 + 0x10 * t
abbrev Reg.TS_CFG (t : Nat) : Nat := 0x50400 + 0x80 * t
abbrev F.TS_CFG_EN (t : Nat) : Fld := ⟨(Reg.TS_CFG t), 0, 1⟩
abbrev F.TS_CFG_SCALE (t : Nat) : Fld := ⟨(Reg.TS_CFG t), 1, 1⟩
abbrev F.TS_CFG_LINK (t : Nat) : Fld := ⟨(Reg.TS_CFG t), 2, 1⟩
abbrev Reg.TS_TIME (t : Nat) : Nat := 0x50404 + 0x80 * t
abbrev Reg.TS_UTC (t : Nat) : Nat := 0x50414 + 0x80 * t
abbrev F.TS_UTC_UTC_OFF (t : Nat) : Fld := ⟨(Reg.TS_UTC t), 0, 16⟩
abbrev F.TS_UTC_LEAP_PEND (t : Nat) : Fld := ⟨(Reg.TS_UTC t), 16, 1⟩
abbrev F.TS_UTC_LEAP_DIR (t : Nat) : Fld := ⟨(Reg.TS_UTC t), 17, 1⟩
abbrev F.TS_UTC_INSERTED (t : Nat) : Fld := ⟨(Reg.TS_UTC t), 18, 1⟩
abbrev F.TS_UTC_TRACEABLE (t : Nat) : Fld := ⟨(Reg.TS_UTC t), 19, 1⟩
abbrev F.TS_UTC_DPLL_STATE (t : Nat) : Fld := ⟨(Reg.TS_UTC t), 20, 3⟩
abbrev F.TS_UTC_GOV (t : Nat) : Fld := ⟨(Reg.TS_UTC t), 24, 4⟩
abbrev Reg.TS_ERR (t : Nat) : Nat := 0x50418 + 0x80 * t
abbrev Reg.TS_RATE (t : Nat) : Nat := 0x5041c + 0x80 * t
abbrev Reg.TS_ARG (t : Nat) : Nat := 0x50424 + 0x80 * t
abbrev Reg.TS_CMD (t : Nat) : Nat := 0x50434 + 0x80 * t
abbrev Reg.TS_HRATE (t : Nat) : Nat := 0x5043c + 0x80 * t
abbrev Reg.TS_UTC_CFG (t : Nat) : Nat := 0x50444 + 0x80 * t
abbrev F.TS_UTC_CFG_UTC_OFF (t : Nat) : Fld := ⟨(Reg.TS_UTC_CFG t), 0, 16⟩
abbrev Reg.TS_LEAP_AT (t : Nat) : Nat := 0x50448 + 0x80 * t
abbrev Reg.TS_LEAP_CFG (t : Nat) : Nat := 0x50450 + 0x80 * t
abbrev F.TS_LEAP_CFG_ARMED (t : Nat) : Fld := ⟨(Reg.TS_LEAP_CFG t), 0, 1⟩
abbrev F.TS_LEAP_CFG_DIR (t : Nat) : Fld := ⟨(Reg.TS_LEAP_CFG t), 1, 1⟩
abbrev F.TS_LEAP_CFG_ANNOUNCE_S (t : Nat) : Fld := ⟨(Reg.TS_LEAP_CFG t), 8, 24⟩
abbrev Reg.TS_EVT (t : Nat) : Nat := 0x50454 + 0x80 * t
abbrev Reg.TS_EVT_ACK (t : Nat) : Nat := 0x50458 + 0x80 * t
abbrev Reg.TS_CMD_REF (t : Nat) : Nat := 0x5045c + 0x80 * t
abbrev Reg.TRG_CFG (i : Nat) : Nat := 0x51000 + 0x80 * i
abbrev F.TRG_CFG_PERIODIC (i : Nat) : Fld := ⟨(Reg.TRG_CFG i), 0, 1⟩
abbrev F.TRG_CFG_TS (i : Nat) : Fld := ⟨(Reg.TRG_CFG i), 1, 4⟩
abbrev F.TRG_CFG_PE (i : Nat) : Fld := ⟨(Reg.TRG_CFG i), 8, 4⟩
abbrev F.TRG_CFG_TE (i : Nat) : Fld := ⟨(Reg.TRG_CFG i), 12, 1⟩
abbrev Reg.TRG_AT (i : Nat) : Nat := 0x51004 + 0x80 * i
abbrev Reg.TRG_PERIOD (i : Nat) : Nat := 0x51014 + 0x80 * i
abbrev Reg.TRG_CMD (i : Nat) : Nat := 0x51020 + 0x80 * i
abbrev Reg.TRG_NEXT (i : Nat) : Nat := 0x51028 + 0x80 * i
abbrev Reg.TRG_STATUS (i : Nat) : Nat := 0x51038 + 0x80 * i
abbrev F.TRG_STATUS_ARMED (i : Nat) : Fld := ⟨(Reg.TRG_STATUS i), 0, 1⟩
abbrev F.TRG_STATUS_LATE (i : Nat) : Fld := ⟨(Reg.TRG_STATUS i), 1, 1⟩
abbrev F.TRG_STATUS_MISALIGNED (i : Nat) : Fld := ⟨(Reg.TRG_STATUS i), 2, 1⟩
abbrev F.TRG_STATUS_PER_CLAMP (i : Nat) : Fld := ⟨(Reg.TRG_STATUS i), 3, 1⟩
abbrev F.TRG_STATUS_ARM_REF (i : Nat) : Fld := ⟨(Reg.TRG_STATUS i), 4, 1⟩
abbrev F.TRG_STATUS_MISSED (i : Nat) : Fld := ⟨(Reg.TRG_STATUS i), 16, 16⟩
abbrev Reg.TRG_EVT (i : Nat) : Nat := 0x5103c + 0x80 * i
abbrev Reg.TRG_EVT_ACK (i : Nat) : Nat := 0x51040 + 0x80 * i
abbrev Reg.TRG_SKEW (i : Nat) : Nat := 0x51044 + 0x80 * i
abbrev Reg.TRIG_PIN (k : Nat) : Nat := 0x51800 + 0x4 * k
abbrev F.TRIG_PIN_TRG (k : Nat) : Fld := ⟨(Reg.TRIG_PIN k), 0, 4⟩
abbrev F.TRIG_PIN_EN (k : Nat) : Fld := ⟨(Reg.TRIG_PIN k), 4, 1⟩
abbrev F.TRIG_PIN_POL (k : Nat) : Fld := ⟨(Reg.TRIG_PIN k), 5, 1⟩
abbrev F.TRIG_PIN_WIDTH (k : Nat) : Fld := ⟨(Reg.TRIG_PIN k), 8, 24⟩

/-- The rows of TIME, part 1. -/
def rowsTIME1 : List Row := [
  ⟨0x50000, 0x0, 1, 0x0, 1, 4, .ro, [], [], 0, []⟩,
  ⟨0x50010, 0x0, 1, 0x0, 1, 2, .ro, [], [0, 0x200], 0, []⟩,
  ⟨0x50018, 0x0, 1, 0x0, 1, 1, .ro, [], [], 0, []⟩,
  ⟨0x50020, 0x4, 4, 0x0, 1, 1, .ro, [], [], 0, []⟩,
  ⟨0x50040, 0x0, 1, 0x0, 1, 1, .wo, [1], [], 0, []⟩,
  ⟨0x50044, 0x0, 1, 0x0, 1, 4, .ro, [], [], 0, []⟩,
  ⟨0x50100, 0x10, 16, 0x0, 1, 4, .ro, [], [], 0, []⟩,
  ⟨0x50400, 0x80, 16, 0x0, 1, 1, .rw, [7], [4], 1, [5]⟩,
  ⟨0x50404, 0x80, 16, 0x0, 1, 4, .ro, [], [], 0, []⟩,
  ⟨0x50414, 0x80, 16, 0x0, 1, 1, .ro, [], [], 0, []⟩,
  ⟨0x50418, 0x80, 16, 0x0, 1, 1, .ro, [], [0xffffffff], 0, []⟩,
  ⟨0x5041c, 0x80, 16, 0x0, 1, 2, .ro, [], [], 0, []⟩,
  ⟨0x50424, 0x80, 16, 0x0, 1, 4, .rw, [0xffffffff, 0x3fffffff, 0xffffffff, 0xffffffff], [], 0, []⟩,
  ⟨0x50434, 0x80, 16, 0x0, 1, 1, .gd, [0xf], [], 0, []⟩,
  ⟨0x5043c, 0x80, 16, 0x0, 1, 2, .rw, [0xffffffff, 0xffffffff], [], 0, []⟩,
  ⟨0x50444, 0x80, 16, 0x0, 1, 1, .rw, [0xffff], [], 0, []⟩,
  ⟨0x50448, 0x80, 16, 0x0, 1, 2, .rw, [0xffffffff, 0xffffffff], [], 0, []⟩,
  ⟨0x50450, 0x80, 16, 0x0, 1, 1, .rw, [0xffffff03], [0xa8c000], 0, []⟩,
  ⟨0x50454, 0x80, 16, 0x0, 1, 1, .ro, [], [], 0, []⟩,
  ⟨0x50458, 0x80, 16, 0x0, 1, 1, .rw, [0xffffffff], [], 0, []⟩,
  ⟨0x5045c, 0x80, 16, 0x0, 1, 1, .ro, [], [], 0, []⟩,
  ⟨0x51000, 0x80, 16, 0x0, 1, 1, .rw, [0x1f1f], [], 0, []⟩,
  ⟨0x51004, 0x80, 16, 0x0, 1, 4, .rw, [0xffffffff, 0x3fffffff, 0xffffffff, 0xffffffff], [], 0, []⟩,
  ⟨0x51014, 0x80, 16, 0x0, 1, 3, .rw, [0xffffffff, 0xffffffff, 0xffff], [], 0, []⟩]
/-- The rows of TIME, part 2. -/
def rowsTIME2 : List Row := [
  ⟨0x51020, 0x80, 16, 0x0, 1, 1, .gd, [0xf], [], 0, []⟩,
  ⟨0x51028, 0x80, 16, 0x0, 1, 4, .ro, [], [], 0, []⟩,
  ⟨0x51038, 0x80, 16, 0x0, 1, 1, .ro, [], [], 0, []⟩,
  ⟨0x5103c, 0x80, 16, 0x0, 1, 1, .ro, [], [], 0, []⟩,
  ⟨0x51040, 0x80, 16, 0x0, 1, 1, .rw, [0xffffffff], [], 0, []⟩,
  ⟨0x51044, 0x80, 16, 0x0, 1, 2, .ro, [], [], 0, []⟩,
  ⟨0x51800, 0x4, 4, 0x0, 1, 1, .rw, [0xffffff3f], [], 0, []⟩]
/-- The rows of TIME. -/
def rowsTIME : List Row := rowsTIME1 ++ rowsTIME2

/-! ### SYNTH -/

abbrev Reg.APLL_CFG (a : Nat) : Nat := 0x60000 + 0x40 * a
abbrev F.APLL_CFG_PFDSEL (a : Nat) : Fld := ⟨(Reg.APLL_CFG a), 0, 2⟩
abbrev F.APLL_CFG_EN (a : Nat) : Fld := ⟨(Reg.APLL_CFG a), 2, 1⟩
abbrev Reg.APLL_FREQ (a : Nat) : Nat := 0x60004 + 0x40 * a
abbrev Reg.APLL_SLOPE (a : Nat) : Nat := 0x60010 + 0x40 * a
abbrev Reg.ALIGN_DIV (a : Nat) : Nat := 0x60014 + 0x40 * a
abbrev Reg.APLL_CMD (a : Nat) : Nat := 0x60018 + 0x40 * a
abbrev Reg.APLL_STATUS (a : Nat) : Nat := 0x60020 + 0x40 * a
abbrev F.APLL_STATUS_STATE (a : Nat) : Fld := ⟨(Reg.APLL_STATUS a), 0, 3⟩
abbrev F.APLL_STATUS_VCO_RANGE (a : Nat) : Fld := ⟨(Reg.APLL_STATUS a), 3, 1⟩
abbrev F.APLL_STATUS_BAND (a : Nat) : Fld := ⟨(Reg.APLL_STATUS a), 4, 6⟩
abbrev F.APLL_STATUS_STEERED (a : Nat) : Fld := ⟨(Reg.APLL_STATUS a), 10, 1⟩
abbrev F.APLL_STATUS_COMMIT_PEND (a : Nat) : Fld := ⟨(Reg.APLL_STATUS a), 11, 1⟩
abbrev F.APLL_STATUS_FREQ_PEND (a : Nat) : Fld := ⟨(Reg.APLL_STATUS a), 12, 1⟩
abbrev Reg.APLL_VCO (a : Nat) : Nat := 0x60024 + 0x40 * a
abbrev Reg.APLL_EVT (a : Nat) : Nat := 0x60028 + 0x40 * a
abbrev Reg.APLL_EVT_ACK (a : Nat) : Nat := 0x6002c + 0x40 * a
abbrev Reg.APLL_REF (a : Nat) : Nat := 0x60030 + 0x40 * a
abbrev Reg.ALIGN_DIV_ACT (a : Nat) : Nat := 0x60034 + 0x40 * a
abbrev Reg.OUT_CFG (o : Nat) : Nat := 0x60400 + 0x40 * o
abbrev F.OUT_CFG_EN (o : Nat) : Fld := ⟨(Reg.OUT_CFG o), 0, 1⟩
abbrev F.OUT_CFG_APLL (o : Nat) : Fld := ⟨(Reg.OUT_CFG o), 1, 2⟩
abbrev F.OUT_CFG_FMT (o : Nat) : Fld := ⟨(Reg.OUT_CFG o), 3, 3⟩
abbrev F.OUT_CFG_MODE (o : Nat) : Fld := ⟨(Reg.OUT_CFG o), 6, 1⟩
abbrev F.OUT_CFG_POLICY (o : Nat) : Fld := ⟨(Reg.OUT_CFG o), 7, 1⟩
abbrev F.OUT_CFG_L1_KEEP (o : Nat) : Fld := ⟨(Reg.OUT_CFG o), 8, 1⟩
abbrev F.OUT_CFG_INV (o : Nat) : Fld := ⟨(Reg.OUT_CFG o), 9, 1⟩
abbrev F.OUT_CFG_TRG (o : Nat) : Fld := ⟨(Reg.OUT_CFG o), 12, 4⟩
abbrev F.OUT_CFG_PH_RATE (o : Nat) : Fld := ⟨(Reg.OUT_CFG o), 16, 4⟩
abbrev Reg.OUT_DIV (o : Nat) : Nat := 0x60404 + 0x40 * o
abbrev Reg.OUT_DIV_ACT (o : Nat) : Nat := 0x60408 + 0x40 * o
abbrev Reg.OUT_PHASE (o : Nat) : Nat := 0x6040c + 0x40 * o
abbrev Reg.OUT_PHASE_ACT (o : Nat) : Nat := 0x60410 + 0x40 * o
abbrev Reg.OUT_PULSE (o : Nat) : Nat := 0x60414 + 0x40 * o
abbrev F.OUT_PULSE_WIDTH (o : Nat) : Fld := ⟨(Reg.OUT_PULSE o), 0, 30⟩
abbrev Reg.OUT_HO (o : Nat) : Nat := 0x60418 + 0x40 * o
abbrev F.OUT_HO_HO_APLL (o : Nat) : Fld := ⟨(Reg.OUT_HO o), 0, 2⟩
abbrev F.OUT_HO_HO_DIV (o : Nat) : Fld := ⟨(Reg.OUT_HO o), 8, 24⟩
abbrev Reg.OUT_LEVEL (o : Nat) : Nat := 0x6041c + 0x40 * o
abbrev F.OUT_LEVEL_VOD (o : Nat) : Fld := ⟨(Reg.OUT_LEVEL o), 0, 2⟩
abbrev Reg.OUT_STATUS (o : Nat) : Nat := 0x60420 + 0x40 * o
abbrev F.OUT_STATUS_RUNNING (o : Nat) : Fld := ⟨(Reg.OUT_STATUS o), 0, 1⟩
abbrev F.OUT_STATUS_HANDED_OVER (o : Nat) : Fld := ⟨(Reg.OUT_STATUS o), 1, 1⟩
abbrev F.OUT_STATUS_HO_FAILED (o : Nat) : Fld := ⟨(Reg.OUT_STATUS o), 2, 1⟩
abbrev F.OUT_STATUS_STEPPING (o : Nat) : Fld := ⟨(Reg.OUT_STATUS o), 3, 1⟩
abbrev F.OUT_STATUS_L1_DROPPED (o : Nat) : Fld := ⟨(Reg.OUT_STATUS o), 4, 1⟩
abbrev F.OUT_STATUS_PULSES_LOST (o : Nat) : Fld := ⟨(Reg.OUT_STATUS o), 16, 16⟩
abbrev Reg.OUT_EVT (o : Nat) : Nat := 0x60424 + 0x40 * o
abbrev Reg.OUT_EVT_ACK (o : Nat) : Nat := 0x60428 + 0x40 * o

/-- The rows of SYNTH. -/
def rowsSYNTH : List Row := [
  ⟨0x60000, 0x40, 4, 0x0, 1, 1, .rw0, [7], [], 1, [4]⟩,
  ⟨0x60004, 0x40, 4, 0x0, 1, 3, .rw0, [0xffffffff, 0xffff, 0x3ff0000], [0, 0, 0xc80000], 1, [0, 0xc000, 0xda0000]⟩,
  ⟨0x60010, 0x40, 4, 0x0, 1, 1, .rw, [0xffff], [0x3e8], 0, []⟩,
  ⟨0x60014, 0x40, 4, 0x0, 1, 1, .rw, [0xffffffff], [0xf4240], 0, []⟩,
  ⟨0x60018, 0x40, 4, 0x0, 1, 1, .gd, [0xf], [], 0, []⟩,
  ⟨0x60020, 0x40, 4, 0x0, 1, 1, .ro, [], [], 0, []⟩,
  ⟨0x60024, 0x40, 4, 0x0, 1, 1, .ro, [], [], 0, []⟩,
  ⟨0x60028, 0x40, 4, 0x0, 1, 1, .ro, [], [], 0, []⟩,
  ⟨0x6002c, 0x40, 4, 0x0, 1, 1, .rw, [0xffffffff], [], 0, []⟩,
  ⟨0x60030, 0x40, 4, 0x0, 1, 1, .ro, [], [], 0, []⟩,
  ⟨0x60034, 0x40, 4, 0x0, 1, 1, .ro, [], [0xf4240], 0, []⟩,
  ⟨0x60400, 0x40, 16, 0x0, 1, 1, .rw, [0xff3ff], [0x60000], 0, []⟩,
  ⟨0x60404, 0x40, 16, 0x0, 1, 1, .rw, [0xffffff], [0x40], 0, []⟩,
  ⟨0x60408, 0x40, 16, 0x0, 1, 1, .ro, [], [0x40], 0, []⟩,
  ⟨0x6040c, 0x40, 16, 0x0, 1, 1, .rw, [0xffffffff], [], 0, []⟩,
  ⟨0x60410, 0x40, 16, 0x0, 1, 1, .ro, [], [], 0, []⟩,
  ⟨0x60414, 0x40, 16, 0x0, 1, 1, .rw, [0x3fffffff], [0x5f5e100], 0, []⟩,
  ⟨0x60418, 0x40, 16, 0x0, 1, 1, .rw, [0xffffff03], [0x4000], 0, []⟩,
  ⟨0x6041c, 0x40, 16, 0x0, 1, 1, .rw, [0x33], [0x11], 0, []⟩,
  ⟨0x60420, 0x40, 16, 0x0, 1, 1, .ro, [], [], 0, []⟩,
  ⟨0x60424, 0x40, 16, 0x0, 1, 1, .ro, [], [], 0, []⟩,
  ⟨0x60428, 0x40, 16, 0x0, 1, 1, .rw, [0xffffffff], [], 0, []⟩]

/-! ### GNSS -/

abbrev Reg.GFE_CTRL : Nat := 0x70000
abbrev F.GFE_CTRL_EN : Fld := ⟨Reg.GFE_CTRL, 0, 1⟩
abbrev F.GFE_CTRL_DIV : Fld := ⟨Reg.GFE_CTRL, 1, 2⟩
abbrev F.GFE_CTRL_EDGE : Fld := ⟨Reg.GFE_CTRL, 3, 1⟩
abbrev F.GFE_CTRL_FMT : Fld := ⟨Reg.GFE_CTRL, 4, 1⟩
abbrev Reg.GSCLK_MON : Nat := 0x70004
abbrev F.GSCLK_MON_ACTIVE : Fld := ⟨Reg.GSCLK_MON, 0, 1⟩
abbrev F.GSCLK_MON_FREQ_ERR : Fld := ⟨Reg.GSCLK_MON, 1, 1⟩
abbrev F.GSCLK_MON_OFFSET : Fld := ⟨Reg.GSCLK_MON, 16, 16⟩
abbrev Reg.GNSS_CTRL : Nat := 0x70008
abbrev F.GNSS_CTRL_BB_EN : Fld := ⟨Reg.GNSS_CTRL, 0, 1⟩
abbrev F.GNSS_CTRL_PPS_EN : Fld := ⟨Reg.GNSS_CTRL, 1, 1⟩
abbrev F.GNSS_CTRL_GPS : Fld := ⟨Reg.GNSS_CTRL, 8, 1⟩
abbrev F.GNSS_CTRL_GAL : Fld := ⟨Reg.GNSS_CTRL, 9, 1⟩
abbrev F.GNSS_CTRL_BDS : Fld := ⟨Reg.GNSS_CTRL, 10, 1⟩
abbrev Reg.ANT_DELAY : Nat := 0x7000c
abbrev Reg.SURVEY_CFG : Nat := 0x70010
abbrev F.SURVEY_CFG_SURVEY_S : Fld := ⟨Reg.SURVEY_CFG, 0, 20⟩
abbrev Reg.SURVEY_ACC : Nat := 0x70014
abbrev F.SURVEY_ACC_MM : Fld := ⟨Reg.SURVEY_ACC, 0, 16⟩
abbrev Reg.POS_X : Nat := 0x70018
abbrev Reg.POS_Y : Nat := 0x7001c
abbrev Reg.POS_Z : Nat := 0x70020
abbrev Reg.POS_CMD : Nat := 0x70024
abbrev Reg.RX_STATUS : Nat := 0x7002c
abbrev F.RX_STATUS_STATE : Fld := ⟨Reg.RX_STATUS, 0, 3⟩
abbrev F.RX_STATUS_BURST : Fld := ⟨Reg.RX_STATUS, 3, 1⟩
abbrev F.RX_STATUS_CHANS : Fld := ⟨Reg.RX_STATUS, 8, 8⟩
abbrev F.RX_STATUS_MINUTES : Fld := ⟨Reg.RX_STATUS, 16, 16⟩
abbrev Reg.SOL_TAI : Nat := 0x70030
abbrev Reg.SOL_PPS_CORR : Nat := 0x70038
abbrev Reg.SOL_DRIFT : Nat := 0x7003c
abbrev Reg.SOL_QUAL : Nat := 0x70044
abbrev F.SOL_QUAL_QUAL : Fld := ⟨Reg.SOL_QUAL, 0, 3⟩
abbrev F.SOL_QUAL_NSAT : Fld := ⟨Reg.SOL_QUAL, 8, 8⟩
abbrev F.SOL_QUAL_PDOP : Fld := ⟨Reg.SOL_QUAL, 16, 8⟩
abbrev F.SOL_QUAL_NEXCL : Fld := ⟨Reg.SOL_QUAL, 24, 8⟩
abbrev Reg.SOL_TERR : Nat := 0x70048
abbrev Reg.SOL_UTC : Nat := 0x7004c
abbrev F.SOL_UTC_LEAP_ANN : Fld := ⟨Reg.SOL_UTC, 16, 1⟩
abbrev F.SOL_UTC_LEAP_DIR : Fld := ⟨Reg.SOL_UTC, 17, 1⟩
abbrev F.SOL_UTC_UTC : Fld := ⟨Reg.SOL_UTC, 0, 16⟩
abbrev Reg.SOL_SEQ : Nat := 0x70050
abbrev Reg.SOL_SEQ_ACK : Nat := 0x70054
abbrev Reg.GNSS_EVT : Nat := 0x70058
abbrev Reg.GNSS_EVT_ACK : Nat := 0x7005c
abbrev Reg.POS_CMD_REF : Nat := 0x70060
abbrev Reg.GNSS_VER : Nat := 0x70064
abbrev F.GNSS_VER_PPS_PATH : Fld := ⟨Reg.GNSS_VER, 16, 15⟩
abbrev Reg.SOL_LEAP_AT : Nat := 0x70068
abbrev Reg.GNSS_CH_STATUS (c : Nat) : Nat := 0x70100 + 0x4 * c
abbrev F.GNSS_CH_STATUS_USED (c : Nat) : Fld := ⟨(Reg.GNSS_CH_STATUS c), 24, 1⟩

/-- The rows of GNSS, part 1. -/
def rowsGNSS1 : List Row := [
  ⟨0x70000, 0x0, 1, 0x0, 1, 1, .rw, [0x1f], [], 0, []⟩,
  ⟨0x70004, 0x0, 1, 0x0, 1, 1, .ro, [], [], 0, []⟩,
  ⟨0x70008, 0x0, 1, 0x0, 1, 1, .rw, [0x703], [0x700], 0, []⟩,
  ⟨0x7000c, 0x0, 1, 0x0, 1, 1, .rw, [0xffffffff], [], 0, []⟩,
  ⟨0x70010, 0x0, 1, 0x0, 1, 1, .rw, [0xfffff], [0xe10], 0, []⟩,
  ⟨0x70014, 0x0, 1, 0x0, 1, 1, .rw, [0xffff], [0x7d0], 0, []⟩,
  ⟨0x70018, 0x0, 1, 0x0, 1, 1, .rw, [0xffffffff], [], 0, []⟩,
  ⟨0x7001c, 0x0, 1, 0x0, 1, 1, .rw, [0xffffffff], [], 0, []⟩,
  ⟨0x70020, 0x0, 1, 0x0, 1, 1, .rw, [0xffffffff], [], 0, []⟩,
  ⟨0x70024, 0x0, 1, 0x0, 1, 1, .gd, [0xf], [], 0, []⟩,
  ⟨0x7002c, 0x0, 1, 0x0, 1, 1, .se, [0xffffff0f], [], 0, []⟩,
  ⟨0x70030, 0x0, 1, 0x0, 1, 2, .se, [0xffffffff, 0xffffffff], [], 0, []⟩,
  ⟨0x70038, 0x0, 1, 0x0, 1, 1, .se, [0xffffffff], [], 0, []⟩,
  ⟨0x7003c, 0x0, 1, 0x0, 1, 2, .se, [0xffffffff, 0xffffffff], [], 0, []⟩,
  ⟨0x70044, 0x0, 1, 0x0, 1, 1, .se, [0xffffff07], [], 0, []⟩,
  ⟨0x70048, 0x0, 1, 0x0, 1, 1, .se, [0xffffffff], [0xffffffff], 0, []⟩,
  ⟨0x7004c, 0x0, 1, 0x0, 1, 1, .se, [0x3ffff], [], 0, []⟩,
  ⟨0x70050, 0x0, 1, 0x0, 1, 1, .ro, [], [], 0, []⟩,
  ⟨0x70054, 0x0, 1, 0x0, 1, 1, .rw, [0xffffffff], [], 0, []⟩,
  ⟨0x70058, 0x0, 1, 0x0, 1, 1, .ro, [], [], 0, []⟩,
  ⟨0x7005c, 0x0, 1, 0x0, 1, 1, .rw, [0xffffffff], [], 0, []⟩,
  ⟨0x70060, 0x0, 1, 0x0, 1, 1, .ro, [], [], 0, []⟩,
  ⟨0x70064, 0x0, 1, 0x0, 1, 1, .ro, [], [0x73a0000], 0, []⟩,
  ⟨0x70068, 0x0, 1, 0x0, 1, 2, .se, [0xffffffff, 0xffffffff], [], 0, []⟩]
/-- The rows of GNSS, part 2. -/
def rowsGNSS2 : List Row := [
  ⟨0x70100, 0x4, 48, 0x0, 1, 1, .ro, [], [], 0, []⟩]
/-- The rows of GNSS. -/
def rowsGNSS : List Row := rowsGNSS1 ++ rowsGNSS2

/-! ### PORT -/

abbrev Reg.PORT_CFG (p : Nat) : Nat := 0x80000 + 0x1000 * p
abbrev F.PORT_CFG_EN (p : Nat) : Fld := ⟨(Reg.PORT_CFG p), 0, 1⟩
abbrev F.PORT_CFG_MODE (p : Nat) : Fld := ⟨(Reg.PORT_CFG p), 1, 2⟩
abbrev F.PORT_CFG_FEC_ALLOW (p : Nat) : Fld := ⟨(Reg.PORT_CFG p), 3, 2⟩
abbrev F.PORT_CFG_AN_EN (p : Nat) : Fld := ⟨(Reg.PORT_CFG p), 5, 1⟩
abbrev F.PORT_CFG_TRAIN_EN (p : Nat) : Fld := ⟨(Reg.PORT_CFG p), 6, 1⟩
abbrev F.PORT_CFG_FEC_SEL (p : Nat) : Fld := ⟨(Reg.PORT_CFG p), 8, 2⟩
abbrev F.PORT_CFG_RXC_SQUELCH (p : Nat) : Fld := ⟨(Reg.PORT_CFG p), 12, 1⟩
abbrev F.PORT_CFG_MAX_FRAME (p : Nat) : Fld := ⟨(Reg.PORT_CFG p), 16, 16⟩
abbrev Reg.PORT_STATUS (p : Nat) : Nat := 0x80004 + 0x1000 * p
abbrev F.PORT_STATUS_STATE (p : Nat) : Fld := ⟨(Reg.PORT_STATUS p), 0, 3⟩
abbrev F.PORT_STATUS_MODE_RES (p : Nat) : Fld := ⟨(Reg.PORT_STATUS p), 3, 2⟩
abbrev F.PORT_STATUS_FEC_RES (p : Nat) : Fld := ⟨(Reg.PORT_STATUS p), 5, 2⟩
abbrev F.PORT_STATUS_BLOCK_LOCK (p : Nat) : Fld := ⟨(Reg.PORT_STATUS p), 7, 1⟩
abbrev F.PORT_STATUS_FEC_LOCK (p : Nat) : Fld := ⟨(Reg.PORT_STATUS p), 8, 1⟩
abbrev F.PORT_STATUS_LOCAL_FAULT (p : Nat) : Fld := ⟨(Reg.PORT_STATUS p), 9, 1⟩
abbrev F.PORT_STATUS_REMOTE_FAULT (p : Nat) : Fld := ⟨(Reg.PORT_STATUS p), 10, 1⟩
abbrev F.PORT_STATUS_RXC_VALID (p : Nat) : Fld := ⟨(Reg.PORT_STATUS p), 11, 1⟩
abbrev F.PORT_STATUS_PC_SYNC (p : Nat) : Fld := ⟨(Reg.PORT_STATUS p), 12, 1⟩
abbrev F.PORT_STATUS_CAL_VALID (p : Nat) : Fld := ⟨(Reg.PORT_STATUS p), 13, 1⟩
abbrev Reg.PORT_CMD (p : Nat) : Nat := 0x80008 + 0x1000 * p
abbrev Reg.PORT_AN_ADV (p : Nat) : Nat := 0x80010 + 0x1000 * p
abbrev Reg.PORT_AN_LP (p : Nat) : Nat := 0x80014 + 0x1000 * p
abbrev F.PORT_AN_LP_LP_VALID (p : Nat) : Fld := ⟨(Reg.PORT_AN_LP p), 8, 1⟩
abbrev Reg.PORT_RX_PHASE (p : Nat) : Nat := 0x80018 + 0x1000 * p
abbrev F.PORT_RX_PHASE_PHI (p : Nat) : Fld := ⟨(Reg.PORT_RX_PHASE p), 0, 16⟩
abbrev F.PORT_RX_PHASE_GEARBOX (p : Nat) : Fld := ⟨(Reg.PORT_RX_PHASE p), 16, 7⟩
abbrev Reg.PORT_TX_PHASE (p : Nat) : Nat := 0x8001c + 0x1000 * p
abbrev Reg.CAL_RX (p m : Nat) : Nat := 0x80020 + 0x1000 * p + 0x4 * m
abbrev Reg.CAL_TX (p m : Nat) : Nat := 0x80040 + 0x1000 * p + 0x4 * m
abbrev Reg.BOARD_RX (p : Nat) : Nat := 0x80060 + 0x1000 * p
abbrev Reg.BOARD_TX (p : Nat) : Nat := 0x80064 + 0x1000 * p
abbrev Reg.PORT_D (p : Nat) : Nat := 0x80068 + 0x1000 * p
abbrev Reg.PORT_EVT (p : Nat) : Nat := 0x8006c + 0x1000 * p
abbrev Reg.PORT_EVT_ACK (p : Nat) : Nat := 0x80070 + 0x1000 * p
abbrev Reg.TRAIN_COEF (p : Nat) : Nat := 0x80074 + 0x1000 * p
abbrev F.TRAIN_COEF_VALID (p : Nat) : Fld := ⟨(Reg.TRAIN_COEF p), 24, 1⟩
abbrev F.TRAIN_COEF_PRE (p : Nat) : Fld := ⟨(Reg.TRAIN_COEF p), 0, 6⟩
abbrev F.TRAIN_COEF_MAIN (p : Nat) : Fld := ⟨(Reg.TRAIN_COEF p), 8, 6⟩
abbrev F.TRAIN_COEF_POST (p : Nat) : Fld := ⟨(Reg.TRAIN_COEF p), 16, 6⟩
abbrev Reg.ERR_EVT (p : Nat) : Nat := 0x80078 + 0x1000 * p
abbrev Reg.ERR_EVT_ACK (p : Nat) : Nat := 0x8007c + 0x1000 * p
abbrev Reg.RX_FRAMES (p : Nat) : Nat := 0x80100 + 0x1000 * p
abbrev Reg.RX_OCTETS (p : Nat) : Nat := 0x80108 + 0x1000 * p
abbrev Reg.TX_FRAMES (p : Nat) : Nat := 0x80110 + 0x1000 * p
abbrev Reg.TX_OCTETS (p : Nat) : Nat := 0x80118 + 0x1000 * p
abbrev Reg.TX_REPLIES (p : Nat) : Nat := 0x80120 + 0x1000 * p
abbrev Reg.TX_ORIGINATED (p : Nat) : Nat := 0x80128 + 0x1000 * p
abbrev Reg.RX_FCS_ERR (p : Nat) : Nat := 0x80140 + 0x1000 * p
abbrev Reg.RX_RUNT (p : Nat) : Nat := 0x80144 + 0x1000 * p
abbrev Reg.RX_OVERSIZE (p : Nat) : Nat := 0x80148 + 0x1000 * p
abbrev Reg.RX_CODE_ERR (p : Nat) : Nat := 0x8014c + 0x1000 * p
abbrev Reg.RX_PAUSE (p : Nat) : Nat := 0x80150 + 0x1000 * p
abbrev Reg.RX_GATE_LATE (p : Nat) : Nat := 0x80154 + 0x1000 * p
abbrev Reg.TX_LATE_START (p : Nat) : Nat := 0x80158 + 0x1000 * p
abbrev Reg.TX_SUPPRESSED (p : Nat) : Nat := 0x8015c + 0x1000 * p
abbrev Reg.FEC_CORR (p : Nat) : Nat := 0x80160 + 0x1000 * p
abbrev Reg.FEC_UNCORR (p : Nat) : Nat := 0x80164 + 0x1000 * p
abbrev Reg.PORT_CMD_REF (p : Nat) : Nat := 0x80168 + 0x1000 * p
abbrev Reg.BASKET_REC (p : Nat) : Nat := 0x80200 + 0x1000 * p
abbrev Reg.BASKET_STATUS (p : Nat) : Nat := 0x80210 + 0x1000 * p
abbrev Reg.BASKET_DROP (p : Nat) : Nat := 0x80214 + 0x1000 * p
abbrev Reg.BASKET_EVT (p : Nat) : Nat := 0x80218 + 0x1000 * p
abbrev Reg.BASKET_EVT_ACK (p : Nat) : Nat := 0x8021c + 0x1000 * p

/-- The rows of PORT, part 1. -/
def rowsPORT1 : List Row := [
  ⟨0x80000, 0x1000, 4, 0x0, 1, 1, .rw, [0xffff137f], [0x6401078], 0, []⟩,
  ⟨0x80004, 0x1000, 4, 0x0, 1, 1, .ro, [], [], 0, []⟩,
  ⟨0x80008, 0x1000, 4, 0x0, 1, 1, .gd, [0xf], [], 0, []⟩,
  ⟨0x80010, 0x1000, 4, 0x0, 1, 1, .rw, [0x33], [0x33], 0, []⟩,
  ⟨0x80014, 0x1000, 4, 0x0, 1, 1, .ro, [], [], 0, []⟩,
  ⟨0x80018, 0x1000, 4, 0x0, 1, 1, .ro, [], [], 0, []⟩,
  ⟨0x8001c, 0x1000, 4, 0x0, 1, 1, .ro, [], [], 0, []⟩,
  ⟨0x80020, 0x1000, 4, 0x4, 5, 1, .se, [0xffffffff], [], 0, []⟩,
  ⟨0x80040, 0x1000, 4, 0x4, 5, 1, .se, [0xffffffff], [], 0, []⟩,
  ⟨0x80060, 0x1000, 4, 0x0, 1, 1, .rw, [0xffffffff], [], 0, []⟩,
  ⟨0x80064, 0x1000, 4, 0x0, 1, 1, .rw, [0xffffffff], [], 0, []⟩,
  ⟨0x80068, 0x1000, 4, 0x0, 1, 1, .ro, [], [], 0, []⟩,
  ⟨0x8006c, 0x1000, 4, 0x0, 1, 1, .ro, [], [], 0, []⟩,
  ⟨0x80070, 0x1000, 4, 0x0, 1, 1, .rw, [0xffffffff], [], 0, []⟩,
  ⟨0x80074, 0x1000, 4, 0x0, 1, 1, .ro, [], [], 0, []⟩,
  ⟨0x80078, 0x1000, 4, 0x0, 1, 1, .ro, [], [], 0, []⟩,
  ⟨0x8007c, 0x1000, 4, 0x0, 1, 1, .rw, [0xffffffff], [], 0, []⟩,
  ⟨0x80100, 0x1000, 4, 0x0, 1, 2, .ro, [], [], 0, []⟩,
  ⟨0x80108, 0x1000, 4, 0x0, 1, 2, .ro, [], [], 0, []⟩,
  ⟨0x80110, 0x1000, 4, 0x0, 1, 2, .ro, [], [], 0, []⟩,
  ⟨0x80118, 0x1000, 4, 0x0, 1, 2, .ro, [], [], 0, []⟩,
  ⟨0x80120, 0x1000, 4, 0x0, 1, 2, .ro, [], [], 0, []⟩,
  ⟨0x80128, 0x1000, 4, 0x0, 1, 2, .ro, [], [], 0, []⟩,
  ⟨0x80140, 0x1000, 4, 0x0, 1, 1, .ro, [], [], 0, []⟩]
/-- The rows of PORT, part 2. -/
def rowsPORT2 : List Row := [
  ⟨0x80144, 0x1000, 4, 0x0, 1, 1, .ro, [], [], 0, []⟩,
  ⟨0x80148, 0x1000, 4, 0x0, 1, 1, .ro, [], [], 0, []⟩,
  ⟨0x8014c, 0x1000, 4, 0x0, 1, 1, .ro, [], [], 0, []⟩,
  ⟨0x80150, 0x1000, 4, 0x0, 1, 1, .ro, [], [], 0, []⟩,
  ⟨0x80154, 0x1000, 4, 0x0, 1, 1, .ro, [], [], 0, []⟩,
  ⟨0x80158, 0x1000, 4, 0x0, 1, 1, .ro, [], [], 0, []⟩,
  ⟨0x8015c, 0x1000, 4, 0x0, 1, 1, .ro, [], [], 0, []⟩,
  ⟨0x80160, 0x1000, 4, 0x0, 1, 1, .ro, [], [], 0, []⟩,
  ⟨0x80164, 0x1000, 4, 0x0, 1, 1, .ro, [], [], 0, []⟩,
  ⟨0x80168, 0x1000, 4, 0x0, 1, 1, .ro, [], [], 0, []⟩,
  ⟨0x80200, 0x1000, 4, 0x0, 1, 4, .ro, [], [], 0, []⟩,
  ⟨0x80210, 0x1000, 4, 0x0, 1, 1, .ro, [], [], 0, []⟩,
  ⟨0x80214, 0x1000, 4, 0x0, 1, 1, .ro, [], [], 0, []⟩,
  ⟨0x80218, 0x1000, 4, 0x0, 1, 1, .ro, [], [], 0, []⟩,
  ⟨0x8021c, 0x1000, 4, 0x0, 1, 1, .rw, [0xffffffff], [], 0, []⟩]
/-- The rows of PORT. -/
def rowsPORT : List Row := rowsPORT1 ++ rowsPORT2

/-! ### FABRIC -/

abbrev Reg.FAB_STATUS : Nat := 0x90000
abbrev F.FAB_STATUS_FCLK_RUN : Fld := ⟨Reg.FAB_STATUS, 0, 1⟩
abbrev F.FAB_STATUS_ITIN_RUN : Fld := ⟨Reg.FAB_STATUS, 1, 1⟩
abbrev F.FAB_STATUS_DRAINING : Fld := ⟨Reg.FAB_STATUS, 2, 1⟩
abbrev Reg.FAB_CYCLE : Nat := 0x90008
abbrev Reg.HAMPER_STATUS : Nat := 0x90010
abbrev F.HAMPER_STATUS_READY : Fld := ⟨Reg.HAMPER_STATUS, 0, 1⟩
abbrev F.HAMPER_STATUS_INIT : Fld := ⟨Reg.HAMPER_STATUS, 1, 1⟩
abbrev F.HAMPER_STATUS_RETAINED : Fld := ⟨Reg.HAMPER_STATUS, 2, 1⟩
abbrev Reg.HAMPER_CORR (r : Nat) : Nat := 0x90020 + 0x8 * r
abbrev Reg.HAMPER_UNCORR (r : Nat) : Nat := 0x90024 + 0x8 * r
abbrev Reg.ECC_EVT : Nat := 0x90040
abbrev Reg.ECC_EVT_ACK : Nat := 0x90044
abbrev Reg.GATE_LATE_TE (t : Nat) : Nat := 0x90050 + 0x4 * t
abbrev Reg.GATE_LATE_HOST : Nat := 0x90058
abbrev Reg.GATE_LATE_CTRL : Nat := 0x9005c
abbrev Reg.GATE_LATE_TRG : Nat := 0x90060
abbrev Reg.GATE_LATE_DB (p : Nat) : Nat := 0x90064 + 0x4 * p
abbrev Reg.TE_DARK (t : Nat) : Nat := 0x90078 + 0x4 * t
abbrev Reg.GATE_EVT : Nat := 0x90080
abbrev Reg.GATE_EVT_ACK : Nat := 0x90084
abbrev Reg.PE_STATUS (p : Nat) : Nat := 0x90100 + 0x100 * p
abbrev F.PE_STATUS_RUNNING (p : Nat) : Fld := ⟨(Reg.PE_STATUS p), 0, 1⟩
abbrev F.PE_STATUS_WHISTLED (p : Nat) : Fld := ⟨(Reg.PE_STATUS p), 1, 1⟩
abbrev F.PE_STATUS_LIVE (p : Nat) : Fld := ⟨(Reg.PE_STATUS p), 8, 7⟩
abbrev F.PE_STATUS_LIVE_MAX (p : Nat) : Fld := ⟨(Reg.PE_STATUS p), 16, 7⟩
abbrev Reg.PE_SHAPE (p : Nat) : Nat := 0x90104 + 0x100 * p
abbrev F.PE_SHAPE_II (p : Nat) : Fld := ⟨(Reg.PE_SHAPE p), 0, 12⟩
abbrev F.PE_SHAPE_L (p : Nat) : Fld := ⟨(Reg.PE_SHAPE p), 16, 13⟩
abbrev Reg.PE_SHARE (p : Nat) : Nat := 0x90108 + 0x100 * p
abbrev F.PE_SHARE_SHARE (p : Nat) : Fld := ⟨(Reg.PE_SHARE p), 0, 10⟩
abbrev F.PE_SHARE_REPLY_LEAD (p : Nat) : Fld := ⟨(Reg.PE_SHARE p), 16, 12⟩
abbrev Reg.ORIG_CREDIT (p : Nat) : Nat := 0x9010c + 0x100 * p
abbrev Reg.PE_INIT (p : Nat) : Nat := 0x90110 + 0x100 * p
abbrev Reg.TOO_SOON (p : Nat) : Nat := 0x90118 + 0x100 * p
abbrev Reg.ECHO_REFUSED (p : Nat) : Nat := 0x90120 + 0x100 * p
abbrev Reg.CLASH_REFUSED (p : Nat) : Nat := 0x90128 + 0x100 * p
abbrev Reg.ORIG_QUEUED (p : Nat) : Nat := 0x90130 + 0x100 * p
abbrev Reg.REPLY_CLIPPED (p : Nat) : Nat := 0x90140 + 0x100 * p
abbrev Reg.ORIG_DROPPED (p : Nat) : Nat := 0x90144 + 0x100 * p
abbrev Reg.PE_EVT (p : Nat) : Nat := 0x90148 + 0x100 * p
abbrev Reg.PE_EVT_ACK (p : Nat) : Nat := 0x9014c + 0x100 * p
abbrev Reg.ORIG_LEVEL (p : Nat) : Nat := 0x90150 + 0x100 * p
abbrev F.ORIG_LEVEL_FRAMES (p : Nat) : Fld := ⟨(Reg.ORIG_LEVEL p), 0, 5⟩
abbrev F.ORIG_LEVEL_OCTETS (p : Nat) : Fld := ⟨(Reg.ORIG_LEVEL p), 16, 15⟩
abbrev Reg.ITIN_STATUS : Nat := 0x94000
abbrev F.ITIN_STATUS_BANK0 : Fld := ⟨Reg.ITIN_STATUS, 0, 3⟩
abbrev F.ITIN_STATUS_BANK1 : Fld := ⟨Reg.ITIN_STATUS, 4, 3⟩
abbrev F.ITIN_STATUS_RUN_BANK : Fld := ⟨Reg.ITIN_STATUS, 8, 1⟩
abbrev F.ITIN_STATUS_RUNNING : Fld := ⟨Reg.ITIN_STATUS, 9, 1⟩
abbrev F.ITIN_STATUS_ARMED : Fld := ⟨Reg.ITIN_STATUS, 10, 1⟩
abbrev F.ITIN_STATUS_BUSY : Fld := ⟨Reg.ITIN_STATUS, 11, 1⟩
abbrev Reg.ITIN_CTRL : Nat := 0x94004
abbrev F.ITIN_CTRL_LOAD_BANK : Fld := ⟨Reg.ITIN_CTRL, 0, 1⟩
abbrev Reg.ITIN_CMD : Nat := 0x94008
abbrev F.ITIN_CMD_BANK : Fld := ⟨Reg.ITIN_CMD, 8, 1⟩
abbrev Reg.ITIN_CMD_REF : Nat := 0x94010
abbrev Reg.VER_EVT : Nat := 0x94014
abbrev Reg.VER_EVT_ACK : Nat := 0x94018
abbrev Reg.SWAP_EVT : Nat := 0x9401c
abbrev Reg.SWAP_EVT_ACK : Nat := 0x94020
abbrev Reg.REJ_CODE : Nat := 0x94024
abbrev F.REJ_CODE_VALID : Fld := ⟨Reg.REJ_CODE, 31, 1⟩
abbrev F.REJ_CODE_CODE : Fld := ⟨Reg.REJ_CODE, 0, 16⟩
abbrev F.REJ_CODE_BANK : Fld := ⟨Reg.REJ_CODE, 16, 1⟩
abbrev Reg.REJ_WHERE : Nat := 0x94028
abbrev F.REJ_WHERE_ENGINE : Fld := ⟨Reg.REJ_WHERE, 0, 3⟩
abbrev F.REJ_WHERE_MODE : Fld := ⟨Reg.REJ_WHERE, 4, 4⟩
abbrev F.REJ_WHERE_CLASS : Fld := ⟨Reg.REJ_WHERE, 8, 4⟩
abbrev F.REJ_WHERE_SLOT : Fld := ⟨Reg.REJ_WHERE, 12, 3⟩
abbrev F.REJ_WHERE_LAP : Fld := ⟨Reg.REJ_WHERE, 15, 1⟩
abbrev F.REJ_WHERE_BUNDLE : Fld := ⟨Reg.REJ_WHERE, 16, 16⟩
abbrev Reg.REJ_AUX : Nat := 0x9402c
abbrev Reg.REJ_OFFSET : Nat := 0x94030
abbrev Reg.VER_TIME : Nat := 0x94034
abbrev Reg.SWAP_RESULT : Nat := 0x94038
abbrev F.SWAP_RESULT_CODE : Fld := ⟨Reg.SWAP_RESULT, 0, 3⟩
abbrev F.SWAP_RESULT_GAPS : Fld := ⟨Reg.SWAP_RESULT, 4, 4⟩
abbrev F.SWAP_RESULT_DARK : Fld := ⟨Reg.SWAP_RESULT, 8, 4⟩
abbrev Reg.SWAP_CYCLE : Nat := 0x94040
abbrev Reg.STORE_CORR : Nat := 0x94048
abbrev Reg.STORE_UNCORR : Nat := 0x9404c
abbrev Reg.STORE_REFUSED : Nat := 0x94050
abbrev Reg.BANK_SECVER (b : Nat) : Nat := 0x94080 + 0x20 * b
abbrev Reg.BANK_BUILD (b : Nat) : Nat := 0x94084 + 0x20 * b
abbrev Reg.BANK_VER (b : Nat) : Nat := 0x94088 + 0x20 * b
abbrev F.BANK_VER_SEL_VER (b : Nat) : Fld := ⟨(Reg.BANK_VER b), 0, 8⟩
abbrev F.BANK_VER_DPLL_VER (b : Nat) : Fld := ⟨(Reg.BANK_VER b), 8, 8⟩
abbrev F.BANK_VER_FORMAT (b : Nat) : Fld := ⟨(Reg.BANK_VER b), 16, 16⟩
abbrev Reg.BANK_LEN (b : Nat) : Nat := 0x9408c + 0x20 * b
abbrev Reg.BANK_RATION (b : Nat) : Nat := 0x94090 + 0x20 * b
abbrev F.BANK_RATION_RATION_MA (b : Nat) : Fld := ⟨(Reg.BANK_RATION b), 0, 13⟩
abbrev Reg.BANK_TARGETS (b : Nat) : Nat := 0x94094 + 0x20 * b
abbrev F.BANK_TARGETS_TE (b : Nat) : Fld := ⟨(Reg.BANK_TARGETS b), 16, 13⟩
abbrev Reg.BANK_MODES (b : Nat) : Nat := 0x94098 + 0x20 * b
abbrev Reg.DOORBELL (p : Nat) : Nat := 0x94100 + 0x10 * p
abbrev Reg.DB_STATUS (p : Nat) : Nat := 0x94104 + 0x10 * p
abbrev F.DB_STATUS_PEND (p : Nat) : Fld := ⟨(Reg.DB_STATUS p), 0, 1⟩
abbrev F.DB_STATUS_DB_OVERRUN (p : Nat) : Fld := ⟨(Reg.DB_STATUS p), 16, 16⟩
abbrev Reg.DB_EVT (p : Nat) : Nat := 0x94108 + 0x10 * p
abbrev Reg.DB_EVT_ACK (p : Nat) : Nat := 0x9410c + 0x10 * p
abbrev Reg.SWAP_REFUSED (p : Nat) : Nat := 0x94200 + 0x10 * p
abbrev Reg.DARK_FRAMES (p : Nat) : Nat := 0x94204 + 0x10 * p
abbrev Reg.COMPAT (p : Nat) : Nat := 0x94208 + 0x10 * p
abbrev F.COMPAT_GAP (p : Nat) : Fld := ⟨(Reg.COMPAT p), 3, 1⟩
abbrev F.COMPAT_MODE_DARK (p : Nat) : Fld := ⟨(Reg.COMPAT p), 4, 1⟩
abbrev F.COMPAT_COND (p : Nat) : Fld := ⟨(Reg.COMPAT p), 0, 3⟩

/-- The rows of FABRIC, part 1. -/
def rowsFABRIC1 : List Row := [
  ⟨0x90000, 0x0, 1, 0x0, 1, 1, .ro, [], [], 0, []⟩,
  ⟨0x90008, 0x0, 1, 0x0, 1, 2, .ro, [], [], 0, []⟩,
  ⟨0x90010, 0x0, 1, 0x0, 1, 1, .ro, [], [], 0, []⟩,
  ⟨0x90020, 0x8, 4, 0x0, 1, 1, .ro, [], [], 0, []⟩,
  ⟨0x90024, 0x8, 4, 0x0, 1, 1, .ro, [], [], 0, []⟩,
  ⟨0x90040, 0x0, 1, 0x0, 1, 1, .ro, [], [], 0, []⟩,
  ⟨0x90044, 0x0, 1, 0x0, 1, 1, .rw, [0xffffffff], [], 0, []⟩,
  ⟨0x90050, 0x4, 2, 0x0, 1, 1, .ro, [], [], 0, []⟩,
  ⟨0x90058, 0x0, 1, 0x0, 1, 1, .ro, [], [], 0, []⟩,
  ⟨0x9005c, 0x0, 1, 0x0, 1, 1, .ro, [], [], 0, []⟩,
  ⟨0x90060, 0x0, 1, 0x0, 1, 1, .ro, [], [], 0, []⟩,
  ⟨0x90064, 0x4, 4, 0x0, 1, 1, .ro, [], [], 0, []⟩,
  ⟨0x90078, 0x4, 2, 0x0, 1, 1, .ro, [], [], 0, []⟩,
  ⟨0x90080, 0x0, 1, 0x0, 1, 1, .ro, [], [], 0, []⟩,
  ⟨0x90084, 0x0, 1, 0x0, 1, 1, .rw, [0xffffffff], [], 0, []⟩,
  ⟨0x90100, 0x100, 4, 0x0, 1, 1, .ro, [], [], 0, []⟩,
  ⟨0x90104, 0x100, 4, 0x0, 1, 1, .ro, [], [], 0, []⟩,
  ⟨0x90108, 0x100, 4, 0x0, 1, 1, .ro, [], [], 0, []⟩,
  ⟨0x9010c, 0x100, 4, 0x0, 1, 1, .ro, [], [], 0, []⟩,
  ⟨0x90110, 0x100, 4, 0x0, 1, 2, .ro, [], [], 0, []⟩,
  ⟨0x90118, 0x100, 4, 0x0, 1, 2, .ro, [], [], 0, []⟩,
  ⟨0x90120, 0x100, 4, 0x0, 1, 2, .ro, [], [], 0, []⟩,
  ⟨0x90128, 0x100, 4, 0x0, 1, 2, .ro, [], [], 0, []⟩,
  ⟨0x90130, 0x100, 4, 0x0, 1, 2, .ro, [], [], 0, []⟩]
/-- The rows of FABRIC, part 2. -/
def rowsFABRIC2 : List Row := [
  ⟨0x90140, 0x100, 4, 0x0, 1, 1, .ro, [], [], 0, []⟩,
  ⟨0x90144, 0x100, 4, 0x0, 1, 1, .ro, [], [], 0, []⟩,
  ⟨0x90148, 0x100, 4, 0x0, 1, 1, .ro, [], [], 0, []⟩,
  ⟨0x9014c, 0x100, 4, 0x0, 1, 1, .rw, [0xffffffff], [], 0, []⟩,
  ⟨0x90150, 0x100, 4, 0x0, 1, 1, .ro, [], [], 0, []⟩,
  ⟨0x94000, 0x0, 1, 0x0, 1, 1, .ro, [], [], 0, []⟩,
  ⟨0x94004, 0x0, 1, 0x0, 1, 1, .rw, [1], [], 0, []⟩,
  ⟨0x94008, 0x0, 1, 0x0, 1, 1, .gd, [0x10f], [], 0, []⟩,
  ⟨0x94010, 0x0, 1, 0x0, 1, 1, .ro, [], [], 0, []⟩,
  ⟨0x94014, 0x0, 1, 0x0, 1, 1, .ro, [], [], 0, []⟩,
  ⟨0x94018, 0x0, 1, 0x0, 1, 1, .rw, [0xffffffff], [], 0, []⟩,
  ⟨0x9401c, 0x0, 1, 0x0, 1, 1, .ro, [], [], 0, []⟩,
  ⟨0x94020, 0x0, 1, 0x0, 1, 1, .rw, [0xffffffff], [], 0, []⟩,
  ⟨0x94024, 0x0, 1, 0x0, 1, 1, .ro, [], [], 0, []⟩,
  ⟨0x94028, 0x0, 1, 0x0, 1, 1, .ro, [], [], 0, []⟩,
  ⟨0x9402c, 0x0, 1, 0x0, 1, 1, .ro, [], [], 0, []⟩,
  ⟨0x94030, 0x0, 1, 0x0, 1, 1, .ro, [], [], 0, []⟩,
  ⟨0x94034, 0x0, 1, 0x0, 1, 1, .ro, [], [], 0, []⟩,
  ⟨0x94038, 0x0, 1, 0x0, 1, 1, .ro, [], [], 0, []⟩,
  ⟨0x94040, 0x0, 1, 0x0, 1, 2, .ro, [], [], 0, []⟩,
  ⟨0x94048, 0x0, 1, 0x0, 1, 1, .ro, [], [], 0, []⟩,
  ⟨0x9404c, 0x0, 1, 0x0, 1, 1, .ro, [], [], 0, []⟩,
  ⟨0x94050, 0x0, 1, 0x0, 1, 1, .ro, [], [], 0, []⟩,
  ⟨0x94080, 0x20, 2, 0x0, 1, 1, .ro, [], [], 0, []⟩]
/-- The rows of FABRIC, part 3. -/
def rowsFABRIC3 : List Row := [
  ⟨0x94084, 0x20, 2, 0x0, 1, 1, .ro, [], [], 0, []⟩,
  ⟨0x94088, 0x20, 2, 0x0, 1, 1, .ro, [], [], 0, []⟩,
  ⟨0x9408c, 0x20, 2, 0x0, 1, 1, .ro, [], [], 0, []⟩,
  ⟨0x94090, 0x20, 2, 0x0, 1, 1, .ro, [], [], 0, []⟩,
  ⟨0x94094, 0x20, 2, 0x0, 1, 1, .ro, [], [], 0, []⟩,
  ⟨0x94098, 0x20, 2, 0x0, 1, 1, .ro, [], [], 0, []⟩,
  ⟨0x94100, 0x10, 4, 0x0, 1, 1, .wo, [0xffffffff], [], 0, []⟩,
  ⟨0x94104, 0x10, 4, 0x0, 1, 1, .ro, [], [], 0, []⟩,
  ⟨0x94108, 0x10, 4, 0x0, 1, 1, .ro, [], [], 0, []⟩,
  ⟨0x9410c, 0x10, 4, 0x0, 1, 1, .rw, [0xffffffff], [], 0, []⟩,
  ⟨0x94200, 0x10, 4, 0x0, 1, 1, .ro, [], [], 0, []⟩,
  ⟨0x94204, 0x10, 4, 0x0, 1, 1, .ro, [], [], 0, []⟩,
  ⟨0x94208, 0x10, 4, 0x0, 1, 1, .ro, [], [], 0, []⟩]
/-- The rows of FABRIC. -/
def rowsFABRIC : List Row := rowsFABRIC1 ++ rowsFABRIC2 ++ rowsFABRIC3

/-! ### SUPV -/

abbrev Reg.SE_STATUS : Nat := 0xa0000
abbrev F.SE_STATUS_STATE : Fld := ⟨Reg.SE_STATUS, 0, 3⟩
abbrev F.SE_STATUS_TRAP_ACTIVE : Fld := ⟨Reg.SE_STATUS, 3, 1⟩
abbrev F.SE_STATUS_DOUBLE_TRAP : Fld := ⟨Reg.SE_STATUS, 4, 1⟩
abbrev F.SE_STATUS_WHISTLED : Fld := ⟨Reg.SE_STATUS, 5, 1⟩
abbrev F.SE_STATUS_HALT_CAUSE : Fld := ⟨Reg.SE_STATUS, 8, 8⟩
abbrev Reg.SE_CMD : Nat := 0xa0004
abbrev Reg.FW_WIN_ADDR : Nat := 0xa000c
abbrev Reg.FW_WIN_DATA : Nat := 0xa0010
abbrev Reg.FW_REJ : Nat := 0xa0014
abbrev F.FW_REJ_VALID : Fld := ⟨Reg.FW_REJ, 31, 1⟩
abbrev F.FW_REJ_CODE : Fld := ⟨Reg.FW_REJ, 0, 8⟩
abbrev Reg.FW_VERSION : Nat := 0xa0018
abbrev Reg.FW_SECVER : Nat := 0xa001c
abbrev Reg.ROM_VER : Nat := 0xa0020
abbrev Reg.SE_PC : Nat := 0xa0024
abbrev Reg.SE_TRAP_REC : Nat := 0xa0028
abbrev Reg.SRAM_CORR : Nat := 0xa0030
abbrev F.SRAM_CORR_INSTR : Fld := ⟨Reg.SRAM_CORR, 0, 16⟩
abbrev F.SRAM_CORR_DATA : Fld := ⟨Reg.SRAM_CORR, 16, 16⟩
abbrev Reg.SE_EVT : Nat := 0xa0034
abbrev Reg.SE_EVT_ACK : Nat := 0xa0038
abbrev Reg.SE_CMD_REF : Nat := 0xa003c
abbrev Reg.SE_CLK : Nat := 0xa0040
abbrev F.SE_CLK_SE : Fld := ⟨Reg.SE_CLK, 0, 16⟩

/-- The rows of SUPV. -/
def rowsSUPV : List Row := [
  ⟨0xa0000, 0x0, 1, 0x0, 1, 1, .ro, [], [1], 0, []⟩,
  ⟨0xa0004, 0x0, 1, 0x0, 1, 1, .gd, [0xf], [], 0, []⟩,
  ⟨0xa000c, 0x0, 1, 0x0, 1, 1, .rw, [0x3fffc], [0x10000], 0, []⟩,
  ⟨0xa0010, 0x0, 1, 0x0, 1, 1, .wo, [0xffffffff], [], 0, []⟩,
  ⟨0xa0014, 0x0, 1, 0x0, 1, 1, .ro, [], [], 0, []⟩,
  ⟨0xa0018, 0x0, 1, 0x0, 1, 1, .ro, [], [], 0, []⟩,
  ⟨0xa001c, 0x0, 1, 0x0, 1, 1, .ro, [], [], 0, []⟩,
  ⟨0xa0020, 0x0, 1, 0x0, 1, 1, .ro, [], [1], 0, []⟩,
  ⟨0xa0024, 0x0, 1, 0x0, 1, 1, .ro, [], [], 0, []⟩,
  ⟨0xa0028, 0x0, 1, 0x0, 1, 2, .ro, [], [], 0, []⟩,
  ⟨0xa0030, 0x0, 1, 0x0, 1, 1, .ro, [], [], 0, []⟩,
  ⟨0xa0034, 0x0, 1, 0x0, 1, 1, .ro, [], [], 0, []⟩,
  ⟨0xa0038, 0x0, 1, 0x0, 1, 1, .rw, [0xffffffff], [], 0, []⟩,
  ⟨0xa003c, 0x0, 1, 0x0, 1, 1, .ro, [], [], 0, []⟩,
  ⟨0xa0040, 0x0, 1, 0x0, 1, 1, .ro, [], [0x190], 0, []⟩]

/-! ### DMA -/

abbrev Reg.DMA_CFG (c : Nat) : Nat := 0xb0000 + 0x40 * c
abbrev F.DMA_CFG_PRIO (c : Nat) : Fld := ⟨(Reg.DMA_CFG c), 0, 2⟩
abbrev F.DMA_CFG_NOSNOOP (c : Nat) : Fld := ⟨(Reg.DMA_CFG c), 2, 1⟩
abbrev F.DMA_CFG_INT_HALF (c : Nat) : Fld := ⟨(Reg.DMA_CFG c), 3, 1⟩
abbrev F.DMA_CFG_INT_FULL (c : Nat) : Fld := ⟨(Reg.DMA_CFG c), 4, 1⟩
abbrev F.DMA_CFG_DIR (c : Nat) : Fld := ⟨(Reg.DMA_CFG c), 5, 1⟩
abbrev F.DMA_CFG_SPACE (c : Nat) : Fld := ⟨(Reg.DMA_CFG c), 8, 3⟩
abbrev F.DMA_CFG_BANK (c : Nat) : Fld := ⟨(Reg.DMA_CFG c), 11, 1⟩
abbrev Reg.DMA_DEV_ADDR (c : Nat) : Nat := 0xb0004 + 0x40 * c
abbrev Reg.DMA_LIST_ADDR (c : Nat) : Nat := 0xb0008 + 0x40 * c
abbrev Reg.DMA_LIST_CNT (c : Nat) : Nat := 0xb0010 + 0x40 * c
abbrev Reg.DMA_TOTAL (c : Nat) : Nat := 0xb0014 + 0x40 * c
abbrev Reg.DMA_DOORBELL (c : Nat) : Nat := 0xb0018 + 0x40 * c
abbrev F.DMA_DOORBELL_START (c : Nat) : Fld := ⟨(Reg.DMA_DOORBELL c), 0, 1⟩
abbrev F.DMA_DOORBELL_ABORT (c : Nat) : Fld := ⟨(Reg.DMA_DOORBELL c), 1, 1⟩
abbrev Reg.DMA_STATUS (c : Nat) : Nat := 0xb001c + 0x40 * c
abbrev F.DMA_STATUS_STATE (c : Nat) : Fld := ⟨(Reg.DMA_STATUS c), 0, 2⟩
abbrev F.DMA_STATUS_WHISTLED (c : Nat) : Fld := ⟨(Reg.DMA_STATUS c), 2, 1⟩
abbrev F.DMA_STATUS_RESULT (c : Nat) : Fld := ⟨(Reg.DMA_STATUS c), 4, 4⟩
abbrev F.DMA_STATUS_ENTRY (c : Nat) : Fld := ⟨(Reg.DMA_STATUS c), 8, 6⟩
abbrev F.DMA_STATUS_CAUSE (c : Nat) : Fld := ⟨(Reg.DMA_STATUS c), 16, 4⟩
abbrev Reg.DMA_PROGRESS (c : Nat) : Nat := 0xb0020 + 0x40 * c
abbrev Reg.HALF_EVT (c : Nat) : Nat := 0xb0024 + 0x40 * c
abbrev Reg.HALF_EVT_ACK (c : Nat) : Nat := 0xb0028 + 0x40 * c
abbrev Reg.DONE_EVT (c : Nat) : Nat := 0xb002c + 0x40 * c
abbrev Reg.DONE_EVT_ACK (c : Nat) : Nat := 0xb0030 + 0x40 * c
abbrev Reg.DMA_OWNER (c : Nat) : Nat := 0xb0034 + 0x40 * c
abbrev Reg.DMA_HALT : Nat := 0xb0400
abbrev F.DMA_HALT_HALTED : Fld := ⟨Reg.DMA_HALT, 0, 1⟩
abbrev F.DMA_HALT_TAGS : Fld := ⟨Reg.DMA_HALT, 1, 4⟩
abbrev Reg.DMA_HALT_ADDR : Nat := 0xb0404
abbrev Reg.HALT_EVT : Nat := 0xb040c
abbrev Reg.HALT_EVT_ACK : Nat := 0xb0410
abbrev Reg.DMA_HALT_CLR : Nat := 0xb0414
abbrev F.DMA_HALT_CLR_CLEAR : Fld := ⟨Reg.DMA_HALT_CLR, 0, 1⟩
abbrev Reg.DMA_CMD_REF : Nat := 0xb041c
abbrev Reg.DMA_FOREIGN : Nat := 0xb0420
abbrev Reg.DMA_BURSTS : Nat := 0xb0424

/-- The rows of DMA. -/
def rowsDMA : List Row := [
  ⟨0xb0000, 0x40, 8, 0x0, 1, 1, .rw, [0xf3f], [], 0, []⟩,
  ⟨0xb0004, 0x40, 8, 0x0, 1, 1, .rw, [0xffffff], [], 0, []⟩,
  ⟨0xb0008, 0x40, 8, 0x0, 1, 2, .rw, [0xffffffff, 0xffffffff], [], 0, []⟩,
  ⟨0xb0010, 0x40, 8, 0x0, 1, 1, .rw, [0x7f], [], 0, []⟩,
  ⟨0xb0014, 0x40, 8, 0x0, 1, 1, .rw, [0x1ffffff], [], 0, []⟩,
  ⟨0xb0018, 0x40, 8, 0x0, 1, 1, .wo, [3], [], 0, []⟩,
  ⟨0xb001c, 0x40, 8, 0x0, 1, 1, .ro, [], [], 0, []⟩,
  ⟨0xb0020, 0x40, 8, 0x0, 1, 1, .ro, [], [], 0, []⟩,
  ⟨0xb0024, 0x40, 8, 0x0, 1, 1, .ro, [], [], 0, []⟩,
  ⟨0xb0028, 0x40, 8, 0x0, 1, 1, .rw, [0xffffffff], [], 0, []⟩,
  ⟨0xb002c, 0x40, 8, 0x0, 1, 1, .ro, [], [], 0, []⟩,
  ⟨0xb0030, 0x40, 8, 0x0, 1, 1, .rw, [0xffffffff], [], 0, []⟩,
  ⟨0xb0034, 0x40, 8, 0x0, 1, 1, .se, [0xff], [4], 6, [1]⟩,
  ⟨0xb0400, 0x0, 1, 0x0, 1, 1, .ro, [], [], 0, []⟩,
  ⟨0xb0404, 0x0, 1, 0x0, 1, 2, .ro, [], [], 0, []⟩,
  ⟨0xb040c, 0x0, 1, 0x0, 1, 1, .ro, [], [], 0, []⟩,
  ⟨0xb0410, 0x0, 1, 0x0, 1, 1, .rw, [0xffffffff], [], 0, []⟩,
  ⟨0xb0414, 0x0, 1, 0x0, 1, 1, .gd, [1], [], 0, []⟩,
  ⟨0xb041c, 0x0, 1, 0x0, 1, 1, .ro, [], [], 0, []⟩,
  ⟨0xb0420, 0x0, 1, 0x0, 1, 1, .ro, [], [], 0, []⟩,
  ⟨0xb0424, 0x0, 1, 0x0, 1, 2, .ro, [], [], 0, []⟩]

/-! ### NVS -/

abbrev Reg.NVS_STATUS : Nat := 0xc0000
abbrev F.NVS_STATUS_READY : Fld := ⟨Reg.NVS_STATUS, 0, 1⟩
abbrev F.NVS_STATUS_RECALL : Fld := ⟨Reg.NVS_STATUS, 1, 1⟩
abbrev F.NVS_STATUS_WHISTLED : Fld := ⟨Reg.NVS_STATUS, 2, 1⟩
abbrev F.NVS_STATUS_PF : Fld := ⟨Reg.NVS_STATUS, 3, 1⟩
abbrev F.NVS_STATUS_C0_RD_OPEN : Fld := ⟨Reg.NVS_STATUS, 4, 1⟩
abbrev F.NVS_STATUS_C0_WR_OPEN : Fld := ⟨Reg.NVS_STATUS, 5, 1⟩
abbrev F.NVS_STATUS_C1_RD_OPEN : Fld := ⟨Reg.NVS_STATUS, 6, 1⟩
abbrev F.NVS_STATUS_C1_WR_OPEN : Fld := ⟨Reg.NVS_STATUS, 7, 1⟩
abbrev F.NVS_STATUS_C0_LOCKOUT : Fld := ⟨Reg.NVS_STATUS, 8, 1⟩
abbrev F.NVS_STATUS_C1_LOCKOUT : Fld := ⟨Reg.NVS_STATUS, 9, 1⟩
abbrev F.NVS_STATUS_BUF_FULL : Fld := ⟨Reg.NVS_STATUS, 10, 1⟩
abbrev F.NVS_STATUS_STOPPED : Fld := ⟨Reg.NVS_STATUS, 11, 1⟩
abbrev Reg.NVS_ADDR : Nat := 0xc0004
abbrev Reg.NVS_CTRL : Nat := 0xc0008
abbrev F.NVS_CTRL_BE : Fld := ⟨Reg.NVS_CTRL, 0, 4⟩
abbrev Reg.NVS_RDATA : Nat := 0xc000c
abbrev Reg.NVS_WDATA : Nat := 0xc0010
abbrev Reg.NVS_PW : Nat := 0xc0014
abbrev Reg.NVS_PW_CMD : Nat := 0xc001c
abbrev Reg.NVS_PW_FAIL : Nat := 0xc0024
abbrev F.NVS_PW_FAIL_C0 : Fld := ⟨Reg.NVS_PW_FAIL, 0, 4⟩
abbrev F.NVS_PW_FAIL_C1 : Fld := ⟨Reg.NVS_PW_FAIL, 4, 4⟩
abbrev Reg.NVS_CTR_CMD : Nat := 0xc0028
abbrev Reg.NVS_CTR_SEL : Nat := 0xc0030
abbrev Reg.NVS_CTR_VAL : Nat := 0xc0034
abbrev Reg.NVS_CTR_STATUS : Nat := 0xc003c
abbrev F.NVS_CTR_STATUS_EMPTY : Fld := ⟨Reg.NVS_CTR_STATUS, 2, 1⟩
abbrev F.NVS_CTR_STATUS_SAT : Fld := ⟨Reg.NVS_CTR_STATUS, 3, 1⟩
abbrev Reg.LOG_SEQ : Nat := 0xc0040
abbrev Reg.LOG_OVERWRITES : Nat := 0xc0048
abbrev Reg.NVS_EVT : Nat := 0xc0050
abbrev Reg.NVS_EVT_ACK : Nat := 0xc0054
abbrev Reg.LOG_EVT : Nat := 0xc0058
abbrev Reg.LOG_EVT_ACK : Nat := 0xc005c
abbrev Reg.NVS_REFUSED : Nat := 0xc0060
abbrev Reg.NVS_RECALL_INFO : Nat := 0xc0064
abbrev F.NVS_RECALL_INFO_CTR_REPAIR : Fld := ⟨Reg.NVS_RECALL_INFO, 0, 1⟩
abbrev F.NVS_RECALL_INFO_LOG_TORN : Fld := ⟨Reg.NVS_RECALL_INFO, 1, 1⟩
abbrev Reg.LOG_BUF : Nat := 0xc0100
abbrev Reg.LOG_CMD : Nat := 0xc0138

/-- The rows of NVS. -/
def rowsNVS : List Row := [
  ⟨0xc0000, 0x0, 1, 0x0, 1, 1, .ro, [], [2], 0, []⟩,
  ⟨0xc0004, 0x0, 1, 0x0, 1, 1, .rwb, [0x3ffff], [], 0, []⟩,
  ⟨0xc0008, 0x0, 1, 0x0, 1, 1, .rwb, [0xf], [0xf], 0, []⟩,
  ⟨0xc000c, 0x0, 1, 0x0, 1, 1, .rob, [], [], 0, []⟩,
  ⟨0xc0010, 0x0, 1, 0x0, 1, 1, .wob, [0xffffffff], [], 0, []⟩,
  ⟨0xc0014, 0x0, 1, 0x0, 1, 2, .wob, [0xffffffff, 0xffffffff], [], 0, []⟩,
  ⟨0xc001c, 0x0, 1, 0x0, 1, 1, .gd, [0x10f], [], 0, []⟩,
  ⟨0xc0024, 0x0, 1, 0x0, 1, 1, .ro, [], [], 0, []⟩,
  ⟨0xc0028, 0x0, 1, 0x0, 1, 1, .gd, [0xff], [], 0, []⟩,
  ⟨0xc0030, 0x0, 1, 0x0, 1, 1, .rwb, [0xff], [], 0, []⟩,
  ⟨0xc0034, 0x0, 1, 0x0, 1, 2, .ro, [], [], 0, []⟩,
  ⟨0xc003c, 0x0, 1, 0x0, 1, 1, .ro, [], [], 0, []⟩,
  ⟨0xc0040, 0x0, 1, 0x0, 1, 2, .ro, [], [], 0, []⟩,
  ⟨0xc0048, 0x0, 1, 0x0, 1, 2, .ro, [], [], 0, []⟩,
  ⟨0xc0050, 0x0, 1, 0x0, 1, 1, .ro, [], [], 0, []⟩,
  ⟨0xc0054, 0x0, 1, 0x0, 1, 1, .rw, [0xffffffff], [], 0, []⟩,
  ⟨0xc0058, 0x0, 1, 0x0, 1, 1, .ro, [], [], 0, []⟩,
  ⟨0xc005c, 0x0, 1, 0x0, 1, 1, .rw, [0xffffffff], [], 0, []⟩,
  ⟨0xc0060, 0x0, 1, 0x0, 1, 1, .ro, [], [], 0, []⟩,
  ⟨0xc0064, 0x0, 1, 0x0, 1, 1, .ro, [], [], 0, []⟩,
  ⟨0xc0100, 0x0, 1, 0x0, 1, 13, .se, [0xffffffff, 0xffffffff, 0xffffffff, 0xffffffff, 0xffffffff, 0xffffffff, 0xffffffff, 0xffffffff, 0xffffffff, 0xffffffff, 0xffffffff, 0xffffffff, 0xffffffff], [], 0, []⟩,
  ⟨0xc0138, 0x0, 1, 0x0, 1, 1, .se, [0xffffffff], [], 0, []⟩]

/-! ### SEC -/

abbrev Reg.SEC_STATUS : Nat := 0xd0000
abbrev F.SEC_STATUS_APPROVED : Fld := ⟨Reg.SEC_STATUS, 0, 1⟩
abbrev F.SEC_STATUS_MAINT : Fld := ⟨Reg.SEC_STATUS, 1, 1⟩
abbrev F.SEC_STATUS_ST_RUNNING : Fld := ⟨Reg.SEC_STATUS, 2, 1⟩
abbrev F.SEC_STATUS_ST_FAIL : Fld := ⟨Reg.SEC_STATUS, 3, 1⟩
abbrev F.SEC_STATUS_ES_FAIL : Fld := ⟨Reg.SEC_STATUS, 4, 1⟩
abbrev F.SEC_STATUS_ZEROISING : Fld := ⟨Reg.SEC_STATUS, 5, 1⟩
abbrev F.SEC_STATUS_TAMPER_HELD : Fld := ⟨Reg.SEC_STATUS, 6, 1⟩
abbrev F.SEC_STATUS_CO_ACTIVE : Fld := ⟨Reg.SEC_STATUS, 7, 1⟩
abbrev F.SEC_STATUS_COMMIT_PEND : Fld := ⟨Reg.SEC_STATUS, 8, 1⟩
abbrev F.SEC_STATUS_POOL_FULL : Fld := ⟨Reg.SEC_STATUS, 9, 1⟩
abbrev F.SEC_STATUS_KEYS_FILLING : Fld := ⟨Reg.SEC_STATUS, 10, 1⟩
abbrev Reg.SEC_CMD : Nat := 0xd0004
abbrev F.SEC_CMD_CODE : Fld := ⟨Reg.SEC_CMD, 0, 8⟩
abbrev F.SEC_CMD_ARG : Fld := ⟨Reg.SEC_CMD, 8, 8⟩
abbrev F.SEC_CMD_ARG2 : Fld := ⟨Reg.SEC_CMD, 16, 8⟩
abbrev Reg.SEC_RESULT : Nat := 0xd000c
abbrev F.SEC_RESULT_CODE : Fld := ⟨Reg.SEC_RESULT, 8, 8⟩
abbrev Reg.SEC_STAGE : Nat := 0xd0010
abbrev Reg.SERIAL : Nat := 0xd0070
abbrev Reg.SEC_CHAL : Nat := 0xd0078
abbrev Reg.CO_SESSION : Nat := 0xd0088
abbrev F.CO_SESSION_CO : Fld := ⟨Reg.CO_SESSION, 0, 8⟩
abbrev F.CO_SESSION_AUTH_LOCK : Fld := ⟨Reg.CO_SESSION, 16, 1⟩
abbrev F.CO_SESSION_CO_ID : Fld := ⟨Reg.CO_SESSION, 0, 8⟩
abbrev F.CO_SESSION_CH : Fld := ⟨Reg.CO_SESSION, 8, 4⟩
abbrev F.CO_SESSION_FAILS : Fld := ⟨Reg.CO_SESSION, 24, 4⟩
abbrev Reg.OTP_SLOT (s : Nat) : Nat := 0xd0090 + 0x4 * s
abbrev Reg.SEC_KEYID (i : Nat) : Nat := 0xd00b0 + 0x4 * i
abbrev Reg.SEC_KEYMAP : Nat := 0xd00f0
abbrev F.SEC_KEYMAP_LOADED : Fld := ⟨Reg.SEC_KEYMAP, 0, 16⟩
abbrev Reg.SELFTEST : Nat := 0xd00f4
abbrev F.SELFTEST_DONE : Fld := ⟨Reg.SELFTEST, 0, 1⟩
abbrev F.SELFTEST_PASS : Fld := ⟨Reg.SELFTEST, 1, 1⟩
abbrev F.SELFTEST_FIRST : Fld := ⟨Reg.SELFTEST, 8, 8⟩
abbrev F.SELFTEST_T9 : Fld := ⟨Reg.SELFTEST, 16, 8⟩
abbrev Reg.ES_HEALTH : Nat := 0xd00f8
abbrev F.ES_HEALTH_REP : Fld := ⟨Reg.ES_HEALTH, 0, 16⟩
abbrev F.ES_HEALTH_PROP : Fld := ⟨Reg.ES_HEALTH, 16, 16⟩
abbrev Reg.SEC_EVT : Nat := 0xd0100
abbrev Reg.SEC_EVT_ACK : Nat := 0xd0104
abbrev Reg.TAMPER_EVT : Nat := 0xd0108
abbrev Reg.TAMPER_EVT_ACK : Nat := 0xd010c
abbrev Reg.SEC_CMD_REF : Nat := 0xd0110

/-- The rows of SEC. -/
def rowsSEC : List Row := [
  ⟨0xd0000, 0x0, 1, 0x0, 1, 1, .ro, [], [4], 0, []⟩,
  ⟨0xd0004, 0x0, 1, 0x0, 1, 1, .gd, [0xffffff], [], 0, []⟩,
  ⟨0xd000c, 0x0, 1, 0x0, 1, 1, .ro, [], [], 0, []⟩,
  ⟨0xd0010, 0x0, 1, 0x0, 1, 24, .wob, [0xffffffff, 0xffffffff, 0xffffffff, 0xffffffff, 0xffffffff, 0xffffffff, 0xffffffff, 0xffffffff, 0xffffffff, 0xffffffff, 0xffffffff, 0xffffffff, 0xffffffff, 0xffffffff, 0xffffffff, 0xffffffff, 0xffffffff, 0xffffffff, 0xffffffff, 0xffffffff, 0xffffffff, 0xffffffff, 0xffffffff, 0xffffffff], [], 0, []⟩,
  ⟨0xd0070, 0x0, 1, 0x0, 1, 2, .ro, [], [], 0, []⟩,
  ⟨0xd0078, 0x0, 1, 0x0, 1, 4, .ro, [], [], 0, []⟩,
  ⟨0xd0088, 0x0, 1, 0x0, 1, 1, .ro, [], [], 0, []⟩,
  ⟨0xd0090, 0x4, 8, 0x0, 1, 1, .ro, [], [], 0, []⟩,
  ⟨0xd00b0, 0x4, 16, 0x0, 1, 1, .ro, [], [], 0, []⟩,
  ⟨0xd00f0, 0x0, 1, 0x0, 1, 1, .ro, [], [], 0, []⟩,
  ⟨0xd00f4, 0x0, 1, 0x0, 1, 1, .ro, [], [], 0, []⟩,
  ⟨0xd00f8, 0x0, 1, 0x0, 1, 1, .ro, [], [], 0, []⟩,
  ⟨0xd0100, 0x0, 1, 0x0, 1, 1, .ro, [], [], 0, []⟩,
  ⟨0xd0104, 0x0, 1, 0x0, 1, 1, .rw, [0xffffffff], [], 0, []⟩,
  ⟨0xd0108, 0x0, 1, 0x0, 1, 1, .ro, [], [], 0, []⟩,
  ⟨0xd010c, 0x0, 1, 0x0, 1, 1, .rw, [0xffffffff], [], 0, []⟩,
  ⟨0xd0110, 0x0, 1, 0x0, 1, 1, .ro, [], [], 0, []⟩]

/-! ### FAULT -/

abbrev Reg.FLT_STATUS : Nat := 0xe0000
abbrev F.FLT_STATUS_ANY : Fld := ⟨Reg.FLT_STATUS, 0, 1⟩
abbrev F.FLT_STATUS_NSET : Fld := ⟨Reg.FLT_STATUS, 16, 9⟩
abbrev Reg.FLT_EVT : Nat := 0xe0004
abbrev Reg.FLT_EVT_ACK : Nat := 0xe0008
abbrev Reg.FLT_CLEAR : Nat := 0xe000c
abbrev F.FLT_CLEAR_SOURCE : Fld := ⟨Reg.FLT_CLEAR, 0, 8⟩
abbrev F.FLT_CLEAR_ALL : Fld := ⟨Reg.FLT_CLEAR, 8, 1⟩
abbrev Reg.FLT_STICKY (w : Nat) : Nat := 0xe0020 + 0x4 * w
abbrev Reg.FLT_REC (s : Nat) : Nat := 0xe0100 + 0x8 * s
abbrev Reg.FLT_LAST : Nat := 0xe0900
abbrev Reg.WHISTLE : Nat := 0xe1000
abbrev F.WHISTLE_TARGET : Fld := ⟨Reg.WHISTLE, 0, 4⟩
abbrev F.WHISTLE_INDEX : Fld := ⟨Reg.WHISTLE, 4, 5⟩
abbrev F.WHISTLE_CMD : Fld := ⟨Reg.WHISTLE, 12, 2⟩
abbrev F.WHISTLE_PEER : Fld := ⟨Reg.WHISTLE, 16, 3⟩
abbrev F.WHISTLE_REMOTE : Fld := ⟨Reg.WHISTLE, 19, 1⟩
abbrev Reg.WHISTLE_EVT : Nat := 0xe1008
abbrev Reg.WHISTLE_EVT_ACK : Nat := 0xe100c
abbrev Reg.WHISTLE_REF : Nat := 0xe1010
abbrev Reg.WHISTLE_LAST : Nat := 0xe1014
abbrev Reg.WHISTLE_TIME : Nat := 0xe1018
abbrev Reg.WHISTLE_HELD (t : Nat) : Nat := 0xe1040 + 0x4 * t
abbrev Reg.WHISTLE_IDLE (t : Nat) : Nat := 0xe1080 + 0x4 * t
abbrev Reg.WHISTLE_PIN : Nat := 0xe10c0
abbrev F.WHISTLE_PIN_LEVEL : Fld := ⟨Reg.WHISTLE_PIN, 0, 1⟩
abbrev F.WHISTLE_PIN_HOLDING : Fld := ⟨Reg.WHISTLE_PIN, 1, 1⟩

/-- The rows of FAULT. -/
def rowsFAULT : List Row := [
  ⟨0xe0000, 0x0, 1, 0x0, 1, 1, .ro, [], [], 0, []⟩,
  ⟨0xe0004, 0x0, 1, 0x0, 1, 1, .ro, [], [], 0, []⟩,
  ⟨0xe0008, 0x0, 1, 0x0, 1, 1, .rw, [0xffffffff], [], 0, []⟩,
  ⟨0xe000c, 0x0, 1, 0x0, 1, 1, .gd, [0x1ff], [], 0, []⟩,
  ⟨0xe0020, 0x4, 8, 0x0, 1, 1, .ro, [], [], 0, []⟩,
  ⟨0xe0100, 0x8, 256, 0x0, 1, 2, .ro, [], [], 0, []⟩,
  ⟨0xe0900, 0x0, 1, 0x0, 1, 2, .ro, [], [], 0, []⟩,
  ⟨0xe1000, 0x0, 1, 0x0, 1, 1, .gd, [0xf31ff], [], 0, []⟩,
  ⟨0xe1008, 0x0, 1, 0x0, 1, 1, .ro, [], [], 0, []⟩,
  ⟨0xe100c, 0x0, 1, 0x0, 1, 1, .rw, [0xffffffff], [], 0, []⟩,
  ⟨0xe1010, 0x0, 1, 0x0, 1, 1, .ro, [], [], 0, []⟩,
  ⟨0xe1014, 0x0, 1, 0x0, 1, 1, .ro, [], [], 0, []⟩,
  ⟨0xe1018, 0x0, 1, 0x0, 1, 1, .ro, [], [], 0, []⟩,
  ⟨0xe1040, 0x4, 12, 0x0, 1, 1, .ro, [], [], 0, []⟩,
  ⟨0xe1080, 0x4, 12, 0x0, 1, 1, .ro, [], [], 0, []⟩,
  ⟨0xe10c0, 0x0, 1, 0x0, 1, 1, .ro, [], [1], 0, []⟩]

/-! ### DAISY -/

abbrev Reg.DZ_CTRL : Nat := 0xf0000
abbrev F.DZ_CTRL_EN : Fld := ⟨Reg.DZ_CTRL, 0, 1⟩
abbrev F.DZ_CTRL_EXPECT : Fld := ⟨Reg.DZ_CTRL, 1, 4⟩
abbrev Reg.DZ_STATUS : Nat := 0xf0004
abbrev F.DZ_STATUS_STATE : Fld := ⟨Reg.DZ_STATUS, 0, 3⟩
abbrev F.DZ_STATUS_MASTER : Fld := ⟨Reg.DZ_STATUS, 3, 1⟩
abbrev F.DZ_STATUS_ID : Fld := ⟨Reg.DZ_STATUS, 4, 3⟩
abbrev F.DZ_STATUS_SIZE : Fld := ⟨Reg.DZ_STATUS, 7, 4⟩
abbrev F.DZ_STATUS_STRAP_ERR : Fld := ⟨Reg.DZ_STATUS, 11, 1⟩
abbrev F.DZ_STATUS_RING_CLOSED : Fld := ⟨Reg.DZ_STATUS, 12, 1⟩
abbrev F.DZ_STATUS_EPS_HIGH : Fld := ⟨Reg.DZ_STATUS, 13, 1⟩
abbrev Reg.DZ_CMD : Nat := 0xf0008
abbrev Reg.DZ_BOARD : Nat := 0xf0010
abbrev Reg.DZ_CAL_TX : Nat := 0xf0014
abbrev Reg.DZ_CAL_RX : Nat := 0xf0018
abbrev Reg.DZ_RESID_MAX : Nat := 0xf001c
abbrev Reg.DZ_HOP_IN : Nat := 0xf0020
abbrev Reg.DZ_EPS : Nat := 0xf0024
abbrev Reg.DZ_PATH : Nat := 0xf0028
abbrev Reg.DZ_FREQ : Nat := 0xf002c
abbrev Reg.DZ_MASTER : Nat := 0xf0034
abbrev F.DZ_MASTER_QL_RANK : Fld := ⟨Reg.DZ_MASTER, 0, 4⟩
abbrev F.DZ_MASTER_DPLL0 : Fld := ⟨Reg.DZ_MASTER, 4, 3⟩
abbrev F.DZ_MASTER_TRACEABLE : Fld := ⟨Reg.DZ_MASTER, 7, 1⟩
abbrev F.DZ_MASTER_UTC_OFF : Fld := ⟨Reg.DZ_MASTER, 16, 16⟩
abbrev Reg.DZ_COEF : Nat := 0xf0038
abbrev F.DZ_COEF_VALID : Fld := ⟨Reg.DZ_COEF, 24, 1⟩
abbrev Reg.DZ_EVT : Nat := 0xf003c
abbrev Reg.DZ_EVT_ACK : Nat := 0xf0040
abbrev Reg.DZ_ERR_EVT : Nat := 0xf0044
abbrev Reg.DZ_ERR_EVT_ACK : Nat := 0xf0048
abbrev Reg.DZ_RETRY : Nat := 0xf004c
abbrev Reg.DZ_CMD_LOST : Nat := 0xf0050
abbrev Reg.DZ_FLT_CLEAR : Nat := 0xf0054
abbrev F.DZ_FLT_CLEAR_SOURCE : Fld := ⟨Reg.DZ_FLT_CLEAR, 0, 8⟩
abbrev F.DZ_FLT_CLEAR_ALL_PEER : Fld := ⟨Reg.DZ_FLT_CLEAR, 8, 1⟩
abbrev Reg.DZ_CMD_REF : Nat := 0xf005c
abbrev Reg.DZ_SEQ : Nat := 0xf0060
abbrev F.DZ_SEQ_SEQ : Fld := ⟨Reg.DZ_SEQ, 0, 16⟩

/-- The rows of DAISY. -/
def rowsDAISY : List Row := [
  ⟨0xf0000, 0x0, 1, 0x0, 1, 1, .rw, [0x1f], [], 0, []⟩,
  ⟨0xf0004, 0x0, 1, 0x0, 1, 1, .ro, [], [], 0, []⟩,
  ⟨0xf0008, 0x0, 1, 0x0, 1, 1, .gd, [0xf], [], 0, []⟩,
  ⟨0xf0010, 0x0, 1, 0x0, 1, 1, .rw, [0xffff], [], 0, []⟩,
  ⟨0xf0014, 0x0, 1, 0x0, 1, 1, .se, [0xffff], [], 0, []⟩,
  ⟨0xf0018, 0x0, 1, 0x0, 1, 1, .se, [0xffff], [], 0, []⟩,
  ⟨0xf001c, 0x0, 1, 0x0, 1, 1, .rw, [0xffff], [0xc8], 0, []⟩,
  ⟨0xf0020, 0x0, 1, 0x0, 1, 1, .ro, [], [], 0, []⟩,
  ⟨0xf0024, 0x0, 1, 0x0, 1, 1, .ro, [], [], 0, []⟩,
  ⟨0xf0028, 0x0, 1, 0x0, 1, 1, .ro, [], [], 0, []⟩,
  ⟨0xf002c, 0x0, 1, 0x0, 1, 2, .ro, [], [], 0, []⟩,
  ⟨0xf0034, 0x0, 1, 0x0, 1, 1, .ro, [], [0xf], 0, []⟩,
  ⟨0xf0038, 0x0, 1, 0x0, 1, 1, .ro, [], [], 0, []⟩,
  ⟨0xf003c, 0x0, 1, 0x0, 1, 1, .ro, [], [], 0, []⟩,
  ⟨0xf0040, 0x0, 1, 0x0, 1, 1, .rw, [0xffffffff], [], 0, []⟩,
  ⟨0xf0044, 0x0, 1, 0x0, 1, 1, .ro, [], [], 0, []⟩,
  ⟨0xf0048, 0x0, 1, 0x0, 1, 1, .rw, [0xffffffff], [], 0, []⟩,
  ⟨0xf004c, 0x0, 1, 0x0, 1, 1, .ro, [], [], 0, []⟩,
  ⟨0xf0050, 0x0, 1, 0x0, 1, 1, .ro, [], [], 0, []⟩,
  ⟨0xf0054, 0x0, 1, 0x0, 1, 1, .gd, [0x1ff], [], 0, []⟩,
  ⟨0xf005c, 0x0, 1, 0x0, 1, 1, .ro, [], [], 0, []⟩,
  ⟨0xf0060, 0x0, 1, 0x0, 1, 1, .ro, [], [], 0, []⟩]

/-- The rows of the block numbered `b` in R49. -/
def blockRows : Nat → List Row
  | 0 => rowsGLOBAL
  | 1 => rowsRATION
  | 2 => rowsTIU
  | 3 => rowsREFSEL
  | 4 => rowsDPLL
  | 5 => rowsTIME
  | 6 => rowsSYNTH
  | 7 => rowsGNSS
  | 8 => rowsPORT
  | 9 => rowsFABRIC
  | 10 => rowsSUPV
  | 11 => rowsDMA
  | 12 => rowsNVS
  | 13 => rowsSEC
  | 14 => rowsFAULT
  | 15 => rowsDAISY
  | _ => []

/-- Where address `a` falls in row `r`: the instance number and the word, if it falls there. -/
def Row.hit (r : Row) (a : Nat) : Option (Nat × Nat) :=
  let o := a - r.base
  let i := o / r.stride
  let o1 := o % r.stride
  let j := o1 / r.stride2
  let o2 := o1 % r.stride2
  if r.base ≤ a ∧ i < r.count ∧ j < r.count2 ∧ o2 < 4 * r.words then some (i, o2 / 4) else none

/-- The row that holds address `a`, with the instance and the word. -/
def findRow : List Row → Nat → Option (Row × Nat × Nat)
  | [], _ => none
  | r :: t, a => match r.hit a with
    | some (i, w) => some (r, i, w)
    | none => findRow t a

/-- The row, instance and word of BAR 0 address `a` (R49). -/
def rowAt (a : Nat) : Option (Row × Nat × Nat) := findRow (blockRows (a / 0x10000)) a

/-- The reset value of the register word at BAR 0 address `a`: the spec's reset column; reserved addresses read zero (R8). The
vendor's own keys are IN_FORCE from manufacture (R457). -/
def regReset (a : Nat) : Word :=
  if a = Reg.OTP_SLOT 0 ∨ a = Reg.OTP_SLOT 4 then 1 else
  match rowAt a with
  | some (r, i, w) => BitVec.ofNat 32 ((if i < r.n0 then r.reset0 else r.reset).getD w 0)
  | none => 0

end Sys2Proof.Machine
end

