-- ==== Sys2Proof/Machine/Tbl.lean ====
section
/-! DEFINITION. Sparse tables: a list of (key, value) pairs in one canonical form, with a default for every key that is not
listed. Registers, memories and the indexed parts of the state are kept in them, so that equal contents are equal data and the
reset state lists nothing. -/

namespace Sys2Proof.Machine

/-- A sparse table. Canonical form: keys strictly rising, no listed value equal to its key's default. -/
abbrev Tbl (α : Type) := List (Nat × α)

/-- The value at key `k`; `d k` where `k` is not listed. -/
def Tbl.get {α : Type} (d : Nat → α) : Tbl α → Nat → α
  | [], k => d k
  | (k', v) :: t, k => if k' = k then v else Tbl.get d t k

/-- Whether key `k` is listed. -/
def Tbl.has {α : Type} : Tbl α → Nat → Bool
  | [], _ => false
  | (k', _) :: t, k => if k' = k then true else Tbl.has t k

/-- The table without key `k`. -/
def Tbl.erase {α : Type} : Tbl α → Nat → Tbl α
  | [], _ => []
  | (k', v) :: t, k => if k' = k then Tbl.erase t k else (k', v) :: Tbl.erase t k

/-- The table with the pair (k, v) put before the first larger key. -/
def Tbl.insert {α : Type} : Tbl α → Nat → α → Tbl α
  | [], k, v => [(k, v)]
  | (k', v') :: t, k, v => if k < k' then (k, v) :: (k', v') :: t else (k', v') :: Tbl.insert t k v

/-- The table with value `v` at key `k`; a default value is not listed. -/
def Tbl.set {α : Type} [DecidableEq α] (d : Nat → α) (m : Tbl α) (k : Nat) (v : α) : Tbl α :=
  if v = d k then Tbl.erase m k else Tbl.insert (Tbl.erase m k) k v

/-- Every key of the table is above `b`, in strictly rising order, and no value is its key's default. -/
def Tbl.wfFrom {α : Type} [DecidableEq α] (d : Nat → α) : Option Nat → Tbl α → Bool
  | _, [] => true
  | none, (k, v) :: t => decide (v ≠ d k) && Tbl.wfFrom d (some k) t
  | some b, (k, v) :: t => decide (b < k) && decide (v ≠ d k) && Tbl.wfFrom d (some k) t

/-- The canonical form. -/
def Tbl.wf {α : Type} [DecidableEq α] (d : Nat → α) (m : Tbl α) : Bool := Tbl.wfFrom d none m

/-- A memory of bytes: (address, byte) cells, an unlisted byte reading as zero. -/
abbrev Memory := Tbl Byte

/-- What an unlisted byte of a memory reads as. -/
def Memory.dflt : Nat → Byte := fun _ => 0

/-- The byte at address `a`. -/
def Memory.byte (m : Memory) (a : Nat) : Byte := Tbl.get Memory.dflt m a

/-- The memory with byte `b` at address `a`. -/
def Memory.setByte (m : Memory) (a : Nat) (b : Byte) : Memory := Tbl.set Memory.dflt m a b

/-- `n` bytes from address `a`, lowest address first. -/
def Memory.bytes (m : Memory) (a : Nat) : Nat → List Byte
  | 0 => []
  | n + 1 => m.byte a :: Memory.bytes m (a + 1) n

/-- The memory with the bytes `bs` from address `a`. -/
def Memory.setBytes (m : Memory) (a : Nat) : List Byte → Memory
  | [] => m
  | b :: t => Memory.setBytes (m.setByte a b) (a + 1) t

/-- Little-endian value of a list of bytes (R6). -/
def leVal : List Byte → Nat
  | [] => 0
  | b :: t => b.toNat + 256 * leVal t

/-- Big-endian value of a list of bytes (network fields, R6). -/
def beVal (l : List Byte) : Nat := l.foldl (fun acc b => acc * 256 + b.toNat) 0

/-- `n` bytes of `v`, least significant first. -/
def leBytes : Nat → Nat → List Byte
  | 0, _ => []
  | n + 1, v => BitVec.ofNat 8 v :: leBytes n (v / 256)

/-- `n` bytes of `v`, most significant first. -/
def beBytes (n v : Nat) : List Byte := (leBytes n v).reverse

/-- The little-endian number held in the `n` bytes from address `a`. -/
def Memory.le (m : Memory) (a n : Nat) : Nat := leVal (m.bytes a n)

/-- The memory with the number `v` stored little-endian in the `n` bytes from address `a`. -/
def Memory.setLe (m : Memory) (a n v : Nat) : Memory := m.setBytes a (leBytes n v)

/-- The canonical form of a memory: addresses strictly rising, no byte equal to what an unlisted address reads as. -/
def Memory.wf (m : Memory) : Bool := Tbl.wf Memory.dflt m

end Sys2Proof.Machine
end

