-- ==== Sys2Proof/Machine/Parts.lean ====
section
/-! DEFINITION. The parts of the state that are not registers: what each block holds between commands, as plain data. Each part
has a reset value of its own; indexed parts are sparse tables whose default is the reset value. -/

namespace Sys2Proof.Machine

/-! ### What leaves the device -/

/-- A message on the daisy lane (R527): training words, marks and blocks of time, remote whistles and reports, faults, and what a tunnel
carries. -/
inductive DzMsg where
  | discover (count : Nat)                       -- R529
  | ringBroken                                   -- R529
  | recal                                        -- R529
  | hop (h ps : Nat)                             -- a hop delay for its receiving device (R531, R532)
  | mark                                         -- the second mark (R533)
  | time (octets : List Byte)                    -- the time block (R533)
  | whistle (cmd : Nat)                          -- R539
  | report (cmd ns : Nat)                        -- a completion report (R539)
  | fault (src kind addr : Nat) (loss resync : Bool) -- R538
  | fltClear (src : Nat) (all : Bool)            -- R538
  | block (n : Nat) (octets : List Byte) (ctl : Nat) -- R537
  | blockRelease (n : Nat)                       -- R537
  | marker (n : Nat)                             -- a SENDER_RESET marker (R398, R537)
  | peerReset (n : Nat)                          -- a block discarded on arrival, or a receiver's reset (R397, R537)
  deriving DecidableEq, Repr

/-- Something the device sends out: kept in order in the state so that it can be spoken of. -/
inductive Out where
  | msix (v : Nat) (addr data : Nat)     -- an MSI-X message of vector v (R71)
  | remoteFault (p : Nat) (on : Bool)    -- port p begins to send remote fault, or ends (R227)
  | frame (p tp : Nat) (octets : List Byte) -- a frame that leaves port p with its timestamp point at PCn time tp (R235)
  | hostWrite (addr : Nat) (octets : List Byte) (noSnoop : Bool) -- a DMA write to host memory (R421, R426)
  | pulse (k : Nat) (low : Bool)           -- an event on TMUX pin k: a pulse of 20 ns, low with INV = 1 (R544)
  | daisy (dev : Nat) (m : DzMsg)                -- a message on the daisy lane to the device of ID `dev`; 8 for all (R527)
  deriving DecidableEq, Repr

/-! ### Register interface (R49–R73) -/

/-- An armed guarded value (R62): its address, its value and the time its value word was decoded. -/
structure Guard where
  addr : Nat
  val : Word
  time : Nat
  deriving DecidableEq, Repr

/-- A snapshot of a multi-word quantity (R65): the address of its lowest word and its words. -/
structure Snap where
  addr : Nat
  words : List Word
  deriving DecidableEq, Repr

/-- A posted write that has not yet taken effect (R59): the words it lands, from `addr`, the address it was written at and its master. -/
structure Posted where
  addr : Nat
  words : List Word
  at_ : Nat
  master : Master
  deriving DecidableEq, Repr

/-- The status codes of R56, with the PCIe completer abort and an access that reaches nothing. -/
inductive LinkStatus where
  | ok
  | domainOff
  | notReady
  | badSpace
  | partialWord
  | refused
  | completerAbort
  | nack
  | noAnswer
  deriving DecidableEq, Repr

/-- The status byte of R56. -/
def LinkStatus.code : LinkStatus → Nat
  | .ok => 0
  | .domainOff => 1
  | .notReady => 2
  | .badSpace => 3
  | .partialWord => 4
  | .refused => 5
  | .completerAbort => 0
  | .nack => 0
  | .noAnswer => 0

/-- What the last access or host transaction answered: a status and the data words. -/
structure Reply where
  status : LinkStatus
  data : List Word
  deriving DecidableEq, Repr

/-- The register decode of the host island. -/
structure BusPart where
  guard : Tbl (Option Guard)     -- by master ID
  snap : Tbl (Option Snap)       -- by master ID × 32 + block
  stage : Tbl Word               -- by master ID × 2^24 + address
  posted : Tbl (Option Posted)   -- by block
  pendOff : Tbl Nat              -- PENDING_OFFSET, by block
  discarded : Tbl Bool           -- DISCARDED, by block
  locks : Tbl Bool               -- by register address
  spiStatus : LinkStatus         -- status of the last completed write frame
  i2cPtr : Nat
  hwinData : Word                -- the prefetched word
  late : Tbl Nat                 -- late data at the gates no register counts (R20): 0 timekeeping control, 1 sample, 8 + n stamp of channel n
  held : List (Nat × Word)       -- values of TE-served registers before writes of the present lap (R25, R128, R150)
  reply : Reply
  deriving DecidableEq, Repr

def BusPart.reset : BusPart :=
  { guard := [], snap := [], stage := [], posted := [], pendOff := [], discarded := [], locks := [],
    spiStatus := .ok, i2cPtr := 0, hwinData := 0, late := [], held := [], reply := ⟨.ok, []⟩ }

/-- Interrupt vectors (R70–R72): the host-routed conditions last seen, the MSI-X table and its masks and pending bits, and
what lets the endpoint send. `fresh` marks the vectors that have not been able to send since the endpoint's last reset. -/
structure IrqPart where
  hc : Word
  mask : Word
  pend : Word
  fresh : Word
  enabled : Bool
  linkL0 : Bool
  d3hot : Bool
  perstLow : Bool
  refClk : Bool      -- the host clock comes from PCIE_REFCLK (R13)
  table : Tbl Word   -- by word of BAR 4 0xE000
  deriving DecidableEq, Repr

def IrqPart.reset : IrqPart :=
  { hc := 0, mask := 0xffffffff, pend := 0, fresh := 0xffffffff, enabled := false, linkL0 := false, d3hot := false, perstLow := true, refClk := false, table := [] }

/-! ### Faults and whistles (R492–R511) -/

/-- A fault message on its way to the collector (R492); `afterLoss` marks one that follows a lost message (R496). -/
structure FaultMsg where
  kind : Nat
  addr : Nat
  afterLoss : Bool
  deriving DecidableEq, Repr

/-- A source's delivery buffer of four messages (R496). -/
structure FaultBuf where
  q : List FaultMsg
  lost : Bool
  deriving DecidableEq, Repr

def FaultBuf.reset : FaultBuf := ⟨[], false⟩

/-- A whistle on one index of one target (R506, R507): when it was accepted, its command word, the cascade device that issued it, and
the release that waits for its drain, as its time, its word and its issuer. -/
structure WhistleHold where
  accepted : Nat
  cmd : Nat
  issuer : Option Nat
  rel : Option (Nat × Nat × Option Nat)
  deriving DecidableEq, Repr

def WhistleHold.reset : WhistleHold := ⟨0, 0, none, none⟩

structure FaultPart where
  buf : Tbl FaultBuf            -- by source code
  hold : Tbl WhistleHold        -- by target × 32 + index
  pinLow : Bool                 -- WHISTLE_N low and latched
  resume : Nat                  -- TEs released from a whistle that wait for their lap boundary (R338)
  deriving DecidableEq, Repr

def FaultPart.reset : FaultPart := ⟨[], [], false, 0⟩

/-! ### Rations (R31–R48) -/

/-- A current transfer that waits for its window (R41, R241): the register written and its new value. -/
structure Xfer where
  addr : Nat
  val : Word
  deriving DecidableEq, Repr

/-- A governor (R40): charge left in the window in fC, whether the window is in its grant part, and whether its block has stalled in
this window. -/
structure Gov where
  left : Nat
  grant : Bool
  stalled : Bool
  deriving DecidableEq, Repr

def Gov.reset : Gov := ⟨0, false, false⟩

structure RationPart where
  prevMean : Option Nat         -- the mean of the window before, none for the first one after a suspension
  clk : Nat                     -- length of the windows counted so far, ps
  steps : List (Nat × Nat)      -- (end of the window, step) of the largest steps of the last 1 ms
  alw : Tbl Nat                 -- allowance in force, by register address
  xfers : List Xfer
  gov : Tbl Gov                 -- 0 SE, 1 DMA, 2 PCIe, 3 TIU calibration
  satOwed : Bool                -- a saturation during a ramp, to be reported after it
  backfillMa : Nat              -- drawn by the fabric backfill
  backfillTo : Nat              -- what it draws at the end of the ramp in progress
  downMa : Nat                  -- what the backfill ramped out on the last way to L1: the fabric's charge and its clock trees
  govMa : Nat
  govTo : Nat
  htrPa : Nat                   -- heater current, pA
  deriving DecidableEq, Repr

def RationPart.reset : RationPart :=
  { prevMean := none, clk := 0, steps := [], alw := [], xfers := [], gov := [], satOwed := false, backfillMa := 0, backfillTo := 0,
    downMa := 0,
    govMa := 0, govTo := 0, htrPa := 0 }

/-! ### Timebase and TIU (R74–R107) -/

structure TbPart where
  demandMw : Nat               -- heater demand of the oven loop, mW
  atMs : Option Nat            -- milliseconds since AT_SETPOINT first became 1 after HTR_EN was last written 1
  capLow : Bool                -- the heater runs at its cap below set point (R78)
  capPa : Nat                  -- the cap as a current, pA (R42)
  deriving DecidableEq, Repr

def TbPart.reset : TbPart := { demandMw := 0, atMs := none, capLow := false, capPa := 0 }

/-- An edge on its way to a stamp (R84, R86, R87): what was captured at it, with the channel's settings of that moment; `old` where a
configuration write has taken effect since, and `lost` for an edge in dead time, which has no stamp and keeps its place. -/
structure Conv where
  c2 : Nat        -- 56-bit count at the second TCLK edge after the input edge
  idx : Nat
  fall : Bool
  tooClose : Bool
  cold : Bool
  swap : Bool
  stale : Bool
  restart : Bool
  delay : Int     -- CH_DELAY
  latest : Bool   -- CH_CFG.LATEST
  hcap : Bool     -- CH_CFG.HCAP
  old : Bool
  lost : Bool
  deriving DecidableEq, Repr

/-- A stamp record (R90); `t` is era:coarse:fraction, 72 bits. -/
structure TiuRec where
  t : Nat
  ch : Nat
  fall : Bool
  tooClose : Bool
  drop : Bool
  cold : Bool
  swap : Bool
  stale : Bool
  restart : Bool
  idx : Nat
  deriving DecidableEq, Repr

/-- A TIU channel (R82–R94). -/
structure Chan where
  pre2 : Bool              -- level of the ÷2 prescaler's output
  div : Nat                -- selected edges still to skip before the next one is passed on
  idx : Nat                -- index of the next selected edge
  lastPin : Option Nat     -- pin time of the last stamped edge, in stamp units
  fastPin : Option Nat     -- pin time of the last edge lost to dead time
  tooClose : Bool
  drop : Bool
  swap : Bool
  restart : Bool
  conv : List Conv
  buf : List TiuRec        -- the TE record buffer, oldest first
  own : Option Nat         -- the interpolator that serves it outside calibration, if not its own number
  onSpare : Bool           -- the spare serves it during its sub-step
  deriving DecidableEq, Repr

def Chan.reset : Chan :=
  { pre2 := false, div := 0, idx := 0, lastPin := none, fastPin := none, tooClose := false, drop := false, swap := false, restart := false,
    conv := [], buf := [], own := none, onSpare := false }

/-- An interpolator's calibration (R92, R94): its successive failures, and whether its calibration is more than 1 s old. -/
structure Interp where
  fails : Nat
  stale : Bool
  deriving DecidableEq, Repr

def Interp.reset : Interp := ⟨0, false⟩

/-- An unmatched stamp of a group (R97); `t = none` for an edge lost to dead time. -/
structure GStamp where
  gi : Nat
  t : Option Nat
  cold : Bool
  deriving DecidableEq, Repr

/-- A group result (R98). -/
structure GRes where
  val : Int
  ch : Nat
  order : Bool
  tooClose : Bool
  range : Bool
  noMatch : Bool
  cold : Bool
  gi : Nat
  deriving DecidableEq, Repr

/-- The start and stop stamps of one stop channel of a group that are not yet paired. -/
structure GPair where
  starts : List GStamp
  stops : List GStamp
  deriving DecidableEq, Repr

def GPair.reset : GPair := ⟨[], []⟩

/-- A measurement group (R97–R99). -/
structure Group where
  base : Tbl Nat         -- edge index at which the group's count of a channel starts, by channel
  pair : Tbl GPair       -- by stop channel
  fifo : List GRes
  deriving DecidableEq, Repr

def Group.reset : Group := ⟨[], [], []⟩

/-- The accumulators of a regression gate (R101). -/
structure Gate where
  n : Nat
  t0 : Int
  si : Int
  sii : Int
  st : Int
  stt : Int
  sit : Int
  prev : List (Int × Nat × Int)   -- the last two used stamps: (stamp, edge index, i), newest first
  gap : Bool
  cold : Bool
  swap : Bool
  part : Bool
  sat : Bool
  deriving DecidableEq, Repr

def Gate.new (part : Bool) : Gate :=
  { n := 0, t0 := 0, si := 0, sii := 0, st := 0, stt := 0, sit := 0, prev := [], gap := false, cold := false, swap := false,
    part := part, sat := false }

/-- A channel's regression engine: the gate in progress with its end count once a gate has ended before it, the stamps later than that end
(R100), and the closed gate that waits for its publication, with its end count. -/
structure Regr where
  cur : Option Gate
  stop : Option Nat
  ahead : List TiuRec
  closing : Option (Gate × Nat)
  deriving DecidableEq, Repr

def Regr.reset : Regr := ⟨none, none, [], none⟩

/-- A statistics engine's block in progress (R103, R104); samples in units of 2⁻¹⁶ of the source's unit. -/
structure Stat where
  n : Nat
  sum : Int
  sumsq : Int
  min : Int
  max : Int
  cold : Bool
  swap : Bool
  excl : Nat
  last : Option Int      -- KIND 1: the last stamp
  anchor : Nat           -- KIND 2: the anchor, 72 bits
  deriving DecidableEq, Repr

def Stat.reset : Stat := { n := 0, sum := 0, sumsq := 0, min := 0, max := 0, cold := false, swap := false, excl := 0, last := none, anchor := 0 }

structure TiuPart where
  count : Nat             -- era:coarse, 56 bits (R91)
  chan : Tbl Chan
  interp : Tbl Interp     -- 0–24
  calOn : Bool            -- a calibration step is in progress
  calSub : Nat            -- the sub-step in progress, or the one that ended last
  calPhase : Nat          -- 0 none, 1 spare in parallel, 2 channel's interpolator calibrated, 3 reconnected in parallel
  calDue : Nat            -- conversions left to make in the sub-step (R95)
  calSegs : Nat           -- linearity segments left to rebuild (R92, R95)
  calSteps : Nat          -- steps since the linearity tables were rebuilt
  xtalY : Int             -- period offset of the 32.768 kHz crystal as CH21 last measured it, 2⁻⁴⁸ (R82)
  grp : Tbl Group
  regr : Tbl Regr
  stat : Tbl Stat
  hcap : List TiuRec
  hcapDrop : Bool
  reads : Nat             -- bit 24t + n: engine TEt has read channel n's record buffer in this lap (R134)
  recs : Tbl (Option TiuRec) -- the newest record that each TE has read, at 24t + n
  selAt : List Nat        -- the TIU counts of the last two ticks of the selection routine, newest first (R116)
  selDone : Bool          -- the routine has run in this lap (R111)
  deriving DecidableEq, Repr

def TiuPart.reset : TiuPart :=
  { count := 0, chan := [], interp := [], calOn := false, calSub := 0, calPhase := 0, calDue := 0, calSegs := 0, calSteps := 0, xtalY := 0,
    grp := [], regr := [], stat := [], hcap := [], hcapDrop := false, reads := 0, recs := [], selAt := [], selDone := false }

/-! ### References and selection (R108–R128) -/

structure RefPart where
  lastAct : Option Nat   -- pin time of the last edge, pulse or valid output
  act : Bool             -- its activity window has not closed since
  lapses : List Nat      -- ends of earlier windows that a later edge followed before they were closed, oldest first (R116)
  lost : Bool            -- a window has closed since the last tick
  seq : Nat              -- publication count last taken into account
  pub : Nat              -- TIU count at which the estimate was published (R113)
  ok : Bool              -- the estimate carries none of TOO_FEW, PARTIAL, COLD
  had : Bool             -- a fresh estimate has been seen since OFF
  freqOk : Bool          -- last result of the frequency test
  start : Nat            -- TIU count at which the running timer started (R120)
  phase : Option (Nat × Int) -- a packet servo's last phase output: its pin time, and device time less master time in ps (R133)
  deriving DecidableEq, Repr

def RefPart.reset : RefPart :=
  { lastAct := none, act := false, lapses := [], lost := false, seq := 0, pub := 0, ok := false, had := false, freqOk := false, start := 0,
    phase := none }

/-- A steering port (R131): the word in force, the change it is spreading, the next update, and the word
written for the next lap with the engine that wrote it. -/
structure Steer where
  cur : Int
  old : Int
  new : Int
  j : Nat
  pend : Option (Nat × Int)
  deriving DecidableEq, Repr

/-- The reset word of steering port `k`: the nominal increments of 2 ns (R151) and 1.28 ns (R154), else zero offset. -/
def Steer.dflt (k : Nat) : Steer :=
  if k = 4 then ⟨0x20000000000, 0x20000000000, 0x20000000000, 1000, none⟩
  else if 5 ≤ k ∧ k ≤ 8 then ⟨1407374883553, 1407374883553, 1407374883553, 1000, none⟩
  else ⟨0, 0, 0, 1000, none⟩

/-! ### DPLLs (R129–R150) -/

/-- A stretch of `n` times 125 µs in LOCKED: sums over it of steering offset, crystal temperature in mK and die temperature in 1/256 K. -/
structure HoSec where
  y : Int
  tc : Int
  td : Int
  n : Nat
  deriving DecidableEq, Repr

/-- The holdover model latched at entry (R140). -/
structure HoModel where
  y : Int
  age : Int
  kc : Int
  kd : Int
  tc : Int
  td : Int
  deriving DecidableEq, Repr

structure DpllPart where
  cmd : Option Nat       -- a command that waits for the next lap boundary (R148)
  now : Option Nat       -- the command that the boundary applied, for this tick's rows
  y : Int                -- steering offset of the last tick, 2⁻⁴⁸
  wrote : Bool           -- a steering word was written in this lap
  ticked : Bool          -- the loop has run in this lap (R134)
  integ : Int            -- the integrator's frequency, 2⁻¹¹² (R132)
  smp : Option Nat       -- stamp of the last phase sample taken (R133)
  gap : Nat              -- time since that sample, in units of 125 µs
  ival : Nat             -- time between the last two samples, in units of 125 µs
  whole : Int            -- whole seconds by which a SET has moved the time it steers, not yet seen by the loop (R157)
  bo : Int               -- build-out, ps
  relock : Bool          -- the APLL it steers has locked again since the last sample (R193)
  rebase : Bool          -- the detector is rebased at the next sample (R147)
  det : Int              -- the last sample, ps
  slew : Int             -- phase still to be slewed, 1/8 ps
  step : Option Int      -- an initial alignment step for the next lap boundary, ps (R144)
  bw : Nat               -- bandwidth code in force
  lockT : Nat            -- time within LOCK_THR, in units of 125 µs
  unlockT : Nat          -- time beyond 4 × LOCK_THR
  pe : List Nat          -- |phase error| of the last second locked, newest first, ps
  hist : List HoSec      -- the holdover window, newest first (R140)
  model : HoModel
  held : Option Int      -- the word the port held when the servo went absent
  ho : Nat               -- time since entry to holdover, in units of 125 µs
  te : Nat               -- TE_EST in units of 1 / (2⁴⁸ × 14,155,776) ps
  absent : Nat           -- laps of the absence timer
  rung : Nat             -- the rung term of R163, in attoseconds
  deriving DecidableEq, Repr

def HoSec.zero : HoSec := ⟨0, 0, 0, 0⟩
def HoModel.zero : HoModel := ⟨0, 0, 0, 0, 0, 0⟩
def DpllPart.reset : DpllPart :=
  { cmd := none, now := none, y := 0, wrote := false, ticked := false, integ := 0, smp := none, gap := 0, ival := 0, whole := 0, bo := 0,
    relock := false, rebase := false, det := 0, slew := 0, step := none, bw := 50, lockT := 0, unlockT := 0, pe := [], hist := [], model := .zero, held := none, ho := 0, te := 0, absent := 0, rung := 0 }

/-! ### Time (R151–R169) -/

/-- A record of the tie ring (R153): the boundary's TCLK count, the MTC there, and the increments before and after it. -/
structure Tie where
  count : Nat
  mtc : Nat
  before : Int
  after : Int
  deriving DecidableEq, Repr

/-- An entry of a timescale's tie table (R288): MTC and timescale value at the boundary, MTC increments and rates before and after
it, and whether the timescale is enabled. -/
structure TsTie where
  run : Bool
  mtc : Nat
  acc : Nat
  incBefore : Int
  incAfter : Int
  rateBefore : Int
  rateAfter : Int
  deriving DecidableEq, Repr

/-- A timescale (R155). `acc` is SEC, NS, FRAC and the 56 bits below as one number of 2⁻⁸⁸ ns. -/
structure TsPart where
  run : Bool
  acc : Nat
  cmd : Option (Nat × Int)   -- pending command with its copied argument, 2⁻⁸⁸ ns or 2⁻⁴⁸ (R157)
  utcW : Bool                -- a write to TS_UTC_CFG waits for the boundary (R158)
  aligned : Bool             -- its governing DPLL has been aligned since (R162)
  gov : Nat                  -- governing DPLL at the last evaluation; 15 none
  table : List TsTie         -- newest first
  deriving DecidableEq, Repr

def TsPart.reset : TsPart := { run := false, acc := 0, cmd := none, utcW := false, aligned := false, gov := 15, table := [] }

/-- A trigger (R164–R166): fire time, grid anchor and period in 2⁻⁸⁸ ns, with the mode and timescale it was armed with. -/
structure TrgPart where
  f : Int
  anchor : Int
  period : Nat
  per : Bool
  ts : Nat
  pe : Nat              -- PE and TE of TRG_CFG as they were at the ARM (R169)
  te : Bool
  deriving DecidableEq, Repr

def TrgPart.reset : TrgPart := ⟨0, 0, 0, false, 0, 0, false⟩

/-- A port stamping clock (R154): its value, whether it has been loaded since FCLK started, and its consecutive laps within 15 ps. -/
structure PcPart where
  val : Nat
  loaded : Bool
  laps : Nat
  deriving DecidableEq, Repr

def PcPart.reset : PcPart := ⟨0, false, 0⟩

structure TimePart where
  mtc : Nat                        -- 120 bits, 2⁻⁴⁰ ns
  ring : List Tie                  -- newest first, at most 256
  ts : Tbl TsPart
  trg : Tbl TrgPart
  pc : Tbl PcPart
  pin : Tbl Bool                   -- TRIG pin k holds its active level
  pinEdge : Tbl Nat                -- where pin k's last pulse started, in steps of TCLK / 128 of the TIU count (R164)
  aph : Tbl Int                    -- phase of APLL k (9: the timebase) in 2⁻⁴⁸ of a nominal TCLK cycle (R133)
  stepReq : List (Nat × Nat × Int) -- steps a TE asked for: engine, target (0 MTC, 1 + t), amount in 2⁻¹⁶ ns (R294)
  evGate : List (Nat × Nat × Nat)  -- trigger events on their way: engine (0–3 PE, 4–5 TE), trigger, fire time
  evq : Tbl (List Nat)             -- events waiting at an engine, by engine × 16 + trigger, oldest first
  deriving DecidableEq, Repr

/-- TS0 is enabled at reset (R156). -/
def TimePart.reset : TimePart :=
  { mtc := 0, ring := [], ts := [(0, { TsPart.reset with run := true, gov := 0 })], trg := [], pc := [], pin := [], pinEdge := [], aph := [], stepReq := [], evGate := [], evq := [] }

/-! ### Synthesis (R170–R203) -/

/-- An APLL: the nominal divider in force (N × 2⁴⁸), PFDSEL in force, and the searched frequency in units of 25 MHz × 2⁻⁴⁸. -/
structure ApllPart where
  nom : Nat
  pfd : Nat
  searched : Nat
  dco : Int             -- the DCO's frequency, in units of 25 MHz × 2⁻⁹⁶ (R178)
  deriving DecidableEq, Repr

/-- Reset: N = 218.75 for APLL0 and 200 for the others (R174, R203). -/
def ApllPart.dflt (a : Nat) : ApllPart := ⟨if a = 0 then 875 * 2 ^ 46 else 200 * 2 ^ 48, 0, 0, 0⟩

/-- An output: the group in force, whether it waits for an alignment tick, completes its high phase before it stops, waits to be
handed over, and has a pulse high; the last pulse's edge as steps of 1/64 VCO cycle after the TCLK edge `edgeAt`, and its width in VCO
cycles (R194). -/
structure OutPart where
  grp : Nat
  waiting : Bool
  stopping : Bool
  hoPend : Bool
  high : Bool
  edgeAt : Nat
  edge : Int
  width : Nat
  deriving DecidableEq, Repr

def OutPart.reset : OutPart := ⟨0, false, false, false, false, 0, 0, 0⟩

structure SynPart where
  apll : Tbl ApllPart
  out : Tbl OutPart
  back : Bool            -- a return to L0 is to search APLL1–APLL3 once APLL0 has locked (R177, R201)
  deriving DecidableEq, Repr

def SynPart.reset : SynPart := ⟨[], [], false⟩

/-! ### GNSS (R204–R220) -/

/-- A channel of the baseband (R209): its carrier NCO in 0.5 Hz from the intermediate frequency, its code NCO in samples of the search
it came from, and the outputs of its seven correlators. -/
structure GnssChan where
  carr : Int
  code : Int
  taps : Taps
  deriving DecidableEq, Repr

def GnssChan.reset : GnssChan := ⟨0, 0, Vector.replicate 7 (0, 0)⟩

/-- A CH22 stamp of a PPS whose record is awaited, the SOL_SEQ at the stamp, and the servo tick in which 900 ms had passed (R215). -/
structure PpsStamp where
  t : Nat
  seq : Nat
  due : Option Nat
  deriving DecidableEq, Repr

structure GnssPart where
  gfe : Nat               -- DIV, EDGE and FMT in force, as bits [4:1] of GFE_CTRL (R205)
  chan : Tbl GnssChan     -- the channels (R209)
  acqFrom : Nat           -- the TIU count at which the acquisition engine began its search (R211)
  cmd : Nat               -- POS_CMD that waits for the next epoch; 0 none
  stored : Bool           -- a position stored by HOLD_FIXED or a completed survey
  survS : Nat             -- surveyed seconds
  sum : Int × Int × Int   -- the survey's sums of the positions, in mm
  sumSq : Nat             -- and of their squares
  lastFix : Nat           -- the TIU count of the last 3D fix
  lastSat : Nat           -- and of the last epoch with a satellite used
  fix : Bool              -- the last epoch had a 3D fix
  used : Nat              -- satellites used at the last epoch
  nexcl : Nat             -- and excluded
  sol : Option (Nat × Int)  -- the last solution: its top of second in stamp units and its drift in 2⁻⁴⁸ (R214)
  edge : Option Nat       -- the GSCLK edge of the last PPS, until its record (R214)
  stamp : Option PpsStamp
  top : Option Nat        -- the top of second of the last pair of stamp and record (R215)
  weak : Tbl Nat          -- successive windows below 28 dB-Hz, by channel (R218)
  deriving DecidableEq, Repr

def GnssPart.reset : GnssPart :=
  { gfe := 0, chan := [], acqFrom := 0, cmd := 0, stored := false, survS := 0, sum := (0, 0, 0), sumSq := 0, lastFix := 0, lastSat := 0, fix := false,
    used := 0, nexcl := 0, sol := none, edge := none, stamp := none, top := none, weak := [] }

/-! ### Ports (R221–R242, R377) -/

/-- A basket record (R377): the departure's PCn time in 2⁻⁴⁰ ns. -/
structure BasketRec where
  tag : Nat
  unsync : Bool
  uncal : Bool
  suppressed : Bool
  lateStart : Bool
  stamp : Nat
  deriving DecidableEq, Repr

/-- A port: PORT_CFG as in force since the last entry to AN or LOCKING, the constants CAL_RX[m] and CAL_TX[m] written (bit m), and
its basket. -/
structure PortPart where
  cfg : Nat
  calRx : Nat
  calTx : Nat
  basket : List BasketRec
  eq : Nat                     -- the receive equaliser state that the last completed training stored (R224)
  rxEq : Option Nat            -- the state that the receive equaliser has been started from or trained to
  offer : Option Nat           -- the stored coefficients, as TRAIN_COEF[21:0], that the port offers to the partner (R228)
  esmcRx : Nat                 -- the TIU count of the last ESMC information PDU received (R240)
  esmcTx : Option (Nat × Nat)  -- the TIU count and the quality level of the last one that firmware sent
  turn : Option Nat            -- a fabric cycle, modulo 25, at which the transmitter's word clock is at the phase of PORT_TX_PHASE (R234)
  deriving DecidableEq, Repr

def PortPart.reset : PortPart := ⟨0x06401078, 0, 0, [], 0, none, none, 0, none, none⟩

/-! ### Engines of the fabric (R243–R268) -/

/-- A received frame (R222, R230): its octets with the FCS, its outcome and its start-of-frame stamp in 2⁻⁴⁰ ns. -/
structure RxFrame where
  octets : List Byte
  cut : Bool
  good : Bool
  tooLong : Bool
  runt : Bool
  stamp : Nat
  unsync : Bool
  uncal : Bool
  deriving DecidableEq, Repr

/-- A claim of a start opportunity (R236): its timestamp point in PCn time, the end of its span, and whether it was moved. -/
structure Claim where
  tp : Nat
  spanEnd : Nat
  moved : Bool
  deriving DecidableEq, Repr

/-- A live instance (R249–R251): its number k, the bank it runs from, its start cycle, the cycle after its last bundle, its frames of
R279, its request and the beats of it released, whether a beat was late, its reply slot, its claim, and whether a TXGO has
executed. -/
structure Inst where
  k : Nat
  bank : Nat
  start : Nat
  stop : Nat
  f : Nat
  fp : Nat
  frame : RxFrame
  rel : Nat
  late : Bool
  reply : Tbl DWord
  claim : Option Claim
  done : Bool
  deriving DecidableEq, Repr

/-- A committed reply that waits for its departure: its instance and bank, its timestamp point, the length of its TXGO, its octets with the
FCS, and whether it is clipped. -/
structure Commit where
  k : Nat
  bank : Nat
  tp : Nat
  len : Nat
  octets : List Byte
  clipped : Bool
  deriving DecidableEq, Repr

/-- A descriptor of the originated buffer (R257). -/
structure Desc where
  off : Nat
  len : Nat
  mode : Nat
  tag : Nat
  insOff : Nat
  insFmt : Nat
  deriving DecidableEq, Repr

/-- A reserved originated frame (R259): its descriptor and its timestamp point. -/
structure Resv where
  d : Desc
  tp : Nat
  deriving DecidableEq, Repr

/-- What the running image declares for a port (R312): MODES, F, FP, SHARE, and II and D by mode index. -/
structure PortHdr where
  modes : Nat
  entry : Nat
  f : Nat
  fp : Nat
  share : Nat
  ii : List Nat
  d : List Nat
  deriving DecidableEq, Repr

def PortHdr.none : PortHdr := ⟨0, 0, 1, 1, 0, [], []⟩

/-- A port engine and its port's frames. `runs`: it issues from an itinerary; `gap` and `ttl`: the swap gap of R330 and the end of
the old bank's instances. -/
structure PePart where
  runs : Bool
  bank : Nat
  lap : Nat
  hdr : PortHdr
  k : Nat
  last : Option Nat
  insts : List Inst
  cur : Option Nat           -- the instance whose frame is being released
  rx : List RxFrame          -- frames that wait at the receive gate
  commits : List Commit
  sent : List (Nat × Nat × Nat) -- committed replies as (bank, timestamp point, end), for the echo meter and R331
  orig : Memory              -- the originated buffer
  queue : List Desc
  resv : List Resv
  credit : Nat               -- in 1/25,600 of an octet time
  gapII : Nat                -- cycles that the next start must follow the last one by
  oldD : List Nat            -- D of the bank before the last swap, by mode index, ps
  dbAt : Nat                 -- the fabric cycle in which the doorbell word landed
  deriving DecidableEq, Repr

def PePart.reset : PePart :=
  { runs := false, bank := 0, lap := 0, hdr := .none, k := 0, last := none, insts := [], cur := none, rx := [], commits := [], sent := [],
    orig := [], queue := [], resv := [], credit := 0, gapII := 0, oldD := [], dbAt := 0 }

/-- A request at the host hamper gate (R57, R264, R409): its word address, the word to write if it writes, what the check bits will say,
whether it has waited beyond its phase, and whether it is the prefetch of HWIN. -/
structure HamReq where
  addr : Nat
  wr : Option Word
  ecc : Ecc
  waited : Bool
  hwin : Bool
  deriving DecidableEq, Repr

/-- The fabric: the hamper, the FCLK cycles that a TCLK leaves over in sixteenths, the host hamper gate's queue, and the TE copies of
the sample streams SMP0–SMP3 with the samples on their way to them. -/
structure FabPart where
  mem : Memory
  frac : Nat
  gateQ : List HamReq
  smpWay : List (Nat × DWord)
  smp : Tbl (List DWord)
  keep : Bool                -- the hamper is kept through rung L1
  pe : Tbl PePart
  deriving DecidableEq, Repr

def FabPart.reset : FabPart := { mem := [], frac := 0, gateQ := [], smpWay := [], smp := [], keep := false, pe := [] }

/-! ### Engine contexts (R269–R309) -/

/-- A result in flight (R276): the instance it belongs to, the physical registers and predicate it writes, and whether it is a block of
an AES pipeline; `due`: the time of the engine's clock at which it is delivered. -/
structure Flight where
  inst : Option Nat
  regs : List (Nat × DWord)
  pred : Option (Nat × Bool)
  aes : Bool
  due : Nat
  deriving DecidableEq, Repr

/-- A TE hamper operation in flight (R23): 0 HLD, 1 HST, 2 HBKT; its address, its data word and its destination register, and the TIU
count at its issue. -/
structure TeOp where
  kind : Nat
  addr : Nat
  data : DWord
  dst : Option Nat
  at_ : Nat
  deriving DecidableEq, Repr

/-- An AES key slot (R300): its 256 bits as octets 0–31, and whether it holds an AES-256 key. -/
structure AesSlot where
  key : List Byte
  long : Bool
  deriving DecidableEq, Repr

def AesSlot.zero : AesSlot := ⟨List.replicate 32 0, false⟩

/-- A loop of a TE lap (R305): trips left and body length. -/
structure LoopCtx where
  trips : Nat
  body : Nat
  deriving DecidableEq, Repr

/-- An engine's registers, memories and operations in flight. Predicates are a mask of p0–p15; `limm` is the long immediate of the
last LIMM by stream (0 lap, k + 1 instance k); `hold` are the results of the bundle in progress that take effect at its end. -/
structure EngPart where
  g : Tbl DWord
  p : Nat
  limm : Tbl DWord
  data : Memory
  scratch : Memory
  seeds : Tbl DWord
  aes : Tbl AesSlot          -- pipeline × 128 + slot
  hold : List Flight
  fly : List Flight
  teOps : List TeOp
  loops : Tbl LoopCtx        -- by nesting level
  ev16 : Bool                -- event source 16 of a static engine is pending (R306)
  deriving DecidableEq, Repr

def LoopCtx.zero : LoopCtx := ⟨0, 0⟩
def EngPart.reset : EngPart :=
  { g := [], p := 0, limm := [], data := [], scratch := [], seeds := [], aes := [], hold := [], fly := [], teOps := [], loops := [], ev16 := false }

/-! ### The itinerary store (R310–R340) -/

/-- An armed swap (R326): the bank, c_s, and whether the commit point has passed. -/
structure Arm where
  bank : Nat
  cs : Nat
  committed : Bool
  deriving DecidableEq, Repr

/-- The store: bank b at byte b × 2²⁰, its words that cannot be corrected, the armed swap, the ports whose gap is open, the TEs that
have yet to swap, and each TE's bank. -/
structure ItinPart where
  store : Memory
  ue : Tbl Bool
  arm : Option Arm
  gap : Nat
  teWait : Nat
  teBank : Tbl (Option Nat)
  drainTo : Nat             -- the fabric cycle by which the old bank's instances have ended
  verAt : Nat               -- when the verification began, ps
  deriving DecidableEq, Repr

def ItinPart.reset : ItinPart := { store := [], ue := [], arm := none, gap := 0, teWait := 0, teBank := [], drainTo := 0, verAt := 0 }

/-! ### Non-volatile store (R430–R452) -/

/-- A master's copy of the NVS window (R432): its address, the region its stream started in (R435), its byte lanes, the counter it
shows, its staged password, and whether its write stream is stopped. -/
structure NvsBank where
  addr : Nat
  start : Nat
  be : Nat
  ctrSel : Nat
  pw : Nat
  stopped : Bool
  deriving DecidableEq, Repr

def NvsBank.reset : NvsBank := ⟨0, 0, 0xf, 0, 0, false⟩

/-- A word of the write buffer (R434): its master ID, its address, the address its stream started at, its lanes and its data. -/
structure NvsWrite where
  master : Nat
  addr : Nat
  start : Nat
  be : Nat
  data : Word
  deriving DecidableEq, Repr

/-- The non-volatile store. `mem`, `pw` and the failure counts outlive power and reset: `pw` holds the passwords of the keys region
(2 × region + kind) and `fails`, `locked` the counts and lockouts of the always-on island (R439). -/
structure NvsPart where
  mem : Memory
  pw : Tbl Nat
  fails : Tbl Nat              -- by region
  locked : Tbl Bool            -- by region
  opened : Tbl Bool            -- by 8 × master ID + 2 × region + kind
  bank : Tbl NvsBank           -- by master ID
  buf : List NvsWrite
  ctr : Tbl Nat                -- counter shadows
  sat : Tbl Bool               -- SAT of a counter
  jobs : List Nat              -- counters whose increment is in progress or waits, the first in progress
  log : Option (List Byte)     -- the payload of the append in progress
  recallRef : Nat              -- accesses refused during the recall in progress (R442)
  deriving DecidableEq, Repr

def NvsPart.reset : NvsPart :=
  { mem := [], pw := [], fails := [], locked := [], opened := [], bank := [], buf := [], ctr := [], sat := [], jobs := [], log := none,
    recallRef := 0 }

/-! ### Mailboxes (R389–R401) -/

/-- One direction of a channel: its queue, oldest first, with `none` for a SENDER_RESET marker; on a block channel whether a marker
waits, and the next register at which an engine reads or writes the block through its window (R394); when it last came to hold unread
content, ps (R396). -/
structure MbDir where
  q : List (Option Word)
  mark : Bool
  rp : Nat
  wp : Nat
  since : Nat
  deriving DecidableEq, Repr

def MbDir.reset : MbDir := ⟨[], false, 0, 0, 0⟩

/-! ### Security (R453–R478) -/

/-- The security block. The wrapped records of the keys region are held as what they wrap: the stored CO secret and, by slot, the
key ID and the 64 octets of an NTS master key. `chal` is the outstanding challenge with the time of its issue. -/
structure SecPart where
  secret : Option (List Byte)
  keys : Tbl (Option (Nat × List Byte))
  hash : Tbl (List Byte)       -- the hash of an OTP slot
  otpAt : Option (Nat × Nat)   -- the OTP slot last programmed and when
  stage : Tbl Word             -- SEC_STAGE, by 32 × master ID + word
  chal : Option (List Byte × Nat)
  commit : Option (Nat × Nat)  -- the counter of a commit and its target (R471)
  stOk : Bool                  -- tests 0x01–0x08 passed at the last power-up and at every SELFTEST since
  dead : Bool                  -- a rerun failed: CO services and verification are refused until a reset (R467)
  tamperLow : Bool
  tamperOwed : Bool            -- a TAMPER latched in L3 or L4 zeroises after the recall (R474)
  deriving DecidableEq, Repr

def SecPart.reset : SecPart :=
  { secret := none, keys := [], hash := [], otpAt := none, stage := [], chal := none, commit := none, stOk := false, dead := false,
    tamperLow := false, tamperOwed := false }

/-! ### Supervisor engine and its firmware (R379–R405) -/

/-- A block message being received on a block channel (R403): SEQ, CMD, ARG and the octets so far. -/
structure BlkMsg where
  seq : Nat
  cmd : Nat
  arg : Nat
  octets : List Byte
  deriving DecidableEq, Repr

/-- A response block that waits to be posted: its registers as octets and its control word. -/
structure BlkOut where
  octets : List Byte
  ctl : Nat
  deriving DecidableEq, Repr

/-- A local access of the SE that waits for the end of its bundle (R308): its opcode, its syllable and what the check bits say. -/
structure SeMem where
  op : Nat
  y : Syl
  ecc : Ecc
  deriving DecidableEq, Repr

/-- The supervisor engine: pc (a bundle), return stack, instruction SRAM, the master that wrote BOOT, and what stock firmware holds: its
counts, block messages and answers by channel, the PTP datasets given to it, its CUR_SLOT and the log records it owes (R500); `book`: what the
syllables of the bundle in progress charge above idle slots, in 0.1 pC (R283); `dreqAt`: the TIU count at which it last answered a Delay_Req
(R365); `mem`: the local access that waits for the end of the bundle. -/
structure SePart where
  pc : Nat
  stack : List Nat
  code : Memory
  booter : Nat
  cut : Nat
  badCmd : Nat
  msg : Tbl (Option BlkMsg)
  resp : Tbl (List BlkOut)
  ptp : List Byte
  cur : Nat
  owed : Nat
  book : Nat
  dreqAt : Option Nat
  mem : Option SeMem
  deriving DecidableEq, Repr

def SePart.reset : SePart :=
  { pc := 0, stack := [], code := [], booter := 0, cut := 0, badCmd := 0, msg := [], resp := [], ptp := [], cur := 0, owed := 0, book := 0, dreqAt := none, mem := none }

/-! ### Services of the stock itinerary (R341–R378) -/

/-- What the stock lap of a port holds: the configuration applied, a copy that waits for the next boundary with its CFG_SEQ, the next
session entry to visit, the cycle of the last captured exception, the last Sync's sequenceId and correction, and where it next writes
the originated buffer; the injection slots that firmware has filled and the lap has yet to copy, and the next one it fills (R374); when firmware last wrote REFTS (R347), and whether an
update has ever been applied (R348). -/
structure SvcPart where
  cfg : Memory
  pend : Option (Nat × Memory)
  visit : Nat
  lastExc : Option Nat
  sync : Option (Nat × Int)
  bufAt : Nat
  fwSlots : List Nat
  fwNext : Nat
  refAt : Option Nat
  taken : Bool
  deriving DecidableEq, Repr

def SvcPart.reset : SvcPart := ⟨[], none, 0, none, none, 0, [], 0, none, false⟩

/-! ### DMA (R414–R429) -/

/-- A channel's transfer: its entry store as (host address, length), the entry in progress and the bytes of it done, the store bank it
uses, and whether its half event has counted. -/
structure DmaCh where
  entries : List (Nat × Nat)
  ent : Nat
  off : Nat
  bank : Nat
  half : Bool
  deriving DecidableEq, Repr

def DmaCh.reset : DmaCh := ⟨[], 0, 0, 0, false⟩

/-- The channels, the channel last served (R422), and when the last halt was (R424). -/
structure DmaPart where
  ch : Tbl DmaCh
  last : Nat
  haltAt : Nat
  deriving DecidableEq, Repr

def DmaPart.reset : DmaPart := ⟨[], 7, 0⟩

/-! ### Daisy cascade (R525–R541) -/

/-- What a device's calibration declares: DZ_CAL_TX, DZ_BOARD and DZ_CAL_RX, in ps (R531). -/
structure DzDev where
  tx : Nat
  board : Nat
  rx : Nat
  deriving DecidableEq, Repr

/-- The daisy link: block lock held on DZ_IN; when its state was entered; what the device declared of itself as CAL began; whether TS0 has been set from a time block since the last reset (R534); on the master
the devices as calibrated, the hop delays in force and those of CAL by hop, ε of up to 16 marks, newest first, and the time at which
the mark left with its number (R531–R533); the value DZ_HOP_IN moves to and the value set at CAL; on a member the stamp and residence
of the mark whose block is awaited, its stamp none once unused, and the last pair of stamp and master time in 2⁻³² ns (R534); and the remote whistles and releases
that wait for their reports (R539). -/
structure DaisyPart where
  locked : Bool
  since : Nat
  self : DzDev
  timeSet : Bool
  devs : List DzDev
  hops : List Int
  calHops : List Int
  eps : List Int
  sent : Option (Nat × Nat)
  seq : Nat
  target : Nat
  mark : Option (Option Nat × Nat)
  pair : Option (Nat × Int)
  cmds : List Nat
  deriving DecidableEq, Repr

def DaisyPart.reset : DaisyPart :=
  { locked := false, since := 0, self := ⟨0, 0, 0⟩, timeSet := false, devs := [], hops := [], calHops := [], eps := [], sent := none, seq := 0, target := 0, mark := none,
    pair := none, cmds := [] }

/-! ### Test access (R542–R552) -/

/-- A TMUX pin: the selection in force as a TMUX_SEL word, its switch (0 none, 1 waits for the low phase, 2 held low), and for a
comparator selection whether the last measurement lies within the limit. -/
structure TmuxPin where
  sel : Nat
  phase : Nat
  metered : Option Bool
  deriving DecidableEq, Repr

def TmuxPin.reset : TmuxPin := ⟨0, 0, none⟩

/-- The pins, the instruction in the TAP's register, the boundary register's update latches, and what the selected data register last
captured. -/
structure TestPart where
  pin : Tbl TmuxPin
  inst : Nat
  bound : Nat
  dr : Nat
  deriving DecidableEq, Repr

def TestPart.reset : TestPart := ⟨[], 1, 0, 0x29240bc7⟩

/-! ### The power ladder (R479–R491) -/

/-- The step of a rung change in progress, by the rung it leads to; when the move began; and the crystal ticks of AO_TIME latched on
entry to L4 (R163, R484). -/
structure LadderPart where
  step : Option Nat
  moveAt : Nat
  aoTicks : Nat
  deriving DecidableEq, Repr

def LadderPart.reset : LadderPart := ⟨none, 0, 0⟩

end Sys2Proof.Machine
end

