-- ==== Sys2Proof/Machine/State.lean ====
section
/-! DEFINITION. The state of the JZ9240 as plain data, the reasons a step can stop, and the state right after reset. -/

namespace Sys2Proof.Machine

/-- Why a step faults. No rule of the spec stops the device on a command, so no meaning raises one. -/
inductive Fault where
  /-- Raised by no meaning: the type has a reason only so that it is not empty. Safe. -/
  | neverRaised
  deriving DecidableEq, Repr

/-- Why a command is refused. -/
inductive Refusal where
  /-- Raised by exec's arm of a command that has no meaning yet. Safe: the machine stops where the hardware goes on. -/
  | notModelled (mnemonic : String)
  deriving DecidableEq, Repr

/-- Everything the spec gives the block (INVENTORY.md, State). -/
structure State where
  pending : List Instr     -- the commands that wait, first in, first out
  now : Nat                -- time since power-on, ps
  free : Nat               -- counter of the open values drawn (the model's own)
  inReset : Bool           -- reset is asserted: only the always-on island runs (R514, R518)
  relAt : Nat              -- when reset was last released (R524)
  regs : Tbl Word          -- every register word by BAR 0 address; BAR 4 registers from 0x10_0000
  out : List Out           -- what has left the device, oldest first
  bus : BusPart
  irq : IrqPart
  flt : FaultPart
  rat : RationPart
  tb : TbPart
  tiu : TiuPart
  ref : Tbl RefPart        -- by reference ID
  steer : Tbl Steer        -- 0–3 APLLa, 4 the MTC increment, 16 + t the rate of TSt
  dpll : Tbl DpllPart
  tm : TimePart
  syn : SynPart
  gnss : GnssPart
  prt : Tbl PortPart
  fab : FabPart
  itin : ItinPart
  eng : Tbl EngPart        -- 0–3 PE, 4–5 TE, 6 SE
  nvs : NvsPart
  mb : Tbl MbDir           -- by 2 × channel + direction: 0 A to B, 1 B to A
  sec : SecPart
  se : SePart
  svc : Tbl SvcPart        -- by port
  dma : DmaPart
  dz : DaisyPart
  lad : LadderPart
  tst : TestPart
  deriving DecidableEq, Repr

/-- The machine right after power-on reset (R514): every register at its reset value, nothing listed, reset still asserted. -/
def State.reset : State :=
  { pending := [], now := 0, free := 0, inReset := true, relAt := 0, regs := [], out := [],
    bus := .reset, irq := .reset, flt := .reset, rat := .reset, tb := .reset, tiu := .reset, ref := [], steer := [], dpll := [], tm := .reset, syn := .reset, gnss := .reset,
    prt := [], fab := .reset, itin := .reset, eng := [],
    nvs := .reset, mb := [], sec := .reset, se := .reset, svc := [], dma := .reset, dz := .reset, lad := .reset, tst := .reset }

end Sys2Proof.Machine
end

