-- ==== Sys2Proof/Machine/Ops.lean ====
section
/-! DEFINITION. The shared operations of every family: register words and fields, counters of R67, fault messages (R492–R496),
interrupt conditions and MSI-X (R70–R72), islands and their blocks (R10, R12, R49), governors (R40), open values. -/

namespace Sys2Proof.Machine

/-! ### Registers and fields -/

/-- The word at register address `a`. -/
def State.reg (s : State) (a : Nat) : Word := Tbl.get regReset s.regs a

/-- The state with register word `a` holding `v`. -/
def State.setReg (s : State) (a : Nat) (v : Word) : State := { s with regs := Tbl.set regReset s.regs a v }

/-- The word at `a` as a number. -/
def State.rv (s : State) (a : Nat) : Nat := (s.reg a).toNat

/-- The state with the number `v`, modulo 2³², in register word `a`. -/
def State.setRv (s : State) (a v : Nat) : State := s.setReg a (BitVec.ofNat 32 v)

/-- The bits of field `f` in word `w`. -/
def Fld.of (f : Fld) (w : Nat) : Nat := w / 2 ^ f.lo % 2 ^ f.w

/-- Word `w` with field `f` holding `v`, modulo its width. -/
def Fld.put (f : Fld) (w v : Nat) : Nat := w - f.of w * 2 ^ f.lo + v % 2 ^ f.w * 2 ^ f.lo

/-- The value of a field. -/
def State.fld (s : State) (f : Fld) : Nat := f.of (s.rv f.addr)

/-- The state with a field holding `v`. -/
def State.setFld (s : State) (f : Fld) (v : Nat) : State := s.setRv f.addr (f.put (s.rv f.addr) v)

/-- A one-bit field as a truth value. -/
def State.flag (s : State) (f : Fld) : Bool := s.fld f == 1

/-- The state with a one-bit field set or cleared. -/
def State.setFlag (s : State) (f : Fld) (b : Bool) : State := s.setFld f (if b then 1 else 0)

/-- The signed value of the low `w` bits of `v`. -/
def signed (w v : Nat) : Int := if 2 ^ (w - 1) ≤ v % 2 ^ w then (v % 2 ^ w : Int) - (2 ^ w : Nat) else (v % 2 ^ w : Nat)

/-- The `w`-bit two's complement of `i`. -/
def unsigned (w : Nat) (i : Int) : Nat := (i % (2 ^ w : Nat)).toNat

/-- `i` held within the signed `w`-bit range. -/
def clampS (w : Nat) (i : Int) : Int := max (-(2 ^ (w - 1) : Nat)) (min ((2 ^ (w - 1) : Nat) - 1) i)

/-- The word at `a` as a signed number. -/
def State.srv (s : State) (a : Nat) : Int := signed 32 (s.rv a)

/-- A quantity of `n` words from `a`, least significant word first (R65). -/
def State.quant (s : State) (a : Nat) : Nat → Nat
  | 0 => 0
  | n + 1 => s.rv a + 2 ^ 32 * s.quant (a + 4) n

/-- The state with the quantity `v` in `n` words from `a`. -/
def State.setQuant (s : State) (a : Nat) : Nat → Nat → State
  | 0, _ => s
  | n + 1, v => (s.setRv a v).setQuant (a + 4) n (v / 2 ^ 32)

/-- An event counter advances and wraps (R67). -/
def State.bump (s : State) (a : Nat) : State := s.setRv a (s.rv a + 1)

/-- A 32-bit error counter advances and saturates (R67). -/
def State.bumpSat (s : State) (a : Nat) : State := if s.rv a < 2 ^ 32 - 1 then s.setRv a (s.rv a + 1) else s

/-- A counter in a field advances and saturates (R67). -/
def State.bumpFld (s : State) (f : Fld) : State := if s.fld f < 2 ^ f.w - 1 then s.setFld f (s.fld f + 1) else s

/-- A 16-bit counter in the low half of a register advances and saturates. -/
def State.bump16 (s : State) (a : Nat) : State := s.bumpFld ⟨a, 0, 16⟩

/-- A 48-bit traffic counter of two words advances by `k` and wraps (R67). -/
def State.bump48 (s : State) (a k : Nat) : State := s.setQuant a 2 ((s.quant a 2 + k) % 2 ^ 48)

/-- The arrival gate `k` of those that no register counts has presented data late (R20, R21): 0 timekeeping control, 1 sample, 8 + n stamp of
channel n. -/
def State.gateLate (s : State) (k : Nat) : State :=
  { s with bus := { s.bus with late := Tbl.set (fun _ => 0) s.bus.late k (Tbl.get (fun _ => 0) s.bus.late k + 1) } }

/-! ### Open values -/

/-- The next open value of the spec, and the state that has drawn it. -/
def State.draw (s : State) : Nat × State := (Config.freeValue s.free, { s with free := s.free + 1 })

/-- The state with something more sent out. -/
def State.emit (s : State) (o : Out) : State := { s with out := s.out ++ [o] }

/-! ### Islands (R10, R12, R49) -/

/-- The rung the device is in (R491). -/
def State.rung (s : State) : Nat := s.fld F.RUNG_STATUS_RUNG

/-- FCLK runs (R266, R268). -/
def State.fclkOn (s : State) : Bool := !s.inReset && s.flag F.FAB_STATUS_FCLK_RUN

/-- TCLK runs: rungs L0–L2 (R105). -/
def State.tclkOn (s : State) : Bool := !s.inReset && s.rung ≤ 2

/-- The host island runs: L0–L3 (R49). -/
def State.hostOn (s : State) : Bool := !s.inReset && s.rung ≤ 3

/-- The block numbered `b` in R49 is powered and clocked. Blocks 16 and above are BAR 4, in the host island. -/
def State.blockOn (s : State) (b : Nat) : Bool :=
  s.hostOn && (match b with
    | 2 | 3 | 4 | 6 => s.rung ≤ 2
    | 5 => s.rung ≤ 3
    | 7 => s.rung ≤ 2 && s.flag F.GSCLK_MON_ACTIVE
    | 8 | 9 => s.fclkOn
    | 10 | 12 | 13 => s.rung ≤ 2
    | 15 => s.rung == 0
    | _ => true)

/-- The register word at `a` is served in the host island, so that its writes are not posted (R12, R58, R220). -/
def nearReg (a : Nat) : Bool :=
  match a / 0x10000 with
  | 0 | 1 | 11 | 14 => true
  | 7 => a == Reg.GFE_CTRL || a == Reg.GSCLK_MON || 0x7fff0 ≤ a
  | b => 16 ≤ b || 0xfff0 ≤ a % 0x10000

/-! ### Event sources and vectors (R68, R70) -/

/-- An event source of a block: its number, its counters (each with its acknowledge copy in the next word) and its vector. -/
structure Src where
  n : Nat
  ctrs : List Nat
  vec : Nat
  deriving DecidableEq, Repr

/-- The event sources of the block numbered `b`, from the rule that lists them in each chapter. -/
def blockSrcs : Nat → List Src
  | 0 => [⟨0, [Reg.RUNG_EVT], 0⟩, ⟨1, [Reg.BOOT_EVT], 0⟩]                                       -- R491, R524
  | 1 => [⟨0, [Reg.WIN_OUT], 1⟩, ⟨1, [Reg.STEP_OUT], 1⟩, ⟨2, [Reg.TRANSFER_REFUSED], 1⟩]        -- R47
  | 2 => (List.range 24).map (fun n => ⟨n, [Reg.CH_ERR n], 2⟩)
          ++ [⟨24, [Reg.TB_EVT], 2⟩, ⟨25, [Reg.CAL_EVT], 2⟩,
              ⟨26, (List.range 8).map Reg.GRP_CNT, 3⟩, ⟨27, (List.range 24).map Reg.REG_SEQ, 3⟩,
              ⟨28, (List.range 8).map Reg.STAT_SEQ, 3⟩]                                         -- R107
  | 3 => (List.range 22).map (fun i => ⟨i, [Reg.REF_EVT i], 4⟩)
          ++ (List.range 8).map (fun d => ⟨22 + d, [Reg.SEL_EVT d], 4⟩) ++ [⟨30, [Reg.DISPUTE_EVT], 4⟩]  -- R128
  | 4 => (List.range 8).map (fun d => ⟨d, [Reg.DPLL_EVT d], if d = 0 then 5 else 6⟩)             -- R150
  | 5 => (List.range 16).map (fun t => ⟨t, [Reg.TS_EVT t], 7⟩)
          ++ (List.range 16).map (fun i => ⟨16 + i, [Reg.TRG_EVT i], 8⟩)                        -- R169
  | 6 => (List.range 4).map (fun a => ⟨a, [Reg.APLL_EVT a], 9⟩)
          ++ (List.range 16).map (fun o => ⟨4 + o, [Reg.OUT_EVT o], 9⟩)                         -- R203
  | 7 => [⟨0, [Reg.SOL_SEQ], 10⟩, ⟨1, [Reg.GNSS_EVT], 10⟩]                                      -- R220
  | 8 => (List.range 4).map (fun p => ⟨p, [Reg.PORT_EVT p], 11 + p⟩)
          ++ (List.range 4).map (fun p => ⟨4 + p, [Reg.ERR_EVT p], 11 + p⟩)
          ++ (List.range 4).map (fun p => ⟨8 + p, [Reg.BASKET_EVT p], 11 + p⟩)                  -- R242, R378
  | 9 => (List.range 4).map (fun p => ⟨p, [Reg.PE_EVT p], 15⟩)
          ++ [⟨4, [Reg.ECC_EVT], 15⟩, ⟨5, [Reg.GATE_EVT], 15⟩, ⟨16, [Reg.VER_EVT], 30⟩, ⟨17, [Reg.SWAP_EVT], 30⟩]
          ++ (List.range 4).map (fun p => ⟨18 + p, [Reg.DB_EVT p], 30⟩)                         -- R268, R340
  | 10 => [⟨0, [Reg.SE_EVT], 16⟩]                                                              -- R406
  | 11 => (List.range 8).map (fun c => ⟨2 * c, [Reg.HALF_EVT c], if c < 4 then 17 else 18⟩)
          ++ (List.range 8).map (fun c => ⟨2 * c + 1, [Reg.DONE_EVT c], if c < 4 then 17 else 18⟩)
          ++ [⟨16, [Reg.HALT_EVT], 18⟩]                                                         -- R429
  | 12 => [⟨0, [Reg.NVS_EVT], 19⟩, ⟨1, [Reg.LOG_EVT], 19⟩]                                      -- R452
  | 13 => [⟨0, [Reg.SEC_EVT], 20⟩, ⟨1, [Reg.TAMPER_EVT], 20⟩]                                   -- R478
  | 14 => [⟨0, [Reg.FLT_EVT], 21⟩, ⟨1, [Reg.WHISTLE_EVT], 31⟩]                                  -- R511
  | 15 => [⟨0, [Reg.DZ_EVT], 22⟩, ⟨1, [Reg.DZ_ERR_EVT], 22⟩]                                    -- R541
  | _ => []

/-- The source is pending: one of its counters differs from its acknowledge copy (R68). -/
def State.srcPending (s : State) (r : Src) : Bool := r.ctrs.any (fun c => s.reg c != s.reg (c + 4))

/-- BLK_INT_EN of block `b` (R58). -/
def blkIntEn (b : Nat) : Nat := b * 0x10000 + 0xfff4
/-- LOST_WRITES of block `b` (R58). -/
def lostWrites (b : Nat) : Nat := b * 0x10000 + 0xfff8

/-- The vectors that the enabled pending sources of block `b` raise. -/
def State.blockConds (s : State) (b : Nat) : List Nat :=
  let en := s.rv (blkIntEn b)
  if en = 0 then [] else
    (blockSrcs b).filterMap (fun r => if en.testBit r.n && s.srcPending r then some r.vec else none)

/-- The window of mailbox channel `n` in BAR 4 (R407), as a register address. -/
def mbBase (n : Nat) : Nat := 0x100000 + 0x400 * n

/-- The vector of mailbox channel `n` (R70). -/
def mbVector (n : Nat) : Nat :=
  if n = 0 then 23 else if n ≤ 5 then 24 else if n ≤ 11 then 25 else n + 14

/-- The four event counters of channel `n` with their enable bits (R395, R407). -/
def mbCtrs (n : Nat) : List (Nat × Nat) :=
  [(0, mbBase n + 0x104), (1, mbBase n + 0x10c), (2, mbBase n + 0x114), (3, mbBase n + 0x11c)]

/-- The vectors that the mailbox channels raise, for the enables from bit `lo` of MB_INT_EN: 0 host, 8 SE (R395). -/
def State.mbConds (s : State) (lo : Nat) : List Nat :=
  (List.range 16).filterMap (fun n =>
    let en := s.rv (mbBase n + 0x124)
    if en = 0 then none
    else if (mbCtrs n).any (fun c => en.testBit (lo + c.1) && s.reg c.2 != s.reg (c.2 + 4)) then some (mbVector n) else none)

/-- The bits named in a list, as a word. -/
def bitsOf (l : List Nat) : Word := BitVec.ofNat 32 (l.foldl (fun acc v => acc ||| 2 ^ v) 0)

/-- The vector conditions that concern the host (`lo` = 0) or the SE (`lo` = 8) (R70, R395). -/
def State.conds (s : State) (lo : Nat) : Word :=
  bitsOf ((List.range 16).flatMap s.blockConds ++ s.mbConds lo)

/-- Whether vector `v` is routed to the host (R71). -/
def State.toHost (s : State) (v : Nat) : Bool :=
  s.fld ⟨if v < 16 then Reg.INT_ROUTE_LO else Reg.INT_ROUTE_HI, 2 * (v % 16), 1⟩ == 1

/-- Whether vector `v` is routed to the SE (R71). -/
def State.toSe (s : State) (v : Nat) : Bool :=
  s.fld ⟨if v < 16 then Reg.INT_ROUTE_LO else Reg.INT_ROUTE_HI, 2 * (v % 16) + 1, 1⟩ == 1

/-- The host-routed conditions (R71). -/
def State.hostConds (s : State) : Word :=
  let c := s.conds 0
  if c = 0 then 0 else bitsOf ((List.range 32).filter (fun v => c.getLsbD v && s.toHost v))

/-- The endpoint can send a message: the link is in L0, the function is not in D3hot and MSI-X is enabled (R71). -/
def State.canSend (s : State) : Bool :=
  s.irq.linkL0 && !s.irq.perstLow && !s.irq.d3hot && s.irq.enabled && s.hostOn && s.rung ≤ 2

/-- Vector `v` can send: the endpoint can, and the vector is not masked (R71). -/
def State.vecSends (s : State) (v : Nat) : Bool := s.canSend && !s.irq.mask.getLsbD v

/-- The MSI-X message of vector `v` (R70, R71): address and data from its table entry. -/
def State.msixOut (s : State) (v : Nat) : Out :=
  let w := fun k => (Tbl.get (fun _ => (0 : Word)) s.irq.table (4 * v + k)).toNat
  .msix v (w 0 + 2 ^ 32 * w 1) (w 2)

/-- Vector `v` sends its message, or sets its pending bit in place of sending (R71). -/
def State.raise (s : State) (v : Nat) : State :=
  if s.vecSends v then s.emit (s.msixOut v)
  else { s with irq := { s.irq with pend := s.irq.pend ||| BitVec.ofNat 32 (2 ^ v) } }

/-- Each vector of the list raises in turn. -/
def State.raiseAll (s : State) : List Nat → State
  | [] => s
  | v :: t => (s.raise v).raiseAll t

/-- The vectors pending, or not yet able to send since the endpoint's reset, that can now send do, where their condition is still 1; the
others' pending bits clear where their condition has fallen (R71). -/
def State.flushPend (s : State) : List Nat → State
  | [] => s
  | v :: t =>
    let s1 :=
      if (s.irq.pend.getLsbD v || s.irq.fresh.getLsbD v) && s.vecSends v then
        let b := ~~~(BitVec.ofNat 32 (2 ^ v))
        let s0 := { s with irq := { s.irq with pend := s.irq.pend &&& b, fresh := s.irq.fresh &&& b } }
        if s.hostConds.getLsbD v then s0.emit (s0.msixOut v) else s0
      else s
    s1.flushPend t

/-- After every command: each host-routed condition that rose raises its vector (R71). -/
def settle (s : State) : State :=
  let h := s.hostConds
  if h = s.irq.hc then s else
    let rose := (List.range 32).filter (fun v => h.getLsbD v && !s.irq.hc.getLsbD v)
    { s with irq := { s.irq with hc := h } }.raiseAll rose

/-! ### Test access (R542–R551) -/

/-- The TAP's instruction in force: while MAINT = 0 every instruction but IDCODE acts as BYPASS (R542, R548). -/
def State.jtagInst (s : State) : Nat := if s.tst.inst = 1 ∨ s.flag F.SEC_STATUS_MAINT = true then s.tst.inst else 0xff

/-- EXTEST, CLAMP or HIGHZ is in force: the core has lost the balls of R550 (R551). -/
def State.jtagExt (s : State) : Bool := decide (3 ≤ s.jtagInst) && decide (s.jtagInst ≤ 5)

def State.tmux (s : State) (k : Nat) : TmuxPin := Tbl.get (fun _ => TmuxPin.reset) s.tst.pin k
def State.setTmux (s : State) (k : Nat) (p : TmuxPin) : State :=
  { s with tst := { s.tst with pin := Tbl.set (fun _ => TmuxPin.reset) s.tst.pin k p } }

/-- A cell of the boundary register, counted from TDI, bit 0 of its word the first (R550). -/
def State.cell (s : State) (i : Nat) : Bool := s.tst.bound.testBit i

/-- The open-drain ball with its data cell at `i` is driven low by the boundary register (R550, R551). -/
def State.extLow (s : State) (i : Nat) : Bool := s.jtagInst != 5 && s.cell (i + 1) && !s.cell i

/-- INT_N is driven low (R72), or as the TAP says (R551). -/
def State.intN (s : State) : Bool := if s.jtagExt then s.extLow 37 else s.flag F.INTN_CTRL_EN && s.hostConds != 0

/-- The outcome of a command: the next state, with the interrupt conditions brought up to date. -/
def fin (s : State) : Host.Outcome State Fault Refusal := .next (settle s)

/-! ### Fault messages (R492–R496) -/

abbrev srcHostDecode : Nat := 0x01
abbrev srcRation : Nat := 0x02
abbrev srcTiu : Nat := 0x03
abbrev srcDma : Nat := 0x04
abbrev srcMailbox : Nat := 0x05
abbrev srcNvs : Nat := 0x06
abbrev srcSec : Nat := 0x07
abbrev srcSe : Nat := 0x08
abbrev srcVerifier : Nat := 0x09
abbrev srcHamper : Nat := 0x0a
abbrev srcPe (p : Nat) : Nat := 0x0b + p
abbrev srcTe (t : Nat) : Nat := 0x0f + t
abbrev srcPort (p : Nat) : Nat := 0x11 + p
abbrev srcDaisy : Nat := 0x15

abbrev kEccUncorrectable : Nat := 0x01
abbrev kLockedWrite : Nat := 0x02
abbrev kGuardMismatch : Nat := 0x03
abbrev kBusyWrite : Nat := 0x04
abbrev kDmaMisalign : Nat := 0x05
abbrev kDmaOverlap : Nat := 0x06
abbrev kDmaBusError : Nat := 0x07
abbrev kRationOverrun : Nat := 0x08
abbrev kItineraryReject : Nat := 0x09
abbrev kGateLate : Nat := 0x0a
abbrev kMailboxCrossed : Nat := 0x0b
abbrev kMailboxDomainOff : Nat := 0x0c
abbrev kNvsPassword : Nat := 0x0d
abbrev kNvsRegionEnd : Nat := 0x0e
abbrev kSelftestFail : Nat := 0x0f
abbrev kTamper : Nat := 0x10
abbrev kDaisyLink : Nat := 0x11

/-- The delivery buffer of source `src`. -/
def State.fbuf (s : State) (src : Nat) : FaultBuf := Tbl.get (fun _ => FaultBuf.reset) s.flt.buf src

/-- A block sends a fault message: it enters its source's buffer of four, or is lost and marks the next one (R496). -/
def State.sendFault (s : State) (src kind addr : Nat) : State :=
  let b := s.fbuf src
  let b' : FaultBuf :=
    if b.q.length < 4 then ⟨b.q ++ [⟨kind % 64, addr % 2 ^ 24, b.lost⟩], false⟩ else ⟨b.q, true⟩
  { s with flt := { s.flt with buf := Tbl.set (fun _ => FaultBuf.reset) s.flt.buf src b' } }

/-! ### Daisy lane (R527) -/

/-- The daisy link is READY (R529). -/
def State.dzReady (s : State) : Bool := s.fld F.DZ_STATUS_STATE == 6

/-- A message leaves on the daisy lane. -/
def dzEmit (dev : Nat) (m : DzMsg) (s : State) : State := s.emit (.daisy dev m)

/-- Traffic for the device of ID `dev`: carried while the link is READY. -/
def dzSend (dev : Nat) (m : DzMsg) (s : State) : State := if s.dzReady then dzEmit dev m s else s

/-! ### Whistled targets (R505, R506) -/

/-- Index `i` of whistle target `t` has reached its idle state (R506). -/
def State.wIdle (s : State) (t i : Nat) : Bool := (s.rv (Reg.WHISTLE_IDLE t)).testBit i

/-- Index `i` of whistle target `t` holds a whistle (R506). -/
def State.wHeld (s : State) (t i : Nat) : Bool := (s.rv (Reg.WHISTLE_HELD t)).testBit i

/-- `f` where block `b` is reachable; nothing changes where it is not. -/
def whenOn (b : Nat) (f : State → State) (s : State) : State := if s.blockOn b then f s else s

/-! ### Lists -/

/-- `f` applied to each element in turn. -/
def forEach {α : Type} (l : List α) (f : State → α → State) (s : State) : State := l.foldl f s

/-- The largest integer whose square is at most `n`. -/
def isqrt (n : Nat) : Nat :=
  (List.range 200).foldl (fun acc k => let b := acc + 2 ^ (199 - k); if b * b ≤ n then b else acc) 0

/-- `a / b` rounded to the nearest integer, halves away from zero; `b` positive. -/
def roundDiv (a : Int) (b : Nat) : Int :=
  if 0 ≤ a then ((2 * a.toNat + b) / (2 * b) : Nat) else -(((2 * (-a).toNat + b) / (2 * b) : Nat) : Int)

/-- The number of set bits among the low `n` bits. -/
def popcount (v n : Nat) : Nat := (List.range n).foldl (fun acc k => if v.testBit k then acc + 1 else acc) 0

/-- The event of code `c` happens: it leaves on the pins that show it, but is lost on a pin held in a switch or taken by the TAP (R545, R551). -/
def tmuxEvent (c : Nat) (s : State) : State :=
  forEach (List.range 4) (fun s k =>
    let p := s.tmux k
    if s.flag F.SEC_STATUS_MAINT && !s.inReset && !s.jtagExt && p.phase != 2 && p.sel % 256 == c then s.emit (.pulse k (p.sel.testBit 12)) else s) s

end Sys2Proof.Machine
end

