-- ==== Sys2Proof/Machine/Net.lean ====
section
/-! DEFINITION. Frames on the wire: the Ethernet frame check sequence, the Internet checksum, and the fields of a frame that the MAC
and the transmitter look at (R222, R299, R376). -/

namespace Sys2Proof.Machine

/-- One bit of the reflected CRC-32 of polynomial 0x04C1_1DB7. -/
def crcBit (c : Nat) : Nat := if c % 2 = 1 then (c / 2) ^^^ 0xedb88320 else c / 2

/-- The CRC-32 state advanced over one octet (R299). -/
def crcByte (c : Nat) (b : Byte) : Nat :=
  crcBit (crcBit (crcBit (crcBit (crcBit (crcBit (crcBit (crcBit (c ^^^ b.toNat))))))))

/-- The CRC-32 state advanced over octets, first octet first. -/
def crcBytes (c : Nat) (l : List Byte) : Nat := l.foldl crcByte c

/-- The four octets of the frame check sequence of `l`, in the order they are sent. -/
def fcsOf (l : List Byte) : List Byte := leBytes 4 ((crcBytes 0xffffffff l) ^^^ 0xffffffff)

/-- The frame's last four octets are its check sequence. -/
def fcsGood (l : List Byte) : Bool := decide (4 ≤ l.length) && l.drop (l.length - 4) == fcsOf (l.take (l.length - 4))

/-- The end-around carry, which keeps a one's-complement sum within 16 bits. -/
def foldSum (s : Nat) : Nat :=
  let a := s % 65536 + s / 65536
  let b := a % 65536 + a / 65536
  b % 65536 + b / 65536

/-- The big-endian number of `n` octets from offset `o` of a frame. -/
def be (l : List Byte) (o n : Nat) : Nat := beVal ((l.drop o).take n)

/-- The offset of the EtherType after at most one 802.1Q tag. -/
def typeOff (l : List Byte) : Nat := if be l 12 2 = 0x8100 then 16 else 12

/-- A PAUSE or priority flow control frame (R222). -/
def isPause (l : List Byte) : Bool := be l 12 2 == 0x8808 && (be l 14 2 == 1 || be l 14 2 == 0x101)

/-- `l` with the octets `n` in place from offset `o`. -/
def putAt (l : List Byte) (o : Nat) (n : List Byte) : List Byte := l.take o ++ n ++ l.drop (o + n.length)

/-- The offset of a frame's UDP checksum that insertion adjusts (R376): IPv4 with protocol 17, not a fragment, with a non-zero checksum,
or IPv6 with next header 17. -/
def udpSumOff (l : List Byte) : Option Nat :=
  let t := typeOff l
  let h := t + 2
  if be l t 2 = 0x0800 then
    let ihl := 4 * (be l h 1 % 16)
    let u := h + ihl + 6
    if be l (h + 9) 1 = 17 ∧ be l (h + 6) 2 % 0x4000 = 0 ∧ be l u 2 ≠ 0 then some u else none
  else if be l t 2 = 0x86dd ∧ be l (h + 6) 1 = 17 then some (h + 46)
  else none

/-- The one's-complement sum of the 16-bit words of octets that start at an offset of parity `odd` in the message. -/
def sumWords (odd : Bool) : List Byte → Nat
  | [] => 0
  | b :: t => (if odd then b.toNat else 256 * b.toNat) + sumWords (!odd) t

/-- The checksum `c` adjusted by the difference between new and old octets at offset `o` (R376); 0x0000 is sent as 0xFFFF. -/
def adjustSum (c o : Nat) (old new : List Byte) : Nat :=
  let odd := o % 2 == 1
  let s := foldSum (foldSum ((65535 - c) + (65535 * 512 - sumWords odd old)) + sumWords odd new)
  let r := 65535 - s
  if r = 0 then 65535 else r

/-- The frame with `new` written at `o`, and its UDP checksum adjusted where it has one (R376). -/
def insertAdjusted (l : List Byte) (o : Nat) (new : List Byte) : List Byte :=
  let l1 := putAt l o new
  match udpSumOff l with
  | some u => putAt l1 u (beBytes 2 (adjustSum (be l u 2) o ((l.drop o).take new.length) new))
  | none => l1

/-- The 64-bit register form of eight octets: the first in bits [63:56] (R291). -/
def beatOf (l : List Byte) : DWord := BitVec.ofNat 64 (beVal (l ++ List.replicate (8 - l.length) 0))

/-- Beat `i` of a frame, with zeros past its end (R251, R291). -/
def frameBeat (l : List Byte) (i : Nat) : DWord := beatOf ((l.drop (8 * i)).take 8)

/-- The octets of a beat, first octet first. -/
def beatOctets (w : DWord) : List Byte := beBytes 8 w.toNat

end Sys2Proof.Machine
end

