-- ==== Sys2Proof/Machine/Crypto.lean ====
section
/-! DEFINITION. The approved algorithms of R455, by their standards: AES (FIPS 197) with CMAC, CTR, SIV and key wrap, SHA-256 and SHA-384
(FIPS 180-4), HMAC-SHA-256 (FIPS 198-1) and ECDSA P-384 verification (FIPS 186-5). The spec names the standards and gives no formulas. -/

namespace Sys2Proof.Machine

/-! ### AES -/

/-- Multiplication by x in GF(2⁸). -/
def gx (a : Nat) : Nat := if 128 ≤ a then ((2 * a) ^^^ 0x11b) % 256 else 2 * a

/-- Multiplication in GF(2⁸). -/
def gmul (a b : Nat) : Nat :=
  ((List.range 8).foldl (fun (acc : Nat × Nat) k => (if b.testBit k then acc.1 ^^^ acc.2 else acc.1, gx acc.2)) (0, a)).1

/-- The inverse in GF(2⁸), as the power 254. -/
def ginv (a : Nat) : Nat :=
  let a2 := gmul a a; let a4 := gmul a2 a2; let a8 := gmul a4 a4; let a16 := gmul a8 a8
  let a32 := gmul a16 a16; let a64 := gmul a32 a32; let a128 := gmul a64 a64
  gmul a2 (gmul a4 (gmul a8 (gmul a16 (gmul a32 (gmul a64 a128)))))

/-- Rotation of a byte to the left. -/
def rol8 (a n : Nat) : Nat := (a * 2 ^ n % 256) ||| (a / 2 ^ (8 - n))

/-- SubBytes of one byte. -/
def sbox (a : Nat) : Nat := let b := ginv a; b ^^^ rol8 b 1 ^^^ rol8 b 2 ^^^ rol8 b 3 ^^^ rol8 b 4 ^^^ 0x63

/-- The inverse of `sbox`. -/
def sboxInv (a : Nat) : Nat :=
  let b := rol8 a 1 ^^^ rol8 a 3 ^^^ rol8 a 6 ^^^ 5
  ginv b

/-- Two blocks added. -/
def xorL (a b : List Nat) : List Nat := List.zipWith (· ^^^ ·) a b

/-- Byte `k` of a list; 0 beyond its end. -/
def at0 (l : List Nat) (k : Nat) : Nat := l.getD k 0

/-- The key schedule: `n` words of four bytes from a key of `nk` words. -/
def keyWords (nk : Nat) (key : List Nat) (n : Nat) : List (List Nat) :=
  (List.range n).foldl (fun (w : List (List Nat)) i =>
    if i < nk then w ++ [(key.drop (4 * i)).take 4]
    else
      let t := w.getD (i - 1) []
      let rcon := (List.range (i / nk - 1)).foldl (fun r _ => gx r) 1
      let t1 :=
        if i % nk = 0 then xorL ((t.drop 1 ++ t.take 1).map sbox) [rcon, 0, 0, 0]
        else if 6 < nk ∧ i % nk = 4 then t.map sbox else t
      w ++ [xorL (w.getD (i - nk) []) t1]) []

/-- Round key `r`. -/
def roundKey (w : List (List Nat)) (r : Nat) : List Nat := ((w.drop (4 * r)).take 4).flatten

/-- ShiftRows and its inverse, on a block in column order. -/
def shiftRows (b : List Nat) : List Nat := (List.range 16).map (fun k => at0 b ((k + 4 * (k % 4)) % 16))
def shiftRowsInv (b : List Nat) : List Nat := (List.range 16).map (fun k => at0 b ((k + 16 - 4 * (k % 4)) % 16))

/-- MixColumns with the row of coefficients `c`. -/
def mixWith (c : List Nat) (b : List Nat) : List Nat :=
  (List.range 16).map (fun k =>
    let col := k / 4 * 4
    (List.range 4).foldl (fun acc j => acc ^^^ gmul (at0 c ((j + 4 - k % 4) % 4)) (at0 b (col + j))) 0)

/-- AES encryption of one block of 16 bytes with a key of 16 or 32 bytes. -/
def aesEnc (key block : List Nat) : List Nat :=
  let nk := key.length / 4
  let nr := nk + 6
  let w := keyWords nk key (4 * (nr + 1))
  let s0 := xorL block (roundKey w 0)
  let s1 := (List.range (nr - 1)).foldl (fun s r => xorL (mixWith [2, 3, 1, 1] (shiftRows (s.map sbox))) (roundKey w (r + 1))) s0
  xorL (shiftRows (s1.map sbox)) (roundKey w nr)

/-- AES decryption of one block. -/
def aesDec (key block : List Nat) : List Nat :=
  let nk := key.length / 4
  let nr := nk + 6
  let w := keyWords nk key (4 * (nr + 1))
  let s0 := xorL block (roundKey w nr)
  let s1 := (List.range (nr - 1)).foldl (fun s r =>
    mixWith [14, 11, 13, 9] (xorL ((shiftRowsInv s).map sboxInv) (roundKey w (nr - 1 - r)))) s0
  xorL ((shiftRowsInv s1).map sboxInv) (roundKey w 0)

/-- Doubling in GF(2¹²⁸) of a block as a number (RFC 4493). -/
def dbl128 (v : Nat) : Nat := if v.testBit 127 then ((2 * v) % 2 ^ 128) ^^^ 0x87 else 2 * v

/-- Bytes and numbers, most significant byte first. -/
def toBe (n v : Nat) : List Nat := (List.range n).map (fun k => v / 2 ^ (8 * (n - 1 - k)) % 256)
def ofBe (l : List Nat) : Nat := l.foldl (fun acc b => acc * 256 + b) 0

/-- AES-CMAC (SP 800-38B). -/
def cmac (key msg : List Nat) : List Nat :=
  let k1 := dbl128 (ofBe (aesEnc key (List.replicate 16 0)))
  let full := msg.length ≠ 0 ∧ msg.length % 16 = 0
  let n := (msg.length + 15) / 16 - (if msg.length = 0 then 0 else 1)
  let last := msg.drop (16 * n)
  let tail := if full then xorL last (toBe 16 k1)
    else xorL (last ++ 0x80 :: List.replicate (15 - last.length) 0) (toBe 16 (dbl128 k1))
  let c := (List.range n).foldl (fun c i => aesEnc key (xorL c ((msg.drop (16 * i)).take 16))) (List.replicate 16 0)
  aesEnc key (xorL c tail)

/-- AES-CTR from an initial counter block. -/
def aesCtr (key iv msg : List Nat) : List Nat :=
  let c0 := ofBe iv
  (List.range ((msg.length + 15) / 16)).flatMap (fun i =>
    xorL (aesEnc key (toBe 16 ((c0 + i) % 2 ^ 128))) ((msg.drop (16 * i)).take 16))

/-- S2V of RFC 5297 over associated data and the plaintext. -/
def s2v (key : List Nat) (ad : List (List Nat)) (pt : List Nat) : List Nat :=
  let d := ad.foldl (fun d a => dbl128 d ^^^ ofBe (cmac key a)) (ofBe (cmac key (List.replicate 16 0)))
  let t := if 16 ≤ pt.length then pt.take (pt.length - 16) ++ xorL (pt.drop (pt.length - 16)) (toBe 16 d)
    else xorL (toBe 16 (dbl128 d)) (pt ++ 0x80 :: List.replicate (15 - pt.length) 0)
  cmac key t

/-- The SIV with the bits cleared that RFC 5297 clears for CTR. -/
def sivMask (v : List Nat) : List Nat :=
  (v.take 8) ++ [at0 v 8 % 128] ++ ((v.drop 9).take 3) ++ [at0 v 12 % 128] ++ v.drop 13

/-- AEAD_AES_SIV_CMAC encryption: SIV, then the ciphertext (RFC 5297). -/
def sivSeal (k1 k2 : List Nat) (ad : List (List Nat)) (pt : List Nat) : List Nat :=
  let v := s2v k1 ad pt
  v ++ aesCtr k2 (sivMask v) pt

/-- AEAD_AES_SIV_CMAC decryption; none where it does not verify. -/
def sivOpen (k1 k2 : List Nat) (ad : List (List Nat)) (ct : List Nat) : Option (List Nat) :=
  let v := ct.take 16
  let pt := aesCtr k2 (sivMask v) (ct.drop 16)
  if 16 ≤ ct.length ∧ s2v k1 ad pt = v then some pt else none

/-- AES key wrap (SP 800-38F) of `pt`, a multiple of 8 bytes. -/
def kwWrap (key pt : List Nat) : List Nat :=
  let n := pt.length / 8
  let r0 := (List.range n).map (fun i => (pt.drop (8 * i)).take 8)
  let out := (List.range (6 * n)).foldl (fun (st : List Nat × List (List Nat)) t =>
    let b := aesEnc key (st.1 ++ st.2.getD (t % n) [])
    (xorL (b.take 8) (toBe 8 (t + 1)), st.2.set (t % n) (b.drop 8))) (List.replicate 8 0xa6, r0)
  out.1 ++ out.2.flatten

/-- AES key unwrap; none where the integrity value fails. -/
def kwUnwrap (key ct : List Nat) : Option (List Nat) :=
  let n := ct.length / 8 - 1
  let r0 := (List.range n).map (fun i => (ct.drop (8 * (i + 1))).take 8)
  let out := (List.range (6 * n)).foldl (fun (st : List Nat × List (List Nat)) u =>
    let t := 6 * n - 1 - u
    let b := aesDec key (xorL st.1 (toBe 8 (t + 1)) ++ st.2.getD (t % n) [])
    (b.take 8, st.2.set (t % n) (b.drop 8))) (ct.take 8, r0)
  if out.1 = List.replicate 8 0xa6 then some out.2.flatten else none

/-! ### SHA-2 -/

/-- The primes up to 409, eighty of them, by trial division. -/
def primes : List Nat := (List.range 410).filter (fun p => 2 ≤ p && (List.range 19).all (fun k => p ≤ k + 2 || p % (k + 2) != 0))

/-- The first `w` bits of the fraction of the `d`-th root of `p`, found bit by bit; the root itself lies below 8 (FIPS 180-4, 4.2 and 5.3). -/
def fracRoot (d w p : Nat) : Nat :=
  (List.range (w + 3)).foldl (fun r k => let c := r + 2 ^ (w + 2 - k); if c ^ d ≤ p * 2 ^ (d * w) then c else r) 0 % 2 ^ w

/-- The round constants of SHA-512, from cube roots; their upper halves are those of SHA-256. -/
def shaK : List Nat := primes.map (fracRoot 3 64)

/-- The initial values, from square roots: of the first eight primes for SHA-256, of the next eight for SHA-384. -/
def sha256H : List Nat := (primes.take 8).map (fracRoot 2 32)
def sha384H : List Nat := ((primes.drop 8).take 8).map (fracRoot 2 64)

/-- Rotation of a `w`-bit word to the right. -/
def ror (w x n : Nat) : Nat := (x / 2 ^ n) ||| (x * 2 ^ (w - n) % 2 ^ w)

/-- What SHA-256 (`w` = 32) and SHA-512 (`w` = 64) differ in: the rotations of Σ0, Σ1, σ0, σ1 and the number of rounds. -/
structure ShaP where
  w : Nat
  rounds : Nat
  bs0 : Nat × Nat × Nat
  bs1 : Nat × Nat × Nat
  ss0 : Nat × Nat × Nat
  ss1 : Nat × Nat × Nat

def shaP32 : ShaP := ⟨32, 64, (2, 13, 22), (6, 11, 25), (7, 18, 3), (17, 19, 10)⟩
def shaP64 : ShaP := ⟨64, 80, (28, 34, 39), (14, 18, 41), (1, 8, 7), (19, 61, 6)⟩

def shaBig (p : ShaP) (r : Nat × Nat × Nat) (x : Nat) : Nat := ror p.w x r.1 ^^^ ror p.w x r.2.1 ^^^ ror p.w x r.2.2
def shaSmall (p : ShaP) (r : Nat × Nat × Nat) (x : Nat) : Nat := ror p.w x r.1 ^^^ ror p.w x r.2.1 ^^^ x / 2 ^ r.2.2

/-- The message schedule of one block. -/
def shaSched (p : ShaP) (block : List Nat) : List Nat :=
  (List.range p.rounds).foldl (fun (w : List Nat) t =>
    if t < 16 then w ++ [ofBe ((block.drop (t * (p.w / 8))).take (p.w / 8))]
    else w ++ [(shaSmall p p.ss1 (at0 w (t - 2)) + at0 w (t - 7) + shaSmall p p.ss0 (at0 w (t - 15)) + at0 w (t - 16)) % 2 ^ p.w]) []

/-- One block of the compression function. -/
def shaBlock (p : ShaP) (h : List Nat) (block : List Nat) : List Nat :=
  let ws := shaSched p block
  let out := (List.range p.rounds).foldl (fun (v : List Nat) t =>
    let a := at0 v 0; let b := at0 v 1; let c := at0 v 2; let d := at0 v 3
    let e := at0 v 4; let f := at0 v 5; let g := at0 v 6; let hh := at0 v 7
    let ch := (e &&& f) ^^^ ((2 ^ p.w - 1 - e) &&& g)
    let mj := (a &&& b) ^^^ (a &&& c) ^^^ (b &&& c)
    let k := if p.w = 32 then at0 shaK t / 2 ^ 32 else at0 shaK t
    let t1 := hh + shaBig p p.bs1 e + ch + k + at0 ws t
    let t2 := shaBig p p.bs0 a + mj
    [(t1 + t2) % 2 ^ p.w, a, b, c, (d + t1) % 2 ^ p.w, e, f, g]) h
  List.zipWith (fun x y => (x + y) % 2 ^ p.w) h out

/-- The padded message in blocks, hashed. -/
def shaRun (p : ShaP) (h : List Nat) (msg : List Nat) : List Nat :=
  let bl := 2 * p.w
  let lenB := p.w / 4
  let z := (bl - (msg.length + 1 + lenB) % bl) % bl
  let m := msg ++ 0x80 :: List.replicate z 0 ++ toBe lenB (8 * msg.length)
  let hs := (List.range (m.length / bl)).foldl (fun h i => shaBlock p h ((m.drop (bl * i)).take bl)) h
  hs.flatMap (toBe (p.w / 8))

def sha256 (msg : List Nat) : List Nat := shaRun shaP32 sha256H msg
def sha384 (msg : List Nat) : List Nat := (shaRun shaP64 sha384H msg).take 48

/-- HMAC-SHA-256 (FIPS 198-1) with a key of at most 64 bytes. -/
def hmac256 (key msg : List Nat) : List Nat :=
  let k := key ++ List.replicate (64 - key.length) 0
  sha256 (k.map (· ^^^ 0x5c) ++ sha256 (k.map (· ^^^ 0x36) ++ msg))

/-! ### ECDSA P-384 verification -/

def p384 : Nat := 2 ^ 384 - 2 ^ 128 - 2 ^ 96 + 2 ^ 32 - 1
def p384n : Nat := 0xffffffffffffffffffffffffffffffffffffffffffffffffc7634d81f4372ddf581a0db248b0a77aecec196accc52973
def p384b : Nat := 0xb3312fa7e23ee7e4988e056be3f82d19181d9c6efe8141120314088f5013875ac656398d8a2ed19d2a85c8edd3ec2aef
def p384g : Nat × Nat :=
  (0xaa87ca22be8b05378eb1c71ef320ad746e1d3b628ba79b9859f741e082542a385502f25dbf55296c3a545e3872760ab7,
   0x3617de4a96262c6f5d9e98bf9292dc29f8f41dbd289a147ce9da3113b5f0b8c00a60b1ce1d7e819d7a431d7c90ea0e5f)

/-- `a` to the power `e` modulo `m`, for exponents of up to 384 bits. -/
def modPow (a e m : Nat) : Nat :=
  (List.range 384).foldl (fun acc k => let s := acc * acc % m; if e.testBit (383 - k) then s * a % m else s) 1

/-- The inverse modulo a prime. -/
def modInv (a m : Nat) : Nat := modPow (a % m) (m - 2) m

/-- The sum of two points of P-384; none is the point at infinity. -/
def ecAdd : Option (Nat × Nat) → Option (Nat × Nat) → Option (Nat × Nat)
  | none, q => q
  | p, none => p
  | some (x1, y1), some (x2, y2) =>
    if x1 = x2 ∧ (y1 + y2) % p384 = 0 then none
    else
      let l := if x1 = x2 then (3 * x1 * x1 + (p384 - 3)) * modInv (2 * y1) p384 % p384
        else (y2 + (p384 - y1)) * modInv (x2 + (p384 - x1)) p384 % p384
      let x3 := (l * l + (p384 - x1) + (p384 - x2)) % p384
      some (x3, (l * (x1 + (p384 - x3)) + (p384 - y1)) % p384)

/-- `k` times a point. -/
def ecMul (k : Nat) (q : Nat × Nat) : Option (Nat × Nat) :=
  (List.range 384).foldl (fun acc i => let d := ecAdd acc acc; if k.testBit (383 - i) then ecAdd d (some q) else d) none

/-- The point lies on the curve. -/
def onCurve (q : Nat × Nat) : Bool :=
  q.1 < p384 && q.2 < p384 && (q.2 * q.2) % p384 == (q.1 * q.1 * q.1 + (p384 - 3) * q.1 + p384b) % p384

/-- ECDSA verification of (r, s) over a 48-byte digest with a public key 0x04, X, Y (FIPS 186-5). -/
def ecdsaVerify (pub digest sig : List Nat) : Bool :=
  let q := (ofBe ((pub.drop 1).take 48), ofBe ((pub.drop 49).take 48))
  let r := ofBe (sig.take 48)
  let s := ofBe ((sig.drop 48).take 48)
  let ok := at0 pub 0 == 4 && onCurve q && 0 < r && r < p384n && 0 < s && s < p384n
  let w := modInv s p384n
  let u1 := ofBe digest * w % p384n
  let u2 := r * w % p384n
  ok && (match ecAdd (ecMul u1 p384g) (ecMul u2 q) with
    | none => false
    | some (x, _) => x % p384n == r)

/-- A list of bytes as numbers, and back. -/
def nats (l : List Byte) : List Nat := l.map BitVec.toNat
def octetsOf (l : List Nat) : List Byte := l.map (BitVec.ofNat 8)

end Sys2Proof.Machine
end

