-- ==== Sys2Proof/Machine/Forms.lean ====
section
/-! DEFINITION. The form of each JSA operation (R270–R272, R285–R306): its unit, operand kinds, latency in cycles of its engine and charge
in tenths of a picocoulomb. The verifier and the engines read the same table. -/

namespace Sys2Proof.Machine

/-- The kinds of engine: port, timekeeping, supervisor. -/
inductive EngKind where
  | pe
  | te
  | se
  deriving DecidableEq, Repr

/-- What a DST, SRCA or SRCB field names: nothing (and must be zero), a register, an even register pair, a predicate, or an immediate. -/
inductive Opnd where
  | none
  | reg
  | pair
  | pred
  | imm
  deriving DecidableEq, Repr

/-- A form: the slot's unit (0 any, 1 ALU, 2 TIME, 3 PARSE, 4 EMIT, 5 MEM, 6 XU, 7 CTRL), the kinds of DST, SRCA and SRCB, the latency
of its result, and its charge in 0.1 pC. -/
structure Form where
  unit : Nat
  dst : Opnd
  a : Opnd
  b : Opnd
  lat : Nat
  charge : Nat
  deriving DecidableEq, Repr

/-- The unit of slot σ (R269). -/
def slotUnit (slot : Nat) : Nat := if slot ≤ 1 then 1 else slot

/-- The ALU forms (R285). -/
def formAlu (op md : Nat) : Option Form :=
  let f := fun (b : Bool) (d a b' : Opnd) => if b then some (Form.mk 1 d a b' 1 24) else none
  let second : Opnd := if md % 2 = 1 then .imm else .reg
  if op ≤ 0x08 then f (md ≤ 1) .reg .reg second
  else if op ≤ 0x0b then f true .pred .reg second
  else if op = 0x0c then f (md == 0) .reg .reg .reg
  else if op = 0x0d then f (md / 2 % 2 == 0) .reg .reg second
  else if op = 0x0e then f (md ≤ 1) .reg .reg second
  else if op = 0x0f then f (md % 2 == 0) .reg .reg .none
  else if op = 0x10 then f (md % 2 == 0) .reg .reg .reg
  else f true .reg .imm .imm

/-- The TIME forms (R286). -/
def formTime (k : EngKind) (op md : Nat) : Option Form :=
  let f := fun (b : Bool) (d a b' : Opnd) => if b then some (Form.mk 2 d a b' 3 50) else none
  if op = 0x14 then f (md ≤ 3) .pair .pair .reg
  else if op = 0x15 then f (md ≤ 3) .reg .pair .pair
  else if op = 0x16 then
    match k with
    | .pe => f (md == 1 || md == 2) .pair .pair .reg
    | .te => f (md ≤ 2) .pair .pair .reg
    | .se => none
  else if op = 0x17 then
    if md = 2 then f true .reg .reg .reg else f (md ≤ 1) .pair .pair .reg
  else if op = 0x18 then
    if k = .se then none else f (md ≤ 3) (if md = 3 then .reg else .pair) .none .reg
  else f true .pred .pair .pair

/-- The PARSE and EMIT forms (R291, R294). -/
def formPort (k : EngKind) (op md : Nat) : Option Form :=
  let pe := k = .pe
  let f := fun (b : Bool) (u : Nat) (d a b' : Opnd) => if b then some (Form.mk u d a b' 1 (if u = 3 then 28 else 32)) else none
  if k = .se then none
  else if op = 0x1c then f true 3 .reg .imm .none
  else if op = 0x1d then f (pe && md == 0) 3 .reg .none .none
  else if op = 0x1e then f (pe && (md == 0 || md == 4)) 3 (if md = 4 then .pred else .reg) .none .none
  else if op = 0x1f then f (md == 0) 3 .pair (if pe then .none else .imm) .none
  else if op = 0x20 then f (if pe then md ≤ 3 else md == 0) 4 .none .imm .reg
  else if op = 0x21 then f (pe && md == 0) 4 .pair .pair .none
  else if op = 0x22 then f pe 4 .none .imm .reg
  else f (md == 0) 4 .none (if pe then .none else .imm) .reg

/-- The MEM forms (R295, R296): space 2 is reserved on a TE and on the SE. -/
def formMem (k : EngKind) (op md : Nat) : Option Form :=
  let hlat := if k = .pe then 36 else 40
  let ring := if k = .pe then md ≤ 3 else k = .te ∧ md = 0
  let space := md ≤ 3 ∧ (md ≠ 2 ∨ k = .pe)
  if op = 0x24 then (if ring then some ⟨5, .reg, .reg, .none, hlat, 300⟩ else none)
  else if op = 0x25 then (if ring then some ⟨5, .none, .reg, .reg, hlat, 300⟩ else none)
  else if op = 0x26 then (if ring then some ⟨5, .reg, .reg, .reg, hlat, 300⟩ else none)
  else if op = 0x27 then (if space then some ⟨5, .reg, .reg, .imm, 2, 40⟩ else none)
  else (if space then some ⟨5, .imm, .reg, .reg, 1, 40⟩ else none)

/-- The XU forms (R299): the unit named by MOD[1:0] exists on the engine. -/
def formXu (k : EngKind) (op md : Nat) : Option Form :=
  let units := if k = .pe then 3 else if k = .te then 2 else 1
  let ok := md % 4 < units
  if op = 0x2c then (if ok ∧ md < 4 then some ⟨6, .reg, .reg, .reg, 8, 110⟩ else none)
  else if op = 0x2d then (if ok then some ⟨6, .reg, .reg, .reg, 8, 110⟩ else none)
  else if op = 0x2e then (if ok ∧ k ≠ .se then some ⟨6, .reg, .reg, .reg, 8, 70⟩ else none)
  else if op = 0x2f then (if ok ∧ k ≠ .se then some ⟨6, .reg, .reg, .reg, 8, 70⟩ else none)
  else if op = 0x30 then (if k = .pe ∧ md ≤ 1 then some ⟨6, .pair, .pair, .reg, 16, 240⟩ else none)
  else if op = 0x31 then (if k = .pe ∧ (md < 2 ∨ 4 ≤ md) then some ⟨6, .none, .pair, .reg, 1, 60⟩ else none)
  else if op = 0x32 then (if k ≠ .se ∧ md = 0 then some ⟨6, .pair, .pair, .none, 1, 30⟩ else none)
  else (if ok ∧ k ≠ .pe then some ⟨6, .reg, .reg, .reg, 34, 440⟩ else none)

/-- The CTRL forms (R304): 0x34 LIMM and 0x38 LOOP carry a payload; 0x3B BR and 0x3D CALL carry an offset. -/
def formCtrl (k : EngKind) (op md : Nat) : Option Form :=
  let c := fun (b : Bool) (d a b' : Opnd) => if b then some (Form.mk 7 d a b' 1 24) else none
  if op = 0x34 then some ⟨7, .imm, .imm, .imm, 0, 12⟩
  else if op = 0x35 then c (md < 4) .pred .reg .none
  else if op = 0x36 then c (md < 4) .pred .pred .pred
  else if op = 0x37 then c (md < 4) .pred .pred .pred
  else if op = 0x38 then c (k = .te) .imm .imm .imm
  else if op = 0x39 then c (md ≤ 1) (if md = 1 then .pair else .pred) .imm .none
  else if op = 0x3a then c (md == 0) .none .imm .reg
  else if k ≠ .se then none
  else if op = 0x3b then c (md == 0) .imm .imm .imm
  else if op = 0x3c then c (md == 0) .none .reg .none
  else if op = 0x3d then c (md == 0) .imm .imm .imm
  else if op = 0x3e then c (md ≤ 1) .none .none .none
  else c (md == 0) .none .imm .none

/-- The form of opcode `op` with modifier `md` on an engine; none where the opcode is reserved, absent there, or its modifier is not one
it uses (R271, R272). -/
def form (k : EngKind) (op md : Nat) : Option Form :=
  if op = 0 then some ⟨0, .none, .none, .none, 0, 6 + 40 * md⟩
  else if op ≤ 0x11 then formAlu op md
  else if op < 0x14 then none
  else if op ≤ 0x19 then formTime k op md
  else if op < 0x1c then none
  else if op ≤ 0x23 then formPort k op md
  else if op ≤ 0x28 then formMem k op md
  else if op < 0x2c then none
  else if op ≤ 0x33 then formXu k op md
  else formCtrl k op md

/-- A field holds what its kind allows: zero where unused, an even register for a pair, p0–p15 for a predicate (R272). -/
def Opnd.ok (o : Opnd) (v : Nat) : Bool :=
  match o with
  | .none => v == 0
  | .pair => v % 2 == 0
  | .pred => v < 16
  | _ => true

/-- A syllable of the image (R270): its fields. -/
structure Word32 where
  op : Nat
  pred : Nat
  sense : Nat
  dst : Nat
  a : Nat
  b : Nat
  md : Nat
  deriving DecidableEq, Repr

/-- The fields of a syllable word (R270). -/
def splitSyl (w : Nat) : Word32 :=
  ⟨w / 2 ^ 26 % 64, w / 2 ^ 22 % 16, w / 2 ^ 21 % 2, w / 2 ^ 15 % 64, w / 2 ^ 9 % 64, w / 2 ^ 3 % 64, w % 8⟩

/-- A steering port number of R294 that an engine may write: 0 and 4–8 TE0 only, 1–3 and 16–31 either TE. -/
def teTxb (t n : Nat) : Bool := (1 ≤ n && n ≤ 3) || (16 ≤ n && n ≤ 31) || (t == 0 && (n == 0 || (4 ≤ n && n ≤ 8)))

/-- A step target of R294: the MTC from TE0 only, or a timescale. -/
def teTxgo (t n : Nat) : Bool := (1 ≤ n && n ≤ 16) || (t == 0 && n == 0)

/-- The fields of a form hold what they may, with the engine's own limits: a TE's steering ports, and the lap of a PE issues no PARSE
or EMIT (R272, R291, R294, R296); `inst` says the syllable is an instance's. -/
def fieldsOk (k : EngKind) (te : Nat) (inst : Bool) (f : Form) (op dst a b md : Nat) : Bool :=
  f.dst.ok dst && f.a.ok a && f.b.ok b
    && !(k = .pe && !inst && (f.unit == 3 || f.unit == 4))
    && !(k = .te && op == 0x20 && !teTxb te a) && !(k = .te && op == 0x23 && !teTxgo te a)
    && !(k = .te && op == 0x38 && 4 ≤ md) && !(k = .pe && inst && (op == 0x27 || op == 0x28) && md == 2)
    && !(k = .pe && inst && op == 0x38)

/-- A syllable word in slot `slot` is well formed (R272). -/
def sylOk (k : EngKind) (te : Nat) (inst : Bool) (slot w : Nat) : Bool :=
  let x := splitSyl w
  match form k x.op x.md with
  | none => false
  | some f => (f.unit == 0 || f.unit == slotUnit slot) && fieldsOk k te inst f x.op x.dst x.a x.b x.md

end Sys2Proof.Machine
end

