-- ==== Sys2Proof/Machine/Image.lean ====
section
/-! DEFINITION. The itinerary image (R310–R317) and the checks of the verifier that R320 lists, in its order. An image is read from a bank
of the store: `m` is the store and `b` the byte address of the bank. -/

namespace Sys2Proof.Machine

/-- An image in the store. -/
structure Img where
  m : Memory
  b : Nat
  deriving DecidableEq, Repr

/-- The `n`-byte little-endian field at image offset `o`. -/
def Img.n (i : Img) (o n : Nat) : Nat := i.m.le (i.b + o) n

/-- The bytes at image offset `o`. -/
def Img.bytes (i : Img) (o n : Nat) : List Byte := i.m.bytes (i.b + o) n

def Img.len (i : Img) : Nat := i.n 0x008 4
def Img.secver (i : Img) : Nat := i.n 0x010 4
def Img.build (i : Img) : Nat := i.n 0x014 4
def Img.selVer (i : Img) : Nat := i.n 0x018 1
def Img.dpllVer (i : Img) : Nat := i.n 0x019 1
def Img.ration (i : Img) : Nat := i.n 0x01a 2
def Img.fabQ (i : Img) : Nat := i.n 0x01c 4
def Img.teQ (i : Img) : Nat := i.n 0x020 4
def Img.peLap (i : Img) : Nat := i.n 0x024 2
def Img.dirCount (i : Img) : Nat := i.n 0x026 2
def Img.tmplCount (i : Img) : Nat := i.n 0x02c 1
/-- The offset of port block `p` (R311). -/
def portBlk (p : Nat) : Nat := 0x040 + 0x40 * p
def Img.modes (i : Img) (p : Nat) : Nat := i.n (portBlk p) 1
def Img.entry (i : Img) (p : Nat) : Nat := i.n (portBlk p + 1) 1
def Img.f (i : Img) (p : Nat) : Nat := i.n (portBlk p + 2) 1
def Img.fp (i : Img) (p : Nat) : Nat := i.n (portBlk p + 3) 1
def Img.share (i : Img) (p : Nat) : Nat := i.n (portBlk p + 4) 2
def Img.ii (i : Img) (p m : Nat) : Nat := i.n (portBlk p + 8 + 8 * m) 2
def Img.d (i : Img) (p m : Nat) : Nat := i.n (portBlk p + 12 + 8 * m) 4
def Img.slotQ (i : Img) (p slot : Nat) : Nat := i.n (portBlk p + 0x30 + 2 * slot) 2
def Img.tmplModes (i : Img) (t : Nat) : Nat := i.n (0x180 + 0x10 * t + 10) 1
/-- The trailer's offset (R316). -/
def Img.trailer (i : Img) : Nat := i.len - 256

/-- The fabric and TE targets in mA, each rounded to the nearest (R311). -/
def Img.fabMa (i : Img) : Nat := (i.fabQ * 200 + 16384) / 32768
def Img.teMa (i : Img) : Nat := (i.teQ * 2 + 1640) / 3280

/-- A directory entry (R314) with its own offset. -/
structure Sec where
  type : Nat
  eng : Nat
  arg : Nat
  off : Nat
  len : Nat
  dir : Nat
  deriving DecidableEq, Repr

def Img.secs (i : Img) : List Sec :=
  (List.range i.dirCount).map (fun k =>
    let d := 0x200 + 16 * k
    ⟨i.n d 1, i.n (d + 1) 1, i.n (d + 2) 2, i.n (d + 4) 4, i.n (d + 8) 4, d⟩)

/-- The first section of a type, engine and argument. -/
def Img.sec (i : Img) (type eng arg : Nat) : Option Sec :=
  i.secs.find? (fun s => s.type == type && s.eng == eng && s.arg == arg)

/-- The variant of template `t` in mode `m` for start class `c` (R314). -/
def Img.variant (i : Img) (t m c : Nat) : Option Sec := i.sec 2 0xff (t * 256 + m * 16 + c)

/-- The receive gate period of mode index `m` (R251). -/
def modeP (m : Nat) : Nat := if m < 3 then 2 else if m = 3 then 5 else 50

/-- The constants a_max, t_tx and tol of mode index `m` in ps (R255). -/
def leadConst (m : Nat) : Nat × Nat × Nat :=
  match m with
  | 0 => (20800, 10240, 640)
  | 1 => (96320, 21760, 640)
  | 2 => (308800, 29440, 640)
  | 3 => (25600, 25600, 1600)
  | _ => (208000, 112000, 8000)

/-- REPLY_LEAD of a delay constant `d` ps in mode index `m` (R255). -/
def replyLead (d m : Nat) : Nat :=
  let c := leadConst m
  (d - (c.1 + c.2.1 + c.2.2) + 1279) / 1280

/-- The reply-delay interval in FCLK cycles (R318). -/
def dcyc (d : Nat) : Nat := d / 1280

/-- The start classes that gate phases reach in mode `m` (R247). -/
def classes (m : Nat) : List Nat := if m = 3 then List.range 16 else (List.range 8).map (2 * ·)

/-! ### Rejections (R320, R321) -/

structure Rej where
  code : Nat
  whr : Nat
  aux : Int
  off : Nat
  deriving DecidableEq, Repr

/-- REJ_WHERE (R340). -/
def rejAt (eng mode cls slot lap bundle : Nat) : Nat :=
  eng + 16 * mode + 256 * cls + 4096 * slot + 32768 * lap + 65536 * (bundle % 65536)

/-- A failure of the image as a whole. -/
def rejImg (code off : Nat) : Rej := ⟨code, 7, 0, off⟩

/-- The failure at the lowest offset. -/
def lowest : List Rej → Option Rej
  | [] => none
  | r :: t => match lowest t with
    | none => some r
    | some q => if q.off < r.off then some q else some r

/-- `r` where `b` fails. -/
def failIf (b : Bool) (r : Rej) : List Rej := if b then [r] else []

/-- The non-zero bytes of a reserved range. -/
def Img.reserved (i : Img) (o n : Nat) : List Rej :=
  (List.range n).flatMap (fun k => failIf (i.n (o + k) 1 != 0) (rejImg 0x1006 (o + k)))

/-! ### Form: codes 0x1001–0x1007 -/

def chkMagic (i : Img) : List Rej :=
  failIf (i.bytes 0 4 != [0x4a, 0x5a, 0x49, 0x54]) (rejImg 0x1001 0)
    ++ failIf (i.n 4 2 != 1) (rejImg 0x1001 4) ++ failIf (i.n 6 2 != 0x200) (rejImg 0x1001 6)
    ++ failIf (i.bytes i.trailer 4 != [0x4a, 0x5a, 0x53, 0x47]) (rejImg 0x1001 i.trailer)

def chkTarget (i : Img) : List Rej := failIf (i.n 0x0c 4 != 0x00b09240) (rejImg 0x1002 0x0c)

def chkLength (i : Img) : List Rej :=
  failIf (i.len % 32 != 0 || decide (i.len < 1024) || decide (1048576 < i.len)) (rejImg 0x1003 8)

/-- TYPE and ENGINE are known together (R314). -/
def secEngOk (s : Sec) : Bool :=
  match s.type with
  | 1 => s.eng ≤ 5
  | 2 => s.eng == 0xff
  | 3 => s.eng ≤ 3
  | 4 => s.eng ≤ 5
  | 5 => s.eng ≤ 5
  | 6 => s.eng == 4 || s.eng == 5
  | _ => false

/-- The space 0 size of an engine in bytes (R296). -/
def dataSize (eng : Nat) : Nat := if eng ≤ 3 then 0x8000 else if eng ≤ 5 then 0x10000 else 0x40000

/-- The records of a DATA section from image offset `o`, as (kind, offset, length, image offset of the bytes); none where the structure
breaks R315. `fuel` bounds the number of records. -/
def dataRecs (i : Img) (size stop : Nat) : Nat → Nat → Nat → Option (List (Nat × Nat × Nat × Nat))
  | 0, _, _ => none
  | fuel + 1, o, low =>
    if stop ≤ o then (if o = stop then some [] else none) else
    let h := i.n o 8
    let off := h % 2 ^ 32
    let len := h / 2 ^ 32 % 2 ^ 24
    let kind := h / 2 ^ 56
    if 1 < kind ∨ off % 8 ≠ 0 ∨ len % 8 ≠ 0 ∨ off < low ∨ size < off + len then none
    else (dataRecs i size stop fuel (o + 8 + (if kind = 0 then len else 0)) (off + len)).map (fun l => (kind, off, len, o + 8) :: l)

/-- The records of an engine's DATA section. -/
def Img.data (i : Img) (s : Sec) : Option (List (Nat × Nat × Nat × Nat)) :=
  dataRecs i (dataSize s.eng) (s.off + s.len) (s.len / 8 + 1) s.off 0

/-- The internal structure of a section (R314, R315). -/
def secBody (i : Img) (s : Sec) : Bool :=
  match s.type with
  | 1 => s.arg == 0 && s.len % 32 == 0 && (4 ≤ s.eng || s.len == 32 * i.peLap)
  | 2 => s.len % 32 == 0 && s.arg / 256 < 8 && s.arg / 16 % 16 ≤ 4
  | 3 => s.len == 128 && s.arg ≤ 4 && (List.range 8).all (fun k => i.n (s.off + 16 * k + 8) 8 < 2 ^ modeP s.arg)
  | 4 => s.arg == 0 && (i.data s).isSome
  | 5 => s.arg == 0 && s.len == (if s.eng ≤ 3 then 288 else 544)
  | _ => s.arg == 0 && s.len == 128 && (List.range 24).all (fun k =>
      let w := i.n (s.off + 4 * k) 4 % 2 ^ 17
      w < 62500 || w == 0x1ffff)

def chkSections (i : Img) : List Rej :=
  let l := i.secs
  let low := 0x200 + 16 * i.dirCount
  l.flatMap (fun s =>
    let bad := !secEngOk s || s.off % 32 != 0 || decide (s.off < low) || decide (i.trailer < s.off + s.len)
      || l.any (fun q => q.dir != s.dir && decide (q.off < s.off + s.len) && decide (s.off < q.off + q.len))
    if bad then [rejImg 0x1004 s.dir] else failIf (!secBody i s) (rejImg 0x1004 s.off))

/-- Ports with MODES ≠ 0, each with one of its modes. -/
def Img.served (i : Img) : List (Nat × Nat) :=
  (List.range 4).flatMap (fun p => ((List.range 5).filter (fun m => (i.modes p).testBit m)).map (fun m => (p, m)))

/-- The sections an image must carry (R314). -/
def Img.required (i : Img) : List (Nat × Nat × Nat) :=
  (List.range 6).map (fun e => (1, e, 0)) ++ (List.range 6).map (fun e => (5, e, 0)) ++ [(6, 4, 0), (6, 5, 0)]
    ++ i.served.map (fun pm => (3, pm.1, pm.2))
    ++ (i.served.map (fun pm => (i.entry pm.1, pm.2))).eraseDups.flatMap (fun tm => (classes tm.2).map (fun c => (2, 0xff, tm.1 * 256 + tm.2 * 16 + c)))

def chkMissing (i : Img) : List Rej :=
  let l := i.secs
  let req := i.required
  let key := fun (s : Sec) => (s.type, s.eng, s.arg)
  failIf (req.any (fun k => !l.any (fun s => key s == k))) (rejImg 0x1005 0x200)
    ++ l.flatMap (fun s =>
      failIf (l.any (fun q => decide (q.dir < s.dir) && key q == key s) || !(req.contains (key s) || s.type == 4)) (rejImg 0x1005 s.dir))

def isPow (v top : Nat) : Bool := (List.range 6).any (fun k => v == 2 ^ k && 2 ^ k ≤ top)

/-- The fields of port block `p` (R312). -/
def chkPortBlk (i : Img) (p : Nat) : List Rej :=
  let o := portBlk p
  let f := fun (b : Bool) (at_ : Nat) => failIf b ⟨0x1006, p, 0, o + at_⟩
  f (decide (31 < i.modes p)) 0 ++ f (decide (i.tmplCount ≤ i.entry p)) 1 ++ f (!isPow (i.f p) 32) 2 ++ f (!isPow (i.fp p) 8) 3
    ++ f (decide (512 < i.share p)) 4 ++ i.reserved (o + 6) 2
    ++ (List.range 5).flatMap (fun m =>
      let on := (i.modes p).testBit m
      let ii := i.ii p m
      let d := i.d p m
      f (if on then ii == 0 || ii % modeP m != 0 else ii != 0) (8 + 8 * m) ++ i.reserved (o + 10 + 8 * m) 2
        ++ f (if on then d == 0 || decide (1310720 < d) || decide (replyLead d m < 2) else d != 0) (12 + 8 * m))

/-- The template entries (R313). -/
def chkTmpl (i : Img) (t : Nat) : List Rej :=
  let o := 0x180 + 0x10 * t
  if i.tmplCount ≤ t then i.reserved o 16
  else
    let need := (List.range 4).foldl (fun acc p => if i.entry p = t then acc ||| i.modes p else acc) 0
    failIf (need &&& i.tmplModes t != need) (rejImg 0x1006 (o + 10)) ++ i.reserved (o + 11) 5

/-- Reserved bytes and bits inside the sections (R314, R315). -/
def chkSecBytes (i : Img) (s : Sec) : List Rej :=
  i.reserved (s.dir + 12) 4 ++
  match s.type with
  | 3 => (List.range 8).flatMap (fun k => i.reserved (s.off + 16 * k + 2) 6)
  | 5 =>
    let o := if s.eng ≤ 3 then 256 else 512
    let top := if s.eng ≤ 3 then 0xfe else 0xfffe
    failIf (i.n (s.off + o) 8 ||| top != top) (rejImg 0x1006 (s.off + o)) ++ i.reserved (s.off + o + 8) 24
  | 6 => (List.range 24).flatMap (fun k => failIf (decide (2 ^ 17 ≤ i.n (s.off + 4 * k) 4)) (rejImg 0x1006 (s.off + 4 * k))) ++ i.reserved (s.off + 96) 32
  | _ => []

def chkFields (i : Img) : List Rej :=
  failIf (decide (i.ration < 3000) || decide (5600 < i.ration)) (rejImg 0x1006 0x1a)
    ++ failIf (i.n 0x28 4 != 62500) (rejImg 0x1006 0x28)
    ++ failIf (i.tmplCount == 0 || decide (8 < i.tmplCount)) (rejImg 0x1006 0x2c)
    ++ i.reserved 0x2d 19 ++ (List.range 4).flatMap (chkPortBlk i) ++ i.reserved 0x140 64
    ++ (List.range 8).flatMap (chkTmpl i) ++ i.secs.flatMap (chkSecBytes i)
    ++ failIf (decide (3 < i.n (i.trailer + 4) 1)) (rejImg 0x1006 (i.trailer + 4)) ++ i.reserved (i.trailer + 5) 3 ++ i.reserved (i.trailer + 201) 55

/-! ### Code: the syllables of laps and variants -/

/-- A syllable at its place: image offset, bundle, slot, word, and the long immediate of its bundle. -/
structure Syn1 where
  off : Nat
  n : Nat
  slot : Nat
  w : Nat
  limm : Bool
  deriving DecidableEq, Repr

/-- The fields of a syllable. -/
def Syn1.x (y : Syn1) : Word32 := splitSyl y.w

/-- It is not NOP. -/
def Syn1.live (y : Syn1) : Bool := y.x.op != 0

/-- The syllables of a bundle stream, in image order (R269). -/
def Img.syls (i : Img) (s : Sec) : List Syn1 :=
  (List.range (s.len / 32)).flatMap (fun n =>
    let limm := (splitSyl (i.n (s.off + 32 * n + 28) 4)).op == 0x34
    (List.range 8).map (fun k => ⟨s.off + 32 * n + 4 * k, n, k, i.n (s.off + 32 * n + 4 * k) 4, limm⟩))

/-- The live syllables of a stream. -/
def Img.code (i : Img) (s : Sec) : List Syn1 := (i.syls s).filter Syn1.live

/-- A variant in its context: port, mode, class, section. -/
structure Vctx where
  p : Nat
  m : Nat
  c : Nat
  s : Sec
  deriving DecidableEq, Repr

/-- The variants of each port that names them (R319). -/
def Img.vctxs (i : Img) : List Vctx :=
  i.served.flatMap (fun pm => (classes pm.2).filterMap (fun c => (i.variant (i.entry pm.1) pm.2 c).map (fun s => ⟨pm.1, pm.2, c, s⟩)))

/-- A failure at a syllable of a variant. -/
def rejV (code : Nat) (v : Vctx) (y : Syn1) (aux : Int) : Rej := ⟨code, rejAt v.p v.m v.c y.slot 0 y.n, aux, y.off⟩

/-- A failure at a syllable of a lap. -/
def rejL (code eng : Nat) (y : Syn1) (aux : Int) : Rej := ⟨code, rejAt eng 0 0 y.slot 1 y.n, aux, y.off⟩

/-- Every live syllable of every variant, with a test. -/
def perVar (i : Img) (f : Vctx → Syn1 → List Rej) : List Rej := i.vctxs.flatMap (fun v => (i.code v.s).flatMap (f v))

/-- The lap section of engine `e`. -/
def Img.lap (i : Img) (e : Nat) : Option Sec := i.sec 1 e 0

/-- Every live syllable of the laps of the engines listed, with a test. -/
def perLap (i : Img) (es : List Nat) (f : Nat → Syn1 → List Rej) : List Rej :=
  es.flatMap (fun e => match i.lap e with
    | none => []
    | some s => (i.code s).flatMap (f e))

/-- The kind of engine `e` of an image. -/
def engKind (e : Nat) : EngKind := if e ≤ 3 then .pe else if e ≤ 5 then .te else .se

/-- The form of a syllable on engine `e`; a malformed one has none. -/
def Syn1.form (y : Syn1) (e : Nat) : Option Form := Sys2Proof.Machine.form (engKind e) y.x.op y.x.md

/-- The latency of a syllable's result, and the cycles its charge is booked over (R35). -/
def Syn1.lat (y : Syn1) (e : Nat) : Nat := ((y.form e).map Form.lat).getD 0
def Syn1.span (y : Syn1) (e : Nat) : Nat := max 1 (y.lat e)
def Syn1.charge (y : Syn1) (e : Nat) : Nat := ((y.form e).map Form.charge).getD 0

/-- The registers that an operand names. -/
def Opnd.regs (o : Opnd) (v : Nat) : List Nat :=
  match o with
  | .reg => [v]
  | .pair => [v, v + 1]
  | _ => []

/-- Opcodes whose source field 63 is the long immediate of the bundle (R281). -/
def usesLimm (u : Nat) : Bool := u == 1 || u == 2 || u == 5 || u == 6

/-- The registers a syllable writes, and reads (INSR reads its destination, R285). -/
def Syn1.writes (y : Syn1) (e : Nat) : List Nat :=
  match y.form e with
  | some f => if y.x.op = 0x2e ∧ 4 ≤ y.x.md then [] else f.dst.regs y.x.dst
  | none => []

def Syn1.reads (y : Syn1) (e : Nat) : List Nat :=
  match y.form e with
  | some f =>
    let keep := fun (v : Nat) => !(y.limm && usesLimm f.unit && v == 63)
    ((f.a.regs y.x.a ++ f.b.regs y.x.b).filter keep) ++ (if y.x.op = 0x0e then [y.x.dst] else [])
  | none => []

/-- The predicates a syllable writes, and reads: its own, its sources, and the destination of a read-modify compare (R273, R285). -/
def Syn1.pwrites (y : Syn1) (e : Nat) : List Nat :=
  match y.form e with
  | some f => if f.dst = .pred then [y.x.dst] else []
  | none => []

def Syn1.preads (y : Syn1) (e : Nat) : List Nat :=
  match y.form e with
  | some f =>
    (if y.x.op = 0x34 ∨ y.x.op = 0x38 then [] else [y.x.pred])
      ++ (if f.a = .pred then [y.x.a] else []) ++ (if f.b = .pred then [y.x.b] else [])
      ++ (if 0x09 ≤ y.x.op ∧ y.x.op ≤ 0x0b ∧ (y.x.md / 2 = 1 ∨ y.x.md / 2 = 2) then [y.x.dst] else [])
  | none => []

/-- A loop that runs in a TE lap: where its body starts and ends, the trips left and its level (R305). -/
structure LoopRun where
  first : Nat
  stop : Nat
  trips : Nat
  level : Nat
  deriving DecidableEq, Repr

/-- The bundles of a TE lap in issue order, at most `fuel`, with LOOP bodies repeated; none where a LOOP breaks R305. -/
def teIssue (i : Img) (s : Sec) : Nat → Nat → List LoopRun → Option (List Nat)
  | 0, _, _ => some []
  | fuel + 1, n, loops =>
    match loops with
    | l :: rest =>
      if n = l.stop then
        if l.trips = 0 then teIssue i s fuel n rest else teIssue i s fuel l.first (⟨l.first, l.stop, l.trips - 1, l.level⟩ :: rest)
      else body fuel n (l :: rest)
    | [] => body fuel n []
where
  body (fuel n : Nat) (loops : List LoopRun) : Option (List Nat) :=
    if s.len / 32 ≤ n then some [] else
    let w := i.n (s.off + 32 * n + 28) 4
    let go := fun (l : List LoopRun) => (teIssue i s fuel (n + 1) l).map (fun t => n :: t)
    if (splitSyl w).op = 0x38 then
      let stop := n + 1 + (w / 8 % 4096 + 1)
      let lev := w % 8
      let ok := decide (lev ≤ 3) && decide (stop ≤ s.len / 32) && (match loops with
        | [] => true
        | l :: _ => decide (stop ≤ l.stop) && decide (l.level < lev))
      if ok then go (⟨n + 1, stop, w / 2 ^ 15 % 2048, lev⟩ :: loops) else none
    else go loops

end Sys2Proof.Machine
end

