-- ==== Sys2Proof/Machine/Ration.lean ====
section
/-! DEFINITION. Rations (R31–R47): the trim, transfers, level ramps, governors and the heater governor. -/

namespace Sys2Proof.Machine

/-- The length of a fabric ration window in ps: 128 FCLK at nominal FCLK (R31). -/
abbrev fclkWinPs : Nat := 163840

/-- The length of a ration window while FCLK is stopped in ps: 82 TCLK (R32). -/
abbrev tclkWinPs : Nat := 164000

/-- The length in ps of the window in progress (R31, R32). -/
def State.winPs (s : State) : Nat := if s.flag F.RATION_STATUS_WINDOW_TCLK then tclkWinPs else fclkWinPs

/-- The allowance registers of the governors 0–3 (R39). -/
def alwReg : Nat → Nat
  | 0 => Reg.ALLOW_SE
  | 1 => Reg.ALLOW_DMA
  | 2 => Reg.ALLOW_PCIE
  | _ => Reg.ALLOW_TIUCAL

/-- The stall counters of the governors (R40). -/
def stallReg : Nat → Nat
  | 0 => Reg.STALL_SE
  | 1 => Reg.STALL_DMA
  | 2 => Reg.STALL_PCIE
  | _ => Reg.STALL_TIUCAL

/-- The allowance in force at allowance register `a`, mA. -/
def State.alwInForce (s : State) (a : Nat) : Nat := Tbl.get (fun k => (regReset k).toNat) s.rat.alw a

def State.setAlw (s : State) (a v : Nat) : State :=
  { s with rat := { s.rat with alw := Tbl.set (fun k => (regReset k).toNat) s.rat.alw a v } }

def State.gov (s : State) (g : Nat) : Gov := Tbl.get (fun _ => Gov.reset) s.rat.gov g

def State.setGov (s : State) (g : Nat) (v : Gov) : State :=
  { s with rat := { s.rat with gov := Tbl.set (fun _ => Gov.reset) s.rat.gov g v } }

/-- The trim in force, mA (R34). -/
def State.trim (s : State) : Nat := s.rv Reg.RATION_TRIM

/-- The contract is suspended: rungs L2–L4 (R32). -/
def State.suspended (s : State) : Bool := s.flag F.RATION_STATUS_SUSPENDED

/-- Insertion of a transfer in the order of its register address, after those of the same address (R41). -/
def insertXfer (x : Xfer) : List Xfer → List Xfer
  | [] => [x]
  | y :: t => if x.addr < y.addr then x :: y :: t else y :: insertXfer x t

/-- A transfer is asked for; it is made in the first window after the write (R41). -/
def State.askXfer (s : State) (a : Nat) (v : Word) : State :=
  { s with rat := { s.rat with xfers := insertXfer ⟨a, v⟩ s.rat.xfers } }

/-- The trim gives up `d` mA (or takes them), if that leaves it within 0–1,200 mA (R34, R41). -/
def State.trimTake (s : State) (d : Int) : Option State :=
  let t := (s.trim : Int) - d
  if 0 ≤ t ∧ t ≤ 1200 then some (s.setRv Reg.RATION_TRIM t.toNat) else none

/-- An allowance write lands: a transfer is asked for; while the contract is suspended the register reads the value written (R41). -/
def landAllowance (a : Nat) (v : Word) (s : State) : State :=
  let v := v &&& 0xfff
  let s := s.askXfer a v
  if s.suspended then s.setReg a v else s

/-- A window applies one allowance transfer, or refuses it (R41). -/
def allowanceXfer (s : State) (x : Xfer) : State :=
  let old := s.alwInForce x.addr
  match s.trimTake ((x.val.toNat : Int) - old) with
  | some s1 => (s1.setAlw x.addr x.val.toNat).setReg x.addr x.val
  | none => (s.setRv x.addr old).bumpSat Reg.TRANSFER_REFUSED

/-- Governor `g` grants an operation of `q` fC: in the grant part, within the allowance left, to a block that has not stalled in this
window; nothing is metered while the contract is suspended (R32, R40). -/
def State.govGrants (s : State) (g q : Nat) : Bool :=
  s.suspended || ((s.gov g).grant && !(s.gov g).stalled && decide (q ≤ (s.gov g).left))

/-- The charge of a granted operation leaves the allowance. -/
def govTake (g q : Nat) (s : State) : State :=
  if s.suspended then s else s.setGov g { s.gov g with left := (s.gov g).left - q }

/-- An operation that is not granted stalls its block until the next window, and the window is counted once (R40). -/
def govStall (g : Nat) (s : State) : State :=
  if (s.gov g).stalled then s else (s.bumpSat (stallReg g)).setGov g { s.gov g with stalled := true }

/-- An operation of `q` fC of the block that governor `g` meters: `f` where it is granted; else the block stalls, and the operation is
left for the next window, in which its command is given again. -/
def metered (g q : Nat) (f : State → State) (s : State) : State :=
  if s.govGrants g q then f (govTake g q s) else govStall g s

/-- At its window start a governor is refilled, before any grant (R40). -/
def govRefill (s : State) (g : Nat) : State :=
  s.setGov g { left := s.alwInForce (alwReg g) * s.winPs, grant := true, stalled := false }

/-- The oven heater's cap in mW (R42, R47). -/
def State.htrCap (s : State) : Nat := min (s.fld F.HTR_CTRL_CAP) 1600

/-- One step of the heater governor with the measured VDD_HTR in mV: the heater current moves toward the oven's demand by at
most RAMP × `ps`, under the cap; the time at the cap below set point is kept for R78 (R42, R486). -/
def heaterStepBy (ps mv : Nat) (s : State) : State :=
  let st := min (s.fld F.HTR_CTRL_RAMP) 50 * ps
  let capPa := s.htrCap * 10 ^ 12 / mv
  let want := min s.tb.demandMw s.htrCap * 10 ^ 12 / mv
  let cur := s.rat.htrPa
  let new := if cur < want then min want (cur + st) else max want (cur - st)
  let low := signed 18 (s.rv Reg.TB_TEMP) + 50 < (s.rv Reg.TB_SETPOINT : Int)
  let at_ := decide (capPa ≤ new ∧ 0 < capPa) && decide low
  { s with
    rat := { s.rat with htrPa := new }
    tb := { s.tb with capPa := capPa, capLow := at_ } }

/-- The heater governor's step of a ration window (R42). -/
def heaterStep (mv : Nat) (s : State) : State := heaterStepBy fclkWinPs mv s

/-- During a ramp LEVEL_MA moves 20 mA toward TARGET_MA, shared among the backfill, the allowances' cells and the trim: parts
first on the way up, the trim first on the way down; a backfill that has ramped out stands in no longer (R43). -/
def rampStep (s : State) : State :=
  let lv := s.fld F.RATION_LEVEL_LEVEL_MA
  let tg := s.fld F.RATION_LEVEL_TARGET_MA
  let r := s.rat
  if lv = tg then s
  else if lv < tg then
    let d := min 20 (tg - lv)
    let b := min d (r.backfillTo - r.backfillMa)
    let g := min (d - b) (r.govTo - r.govMa)
    let s1 := { s with rat := { r with backfillMa := r.backfillMa + b, govMa := r.govMa + g } }
    (s1.setFld F.RATION_LEVEL_LEVEL_MA (lv + d)).setRv Reg.RATION_TRIM (min 1200 (s.trim + (d - b - g)))
  else
    let d := min 20 (lv - tg)
    let t := min d s.trim
    let g := min (d - t) (r.govMa - r.govTo)
    let b := min (d - t - g) (r.backfillMa - r.backfillTo)
    let s0 := if r.backfillMa != 0 && r.backfillMa == b then s.setFlag F.RATION_STATUS_FABRIC_BACKFILL false else s
    let s1 := { s0 with rat := { r with backfillMa := r.backfillMa - b, govMa := r.govMa - g } }
    (s1.setFld F.RATION_LEVEL_LEVEL_MA (lv - d)).setRv Reg.RATION_TRIM (s.trim - t)

/-- The trim loop moves the trim by at most 1 mA toward the level (R34). -/
def trimStep (mean : Nat) (s : State) : State :=
  let lv := s.fld F.RATION_LEVEL_LEVEL_MA
  if mean < lv then s.setRv Reg.RATION_TRIM (min 1200 (s.trim + 1))
  else if lv < mean then s.setRv Reg.RATION_TRIM (s.trim - 1)
  else s

/-- RATION_OVERRUN with its cause and the measured current (R45). -/
def State.overrun (s : State) (cause mean : Nat) : State :=
  s.sendFault srcRation kRationOverrun (cause * 2 ^ 20 + min mean 8191)

/-- The step from the mean of the window before to `mean`, mA; none in the first window, or the first after a suspension, since the
windows on the two sides of a suspension are not consecutive (R31, R32, R45). -/
def State.meanStep (s : State) (mean : Nat) : Nat :=
  match s.rat.prevMean with
  | some p => if mean < p then p - mean else mean - p
  | none => 0

/-- The monitor takes a window's mean: MEASURED, the band about LEVEL_MA and the step (R45, R46). -/
def monitor (mean : Nat) (s : State) : State :=
  let lv := s.fld F.RATION_LEVEL_LEVEL_MA
  let dev := if mean < lv then lv - mean else mean - lv
  let inBand := decide (dev * 1000 ≤ lv * 15)
  let step := s.meanStep mean
  let clk := s.rat.clk + s.winPs
  let steps := (clk, step) :: (s.rat.steps.filter (fun e => decide (clk - e.1 ≤ 10 ^ 9) && decide (step < e.2)))
  let s1 := { s with rat := { s.rat with prevMean := some mean, clk := clk, steps := steps } }
  let s2 := (s1.setFld F.RATION_MEASURED_MEAN (min mean 8191)).setFld F.RATION_MEASURED_STEP
    (min 511 (steps.foldl (fun acc e => max acc e.2) 0))
  let s3 := s2.setFlag F.RATION_STATUS_IN_BAND inBand
  let s4 := if inBand then s3 else (s3.bumpSat Reg.WIN_OUT).overrun 1 mean
  if 20 < step then (s4.bumpSat Reg.STEP_OUT).overrun 2 mean else s4

/-- The saturation flags follow the trim; a rise sends RATION_OVERRUN with cause 0x3, after the ramp if one runs (R34, R43, R45). -/
def trimFlags (mean : Nat) (s : State) : State :=
  let lo := s.trim == 0
  let hi := s.trim == 1200
  let rose := (lo && !s.flag F.RATION_STATUS_TRIM_SAT_LO) || (hi && !s.flag F.RATION_STATUS_TRIM_SAT_HI)
  let ramping := s.fld F.RATION_LEVEL_LEVEL_MA != s.fld F.RATION_LEVEL_TARGET_MA
  let s1 := (s.setFlag F.RATION_STATUS_TRIM_SAT_LO lo).setFlag F.RATION_STATUS_TRIM_SAT_HI hi
  let s2 := s1.setFlag F.RATION_STATUS_RAMPING ramping
  if ramping then (if rose then { s2 with rat := { s2.rat with satOwed := true } } else s2)
  else
    let owed := s2.rat.satOwed && !s.flag F.RATION_STATUS_RAMPING && (lo || hi)
    let s3 := if s.flag F.RATION_STATUS_RAMPING then s2 else { s2 with rat := { s2.rat with satOwed := false } }
    if s.flag F.RATION_STATUS_RAMPING then (if rose then { s3 with rat := { s3.rat with satOwed := true } } else s3)
    else if rose || owed then s3.overrun 3 mean else s3

/-- A ramp of the ration level starts, with what the backfill and the allowances' cells shall draw at its end (R43). -/
def State.rampTo (s : State) (target backfill gov : Nat) : State :=
  let s1 := { s with rat := { s.rat with backfillTo := backfill, govTo := gov } }
  let s2 := s1.setFld F.RATION_LEVEL_TARGET_MA target
  s2.setFlag F.RATION_STATUS_RAMPING (s2.fld F.RATION_LEVEL_LEVEL_MA != target % 8192)

/-- The contract resumes after a suspension: 82-TCLK windows start anew (R32). -/
def rationResume (s : State) : State :=
  let s1 := (s.setFlag F.RATION_STATUS_SUSPENDED false).setFlag F.RATION_STATUS_WINDOW_TCLK true
  (List.range 4).foldl govRefill { s1 with rat := { s1.rat with prevMean := none, steps := [] } }

/-- The key under which a change of the fabric target (`te` false) or of the TE target waits among the transfers: before those of the
allowances (R41, R43). -/
def targetKey (te : Bool) : Nat := if te then Reg.RATION_TARGETS + 1 else Reg.RATION_TARGETS

/-- A target moves by `d` mA: TARGETS reads it at once, and the current is transferred against the trim in the window of the change (R43). -/
def targetMove (te : Bool) (ma : Nat) (d : Int) (s : State) : State :=
  let s1 := s.setFld (if te then F.RATION_TARGETS_TE else F.RATION_TARGETS_FABRIC) ma
  if d = 0 then s1 else s1.askXfer (targetKey te) (BitVec.ofInt 32 d)

/-- A window makes the transfer of a target change. The check of R44 has found that the trim can absorb it; where another transfer has
moved the trim since, the trim stands at its end. -/
def targetXfer (s : State) (x : Xfer) : State :=
  s.setRv Reg.RATION_TRIM (max 0 (min 1200 ((s.trim : Int) - x.val.toInt))).toNat

/-- What stands in place of the running bank's fabric target: the target where a bank runs, else the backfill (R43, R518). -/
def State.fabDrawn (s : State) (runs : Bool) : Nat := if runs then s.fld F.RATION_TARGETS_FABRIC else s.rat.backfillMa

/-- What the fabric backfill draws from boot to the first swap, mA (R518). -/
abbrev bootBackfill : Nat := 620

/-- The sum of the allowances in force, mA. -/
def State.alwSum (s : State) : Nat :=
  s.alwInForce Reg.ALLOW_SE + s.alwInForce Reg.ALLOW_DMA + s.alwInForce Reg.ALLOW_PCIE + s.alwInForce Reg.ALLOW_TIUCAL

/-- The base reserve in force: 3,400 mA while the register is 0 (R47). -/
def State.baseReserve (s : State) : Nat := if s.rv Reg.BASE_RESERVE = 0 then 3400 else s.rv Reg.BASE_RESERVE

/-- L1_LEVEL held within 300–1,000 mA, where it is used: the register reads the value written, which R47 leaves open
(DESIGN CHOICE, log 217). -/
def State.l1Level (s : State) : Nat := max 300 (min 1000 (s.rv Reg.L1_LEVEL))

/-- GRANT_PART_END (R40): governor `g`'s grant part ends, and unspent charge is drawn by its levelling cells. -/
def execGrantPartEnd (g : Fin 4) (s : State) : Host.Outcome State Fault Refusal :=
  fin (if s.suspended then s else s.setGov g.val { s.gov g.val with left := 0, grant := false })

/-- ALLOWANCE_WRITE (R41). -/
def execAllowanceWrite (g : Fin 4) (v : Word) (s : State) : Host.Outcome State Fault Refusal :=
  fin (whenOn 1 (landAllowance (alwReg g.val) v) s)

end Sys2Proof.Machine
end

