-- ==== Sys2Proof/Machine/Access.lean ====
section
/-! DEFINITION. What the register decode of the host island answers to an access it does not carry out (R50, R56, R59, R61, R64). -/

namespace Sys2Proof.Machine

/-- BAD_ACCESS counts (R50, R73). -/
def badAccess (s : State) : State := s.bump16 Reg.BAD_ACCESS

/-- OFF_ACCESS counts (R61). -/
def offAccess (s : State) : State := s.bump16 Reg.OFF_ACCESS

/-- The register decode sends a fault with the address layout of R64: a BAR 4 register is already at 0x10_0000 + its offset. -/
def decodeFault (kind a : Nat) (s : State) : State := s.sendFault srcHostDecode kind a

/-- The access is answered with a status and data. -/
def answer (st : LinkStatus) (data : List Word) (s : State) : State := { s with bus := { s.bus with reply := ⟨st, data⟩ } }

/-- A write is refused with status `st`; on PCIe, whose writes are posted, it reports nothing (R61). -/
def answerWr (m : Master) (st : LinkStatus) (s : State) : State := if m = .hostPcie then s else answer st [] s

/-- A read answered with data. -/
def answerWord (w : Word) (s : State) : State := answer .ok [w] s

/-- The access is refused with status `st`; on PCIe a read completes with completer abort (R56). -/
def answerErr (m : Master) (st : LinkStatus) (s : State) : State := answer (if m = .hostPcie then .completerAbort else st) [] s

/-- A master that can send commands to the SE bus or the host links: the hosts and the SE. -/
def onBus : Master → Bool
  | .hostPcie | .hostSpi | .hostI2c | .se => true
  | _ => false

/-- A host link. -/
def isHost : Master → Bool
  | .hostPcie | .hostSpi | .hostI2c => true
  | _ => false

/-- HOST_PCIE reaches the registers: the function is not in D3hot and PCIE_PERST_N is high; QSPI and I2C work but under
R551. -/
def State.masterOn (s : State) (m : Master) : Bool :=
  s.hostOn && (match m with
    | .hostPcie => !s.irq.d3hot && !s.irq.perstLow
    | .se => s.blockOn 10
    | .hostSpi | .hostI2c => !s.jtagExt
    | _ => true)

/-! ### TLPs (R39, R410) -/

/-- The charge of a TLP, fC (R410). -/
abbrev tlpCharge : Nat := 900000

/-- The `n` TLPs of an access by master `m` are granted; the other masters send none (R39). -/
def State.tlpOk (s : State) (m : Master) (n : Nat) : Bool := m != .hostPcie || s.govGrants 2 (n * tlpCharge)

/-- The `n` TLPs of an access by master `m` draw their charge. -/
def State.tlp (s : State) (m : Master) (n : Nat) : State := if m = .hostPcie then govTake 2 (n * tlpCharge) s else s

/-- An access `f` of `n` TLPs by master `m` that reaches the device: one that is not granted stalls the endpoint, and the access is given
again in the next window (R40). -/
def reach (m : Master) (n : Nat) (f : State → State) (s : State) : State :=
  if !s.masterOn m then s else if s.tlpOk m n then f (s.tlp m n) else govStall 2 s

/-- A write and a read of the hosts and the SE: a read is a request and its completion. -/
def access (m : Master) (f : State → State) (s : State) : State := if onBus m then reach m 1 f s else s
def reads (m : Master) (f : State → State) (s : State) : State := if onBus m then reach m 2 f s else s

/-! ### Guards (R62, R63) -/

def State.guardOf (s : State) (m : Master) : Option Guard := Tbl.get (fun _ => none) s.bus.guard m.id
def State.setGuard (s : State) (m : Master) (g : Option Guard) : State :=
  { s with bus := { s.bus with guard := Tbl.set (fun _ => none) s.bus.guard m.id g } }

/-- The guard window in ps: 64 host-island cycles, of 4 ns, and of 20 ns in L3 (R62, R484). -/
def State.guardWindow (s : State) : Nat := 64 * (if s.rung = 3 then 20000 else 4000)

/-- A guarded write at `a` fails: GUARD_MISMATCH, and nothing stays armed. -/
def guardFail (m : Master) (a : Nat) (s : State) : State := decodeFault kGuardMismatch a (s.setGuard m none)

/-- The window of master `m` ends without a complement. -/
def guardEnd (m : Master) (s : State) : State :=
  match s.guardOf m with
  | some g => guardFail m g.addr s
  | none => s

/-- The windows that have ended by now. -/
def guardLate (m : Master) (s : State) : State :=
  match s.guardOf m with
  | some g => if g.time + s.guardWindow < s.now then guardEnd m s else s
  | none => s

/-- A write `f` by master `m` that is no guarded pair: a value it has armed is discarded (R62). -/
def writes (m : Master) (f : State → State) (s : State) : State := access m (fun s => f (guardEnd m s)) s

end Sys2Proof.Machine
end

