-- ==== Sys2Proof/Machine/Timebase.lean ====
section
/-! DEFINITION. The timebase (R74–R81): the oven loop, TB_WARM, its abnormal conditions and the external source. -/

namespace Sys2Proof.Machine

/-- TB_CTRL has locked (R79). -/
def State.tbLocked (s : State) : Bool := Tbl.get (fun _ => false) s.bus.locks Reg.TB_CTRL

/-- TB_CTRL has locked with an external source (R79, R80). -/
def State.tbExt (s : State) : Bool := s.tbLocked && (s.fld F.TB_CTRL_SRC == 1 || s.fld F.TB_CTRL_SRC == 2)

/-- An APLL is locked: LOCKED or SLEWING (R79, R203). -/
def State.anyApllLocked (s : State) : Bool := (List.range 4).any (fun a => 3 ≤ s.fld (F.APLL_STATUS_STATE a))

/-- A flag of TB_STATUS takes a value; each rise and fall counts TB_EVT (R78). -/
def State.tbFlag (s : State) (f : Fld) (b : Bool) : State :=
  if s.flag f = b then s else (s.setFlag f b).bump Reg.TB_EVT

/-- The register address `a` locks (R64). -/
def State.lock (s : State) (a : Nat) : State :=
  { s with bus := { s.bus with locks := Tbl.set (fun _ => false) s.bus.locks a true } }

/-- Milestone `k` is reached for the first time after a reset: its bit of BOOT_STATUS, its time in µs since reset release, and
BOOT_EVT (R524). -/
def State.milestone (s : State) (k : Nat) : State :=
  if s.flag ⟨Reg.BOOT_STATUS, k, 1⟩ then s else
    ((s.setFlag ⟨Reg.BOOT_STATUS, k, 1⟩ true).setRv (Reg.BOOT_TIME k) (min ((s.now - s.relAt) / 10 ^ 6) (2 ^ 32 - 1))).bump Reg.BOOT_EVT

/-- A TB_CTRL write lands (R64, R79, R80): ignored with LOCKED_WRITE once locked, refused while an APLL is locked, else it locks and moves
the TBM. -/
def landTbCtrl (v : Word) (s : State) : State :=
  if s.tbLocked then s.sendFault srcHostDecode kLockedWrite Reg.TB_CTRL
  else if s.anyApllLocked then s.setFlag F.TB_STATUS_SRC_REFUSED true
  else
    let s1 := ((s.setReg Reg.TB_CTRL (v &&& 0xf)).lock Reg.TB_CTRL).setFlag F.TB_STATUS_SRC_REFUSED false
    let src := v.toNat % 4
    let s2 := if src = 1 ∨ src = 2 then
        { (((((s1.setFld F.TB_STATUS_SRC_IN_USE src).setFlag F.TB_STATUS_EXT_ACTIVE true).setFlag F.TB_STATUS_SLEWING true).setFlag
            F.TB_STATUS_AT_SETPOINT false).setRv Reg.TB_PRED_DEV 0).setFlag F.TB_OVEN_HTR_EN false with
          tb := { s1.tb with demandMw := 0, atMs := none } }
      else s1
    s2.milestone 3

/-- A TB_OVEN write lands: HTR_EN is stored, or ignored with an external source; written 0 it takes TB_WARM down (R77, R79, R80). -/
def landTbOven (v : Word) (s : State) : State :=
  if s.tbExt then s
  else if v.getLsbD 0 then { s.setFlag F.TB_OVEN_HTR_EN true with tb := { s.tb with atMs := none } }
  else { (s.tbFlag F.TB_STATUS_TB_WARM false).setFlag F.TB_OVEN_HTR_EN false with tb := { s.tb with demandMw := 0 } }

/-- |p| is at most `n` ppb, for p in 2⁻⁴⁸. -/
def withinPpb (p : Int) (n : Nat) : Bool := decide (p.natAbs * 10 ^ 9 ≤ n * 2 ^ 48)

/-- The conditions of TB_WARM that hold now: within ±0.05 K and |TB_PRED_DEV| ≤ 10 ppb with the oven (R77), lock to an active
external source (R80, R81). -/
def State.warmNow (s : State) : Bool :=
  if s.tbExt then s.flag F.TB_STATUS_EXT_ACTIVE && !s.flag F.TB_STATUS_EXT_LOST && !s.flag F.TB_STATUS_SLEWING
  else s.tbLocked && s.flag F.TB_STATUS_AT_SETPOINT && !s.flag F.TB_STATUS_OVERTEMP && withinPpb (s.srv Reg.TB_PRED_DEV) 10

/-- 2⁶⁴ exp(−t / tau), by the integer part of t / tau and the power series of its fraction. -/
def expNeg (t tau : Nat) : Nat :=
  let one := 2 ^ 64
  let whole := (List.range (min (t / tau) 64)).foldl (fun a _ => a * 6786177901268885274 / one) one
  let frac := (List.range 24).foldl (fun a k => one - a * (t % tau) / (tau * (24 - k))) one
  whole * frac / one

/-- The amplitude and the time constant of the retrace term within what R77 states of every unit: ±200 ppb and 0.5–20 s. -/
def retraceA : Int := max (-56294995) (min 56294995 Config.retraceAmp)
def retraceT : Nat := max 500 (min 20000 Config.retraceTau)

/-- The predicted offset in 2⁻⁴⁸ at `tc` mK, `ms` after AT_SETPOINT (R77), to the nearest unit. -/
def tbPrediction (tc : Int) (ms : Nat) : Int := Config.tbCurve tc + roundDiv (retraceA * expNeg ms retraceT) (2 ^ 64)

/-- The oven loop's millisecond with crystal temperature `tc` in mK and the die sensors in 1/64 K (R76–R78). -/
def ovenLoop (tc d0 d1 d2 d3 : Int) (s : State) : State :=
  let s1 := ((s.setRv Reg.TB_TEMP (unsigned 18 tc)).setRv Reg.TB_TEMP_DIE01 (unsigned 16 d0 + 2 ^ 16 * unsigned 16 d1)).setRv
    Reg.TB_TEMP_DIE23 (unsigned 16 d2 + 2 ^ 16 * unsigned 16 d3)
  if s.tbExt then s1 else
  let sp := s.rv Reg.TB_SETPOINT
  let dev := tc - sp
  let at_ := decide (dev.natAbs ≤ 50)
  let hot := if 3000 < dev then true else if dev < 0 then false else s.flag F.TB_STATUS_OVERTEMP
  let on := s.tbLocked && s.flag F.TB_OVEN_HTR_EN
  let atMs := match s.tb.atMs with
    | some m => some (m + 1)
    | none => if at_ && on then some 0 else none
  let pred := clampS 32 (tbPrediction tc (atMs.getD 0))
  let demand := if on && !hot then Config.ovenDemand tc sp else 0
  let s2 := (s1.setFlag F.TB_STATUS_AT_SETPOINT at_).setRv Reg.TB_PRED_DEV (unsigned 32 pred)
  let s3 := { s2 with tb := { s2.tb with demandMw := demand, atMs := atMs } }
  let s4 := s3.tbFlag F.TB_STATUS_OVERTEMP hot
  let s5 := if 0 ≤ dev then s4.tbFlag F.TB_STATUS_HTR_LIMIT false else s4
  if 200 < dev.natAbs || !withinPpb pred 20 || hot then s5.tbFlag F.TB_STATUS_TB_WARM false else s5

/-- The heater ramps to zero for rung L4: the oven loop's demand is zero, and TB_WARM of an oven falls (R77, R486). -/
def ovenOff (s : State) : State :=
  let s1 : State := { s with tb := { s.tb with demandMw := 0 } }
  if s.tbExt then s1 else s1.tbFlag F.TB_STATUS_TB_WARM false

/-- The TBM runs: every rung but L4 (R76, R486). -/
def State.tbmOn (s : State) : Bool := !s.inReset && s.rung ≤ 3

/-- TB_CTRL_WRITE (R79). -/
def execTbCtrlWrite (v : Word) (s : State) : Host.Outcome State Fault Refusal := fin (whenOn 2 (landTbCtrl v) s)

/-- TB_OVEN_WRITE (R76). -/
def execTbOvenWrite (v : Word) (s : State) : Host.Outcome State Fault Refusal := fin (whenOn 2 (landTbOven v) s)

/-- OVEN_LOOP_UPDATE (R76): once per millisecond in rungs L0–L3. -/
def execOvenLoopUpdate (tc d0 d1 d2 d3 : Int) (s : State) : Host.Outcome State Fault Refusal :=
  fin (if s.tbmOn then ovenLoop tc d0 d1 d2 d3 s else s)

/-- TB_WARM_RISE (R77, R80): the warm conditions have held for 1 s. -/
def execTbWarmRise (s : State) : Host.Outcome State Fault Refusal :=
  fin (if s.tbmOn && s.warmNow then (s.tbFlag F.TB_STATUS_TB_WARM true).milestone 4 else s)

/-- HTR_LIMIT (R78): the heater has run at its cap for 10 s below set point. -/
def execHtrLimit (s : State) : Host.Outcome State Fault Refusal :=
  fin (if s.tbmOn && s.tb.capLow then s.tbFlag F.TB_STATUS_HTR_LIMIT true else s)

/-- TBM_SLEW_DONE (R81): the TBM is within 1 ppb of its source. -/
def execTbmSlewDone (s : State) : Host.Outcome State Fault Refusal :=
  fin (if s.tbmOn && s.flag F.TB_STATUS_SLEWING && !s.flag F.TB_STATUS_EXT_LOST then s.setFlag F.TB_STATUS_SLEWING false else s)

/-- EXT_LOST (R81): four nominal source periods without an edge; the TBM freewheels. -/
def execExtLost (s : State) : Host.Outcome State Fault Refusal :=
  fin (if s.tbmOn && s.tbExt then
    (((s.tbFlag F.TB_STATUS_EXT_LOST true).setFlag F.TB_STATUS_EXT_ACTIVE false).setFlag F.TB_STATUS_SLEWING false).tbFlag F.TB_STATUS_TB_WARM false else s)

/-- EXT_RETURN (R81): the source has been back for 1 s; the TBM slews back to it. -/
def execExtReturn (s : State) : Host.Outcome State Fault Refusal :=
  fin (if s.tbmOn && s.tbExt && s.flag F.TB_STATUS_EXT_LOST then
    ((s.tbFlag F.TB_STATUS_EXT_LOST false).setFlag F.TB_STATUS_EXT_ACTIVE true).setFlag F.TB_STATUS_SLEWING true else s)

end Sys2Proof.Machine
end

