-- ==== Sys2Proof/Machine/Tiu.lean ====
section
/-! DEFINITION. The time-interval unit (R82–R107): edges, stamps and records, calibration, groups, regression, statistics. Pin
times and stamps are in units of 2⁻¹⁶ TCLK cycle (30.52 fs), 72 bits of era:coarse:fraction. -/

namespace Sys2Proof.Machine

def State.chan (s : State) (n : Nat) : Chan := Tbl.get (fun _ => Chan.reset) s.tiu.chan n
def State.setChan (s : State) (n : Nat) (c : Chan) : State :=
  { s with tiu := { s.tiu with chan := Tbl.set (fun _ => Chan.reset) s.tiu.chan n c } }
def State.interp (s : State) (n : Nat) : Interp := Tbl.get (fun _ => Interp.reset) s.tiu.interp n
def State.setInterp (s : State) (n : Nat) (c : Interp) : State :=
  { s with tiu := { s.tiu with interp := Tbl.set (fun _ => Interp.reset) s.tiu.interp n c } }
def State.group (s : State) (g : Nat) : Group := Tbl.get (fun _ => Group.reset) s.tiu.grp g
def State.setGroup (s : State) (g : Nat) (c : Group) : State :=
  { s with tiu := { s.tiu with grp := Tbl.set (fun _ => Group.reset) s.tiu.grp g c } }
def State.regr (s : State) (n : Nat) : Regr := Tbl.get (fun _ => Regr.reset) s.tiu.regr n
def State.setRegr (s : State) (n : Nat) (c : Regr) : State :=
  { s with tiu := { s.tiu with regr := Tbl.set (fun _ => Regr.reset) s.tiu.regr n c } }
def State.stat (s : State) (k : Nat) : Stat := Tbl.get (fun _ => Stat.reset) s.tiu.stat k
def State.setStat (s : State) (k : Nat) (c : Stat) : State :=
  { s with tiu := { s.tiu with stat := Tbl.set (fun _ => Stat.reset) s.tiu.stat k c } }
def GPairs.get (t : Tbl GPair) (c : Nat) : GPair := Tbl.get (fun _ => GPair.reset) t c
def GPairs.set (t : Tbl GPair) (c : Nat) (p : GPair) : Tbl GPair := Tbl.set (fun _ => GPair.reset) t c p

def State.refp (s : State) (i : Nat) : RefPart := Tbl.get (fun _ => RefPart.reset) s.ref i
def State.setRefp (s : State) (i : Nat) (r : RefPart) : State := { s with ref := Tbl.set (fun _ => RefPart.reset) s.ref i r }


/-- The difference of two 72-bit times, formed over era, coarse and fraction (R29, R577). -/
def tdiff (a b : Int) : Int := signed 72 (unsigned 72 (a - b))

/-- ACT_WIN of reference `i` in stamp units; 0 acts as 1 µs (R128). -/
def State.actWin (s : State) (i : Nat) : Nat := max 1 (s.fld ⟨Reg.REF_ACT i, 0, 24⟩) * 500 * 65536

/-- An edge, pulse or valid output of reference `i` at pin time `t` starts a new activity window. One later than the end of the last window
leaves that end to be closed: activity was lost there (R27, R112, R116). -/
def refEdge (i t : Nat) (s : State) : State :=
  let r := s.refp i
  match r.lastAct with
  | some p =>
    if tdiff t p < 0 then s else
    let e : Int := (p + s.actWin i : Nat)
    let past := r.act && decide (0 < tdiff t e)
    s.setRefp i { r with lastAct := some t, act := true, lapses := if past then r.lapses ++ [unsigned 72 e] else r.lapses }
  | none => s.setRefp i { r with lastAct := some t, act := true }

/-- A stamp of channel `n` counts as activity of the reference measured on it: IDs 12–15 need block lock, DSY its lane
READY and a member (R112, R534). A stamp of CH22 is that of a PPS and waits for its record (R215). -/
def stampActivity (n t : Nat) (s : State) : State :=
  if n < 12 then refEdge n t s
  else if n < 16 then (if s.flag (F.PORT_STATUS_BLOCK_LOCK (n - 12)) then refEdge n t s else s)
  else if n = 22 then { s with gnss := { s.gnss with stamp := some ⟨t, s.rv Reg.SOL_SEQ, none⟩ } }
  else if n = 23 && s.fld F.DZ_STATUS_STATE == 6 && !s.flag F.DZ_STATUS_MASTER then refEdge 21 t s
  else s

/-- Channel `n` is powered: all channels in L0 and L1, the two of L2_CH in L2 (R105). -/
def State.chPowered (s : State) (n : Nat) : Bool :=
  s.tclkOn && (s.rung ≤ 1 || n == s.rv Reg.L2_CH % 32 || n == s.rv Reg.L2_CH / 256 % 32)

/-- The recovered clock reaches channel `n` = 12–15: RXC_VALID = 1, and with RXC_SQUELCH = 1 in force no local fault (R238). -/
def State.rxcOn (s : State) (n : Nat) : Bool :=
  let p := n - 12
  s.flag (F.PORT_STATUS_RXC_VALID p) &&
    !((F.PORT_CFG_RXC_SQUELCH p).of (Tbl.get (fun _ => PortPart.reset) s.prt p).cfg == 1 && s.flag (F.PORT_STATUS_LOCAL_FAULT p))

/-- Channel `n` takes stamps: enabled, powered and not stopped by a whistle (R102, R505). -/
def State.chRuns (s : State) (n : Nat) : Bool := s.chPowered n && s.flag (F.CH_CFG_EN n) && !s.wIdle 4 n

/-- The index of the spare interpolator (R92). -/
def State.spare (s : State) : Nat := s.fld F.CAL_STATUS_SPARE

/-- The interpolator that serves channel `n` (R92, R94). -/
def State.serving (s : State) (n : Nat) : Nat :=
  let c := s.chan n
  if c.onSpare then s.spare else c.own.getD n

/-- CH_STATUS of channel `n`: RUNNING, FAST and INTERP (R107); the millisecond of FAST is a difference of 72-bit times (R577). -/
def State.chStatus (s : State) (n : Nat) : Nat :=
  let fast : Bool := match (s.chan n).fastPin with
    | some p => decide (unsigned 72 ((s.tiu.count * 65536 : Nat) - (p : Int)) < 500000 * 65536)
    | none => false
  (if s.chRuns n then 1 else 0) + (if fast then 2 else 0) + 256 * s.serving n

/-! ### Statistics (R103, R104) -/

/-- The statistics engine `k` takes samples from its source: enabled, with a KIND that exists (R103). -/
def State.statOn (s : State) (k : Nat) : Bool := s.flag (F.STAT_CFG_EN k) && s.fld (F.STAT_CFG_KIND k) < 4

/-- A result that fits its 64 bits, or an open value where the spec states none for one that does not (R104). -/
def fits64 (ok : Bool) (v : Nat) (s : State) : Nat × State :=
  if ok then (v, s) else let d := s.draw; (d.1 % 2 ^ 64, d.2)

/-- Engine `k` publishes the results of its block and starts a new one (R104); EXCLUDED shows with the results and counts over the block
(DESIGN CHOICE, log 223). -/
def statPublish (k : Nat) (s : State) : State :=
  let b := s.stat k
  let n := b.n
  let mean := roundDiv b.sum (n * 256)
  let m := fits64 (decide (clampS 64 mean = mean)) (unsigned 64 mean) s
  -- standard deviation in units of 2⁻⁸, from samples in units of 2⁻¹⁶, to the nearest
  let var := (n * b.sumsq - b.sum * b.sum).toNat
  let sdev := if n ≤ 1 then 0 else (isqrt (4 * var / (n * (n - 1) * 65536)) + 1) / 2
  let flags := (if b.cold then 1 else 0) + (if b.swap then 2 else 0) + (if n = 1 then 4 else 0) + 256 * min b.excl (2 ^ 24 - 1)
  let d := fits64 (decide (sdev < 2 ^ 64)) sdev m.2
  let s1 := (d.2.setQuant (Reg.STAT_MEAN k) 2 m.1).setQuant (Reg.STAT_SDEV k) 2 d.1
  let s2 := (s1.setQuant (Reg.STAT_MIN k) 2 (unsigned 64 (roundDiv b.min 65536))).setQuant (Reg.STAT_MAX k) 2
    (unsigned 64 (roundDiv b.max 65536))
  let s3 := (s2.setRv (Reg.STAT_FLAGS k) flags).bump (Reg.STAT_SEQ k)
  s3.setStat k { Stat.reset with last := b.last, anchor := b.anchor }

/-- Engine `k` takes the sample `x`, in 2⁻¹⁶ of its unit; at the N-th it publishes (R104). -/
def statSample (k : Nat) (x : Int) (cold swap : Bool) (s : State) : State :=
  let b := s.stat k
  let b' := { b with
    n := b.n + 1, sum := b.sum + x, sumsq := b.sumsq + x * x,
    min := if b.n = 0 then x else min b.min x, max := if b.n = 0 then x else max b.max x,
    cold := b.cold || cold, swap := b.swap || swap }
  let s1 := s.setStat k b'
  if b'.n = s.rv (Reg.STAT_N k) + 1 then statPublish k s1 else s1

/-- The stat engines that take a group result (KIND 0) (R103). -/
def statGroup (g : Nat) (r : GRes) (s : State) : State :=
  forEach (List.range 8) (fun s k =>
    if s.statOn k && s.fld (F.STAT_CFG_KIND k) == 0 && s.fld (F.STAT_CFG_GROUP k) == g && s.fld (F.STAT_CFG_CHANNEL k) == r.ch then
      if r.tooClose || r.noMatch || r.range then
        s.setStat k { s.stat k with excl := min ((s.stat k).excl + 1) (2 ^ 24 - 1) }
      else statSample k (r.val * 65536) r.cold false s
    else s) s

/-- The phase of a KIND 2 sample: stamp − (anchor + k × P) folded into (−P/2, P/2], in 2⁻¹⁶ units (R103). -/
def foldPhase (d : Int) (p : Nat) : Int :=
  if p = 0 then Config.phaseNoPeriod d
  else
    let r := (d * 65536) % (p : Int)
    if (p : Int) < 2 * r then r - p else r

/-- The stat engines that take the stamps of a channel (KIND 1 and 2) (R103, R104). -/
def statStamp (n : Nat) (r : TiuRec) (s : State) : State :=
  forEach (List.range 8) (fun s k =>
    if s.statOn k && s.fld (F.STAT_CFG_CHANNEL k) == n then
      if s.fld (F.STAT_CFG_KIND k) = 1 then
        let b := s.stat k
        let s1 := s.setStat k { b with last := some (r.t : Int) }
        match b.last with
        | some l => statSample k (tdiff r.t l * 65536) r.cold r.swap s1
        | none => s1
      else if s.fld (F.STAT_CFG_KIND k) = 2 then
        statSample k (foldPhase (tdiff r.t (s.stat k).anchor) (s.quant (Reg.NOM_PERIOD n) 2)) r.cold r.swap s
      else s
    else s) s

/-- The stat engines that take a sample of stream SMPp (KIND 3); a stream's sample carries neither COLD nor SWAP (R103, R104). -/
def statStream (p : Nat) (x : Int) (s : State) : State :=
  forEach (List.range 8) (fun s k =>
    if s.statOn k && s.fld (F.STAT_CFG_KIND k) == 3 && s.fld (F.STAT_CFG_GROUP k) == p then
      statSample k (x * 65536) false false s
    else s) s

/-- A write to STAT_CFG, STAT_N or STAT_ANCHOR discards the partial block; a reserved KIND sets BAD_KIND (R103, R104). -/
def statDiscard (k : Nat) (s : State) : State :=
  let s1 := s.setStat k { Stat.reset with anchor := (s.stat k).anchor }
  s1.setFlag ⟨Reg.STAT_FLAGS k, 3, 1⟩ (4 ≤ s1.fld (F.STAT_CFG_KIND k))

def landStatCfg (k : Nat) (v : Word) (s : State) : State := statDiscard k (s.setReg (Reg.STAT_CFG k) (v &&& 0x1f070f))
def landStatN (k : Nat) (v : Word) (s : State) : State := statDiscard k (s.setReg (Reg.STAT_N k) (v &&& 0xffffff))

/-- The anchor is taken in the era that places it nearest the present count (R103). -/
def nearestEra (count stamp : Nat) : Nat :=
  let here := count * 65536
  unsigned 72 ((here : Int) + signed 64 (unsigned 64 ((stamp : Int) - here)))

def landStatAnchor (k v : Nat) (s : State) : State :=
  let s1 := s.setQuant (Reg.STAT_ANCHOR k) 2 v
  statDiscard k (s1.setStat k { s1.stat k with anchor := nearestEra s.tiu.count v })

/-! ### Groups (R97–R99) -/

/-- The lowest eight bits set of a stop mask (R97). -/
def lowest8 (mask : Nat) : List Nat := ((List.range 24).filter mask.testBit).take 8

/-- A result enters its group's FIFO, or is dropped; the statistics engines take it either way (R85, R99, R103). -/
def grpEmit (g : Nat) (r : GRes) (s : State) : State :=
  let v := s.group g
  let s1 := if v.fifo.length < 64 then (s.setGroup g { v with fifo := v.fifo ++ [r] }).bump (Reg.GRP_CNT g)
    else s.bumpFld ⟨Reg.GRP_STATUS g, 16, 16⟩
  statGroup g r s1

/-- The result of a start and a stop (R98). -/
def grpResult (ch : Nat) (a b : GStamp) : GRes :=
  match a.t, b.t with
  | some ta, some tb =>
    let d := tdiff tb ta
    let v := clampS 64 d
    { val := v, ch := ch, order := decide (d < 0), tooClose := false, range := decide (v ≠ d), noMatch := false, cold := a.cold || b.cold, gi := a.gi }
  | _, _ => { val := 0, ch := ch, order := false, tooClose := true, range := false, noMatch := false, cold := a.cold || b.cold, gi := a.gi }

/-- A NOMATCH result (R97). -/
def grpNoMatch (ch : Nat) (a : GStamp) : GRes :=
  { val := 0, ch := ch, order := false, tooClose := false, range := false, noMatch := true, cold := a.cold, gi := a.gi }

/-- INDEX pairing of a new stamp `e` on one side of a pair; the 65th unmatched stamp of a side discards the oldest (R97). -/
def pairIndex (g ch : Nat) (isStart : Bool) (e : GStamp) (s : State) : State :=
  let v := s.group g
  let p := GPairs.get v.pair ch
  let other := if isStart then p.stops else p.starts
  match other.find? (fun o => o.gi == e.gi) with
  | some o =>
    let rest := other.filter (fun x => x.gi != e.gi)
    let p' : GPair := if isStart then { p with stops := rest } else { p with starts := rest }
    let r := if isStart then grpResult ch e o else grpResult ch o e
    grpEmit g r (s.setGroup g { v with pair := GPairs.set v.pair ch p' })
  | none =>
    let mine := (if isStart then p.starts else p.stops) ++ [e]
    if mine.length ≤ 64 then
      s.setGroup g { v with pair := GPairs.set v.pair ch (if isStart then { p with starts := mine } else { p with stops := mine }) }
    else
      match mine with
      | o :: rest =>
        grpEmit g (grpNoMatch ch o)
          (s.setGroup g { v with pair := GPairs.set v.pair ch (if isStart then { p with starts := rest } else { p with stops := rest }) })
      | [] => s

/-- GRP_WIN in stamp units; 0 acts as 1 (R107). -/
def State.grpWin (s : State) (g : Nat) : Int := (max 1 (s.rv (Reg.GRP_WIN g)) : Nat) * 65536

/-- The stop nearest to a start within the window, an equidistant pair going to the earlier stop (R97). -/
def nearestStop (w : Int) (a : Int) (l : List GStamp) : Option GStamp :=
  l.foldl (fun best o =>
    match o.t with
    | none => best
    | some t =>
      let d := tdiff t a
      if (d.natAbs : Int) ≤ w then
        match best with
        | none => some o
        | some b =>
          let db := tdiff (b.t.getD 0) a
          if d.natAbs < db.natAbs ∨ (d.natAbs = db.natAbs ∧ d < db) then some o else best
      else best) none

/-- The result of a NEAREST start (R97, R98). -/
def nearestResult (w : Int) (ch : Nat) (a : GStamp) (stops : List GStamp) : GRes :=
  match a.t with
  | none => grpResult ch a a
  | some t => match nearestStop w t stops with
    | some o => grpResult ch a o
    | none => grpNoMatch ch a

/-- The oldest starts of a NEAREST pair that can be decided by the stamps seen, in their order: a start is decided once a stop beyond its
window has been seen, and a lost one, which has no window, in its place behind those before it (R97, R98). -/
def nearestFlush (g ch : Nat) (s : State) : State :=
  let v := s.group g
  let p := GPairs.get v.pair ch
  let w := s.grpWin g
  let ready := fun (a : GStamp) => match a.t with
    | none => true
    | some t => p.stops.any (fun o => match o.t with | some u => decide (w < tdiff u t) | none => false)
  let s1 := s.setGroup g { v with pair := GPairs.set v.pair ch { p with starts := p.starts.dropWhile ready } }
  (p.starts.takeWhile ready).foldl (fun s a => grpEmit g (nearestResult w ch a p.stops) s) s1

/-- The stops that a start still waiting, or one yet to come, may pair with: those within its window, or within the window and 1 ms of
the newest stop. -/
def liveStops (w : Int) (starts stops : List GStamp) : List GStamp :=
  match stops.getLast? with
  | none => []
  | some z => stops.filter (fun o =>
      decide (tdiff (z.t.getD 0) (o.t.getD 0) ≤ w + 500000 * 65536) ||
      starts.any (fun a => match a.t with
        | some t => decide ((tdiff (o.t.getD 0) t).natAbs ≤ w.natAbs)
        | none => false))

/-- NEAREST pairing of a new stamp; a lost stop has no stamp and is no candidate (R97). -/
def pairNearest (g ch : Nat) (isStart : Bool) (e : GStamp) (s : State) : State :=
  let v := s.group g
  let p := GPairs.get v.pair ch
  let p' : GPair :=
    if isStart then { p with starts := p.starts ++ [e] }
    else if e.t.isSome then { p with stops := liveStops (s.grpWin g) p.starts (p.stops ++ [e]) } else p
  nearestFlush g ch (s.setGroup g { v with pair := GPairs.set v.pair ch p' })

/-- The group's own index of edge index `idx` on channel `n` (R97). -/
def State.grpIndex (s : State) (g n idx : Nat) : Nat :=
  (idx + 2 ^ 32 - Tbl.get (fun _ => 0) (s.group g).base n) % 2 ^ 32

/-- The channels of group `g`: its start channel and up to eight stop channels (R97). -/
def State.grpChans (s : State) (g : Nat) : List Nat := s.fld (F.GRP_CFG_START g) :: lowest8 (s.rv (Reg.GRP_STOPS g))

/-- Group `g` measures: it is enabled and every channel of it is powered (R105). -/
def State.grpOn (s : State) (g : Nat) : Bool := s.flag (F.GRP_CFG_EN g) && (s.grpChans g).all s.chPowered

/-- Every group that measures takes an edge of channel `n`: stamped at `t`, or lost (R97). -/
def grpEdge (n idx : Nat) (t : Option Nat) (cold : Bool) (s : State) : State :=
  forEach (List.range 8) (fun s g =>
    if s.grpOn g then
      let e : GStamp := ⟨s.grpIndex g n idx, t, cold⟩
      let pair := if s.flag (F.GRP_CFG_MODE g) then pairNearest else pairIndex
      let stops := lowest8 (s.rv (Reg.GRP_STOPS g))
      let s1 := if s.fld (F.GRP_CFG_START g) = n then forEach stops (fun s ch => pair g ch true e s) s else s
      if stops.contains n then pair g n false e s1 else s1
    else s) s

/-- Group `g` restarts: unmatched stamps are dropped and its indices count from the next edges (R86, R97). -/
def grpRestart (g : Nat) (s : State) : State :=
  let base := (List.range 24).foldl (fun (b : Tbl Nat) n => Tbl.set (fun _ => 0) b n (s.chan n).idx) []
  s.setGroup g { s.group g with base := base, pair := [] }

/-- Group `g` uses channel `n` (R86). -/
def State.grpUses (s : State) (g n : Nat) : Bool :=
  (s.grpChans g).contains n

/-- A write to a group register lands: the group restarts, and CFG_TRUNC follows the stop mask (R97). -/
def landGroup (a g : Nat) (v : Word) (s : State) : State :=
  let s1 := s.setReg a v
  grpRestart g (s1.setFlag ⟨Reg.GRP_STATUS g, 8, 1⟩ (8 < popcount (s1.rv (Reg.GRP_STOPS g)) 24))

/-- The four words of a result record (R98); an empty FIFO gives VALID = 0. -/
def GRes.words : Option GRes → List Word
  | none => [0, 0, 0, 0]
  | some r =>
    let v := unsigned 64 r.val
    let b := fun (x : Bool) (k : Nat) => if x then 2 ^ k else 0
    [BitVec.ofNat 32 v, BitVec.ofNat 32 (v / 2 ^ 32),
     BitVec.ofNat 32 (r.ch + b r.order 8 + b r.tooClose 9 + b r.range 10 + b r.noMatch 11 + b r.cold 12 + 2 ^ 13),
     BitVec.ofNat 32 r.gi]

/-! ### Regression (R100–R102) -/

/-- The gate length in TCLK cycles: GATE_MS from 1 to 1,000,000 ms (R100). -/
def State.gateLen (s : State) (n : Nat) : Nat := max 1 (min 1000000 (s.fld (F.REG_CFG_GATE_MS n))) * 500000

/-- A gate's COLD and SWAP see every stamp in it, used or not (R102). -/
def Gate.see (r : TiuRec) (g : Gate) : Gate := { g with cold := g.cold || r.cold, swap := g.swap || r.swap }

/-- A gate takes a used stamp (R101). -/
def Gate.add (both : Bool) (p : Nat) (r : TiuRec) (g : Gate) : Gate :=
  let fl := g.see r
  if 2 ^ 36 ≤ g.n then { fl with sat := true } else
  let acc := fun (g : Gate) (i : Int) =>
    let x := tdiff r.t g.t0
    { g with n := g.n + 1, si := g.si + i, sii := g.sii + i * i, st := g.st + x, stt := g.stt + x * x, sit := g.sit + i * x,
             prev := ((r.t : Int), r.idx, i) :: g.prev.take 1 }
  match g.prev with
  | [] => acc { fl with t0 := r.t } 0
  | q1 :: rest =>
    -- the stamp the step is tested against
    let q := if both then (match rest with | q2 :: _ => q2 | [] => q1) else q1
    let di : Int := ((r.idx + 2 ^ 32 - q.2.1) % 2 ^ 32 : Nat)
    if both && rest.isEmpty || p = 0 then acc fl (q.2.2 + di)
    else
      let dt := tdiff r.t q.1 * 131072
      if (2 * di - 1) * p ≤ dt ∧ dt < (2 * di + 1) * p then acc fl (q.2.2 + di)
      else acc { fl with gap := true } (q.2.2 + (dt + p) / (2 * p))

/-- A gate of channel `n` takes a stamp: those whose edge index is a multiple of 2^DECIM are used (R101). -/
def State.gateTake (s : State) (n : Nat) (g : Gate) (r : TiuRec) : Gate :=
  if r.idx % 2 ^ (s.fld (F.REG_CFG_DECIM n)) = 0 then
    g.add (s.fld (F.CH_CFG_SLOPE n) == 2 && s.fld (F.REG_CFG_DECIM n) == 0) (s.quant (Reg.NOM_PERIOD n) 2) r
  else g.see r

/-- The end of a gate of `len` counts in progress at the count `c`: the next multiple of `len`, or the wrap of the 56-bit count (R100, R577). -/
def gateNext (len c : Nat) : Nat := let e := (c / len + 1) * len; if 2 ^ 56 ≤ e then 0 else e

/-- The end of the gate in progress of channel `n`, as an era:coarse count (R100). -/
def State.gateStop (s : State) (n : Nat) : Nat := (s.regr n).stop.getD (gateNext (s.gateLen n) s.tiu.count)

/-- The stamp `t` belongs to a gate that ends at the count `e`, or to one before it: it is at or before the end (R27, R100). -/
def inGate (t e : Nat) : Bool := decide (tdiff t ((e * 65536 : Nat) : Int) ≤ 0)

/-- Channel `n`'s regression takes a stamp: in the closing gate where the stamp is at or before its end, else in the gate in progress, or,
where the stamp is later than that gate's end too, in the gate after it (R27, R100, R101). -/
def regStamp (n : Nat) (r : TiuRec) (s : State) : State :=
  if !s.flag (F.REG_CFG_EN n) then s else
  let v := s.regr n
  let later := if inGate r.t (s.gateStop n) then { v with cur := some (s.gateTake n (v.cur.getD (Gate.new true)) r) }
    else { v with ahead := v.ahead ++ [r] }
  match v.closing with
  | some (g, e) => s.setRegr n (if inGate r.t e then { v with closing := some (s.gateTake n g r, e) } else later)
  | none => s.setRegr n later

/-- Channel `n`'s gate ends at the count `e`: it closes with every stamp at or before its end, and the next gate begins with the others. A gate
that the wrap ends is PARTIAL (R577). -/
def regGateEnd (n e : Nat) (s : State) : State :=
  let v := s.regr n
  let next := gateNext (s.gateLen n) e
  let g := v.cur.getD (Gate.new true)
  let mine := v.ahead.filter (fun r => inGate r.t e)
  let rest := v.ahead.filter (fun r => !inGate r.t e)
  s.setRegr n
    { cur := some ((rest.filter (fun r => inGate r.t next)).foldl (s.gateTake n) (Gate.new false)), stop := some next,
      ahead := rest.filter (fun r => !inGate r.t next), closing := some (mine.foldl (s.gateTake n) { g with part := g.part || e == 0 }, e) }

/-- The gate in progress is discarded without being published; the next one is PARTIAL. A channel that takes no stamps publishes nothing,
a gate that has just closed included (R102). -/
def regDiscard (n : Nat) (s : State) : State :=
  s.setRegr n { cur := if s.chRuns n && s.flag (F.REG_CFG_EN n) then some (Gate.new true) else none, stop := none, ahead := [],
                closing := if s.chRuns n then (s.regr n).closing else none }

/-- Rms residual of the fit, to the nearest unit (R101, R102). -/
def Gate.resid (g : Gate) : Nat :=
  let n : Int := g.n
  let d := n * g.sii - g.si * g.si
  if d ≤ 0 then 0 else
    let sxy := n * g.sit - g.si * g.st
    let syy := n * g.stt - g.st * g.st
    let num := (syy * d - sxy * sxy).toNat
    min ((isqrt (4 * num / (g.n * g.n * d.toNat)) + 1) / 2) (2 ^ 32 - 1)

/-- y of the fit in 2⁻⁴⁸, to the nearest unit, halves away from zero (R101, R102). -/
def Gate.y (g : Gate) (p : Nat) : Int :=
  let n : Int := g.n
  let d := n * g.sii - g.si * g.si
  if d ≤ 0 ∨ p = 0 ∨ g.n < 3 then 0
  else roundDiv (((n * g.sit - g.si * g.st) * 65536 - d * p) * 2 ^ 48) (d.toNat * p)

/-- CH21 measures the 32.768 kHz crystal: its SRCSEL is 0, or a value that acts as 0 (R82, R107). -/
def State.xtalSel (s : State) : Bool := s.fld (F.CH_CFG_SRCSEL 21) == 0 || decide (17 ≤ s.fld (F.CH_CFG_SRCSEL 21))

/-- The crystal's frequency as CH21 has just measured it is held (R30, R82): an estimate of three stamps or more against a period. -/
def holdXtal (n : Nat) (g : Gate) (p : Nat) (y : Int) (s : State) : State :=
  if n = 21 ∧ s.xtalSel = true ∧ 3 ≤ g.n ∧ p ≠ 0 then { s with tiu := { s.tiu with xtalY := y } } else s

/-- The closed gate of channel `n` publishes (R101, R102). -/
def regPublish (n : Nat) (s : State) : State :=
  let v := s.regr n
  match v.closing with
  | none => s
  | some (g, e) =>
    let p := s.quant (Reg.NOM_PERIOD n) 2
    let y := g.y p
    let yc := clampS 48 y
    let b := fun (x : Bool) (k : Nat) => if x then 2 ^ k else 0
    let flags := b g.gap 0 + b (g.n < 3) 1 + b g.cold 2 + b g.swap 3 + b g.part 4 + b g.sat 5 + b (p == 0) 6 + b (yc != y) 7
    let s1 := (s.setQuant (Reg.REG_Y n) 2 (unsigned 64 yc)).setRv (Reg.REG_RESID n) g.resid
    let s2 := (s1.setRv (Reg.REG_COUNT n) (min g.n (2 ^ 32 - 1))).setRv (Reg.REG_FLAGS n) flags
    let s3 := (s2.setQuant (Reg.REG_END n) 3 (e * 65536 % 2 ^ 72)).bump (Reg.REG_SEQ n)
    let s4 := (holdXtal n g p yc s3).setRegr n { v with closing := none }
    if n < 16 then s4.setRefp n { s4.refp n with pub := s.tiu.count } else s4

/-! ### Edges and stamps (R83–R90) -/

/-- Channels with a ÷2 prescaler (R107). -/
def hasPre2 (n : Nat) : Bool := n ≤ 11 || n == 20 || n == 21

/-- A selected edge at pin time `t`: stamped if at least 12 ns after the last stamped one, as a difference of 72-bit times, else counted as
lost; a lost edge reaches the groups behind the edges still converting (R84, R98). -/
def selectedEdge (n : Nat) (fall : Bool) (t : Nat) (s : State) : State :=
  let c := s.chan n
  let c1 := { c with idx := (c.idx + 1) % 2 ^ 32 }
  let cold := !s.flag F.TB_STATUS_TB_WARM
  let dead := match c.lastPin with
    | some p => decide (unsigned 72 ((t : Int) - p) < 6 * 65536)
    | none => false
  let cv : Conv := { c2 := (t / 65536 + 2) % 2 ^ 56, idx := c.idx, fall := fall, tooClose := c.tooClose, cold := cold,
                     swap := c.swap, stale := (s.interp (s.serving n)).stale, restart := c.restart,
                     delay := signed 16 (s.rv (Reg.CH_DELAY n)), latest := s.flag (F.CH_CFG_LATEST n), hcap := s.flag (F.CH_CFG_HCAP n),
                     old := false, lost := dead }
  if dead then
    let s1 := s.bumpFld (F.CH_ERR_TOO_CLOSE n)
    if c.conv.isEmpty then grpEdge n c.idx none cold (s1.setChan n { c1 with tooClose := true, fastPin := some t })
    else s1.setChan n { c1 with tooClose := true, fastPin := some t, conv := c.conv ++ [cv] }
  else
    s.setChan n { c1 with lastPin := some t, tooClose := false, swap := false, restart := false, conv := c.conv ++ [cv] }

/-- A transition of channel `n`'s comparator at pin time `t` passes the ÷2 prescaler, the slope selection and the ÷N
prescaler (R83). -/
def comparatorEdge (n : Nat) (rising : Bool) (t : Nat) (s : State) : State :=
  if !s.chRuns n || (12 ≤ n && n < 16 && !s.rxcOn n) then s else
  let c := s.chan n
  let pre := s.flag (F.CH_CFG_PRE2 n) && hasPre2 n
  let out := if pre then !c.pre2 else rising          -- level after the edge at the prescaler's output
  let s1 := if pre && rising then s.setChan n { c with pre2 := !c.pre2 } else s
  let pass := rising || !pre
  let slope := s.fld (F.CH_CFG_SLOPE n)
  let sel := pass && (if slope = 1 then !out else if slope = 2 then true else out)
  if !sel then s1
  else if 0 < c.div then s1.setChan n { s1.chan n with div := c.div - 1 }
  else selectedEdge n (!out) t (s1.setChan n { s1.chan n with div := s.rv (Reg.CH_DIV n) })

/-- `q` rounded to the nearest multiple of 32, halves up, within a charge of (2 ns, 4 ns] (R87). -/
def round32 (q : Nat) : Nat := max 65536 (min 131072 ((q + 16) / 32 * 32))

/-- A record enters the channel's TE buffer, of the kind that LATEST was at its edge (R85, R86). -/
def toTeBuf (n : Nat) (latest : Bool) (r : TiuRec) (s : State) : State :=
  let c := s.chan n
  if latest then s.setChan n { c with buf := [{ r with drop := c.drop }], drop := false }
  else if c.buf.length < 16 then s.setChan n { c with buf := c.buf ++ [{ r with drop := c.drop }], drop := false }
  else (s.setChan n { c with drop := true }).bumpFld (F.CH_ERR_DROPPED n)

/-- A record enters the host capture FIFO (R85). -/
def toHcap (r : TiuRec) (s : State) : State :=
  if s.tiu.hcap.length < 256 then
    { s with tiu := { s.tiu with hcap := s.tiu.hcap ++ [{ r with drop := s.tiu.hcapDrop }], hcapDrop := false } }
  else { s with tiu := { s.tiu with hcapDrop := true } }.bumpFld F.HCAP_STATUS_DROPPED

/-- The lost edges that have come to the front of channel `n` reach the groups (R98). -/
def lostEdges (n : Nat) (s : State) : State :=
  let c := s.chan n
  (c.conv.takeWhile (·.lost)).foldl (fun s cv => if cv.old then s else grpEdge n cv.idx none cv.cold s)
    (s.setChan n { c with conv := c.conv.dropWhile (·.lost) })

/-- The conversion of channel `n`'s oldest edge completes with calibrated charge `q`: its stamp and record are formed with the settings of
the edge and go to the buffers, the statistics, and, unless a configuration write has restarted them since, the regression and the groups
(R85, R86, R87, R89). -/
def stampDone (n q : Nat) (s : State) : State :=
  let c := s.chan n
  match c.conv with
  | [] => s
  | cv :: rest =>
    let t := unsigned 72 ((cv.c2 * 65536 : Nat) - (round32 q : Int) - 32 * cv.delay)
    let r : TiuRec := { t := t, ch := n, fall := cv.fall, tooClose := cv.tooClose, drop := false, cold := cv.cold, swap := cv.swap,
                        stale := cv.stale, restart := cv.restart, idx := cv.idx }
    let s1 := toTeBuf n cv.latest r (s.setChan n { c with conv := rest })
    let s2 := (if cv.hcap then toHcap r s1 else s1).bump48 (Reg.CH_STAMPS n) 1
    let s3 := if cv.old then s2 else grpEdge n r.idx (some t) r.cold (regStamp n r s2)
    lostEdges n (stampActivity n t (statStamp n r s3))

/-- The four words of a record (R90); an empty buffer gives VALID = 0. -/
def TiuRec.words : Option TiuRec → List Word
  | none => [0, 0, 0, 0]
  | some r =>
    let b := fun (x : Bool) (k : Nat) => if x then 2 ^ k else 0
    [BitVec.ofNat 32 r.t, BitVec.ofNat 32 (r.t / 2 ^ 32),
     BitVec.ofNat 32 (r.t / 2 ^ 64 % 256 + 256 * r.ch + 2 ^ 13 + b r.fall 14 + b r.tooClose 16 + b r.drop 17 + b r.cold 18
       + b r.swap 19 + b r.stale 20 + b r.restart 21),
     BitVec.ofNat 32 r.idx]

/-- The effects of a configuration write on an enabled channel: prescalers re-phased, edge index restarted, the gate in
progress discarded, the groups that use it restarted (R86). -/
def chRestart (n : Nat) (s : State) : State :=
  let c := s.chan n
  let s1 := regDiscard n (s.setChan n { c with pre2 := false, div := 0, idx := 0, conv := c.conv.map (fun x => { x with old := true }) })
  forEach (List.range 8) (fun s g => if s.grpUses g n then grpRestart g s else s) s1

/-- A write to CH_CFG, CH_DIV or CH_DELAY of channel `n` lands (R86, R89). -/
def landChan (a n : Nat) (v : Word) (s : State) : State :=
  let was := s.flag (F.CH_CFG_EN n)
  let s1 := s.setReg a v
  if was || s1.flag (F.CH_CFG_EN n) then chRestart n s1 else s1

def landRegCfg (n : Nat) (v : Word) (s : State) : State := regDiscard n (s.setReg (Reg.REG_CFG n) (v &&& 0x1ffffff))
def landNomPeriod (n v : Nat) (s : State) : State := regDiscard n (s.setQuant (Reg.NOM_PERIOD n) 2 v)

/-- What a channel measures is discarded: its conversions and records, its gate, its groups and its statistics; a spare that served it is
free (R105, R505). -/
def chDiscard (n : Nat) (s : State) : State :=
  let c := s.chan n
  let s1 := s.setChan n { c with conv := [], buf := [], drop := false, lastPin := none, onSpare := false }
  let s2 := s1.setRegr n .reset
  let s3 := forEach (List.range 8) (fun s g => if s.grpUses g n then grpRestart g s else s) s2
  forEach (List.range 8) (fun s k =>
    let kind := s.fld (F.STAT_CFG_KIND k)
    let uses := if kind = 0 then s.grpUses (s.fld (F.STAT_CFG_GROUP k)) n else s.fld (F.STAT_CFG_CHANNEL k) == n && kind < 3
    if s.statOn k && uses then statDiscard k s else s) s3

/-- TCLK restarts (R105): the coarse counter restarts at zero, the era increments, and every measurement restarts. -/
def tclkRestart (s : State) : State :=
  let era := (s.tiu.count / 2 ^ 48 + 1) % 256
  let s1 := { s with tiu := { s.tiu with count := era * 2 ^ 48, calOn := false, calPhase := 0 } }
  let s2 := forEach (List.range 24) (fun s n => let s := chDiscard n s; s.setChan n { s.chan n with restart := true }) s1
  forEach (List.range 8) (fun s k => statDiscard k s) s2

/-- A write to L2_CH lands: in L2 a channel that loses its power with it is discarded (R105). -/
def landL2Ch (v : Word) (s : State) : State :=
  let s1 := s.setReg Reg.L2_CH (v &&& 0x1f1f)
  forEach (List.range 24) (fun t n => if s.chPowered n && !t.chPowered n then chDiscard n t else t) s1

/-- The count that one TCLK edge leaves: the coarse counter wraps into the era, the era wraps (R91). -/
def tiuTick (s : State) : State := { s with tiu := { s.tiu with count := (s.tiu.count + 1) % 2 ^ 56 } }

/-! ### Calibration (R92–R95) -/

/-- STALE: some channel has calibration older than 1 s; a channel without power is not counted, since it takes no stamps (R107; DEDUCED,
log 222). -/
def calStaleBit (s : State) : State :=
  s.setFlag F.CAL_STATUS_STALE ((List.range 24).any (fun n => s.chPowered n && (s.interp (s.serving n)).stale))

/-- Calibration runs: a spare is left (R94). -/
def State.calRuns (s : State) : Bool := s.tclkOn && !s.flag F.CAL_STATUS_NO_SPARE

/-- The channel (or, for 24, the spare itself) takes part in the sub-step: powered channels do (R92). -/
def State.calChan (s : State) (k : Nat) : Bool := s.calRuns && s.tiu.calOn && s.tiu.calSub == k && (k == 24 || s.chPowered k)

/-- The interpolator that is calibrated in sub-step `k` (R92). -/
def State.calTarget (s : State) (k : Nat) : Nat := if k = 24 then s.spare else (s.chan k).own.getD k

/-- The interpolator of sub-step `k` is retired; the spare takes its channel for good, or is itself lost (R94). The spare's first record
carries SWAP, where none has come since the takeover (R93). -/
def retire (k : Nat) (s : State) : State :=
  let i := s.calTarget k
  let s1 := ((s.setRv Reg.CAL_RETIRED (s.rv Reg.CAL_RETIRED ||| 2 ^ i)).sendFault srcTiu kSelftestFail i).setFlag F.CAL_STATUS_NO_SPARE true
  if k = 24 then s1 else s1.setChan k { s1.chan k with own := some s.spare, onSpare := false }

/-- Calibration result of sub-step `k`: `moved` says that the offset differs by more than 10 ps from the previous calibration (R94). -/
def calResult (k : Nat) (moved : Bool) (s : State) : State :=
  let i := s.calTarget k
  let f := if moved then (s.interp i).fails + 1 else 0
  let s1 := calStaleBit (s.setInterp i ⟨f, false⟩)
  let s2 := if moved then s1.bump Reg.CAL_EVT else s1
  if 3 ≤ f then retire k s2 else s2

/-- Conversions of one sub-step: 128 at each of four fractions and 512 of the ring oscillator (R92, R95). -/
abbrev calEdges : Nat := 1024

/-- Conversions due in one ration window: those of a sub-step lie between its TCLK 500 and 9,000, 104 windows (R92). -/
abbrev calPerWindow : Nat := 10

/-- In a ration window the calibration governor grants what is due, each conversion as an operation of 3.2 pC and each segment update as
one of 4.8 pC; what it does not grant stalls to the next window (R40, R95). -/
def calWindow (s : State) : State :=
  let due := if s.tiu.calPhase = 2 then min calPerWindow s.tiu.calDue else 0
  let n := min due ((s.gov 3).left / 3200)
  let s1 := govTake 3 (n * 3200) { s with tiu := { s.tiu with calDue := s.tiu.calDue - n } }
  let m := min s.tiu.calSegs ((s1.gov 3).left / 4800)
  let s2 := govTake 3 (m * 4800) { s1 with tiu := { s1.tiu with calSegs := s.tiu.calSegs - m } }
  if n < due ∨ m < s.tiu.calSegs then govStall 3 s2 else s2

/-! ### The commands -/

/-- COARSE_WRAP (R91): at the last count of the coarse counter the next TCLK edge wraps it and the era increments. -/
def execCoarseWrap (s : State) : Host.Outcome State Fault Refusal :=
  fin (if s.tclkOn && s.tiu.count % 2 ^ 48 == 2 ^ 48 - 1 then tiuTick s else s)

/-- TIU_EDGE (R84): a transition reaches channel `n`'s comparator at pin time `t`. -/
def execTiuEdge (n : Fin 24) (rising : Bool) (t : Nat) (s : State) : Host.Outcome State Fault Refusal :=
  fin (comparatorEdge n.val rising t s)

/-- STAMP_CONVERSION_DONE (R87) with the charge `q` that the calibration table gives. -/
def execStampConversionDone (n : Fin 24) (q : Nat) (s : State) : Host.Outcome State Fault Refusal :=
  fin (if s.tclkOn then stampDone n.val q s else s)

/-- GROUP_WINDOW_TIMEOUT (R97): the oldest waiting start of the pair has seen no later stamp for 1 ms of pin time. -/
def execGroupWindowTimeout (g : Fin 8) (ch : Fin 24) (s : State) : Host.Outcome State Fault Refusal :=
  let v := s.group g.val
  let p := GPairs.get v.pair ch.val
  fin (match p.starts with
    | a :: rest =>
      if s.tclkOn && s.flag (F.GRP_CFG_EN g.val) && s.flag (F.GRP_CFG_MODE g.val) then
        grpEmit g.val (nearestResult (s.grpWin g.val) ch.val a p.stops)
          (s.setGroup g.val { v with pair := GPairs.set v.pair ch.val { p with starts := rest } })
      else s
    | [] => s)

/-- CH_CFG_WRITE (R86). -/
def execChCfgWrite (n : Fin 24) (v : Word) (s : State) : Host.Outcome State Fault Refusal :=
  fin (whenOn 2 (landChan (Reg.CH_CFG n.val) n.val (v &&& 0xff1f7f)) s)

/-- CH_DIV_WRITE (R86). -/
def execChDivWrite (n : Fin 24) (v : Word) (s : State) : Host.Outcome State Fault Refusal :=
  fin (whenOn 2 (landChan (Reg.CH_DIV n.val) n.val (v &&& 0xffffff)) s)

/-- CH_DELAY_WRITE (R89). -/
def execChDelayWrite (n : Fin 24) (v : Word) (s : State) : Host.Outcome State Fault Refusal :=
  fin (whenOn 2 (landChan (Reg.CH_DELAY n.val) n.val (v &&& 0xffff)) s)

/-- The TCLK edge `n` of sub-step `k` in the fixed schedule: steps start at multiples of 5,000,000, sub-steps follow every 10,000 (R92). -/
def State.calMoment (s : State) (k n : Nat) : Bool := s.tiu.count % 5000000 == 10000 * k + n

/-- CAL_STEP_START (R92): a calibration step starts; every 128th rebuilds the linearity tables, of 64 segments for each interpolator. -/
def execCalStepStart (s : State) : Host.Outcome State Fault Refusal :=
  fin (if s.calRuns && s.calMoment 0 0 then
    let full := s.tiu.calSteps = 127
    { s with tiu := { s.tiu with
      calOn := true, calSub := 0, calPhase := 0, calDue := 0, calSteps := if full then 0 else s.tiu.calSteps + 1
      calSegs := if full then 25 * 64 else s.tiu.calSegs } }
  else s)

/-- Sub-step `k` is the next one of the step in progress: the sub-steps follow one another in order (R92). -/
def State.calNext (s : State) (k : Nat) : Bool :=
  s.calRuns && s.calMoment k 0 && s.tiu.calOn && decide (s.tiu.calSub ≤ k)

/-- CAL_SUBSTEP_START (R92): the spare is connected in parallel with the interpolator that serves channel `k`; 24 is the spare's own. -/
def execCalSubstepStart (k : Fin 25) (s : State) : Host.Outcome State Fault Refusal :=
  fin (if s.calNext k.val then { s with tiu := { s.tiu with calSub := k.val, calPhase := 1, calDue := 0 } } else s)

/-- CAL_TAKEOVER (R93): the spare serves channel `k`, whose first edge from it carries SWAP. -/
def execCalTakeover (k : Fin 25) (s : State) : Host.Outcome State Fault Refusal :=
  fin (if s.calChan k.val && s.calMoment k.val 500 && s.tiu.calPhase == 1 then
    let s1 := { s with tiu := { s.tiu with calPhase := 2, calDue := calEdges } }
    if k.val < 24 then s1.setChan k.val { s1.chan k.val with onSpare := true, swap := true } else s1
  else s)

/-- CAL_RECONNECT (R92): the interpolator's new calibration is in, and it is connected in parallel with the spare. -/
def execCalReconnect (k : Fin 25) (moved : Bool) (s : State) : Host.Outcome State Fault Refusal :=
  fin (if s.calChan k.val && s.calMoment k.val 9000 && s.tiu.calPhase == 2 then
    calResult k.val moved { s with tiu := { s.tiu with calPhase := 3 } }
  else s)

/-- CAL_TAKEOVER_BACK (R93): the channel's interpolator serves it again, and its first edge carries SWAP. -/
def execCalTakeoverBack (k : Fin 25) (s : State) : Host.Outcome State Fault Refusal :=
  fin (if s.calChan k.val && s.calMoment k.val 9500 && s.tiu.calPhase == 3 then
    let s1 := { s with tiu := { s.tiu with calPhase := 0, calOn := s.tiu.calOn && k.val != 24 } }
    if k.val < 24 then s1.setChan k.val { s1.chan k.val with onSpare := false, swap := true } else s1
  else s)

/-- CAL_STALE (R94): channel `n`'s calibration becomes older than 1 s. -/
def execCalStale (n : Fin 24) (s : State) : Host.Outcome State Fault Refusal :=
  fin (if s.tclkOn then
    calStaleBit (s.setInterp (s.serving n.val) { s.interp (s.serving n.val) with stale := true }) else s)

/-- The TIU counts since the count `a` (R91, R577). -/
def State.since (s : State) (a : Nat) : Nat := (s.tiu.count + 2 ^ 56 - a % 2 ^ 56) % 2 ^ 56

/-- A gate of channel `n` ends at the count `e`: the last multiple of its gate length that the count has reached, or the wrap, where no gate
has ended yet (R100, R577). -/
def State.gateDue (s : State) (n e : Nat) : Bool :=
  e % s.gateLen n == 0 && decide (s.since e < s.gateLen n) && (s.regr n).stop != some (gateNext (s.gateLen n) e)

/-- REG_GATE_END (R100): channel `n`'s gate ends at the count `e`. -/
def execRegGateEnd (n : Fin 24) (e : Nat) (s : State) : Host.Outcome State Fault Refusal :=
  fin (if s.chRuns n.val && s.flag (F.REG_CFG_EN n.val) && s.gateDue n.val (e % 2 ^ 56) then regGateEnd n.val (e % 2 ^ 56) s else s)

/-- REG_PUBLISH (R101). -/
def execRegPublish (n : Fin 24) (s : State) : Host.Outcome State Fault Refusal :=
  fin (if s.chRuns n.val then regPublish n.val s else s)

/-- REG_CFG_WRITE (R102). -/
def execRegCfgWrite (n : Fin 24) (v : Word) (s : State) : Host.Outcome State Fault Refusal := fin (whenOn 2 (landRegCfg n.val v) s)

/-- NOM_PERIOD_WRITE (R102). -/
def execNomPeriodWrite (n : Fin 24) (v : DWord) (s : State) : Host.Outcome State Fault Refusal :=
  fin (whenOn 2 (landNomPeriod n.val v.toNat) s)

/-- STAT_CFG_WRITE (R104). -/
def execStatCfgWrite (k : Fin 8) (v : Word) (s : State) : Host.Outcome State Fault Refusal := fin (whenOn 2 (landStatCfg k.val v) s)

/-- STAT_N_WRITE (R104). -/
def execStatNWrite (k : Fin 8) (v : Word) (s : State) : Host.Outcome State Fault Refusal := fin (whenOn 2 (landStatN k.val v) s)

/-- STAT_ANCHOR_WRITE (R104). -/
def execStatAnchorWrite (k : Fin 8) (v : DWord) (s : State) : Host.Outcome State Fault Refusal :=
  fin (whenOn 2 (landStatAnchor k.val v.toNat) s)

end Sys2Proof.Machine
end

