-- ==== Sys2Proof/Machine/Refsel.lean ====
section
/-! DEFINITION. References (R108–R123): the tests, the reference state machine and the candidate of a selector. Timers run in pin time, as
TIU counts of 2 ns. -/

namespace Sys2Proof.Machine

def State.dpll_ (s : State) (d : Nat) : DpllPart := Tbl.get (fun _ => DpllPart.reset) s.dpll d
def State.setDpll (s : State) (d : Nat) (v : DpllPart) : State := { s with dpll := Tbl.set (fun _ => DpllPart.reset) s.dpll d v }

/-- Timekeeping engine `t` issues its laps: TCLK runs, a bank has been swapped in (R487), it is not whistled, and TE1 is off from L2
(R337, R485). -/
def State.teRuns (s : State) (t : Nat) : Bool :=
  s.tclkOn && (Tbl.get (fun _ => none) s.itin.teBank t).isSome && !s.wHeld 7 t && !s.flt.resume.testBit t && (t == 0 || s.rung ≤ 1)

/-- KIND of reference `i`: 0 FREQ, 1 PHASE, 2 TIME (R108, R128). -/
def State.refKind (s : State) (i : Nat) : Nat :=
  if i < 12 then (let k := s.fld (F.REF_CFG_KIND i); if k = 3 then 0 else k) else if i < 16 then 0 else 2

/-- STATE of reference `i` (R128): 0 OFF, 1 FAILED, 2 WTR, 3 QUALIFIED, 4 HOLDOFF, 5 TIMEBASE. -/
def State.refState (s : State) (i : Nat) : Nat := s.fld (F.REF_STATUS_STATE i)

/-- The reference is usable: QUALIFIED or in HOLDOFF (R122). -/
def State.refFit (s : State) (i : Nat) : Bool := s.refState i == 3 || s.refState i == 4

/-- The reference has gone: FAILED or OFF (R123, R124). -/
def State.refGone (s : State) (i : Nat) : Bool := s.refState i ≤ 1

/-- Reference `i` is the external timebase (R110). -/
def State.refIsTimebase (s : State) (i : Nat) : Bool := s.tbLocked && i < 2 && s.fld F.TB_CTRL_SRC == i + 1

/-! ### Quality levels (R117) -/

/-- QL_RANK of an SSM quality level (ESMC, option I). -/
def ssmRank (ql : Nat) : Nat :=
  match ql with
  | 0x2 => 1
  | 0x4 => 2
  | 0x8 => 3
  | 0xb => 4
  | _ => 15

/-- QL_RANK of a PTP clockClass. -/
def classRank (c : Nat) : Nat :=
  match c with
  | 6 => 1
  | 7 => 2
  | 13 => 3
  | 14 => 3
  | 52 => 4
  | 58 => 4
  | 187 => 4
  | 193 => 4
  | 248 => 8
  | _ => 15

/-! ### Measurements (R112–R115) -/

/-- What a source has published: its publication count, its frequency in 2⁻⁴⁸, whether the estimate carries none of TOO_FEW,
PARTIAL and COLD, and the TIU count at which it was published (R112, R113). -/
def State.refSource (s : State) (i : Nat) (pkt : List PktOut) : Nat × Int × Bool × Nat :=
  let r := s.refp i
  if i < 16 then
    let f := s.rv (Reg.REG_FLAGS i)
    (s.rv (Reg.REG_SEQ i), signed 64 (s.quant (Reg.REG_Y i) 2), !f.testBit 1 && !f.testBit 2 && !f.testBit 4, r.pub)
  else if i = 16 then (s.rv Reg.SOL_SEQ, signed 64 (s.quant Reg.SOL_DRIFT 2), true, r.pub)
  else if i < 21 then
    match pkt.find? (fun q => q.p.val + 17 == i) with
    | some q => (r.seq + 1, q.y, q.fresh, s.tiu.count)
    | none => (r.seq, 0, false, r.pub)
  else (s.fld F.DZ_SEQ_SEQ, signed 64 (s.quant Reg.DZ_FREQ 2), true, r.pub)

/-- The gate length of a source in TCLK cycles: 1 s for GNS, PKT0–PKT3 and DSY (R113). -/
def State.refGate (s : State) (i : Nat) : Nat := if i < 16 then s.gateLen i else 500000000

/-- The predicted reading of a perfect reference (R114). -/
def State.yPred (s : State) : Int := if s.tbExt then 0 else s.srv Reg.TB_LEARNED + s.srv Reg.TB_PRED_DEV

/-- A publication is taken into account at the first tick after it: REF_Y takes its offset (R112, R114). -/
def refMeasure (pkt : List PktOut) (s : State) (i : Nat) : State :=
  let r := s.refp i
  let m := s.refSource i pkt
  if m.1 = r.seq || s.refIsTimebase i then s
  else (s.setRefp i { r with seq := m.1, pub := m.2.2.2, ok := m.2.2.1 }).setQuant (Reg.REF_Y i) 2 (unsigned 64 (m.2.1 - s.yPred))

/-- The estimate of reference `i` is fresh: published within the last two gate lengths, and whole (R113). -/
def State.refFresh (s : State) (i : Nat) : Bool :=
  let r := s.refp i
  r.ok && s.since r.pub ≤ 2 * s.refGate i

/-- REF_Y as a number. -/
def State.refY (s : State) (i : Nat) : Int := signed 64 (s.quant (Reg.REF_Y i) 2)

/-- The measured noise in whole ps, saturated to 16 bits (R112, R115): the residual for FREQ, else the STAT engine. -/
def State.refNoise (s : State) (i : Nat) : Nat :=
  let ps := if s.refKind i = 0 then roundDiv (s.rv (Reg.REG_RESID i) * 125 : Nat) 4096
    else roundDiv (s.quant (Reg.STAT_SDEV (s.fld (F.REF_CFG_STAT i))) 2 * 125 : Nat) (4096 * 256)
  min 65535 ps.toNat

/-- A packet servo's output at a tick: a valid one marks it active, and its phase output `delta` is kept for the loops (R112, R133). -/
def pktActivity (pkt : List PktOut) (delta : List (Fin 4 × Int)) (s : State) : State :=
  pkt.foldl (fun s q =>
    if q.valid then
      let s1 := refEdge (17 + q.p.val) q.pin s
      match delta.find? (fun x => x.1 == q.p) with
      | some x => s1.setRefp (17 + q.p.val) { s1.refp (17 + q.p.val) with phase := some (q.pin, x.2) }
      | none => s1
    else s) s

/-- An activity window of reference `i` that ends at or before pin time `b` closes: activity is lost at the tick that closes it, and
a later edge has started the next window (R116). -/
def activityClose (i b : Nat) (s : State) : State :=
  let r := s.refp i
  let due := fun (e : Int) => decide (0 ≤ tdiff b e)
  let cur := match r.lastAct with
    | some t => r.act && due ((t + s.actWin i : Nat) : Int)
    | none => false
  if cur || r.lapses.any (fun e => due e) then
    let s1 := s.setRefp i { r with act := r.act && !cur, lapses := r.lapses.filter (fun e => !due e), lost := true }
    if s.flag (F.REF_CFG_EN i) then s1.setFlag (F.REF_STATUS_ACT_FAIL i) true else s1
  else s

/-- The windows that tick k closes are those that end at or before the pin time of tick k − 2 (R116). -/
def windowsClose (s : State) : State :=
  match s.tiu.selAt with
  | [_, c] => (List.range 22).foldl (fun s i => activityClose i (c * 65536) s) s
  | _ => s

/-- Reference `i` is active: an edge in its window, and where activity needs it, the port's block lock or the daisy lane READY (R112). -/
def State.refActive (s : State) (i : Nat) : Bool :=
  let r := s.refp i
  r.act && !r.lost && (i < 12 || (15 < i && i < 21) ||
    (if i = 21 then s.fld F.DZ_STATUS_STATE == 6 && !s.flag F.DZ_STATUS_MASTER else s.flag (F.PORT_STATUS_BLOCK_LOCK (i - 12))))

/-- The frequency test's result: between the two limits, and on a stale estimate, the last result stands; before the first fresh
estimate it fails (R113, R115). -/
def State.freqTest (s : State) (i : Nat) (fresh : Bool) : Bool :=
  let r := s.refp i
  let rej := max (s.fld (F.REF_FREQ_FREQ_REJ i)) (s.fld (F.REF_FREQ_FREQ_ACC i))
  if s.fld (F.REF_FREQ_FREQ_REJ i) = 0xffff then true
  else if !fresh then r.had && r.freqOk
  else if withinPpb (s.refY i) (s.fld (F.REF_FREQ_FREQ_ACC i)) then true
  else if !withinPpb (s.refY i) rej then false
  else r.had && r.freqOk

/-- The results of the activity, frequency, noise and quality tests of an enabled reference, in REF_STATUS (R115); an external timebase
takes part in none (R110). -/
def refTests (s : State) (i : Nat) : State :=
  let r := s.refp i
  if !s.flag (F.REF_CFG_EN i) || s.refIsTimebase i then s.setRefp i { r with lost := false } else
  let fresh := s.refFresh i
  let f := s.freqTest i fresh
  let pn := s.refNoise i
  let max_ := s.fld (F.REF_PN_PN_MAX i)
  let ql := s.fld (F.REF_QL_QL_RANK i)
  let s1 := s.setRefp i { r with freqOk := f, had := r.had || fresh, lost := false }
  let s2 := (s1.setRv (Reg.REF_PN_MEAS i) pn).setFlag (F.REF_STATUS_STALE i) (!fresh)
  let s3 := (s2.setFlag (F.REF_STATUS_ACT_FAIL i) (!s.refActive i)).setFlag (F.REF_STATUS_FREQ_FAIL i) (!f)
  (s3.setFlag (F.REF_STATUS_PN_FAIL i) (max_ != 0xffff && max_ < pn)).setFlag (F.REF_STATUS_QL_FAIL i)
    (s.fld (F.REF_QL_QL_MAX i) < ql || ql == 15)

/-! ### Agreement (R118) -/

/-- |REF_Y(a) − REF_Y(b)| is above AGREE_THR × 0.01 ppb. -/
def State.disagree (s : State) (a b : Nat) : Bool :=
  decide (s.fld F.AGREE_AGREE_THR * 2 ^ 48 < (s.refY a - s.refY b).natAbs * 10 ^ 11)

/-- A rise of DISPUTED counts DISPUTE_EVT (R118). -/
def State.dispute (s : State) (i : Nat) (b : Bool) : State :=
  let was := s.flag (F.REF_STATUS_DISPUTED i)
  let s1 := s.setFlag (F.REF_STATUS_DISPUTED i) b
  if b && !was then s1.bump Reg.DISPUTE_EVT else s1

/-- The agreement test over the references in QUALIFIED or HOLDOFF with fresh estimates (R118). -/
def agreement (s : State) : State :=
  let all := List.range 22
  if s.fld F.AGREE_AGREE_THR = 0xffff then
    all.foldl (fun s i => (s.dispute i false).setFlag (F.REF_STATUS_AGREE_FAIL i) false) s
  else
    let mem := all.filter (fun i => s.flag (F.REF_CFG_EN i) && s.refFit i && s.refFresh i)
    let n := mem.length
    let dis := fun i => (mem.filter (fun j => j != i && s.disagree i j)).length
    let bad := if n ≤ 2 then [] else mem.filter (fun i => n - 1 < 2 * dis i)
    let none_ := bad.length == n
    all.foldl (fun s1 i =>
      if mem.contains i then
        let k := dis i
        let fails := !none_ && bad.contains i
        let s2 := s1.setFlag (F.REF_STATUS_AGREE_FAIL i) fails
        if fails then s2
        else if 0 < k && (none_ || n == 2 || 2 * k == n - 1) then s2.dispute i true
        else if k == 0 && 2 ≤ n then s2.dispute i false
        else s2
      else s1.setFlag (F.REF_STATUS_AGREE_FAIL i) false) s

/-! ### The reference state machine (R120) -/

/-- Any of the tests but activity fails. -/
def State.otherFail (s : State) (i : Nat) : Bool :=
  s.flag (F.REF_STATUS_FREQ_FAIL i) || s.flag (F.REF_STATUS_PN_FAIL i) || s.flag (F.REF_STATUS_QL_FAIL i) || s.flag (F.REF_STATUS_AGREE_FAIL i)

/-- The reference enters a state; a timer of it starts now (R120). -/
def State.refTo (s : State) (i st : Nat) : State :=
  ((s.setFld (F.REF_STATUS_STATE i) st).setRefp i { s.refp i with start := s.tiu.count }).setRv (Reg.REF_TIMER i) 0

/-- The wait-to-restore time in TCLK cycles (R120, R128, R146). -/
def State.wtrTime (s : State) (i : Nat) : Nat :=
  let w := s.fld (F.REF_WTR_WTR_S i)
  500000000 * (if s.flag (F.REF_STATUS_JUMPED i) then max w (s.fld (F.REF_WTR_WTR_JUMP_S i)) else w)

/-- The hold-off time in TCLK cycles. -/
def State.holdTime (s : State) (i : Nat) : Nat := 500000 * s.fld (F.REF_HOLDOFF_HOLDOFF_MS i)

/-- The running timer of reference `i`, of `t` TCLK cycles, has expired (R120). -/
def State.refExpired (s : State) (i t : Nat) : Bool := t ≤ s.since (s.refp i).start

/-- The time left on a timer of `t` TCLK cycles, in units of 10 ms rounded up (R128). -/
def State.refTimer (s : State) (i t : Nat) : State :=
  s.setRv (Reg.REF_TIMER i) (min (2 ^ 20 - 1) ((t - s.since (s.refp i).start + 4999999) / 5000000))

/-- Wait-to-restore ends: QUALIFIED, JUMPED cleared, REF_EVT counted (R120). -/
def refQualify (i : Nat) (s : State) : State := ((s.refTo i 3).setFlag (F.REF_STATUS_JUMPED i) false).bump (Reg.REF_EVT i)

/-- The reference goes to FAILED and REF_EVT counts (R120). -/
def refFail (i : Nat) (s : State) : State := (s.refTo i 1).bump (Reg.REF_EVT i)

/-- Wait-to-restore is checked: QUALIFIED once its time has run. -/
def wtrCheck (i : Nat) (s : State) : State :=
  if s.refExpired i (s.wtrTime i) then refQualify i s else s.refTimer i (s.wtrTime i)

/-- HOLDOFF (R120, R121): activity restored wins, then the other tests and the timer, which has expired where `x`. -/
def holdCheck (i : Nat) (x : Bool) (s : State) : State :=
  if !s.flag (F.REF_STATUS_ACT_FAIL i) then s.refTo i 3
  else if s.otherFail i || x then refFail i s
  else s.refTimer i (s.holdTime i)

/-- One tick of the reference rows of R120, in order. -/
def refRow (s : State) (i : Nat) : State :=
  let act := !s.flag (F.REF_STATUS_ACT_FAIL i)
  let other := s.otherFail i
  if !s.flag (F.REF_CFG_EN i) then
    let s1 := ((s.setFld (F.REF_STATUS_STATE i) 0).setFld ⟨Reg.REF_STATUS i, 8, 5⟩ 0).setRv (Reg.REF_TIMER i) 0
    s1.setRefp i { s.refp i with had := false, freqOk := false }
  else if s.refIsTimebase i then (if s.refState i = 5 then s else s.refTo i 5)
  else match s.refState i with
    | 0 => s.refTo i 1
    | 1 => if act && !other then wtrCheck i (s.refTo i 2) else s
    | 2 => if !act || other then s.refTo i 1 else wtrCheck i s
    | 3 =>
      if other then refFail i s
      else if !act then
        if s.fld (F.REF_HOLDOFF_HOLDOFF_MS i) = 0 then refFail i s
        else (fun s => s.refTimer i (s.holdTime i)) (s.refTo i 4)
      else s
    | 4 => holdCheck i (s.refExpired i (s.holdTime i)) s
    | _ => s.refTo i 1

/-! ### The candidate (R119, R122, R123) -/

/-- The rank that selector `d` gives reference `i` (R122). -/
def State.selRank (s : State) (d i : Nat) : Nat :=
  s.rv (if i < 8 then Reg.SEL_RANK_A d else if i < 16 then Reg.SEL_RANK_B d else Reg.SEL_RANK_C d) / 16 ^ (i % 8) % 16

/-- The reference that selector `d` follows or moves to. -/
def State.selCur (s : State) (d : Nat) : Nat :=
  if s.fld (F.SEL_STATUS_STATE d) = 2 then s.fld (F.SEL_STATUS_TARGET d) else s.fld (F.SEL_STATUS_SELECTED d)

/-- The references that selector `d` may use: fit, with a non-zero rank (R122). -/
def State.selEligible (s : State) (d : Nat) : List Nat := (List.range 22).filter (fun i => s.refFit i && s.selRank d i != 0)

/-- The smaller |REF_Y|, and the lower ID on a tie; the list rises in ID (R119). -/
def State.closest (s : State) (l : List Nat) : Option Nat :=
  l.foldl (fun b i => match b with
    | none => some i
    | some j => if (s.refY i).natAbs < (s.refY j).natAbs then some i else some j) none

/-- The forced reference is the candidate (R122). -/
def State.selForced (s : State) (d : Nat) : Bool :=
  s.flag (F.SEL_FORCE_FORCE_EN d) && s.fld (F.SEL_FORCE_FORCE_ID d) < 22 && s.refFit (s.fld (F.SEL_FORCE_FORCE_ID d))

/-- The candidate of selector `d` (R122, R119). -/
def State.candidate (s : State) (d : Nat) : Option Nat :=
  let e := s.selEligible d
  let cur := s.selCur d
  if s.selForced d then some (s.fld (F.SEL_FORCE_FORCE_ID d))
  else if !s.flag (F.SEL_CFG_REVERT d) && e.contains cur then some cur
  else
    let best := e.foldl (fun b i => min b (s.selRank d i)) 16
    let tied := e.filter (fun i => s.selRank d i == best)
    if tied.contains cur then some cur
    else if 1 < tied.length && tied.all (fun i => s.flag (F.REF_STATUS_DISPUTED i)) then s.closest tied
    else tied.head?

/-- The force is dropped: FORCE_EN = 0 and FORCE_DROPPED (R123). -/
def forceDrop (d : Nat) (s : State) : State :=
  (s.setFlag (F.SEL_FORCE_FORCE_EN d) false).setFlag (F.SEL_STATUS_FORCE_DROPPED d) true

/-- The routine drops a forced reference that is FAILED or OFF, or whose ID is reserved (R123). -/
def forceCheck (d : Nat) (s : State) : State :=
  let id := s.fld (F.SEL_FORCE_FORCE_ID d)
  if s.flag (F.SEL_FORCE_FORCE_EN d) && (22 ≤ id || s.refGone id) then forceDrop d s else s

/-- SEL_SLEW shows the remaining phase of a switch in ps, saturated (R128); `p` in 1/8 ps. -/
def State.showSlew (s : State) (d : Nat) (p : Int) : State :=
  s.setRv (Reg.SEL_SLEW d) (unsigned 32 (clampS 32 (roundDiv p 8)))

/-! ### Registers -/

/-- A write to SEL_FORCE lands; with the routine's own update in the same cycle the hardware value wins (R69, R123). -/
def landSelForce (d : Nat) (v : Word) (tie : Bool) (s : State) : State :=
  if tie then (forceDrop d s).bump16 (lostWrites 3)
  else
    let s1 := s.setReg (Reg.SEL_FORCE d) (v &&& 0x1f01)
    if v.getLsbD 0 then s1.setFlag (F.SEL_STATUS_FORCE_DROPPED d) false else s1

/-- A write to REF_QL: QL_RANK of IDs 12–21 is written by the SE only (R128). -/
def landRefQl (i : Nat) (se : Bool) (v : Word) (s : State) : State :=
  if i < 12 || se then s.setReg (Reg.REF_QL i) (v &&& 0xf0f)
  else s.setFld (F.REF_QL_QL_MAX i) (v.toNat / 256 % 16)

/-- A write to REF_CFG: KIND is writable for pins only (R128). -/
def landRefCfg (i : Nat) (v : Word) (s : State) : State :=
  s.setReg (Reg.REF_CFG i) (v &&& (if i < 12 then 0x77 else 0x71))

/-! ### Values in force (R25, R128, R150) -/

/-- The value that a TE-served register at `a` had before the writes of this lap is kept, for the TE to go on using. -/
def holdOld (a : Nat) (s : State) : State :=
  if s.bus.held.any (fun e => e.1 == a) then s
  else { s with bus := { s.bus with held := s.bus.held ++ [(a, s.reg a)] } }

/-- TE code runs on the values of the registers written in this lap as they were before: a new value is used from the next lap boundary.
What the code itself writes to such a register goes into the new value. -/
def onHeld (f : State → State) (s : State) : State :=
  let h := s.bus.held
  let t := f (h.foldl (fun s e => s.setReg e.1 e.2) s)
  h.foldl (fun t e =>
    let chg := e.2 ^^^ t.reg e.1
    t.setReg e.1 ((s.reg e.1 &&& ~~~chg) ||| (t.reg e.1 &&& chg))) t

/-- The TE that serves the register at `a` of blocks 3 and 4: TE1 serves DPLL4–DPLL7. -/
def servedBy (a : Nat) : Nat := if 0x40400 ≤ a ∧ a < 0x40800 then 1 else 0

/-- At the boundary of engine `t`'s lap the values written become the ones it uses. -/
def heldRelease (t : Nat) (s : State) : State :=
  { s with bus := { s.bus with held := s.bus.held.filter (fun e => servedBy e.1 != t) } }

end Sys2Proof.Machine
end

