-- ==== Sys2Proof/Machine/Output.lean ====
section
/-! DEFINITION. The outputs as triggers and boards see them (R170, R187, R189, R194, R195, R200): the VCO behind an output, its pulses and
the levels of its pins. Frequencies are in units of 25 MHz × 2⁻⁴⁸, so that f_PFD × N is exact. -/

namespace Sys2Proof.Machine

def State.apll (s : State) (a : Nat) : ApllPart := Tbl.get ApllPart.dflt s.syn.apll a
def State.setApll (s : State) (a : Nat) (v : ApllPart) : State :=
  { s with syn := { s.syn with apll := Tbl.set ApllPart.dflt s.syn.apll a v } }
def State.outp (s : State) (o : Nat) : OutPart := Tbl.get (fun _ => OutPart.reset) s.syn.out o
def State.setOut (s : State) (o : Nat) (v : OutPart) : State :=
  { s with syn := { s.syn with out := Tbl.set (fun _ => OutPart.reset) s.syn.out o v } }

/-- f_PFD in units of 25 MHz (R170). -/
def pfdUnits (sel : Nat) : Nat := if sel = 1 then 4 else if sel = 2 then 1 else 2

/-- N × 2⁴⁸ of the three words of APLL_FREQ (R203). -/
def nOfFreq (v : Nat) : Nat := v % 2 ^ 48 + v / 2 ^ 80 % 2 ^ 10 * 2 ^ 48

/-- f_PFD × N of APLL `a` with the nominal value in force (R170). -/
def State.vcoNom (s : State) (a : Nat) : Nat := pfdUnits (s.apll a).pfd * (s.apll a).nom

/-- STATE of APLL `a` (R203): 0 OFF, 1 WAIT_LOW, 2 SEARCH, 3 LOCKED, 4 SLEWING. -/
def State.apllState (s : State) (a : Nat) : Nat := s.fld (F.APLL_STATUS_STATE a)

def State.running (s : State) (o : Nat) : Bool := s.flag (F.OUT_STATUS_RUNNING o)

/-- The APLL whose VCO serves output `o`: that of its group, or HO_APLL while it is handed over (R190, R195). -/
def State.outVco (s : State) (o : Nat) : Nat :=
  if s.flag (F.OUT_STATUS_HANDED_OVER o) then s.fld (F.OUT_HO_HO_APLL o) else (s.outp o).grp

/-- STEPPING: the applied phase of an output differs from the desired one (R188, R203). -/
def showStepping (o : Nat) (s : State) : State :=
  s.setFlag (F.OUT_STATUS_STEPPING o) (s.reg (Reg.OUT_PHASE o) != s.reg (Reg.OUT_PHASE_ACT o))

/-- A length of `x` / `y` TCLK cycles in units of 1/64 VCO cycle of a VCO at `q`, to the nearest step (R187, R194). -/
def vcoSteps (q : Nat) (x : Int) (y : Nat) : Int := roundDiv (x * q * 16) (5 * 2 ^ 48 * y)

/-- WIDTH of output `o` in cycles of a VCO at `q`, to the nearest; 0 acts as 1 ns (R194). -/
def State.pulseWidth (s : State) (o q : Nat) : Nat :=
  (roundDiv (max 1 (s.fld ⟨Reg.OUT_PULSE o, 0, 30⟩) * q : Nat) (40 * 2 ^ 48)).toNat

/-- A fire of trigger `i`, `x` / `y` TCLK cycles after the present edge, reaches the pulse outputs that name it (R189, R194, R195). A pulse
starts at F plus OUT_PHASE, its width counted from there, or is lost in a relock. -/
def outFire (i : Nat) (x : Int) (y : Nat) (s : State) : State :=
  forEach (List.range 16) (fun s o =>
    if s.flag (F.OUT_CFG_EN o) && s.flag (F.OUT_CFG_MODE o) && s.fld (F.OUT_CFG_TRG o) == i then
      let st := s.apllState (s.outp o).grp
      if (st == 1 || st == 2) && !s.flag (F.OUT_STATUS_HANDED_OVER o) then s.bumpFld (F.OUT_STATUS_PULSES_LOST o)
      else if s.running o then
        let q := s.vcoNom (s.outVco o)
        let v := { s.outp o with high := true, edgeAt := s.tiu.count, edge := vcoSteps q x y + s.srv (Reg.OUT_PHASE o), width := s.pulseWidth o q }
        showStepping o ((s.setOut o v).setReg (Reg.OUT_PHASE_ACT o) (s.reg (Reg.OUT_PHASE o)))
      else s
    else s) s

/-! ### Pins (R200) -/

/-- What a pin of an output does. -/
inductive Pin where
  | low
  | high
  | clock (inverted : Bool)  -- toggles at the output's frequency
  | highZ
  deriving DecidableEq, Repr

def Pin.inv : Pin → Pin
  | .low => .high
  | .high => .low
  | .clock b => .clock (!b)
  | .highZ => .highZ

/-- What output `o` carries: its clock or its pulse while it runs, else the low level at which it stopped, inverted by INV. -/
def State.outSignal (s : State) (o : Nat) : Pin :=
  let x := if !s.running o then Pin.low
    else if s.flag (F.OUT_CFG_MODE o) then (if (s.outp o).high then .high else .low)
    else .clock false
  if s.flag (F.OUT_CFG_INV o) then x.inv else x

/-- The _P and _N pins of output `o` (R200, R203): a disabled output that has stopped drives the levels of its format. -/
def State.outPins (s : State) (o : Nat) : Pin × Pin :=
  let x := s.outSignal o
  let off := !s.flag (F.OUT_CFG_EN o) && !s.running o
  match s.fld (F.OUT_CFG_FMT o) with
  | 0 => if off then (.low, .high) else (x, x.inv)
  | 1 => if off then (.low, .low) else (x, x.inv)
  | 2 => if off then (.low, .high) else (x, x.inv)
  | 3 => if off then (.low, .low) else (x, x)
  | 4 => if off then (.low, .low) else (x, x.inv)
  | 5 => if off then (.low, .low) else (x, .low)
  | _ => (.highZ, .highZ)

end Sys2Proof.Machine
end

