-- ==== Sys2Proof/Machine/Time.lean ====
section
/-! DEFINITION. Master time counter, port stamping clocks, timescales and triggers (R151–R167). Timescale values are in units of
2⁻⁸⁸ ns, MTC values in 2⁻⁴⁰ ns. -/

namespace Sys2Proof.Machine

/-! ### Steering ports (R131) -/

def State.port (s : State) (k : Nat) : Steer := Tbl.get Steer.dflt s.steer k
def State.setPort (s : State) (k : Nat) (v : Steer) : State := { s with steer := Tbl.set Steer.dflt s.steer k v }

/-- Update `j` of the word in force: old + floor(Δ × (j + 1) / 1,000) (R131). -/
def spread (old new : Int) (j : Nat) : Int := old + (new - old) * (j + 1) / 1000

/-- Engine `te` writes a word for the next lap boundary; TE0's value stands against TE1's (R294). -/
def steerWrite (k te : Nat) (w : Int) (s : State) : State :=
  let p := s.port k
  match p.pend with
  | some (0, _) => if te = 0 then s.setPort k { p with pend := some (0, w) } else s
  | _ => s.setPort k { p with pend := some (te, w) }

/-- At the boundary the word written takes effect and its change starts to spread (R131). -/
def steerApply (k te : Nat) (s : State) : State :=
  let p := s.port k
  match p.pend with
  | some (w, v) => if w = te then s.setPort k ⟨p.new, p.new, v, 0, none⟩ else s
  | none => s

/-- The next of the 1,000 updates of a port (R131). -/
def steerUpdate (k : Nat) (s : State) : State :=
  let p := s.port k
  if p.j < 1000 then s.setPort k { p with cur := spread p.old p.new p.j, j := p.j + 1 } else s

/-- The number of TCLK edges of the lap in [a, b) at which update `j` is the latest (R131). -/
def updEdges (a b j : Nat) : Nat := min b ((125 * (j + 1) + 1) / 2) - max a ((125 * j + 1) / 2)

/-- The sum of `f j` over the TCLK edges [a, b) of a lap, `j` being the latest update at each. -/
def lapSum (f : Nat → Int) (a b : Nat) : Int := (List.range 1000).foldl (fun acc j => acc + (updEdges a b j : Int) * f j) 0

/-! ### The master time counter (R151–R153) -/

/-- The increment in force. -/
def State.mtcInc (s : State) : Int := (s.port 4).cur

def State.tsp (s : State) (t : Nat) : TsPart := Tbl.get (fun _ => TsPart.reset) s.tm.ts t
def State.setTs (s : State) (t : Nat) (v : TsPart) : State :=
  { s with tm := { s.tm with ts := Tbl.set (fun _ => TsPart.reset) s.tm.ts t v } }
def State.trg (s : State) (i : Nat) : TrgPart := Tbl.get (fun _ => TrgPart.reset) s.tm.trg i
def State.setTrg (s : State) (i : Nat) (v : TrgPart) : State :=
  { s with tm := { s.tm with trg := Tbl.set (fun _ => TrgPart.reset) s.tm.trg i v } }
def State.pcp (s : State) (p : Nat) : PcPart := Tbl.get (fun _ => PcPart.reset) s.tm.pc p
def State.setPc (s : State) (p : Nat) (v : PcPart) : State :=
  { s with tm := { s.tm with pc := Tbl.set (fun _ => PcPart.reset) s.tm.pc p v } }
def State.setMtc (s : State) (v : Nat) : State := { s with tm := { s.tm with mtc := v % 2 ^ 120 } }

/-- The rate in force of timescale `t`, in 2⁻⁴⁸ (R155). -/
def State.tsRate (s : State) (t : Nat) : Int := (s.port (16 + t)).cur

/-- One second in units of 2⁻⁸⁸ ns. -/
abbrev tsSec : Nat := 10 ^ 9 * 2 ^ 88

/-- A timescale's accumulator wraps with its 64-bit seconds. -/
def tsWrap (v : Int) : Nat := (v % (2 ^ 64 * tsSec : Nat)).toNat

/-- The advance of timescale `t` on `n` TCLK edges at the increment and rate in force (R155). -/
def State.tsAdvance (s : State) (t n : Nat) : Int := n * (s.mtcInc * (2 ^ 48 + s.tsRate t))

/-- SEC, NS and FRAC of an accumulator (R155). -/
def tsSecOf (v : Nat) : Nat := v / tsSec % 2 ^ 64
def tsNsOf (v : Nat) : Nat := v / 2 ^ 88 % 10 ^ 9
def tsFracOf (v : Nat) : Nat := v / 2 ^ 56 % 2 ^ 32

/-- The four words of TS_TIME as one number (R169). -/
def tsWords (v : Nat) : Nat := tsFracOf v + 2 ^ 32 * tsNsOf v + 2 ^ 64 * tsSecOf v

/-- The accumulator of a four-word time with its seconds taken as `sec`. -/
def tsOfWords (w : Nat) (sec : Int) : Int := sec * tsSec + (w / 2 ^ 32 % 2 ^ 30 * 2 ^ 88 + w % 2 ^ 32 * 2 ^ 56 : Nat)

/-- The phase of each APLL, and of the timebase (9), advances by `k` nominal cycles and its steering (R170). -/
def phaseTick (k : Nat) (s : State) : State :=
  [0, 1, 2, 3, 9].foldl (fun s p =>
    let x := Tbl.get (fun _ => 0) s.tm.aph p + k * (2 ^ 48 + (s.port p).cur)
    { s with tm := { s.tm with aph := Tbl.set (fun _ => 0) s.tm.aph p x } }) s

/-- Every running counter of the timekeeping island takes `k` increments: 1 at a TCLK edge, 10 at a TBCLK edge in L3 (R151, R155, R163). -/
def timeTick (k : Nat) (s : State) : State :=
  let s1 := phaseTick k (s.setMtc (((s.tm.mtc : Int) + k * s.mtcInc) % (2 ^ 120 : Nat)).toNat)
  (List.range 16).foldl (fun s t =>
    let v := s.tsp t
    if v.run then s.setTs t { v with acc := tsWrap (v.acc + s.tsAdvance t k) } else s) s1

/-- PCn adds its increment on each of `k` FCLK edges (R154). -/
def pcTick (k : Nat) (s : State) : State :=
  (List.range 4).foldl (fun s p =>
    let v := s.pcp p
    if v.loaded then s.setPc p { v with val := (((v.val : Int) + k * (s.port (5 + p)).cur) % (2 ^ 120 : Nat)).toNat } else s) s

/-! ### Trigger fires (R164–R167) -/

/-- Timescale `t` at the next edge: 20 ns on in L3 (R163, R164). -/
def State.tsNext (s : State) (t : Nat) : Int := (s.tsp t).acc + s.tsAdvance t (if s.rung = 3 then 10 else 1)

/-- Pin `k` takes its active or its inactive level. -/
def setPin (k : Nat) (b : Bool) (s : State) : State := { s with tm := { s.tm with pin := Tbl.set (fun _ => false) s.tm.pin k b } }

/-- The level of TRIG pin `k`: POL = 1 is active low (R167). -/
def State.trigHigh (s : State) (k : Nat) : Bool := Tbl.get (fun _ => false) s.tm.pin k != s.flag (F.TRIG_PIN_POL k)

/-- A pulse starts on pin `k` at the residual `x` / `y` of a TCLK cycle after the present edge, to the nearest step of TCLK / 128 (R164). -/
def pinFire (k : Nat) (x : Int) (y : Nat) (s : State) : State :=
  let s1 := setPin k true s
  { s1 with tm := { s1.tm with pinEdge := Tbl.set (fun _ => 0) s1.tm.pinEdge k (s.tiu.count * 128 + (roundDiv (x * 128) y).toNat) } }

/-- A fire's effects: pins, pulse outputs, interrupt counter, events on their way to the PEs and the TEs; the residual F − TS(n) places the
edges (R164, R167). -/
def trgFire (i : Nat) (s : State) : State :=
  let v := s.trg i
  let x : Int := max 0 (v.f - (s.tsp v.ts).acc)
  let y := (s.tsAdvance v.ts 1).toNat
  let s1 := tmuxEvent (0x40 + i) (s.bump (Reg.TRG_EVT i))
  let s2 := outFire i x y ((List.range 4).foldl (fun s k =>
    if s.flag (F.TRIG_PIN_EN k) && s.fld (F.TRIG_PIN_TRG k) == i then pinFire k x y s else s) s1)
  let pes := if s.fclkOn then (List.range 4).filter (fun p => v.pe.testBit p) else []
  let tes := if v.te && s.tclkOn then [4, 5] else []
  { s2 with tm := { s2.tm with evGate := s2.tm.evGate ++ (pes ++ tes).map (fun e => (e, i, v.f.toNat)) } }

/-- The four words of F (R169). -/
def showNext (i : Nat) (s : State) : State := s.setQuant (Reg.TRG_NEXT i) 4 (tsWords (tsWrap (s.trg i).f))

/-- After a fire: a PERIODIC trigger moves by its period, a ONCE trigger disarms (R165). -/
def trgAfter (i : Nat) (s : State) : State :=
  let v := s.trg i
  if v.per then showNext i (s.setTrg i { v with f := v.f + v.period }) else s.setFlag (F.TRG_STATUS_ARMED i) false

/-- A shift of the armed triggers of timescale `t` by a step `d`: periodic ones move with it, a ONCE trigger passed by it fires
with LATE (R166). -/
def trgShift (t : Nat) (d : Int) (s : State) : State :=
  if d = 0 then s else
  (List.range 16).foldl (fun s i =>
    let v := s.trg i
    if s.flag (F.TRG_STATUS_ARMED i) && v.ts == t then
      if v.per then
        let ps := roundDiv (d * 1000) (2 ^ 88)
        let sk := clampS 64 (signed 64 (s.quant (Reg.TRG_SKEW i) 2) + ps)
        showNext i (((s.setTrg i { v with f := v.f + d }).setFlag (F.TRG_STATUS_MISALIGNED i) true).setQuant (Reg.TRG_SKEW i) 2 (unsigned 64 sk))
      else if decide (v.f < ((s.tsp t).acc : Int)) && decide (((s.tsp t).acc : Int) - d ≤ v.f) then
        trgAfter i ((trgFire i s).setFlag (F.TRG_STATUS_LATE i) true)
      else s
    else s) s

/-- Timescale `t` moves by `d` at a boundary (R156, R157): its triggers follow under R166. -/
def tsStep (t : Nat) (d : Int) (s : State) : State :=
  let v := s.tsp t
  trgShift t d (s.setTs t { v with acc := tsWrap (v.acc + d) })

/-- The MTC steps by `d`, in 2⁻⁴⁰ ns: linked timescales and loaded PCn move by the same amount (R152, R154, R156). -/
def mtcStep (d : Int) (s : State) : State :=
  let s1 := s.setMtc (((s.tm.mtc : Int) + d) % (2 ^ 120 : Nat)).toNat
  let s2 := (List.range 4).foldl (fun s p =>
    let v := s.pcp p
    if v.loaded then s.setPc p { v with val := (((v.val : Int) + d) % (2 ^ 120 : Nat)).toNat } else s) s1
  (List.range 16).foldl (fun s t =>
    if (s.tsp t).run && s.flag (F.TS_CFG_LINK t) then (tsStep t (d * 2 ^ 48) s).bump (Reg.TS_EVT t) else s) s2

/-- ps in units of 2⁻⁴⁰ ns, to the nearest. -/
def psToMtc (ps : Int) : Int := roundDiv (ps * 2 ^ 40) 1000

/-! ### Ownership and status (R129, R155, R162) -/

/-- The steering port that DPLL `d` names: APLL0 for DPLL0, else its APLL or timescale (R129). -/
def State.dpllPort (s : State) (d : Nat) : Option Nat :=
  if d = 0 then some 0
  else match s.fld (F.DPLL_CFG_STEER d) with
    | 1 => if s.fld (F.DPLL_CFG_APLL d) = 0 then none else some (s.fld (F.DPLL_CFG_APLL d))
    | 2 => some (16 + s.fld (F.DPLL_CFG_TS d))
    | _ => none

/-- DPLL `d`'s target is taken: by a lower-numbered DPLL, or it names APLL0, which DPLL0 alone steers (R129, R150). -/
def State.dpllConflict (s : State) (d : Nat) : Bool :=
  d != 0 && ((s.fld (F.DPLL_CFG_STEER d) == 1 && s.fld (F.DPLL_CFG_APLL d) == 0)
    || match s.dpllPort d with
      | some k => (List.range d).any (fun e => s.dpllPort e == some k)
      | none => false)

/-- The DPLL that owns the rate of timescale `t` (R155). -/
def State.tsOwner (s : State) (t : Nat) : Option Nat :=
  (List.range 8).find? (fun d => s.dpllPort d == some (16 + t))

/-- The governing DPLL of timescale `t`; 15 none (R162). -/
def State.tsGov (s : State) (t : Nat) : Nat :=
  match s.tsOwner t with
  | some d => d
  | none => if s.flag (F.TS_CFG_LINK t) then 0 else 15

/-- STATE of DPLL `d` (R150): 0 FREERUN, 1 ACQUIRING, 2 LOCKED, 3 HOLDOVER, 4 LOST. -/
def State.dpllState (s : State) (d : Nat) : Nat := s.fld (F.DPLL_STATUS_STATE d)

/-- TE_EST is kept in units of 1 / teUnit ps (R141). -/
abbrev teUnit : Nat := 2 ^ 48 * 14155776

/-- The timescale's error is known (R162, first row). -/
def State.tsKnown (s : State) (t : Nat) : Bool :=
  let v := s.tsp t
  let g := s.tsGov t
  v.run && g < 15 && s.dpllState g != 0 && v.aligned && v.gov == g

/-- TS_ERR of timescale `t`, ns rounded up, with the rung term (R162, R163). -/
def State.tsErr (s : State) (t : Nat) : Nat :=
  if !s.tsKnown t then 2 ^ 32 - 1 else
  let g := s.tsGov t
  let p := s.dpll_ g
  let te0 := s.rv (Reg.HO_TE0 g) * 10 ^ 9
  let pe := (s.srv (Reg.DPLL_PHERR g)).natAbs
  let pend := (signed 64 (s.quant (Reg.DPLL_STEP_PEND g) 2)).natAbs
  let as_ := match s.dpllState g with
    | 1 => te0 + p.slew.natAbs * 125000 + (pend + pe) * 10 ^ 6
    | 2 => te0 + pe * 10 ^ 6
    | _ => (p.te * 10 ^ 6 + teUnit - 1) / teUnit
  min ((as_ + p.rung + 10 ^ 9 - 1) / 10 ^ 9) (2 ^ 32 - 1)

/-- TRACEABLE: LOCKED to a reference of kind TIME (R162). -/
def State.tsTraceable (s : State) (t : Nat) : Bool :=
  let g := s.tsGov t
  s.tsKnown t && s.dpllState g == 2 && s.fld (F.DPLL_STATUS_REF g) < 22 && s.refKind (s.fld (F.DPLL_STATUS_REF g)) == 2

/-- The present TS_UTC word: its stored fields with the governing DPLL's (R162, R169). -/
def State.tsUtc (s : State) (t : Nat) : Nat :=
  let g := s.tsGov t
  if !(s.tsp t).run then 0xf000000
  else s.rv (Reg.TS_UTC t) % 2 ^ 19 + (if s.tsTraceable t then 2 ^ 19 else 0) + (if g < 15 then s.dpllState g else 0) * 2 ^ 20 + g * 2 ^ 24

/-- The set of six words that reading TS_TIME latches (R161). -/
def State.tsSet (s : State) (t : Nat) : List Word :=
  let w := if (s.tsp t).run then tsWords (s.tsp t).acc else 0
  [BitVec.ofNat 32 w, BitVec.ofNat 32 (w / 2 ^ 32), BitVec.ofNat 32 (w / 2 ^ 64), BitVec.ofNat 32 (w / 2 ^ 96),
   BitVec.ofNat 32 (s.tsUtc t), BitVec.ofNat 32 (s.tsErr t)]

/-- Alignment is kept track of after a tick of any DPLL: a timescale is aligned while its governing DPLL follows a PHASE or TIME
reference, and loses it with a change of that DPLL, its FREERUN, or its own stop (R162). -/
def tsTrack (s : State) : State :=
  (List.range 16).foldl (fun s t =>
    let v := s.tsp t
    if !v.run then s else
    let g := s.tsGov t
    let st := if g < 15 then s.dpllState g else 0
    let r := if g < 15 then s.fld (F.DPLL_STATUS_REF g) else 31
    let follows := (st == 1 || st == 2) && r < 22 && s.refKind r != 0
    let keep := v.gov == g && st != 0 && v.aligned
    if v.aligned = (keep || follows) ∧ v.gov = g then s else s.setTs t { v with aligned := keep || follows, gov := g }) s

/-! ### Commands of a timescale (R157) -/

/-- A command reaches the TE: refused, or pending with its copied argument; one that still waits is replaced and counted
as refused, even where the new one is refused. -/
def landTsCmd (t : Nat) (v : Word) (s : State) : State :=
  let code := v.toNat % 16
  let w := s.quant (Reg.TS_ARG t) 4
  let p := s.tsp t
  let nsOk := decide (w / 2 ^ 32 % 2 ^ 30 < 10 ^ 9)
  let arg : Option Int :=
    if !p.run then none
    else match code with
      | 1 => if nsOk then some (tsOfWords w (w / 2 ^ 64 : Nat)) else none
      | 2 =>
        let d := tsOfWords w (signed 64 (w / 2 ^ 64))
        if nsOk && decide (0 ≤ (p.acc : Int) + d) then some d else none
      | 3 => if (s.tsOwner t).isSome then none else some (signed 64 (s.quant (Reg.TS_HRATE t) 2))
      | _ => none
  let s1 := if p.cmd.isSome then (s.bump16 (Reg.TS_CMD_REF t)).setTs t { p with cmd := none } else s
  match arg with
  | none => s1.bump16 (Reg.TS_CMD_REF t)
  | some d => s1.setTs t { p with cmd := some (code, d) }

/-- The DPLL that keeps timescale `t`: the one that owns its rate, and DPLL0 for TS0 while it is linked, which is device time (R156, R157). -/
def State.tsKeeper (s : State) (t : Nat) : Option Nat :=
  match s.tsOwner t with
  | some d => some d
  | none => if t = 0 && s.flag (F.TS_CFG_LINK 0) then some 0 else none

/-- A SET that moves timescale `t` by `x` gives the DPLL that keeps it, while it follows a TIME reference, an offset of whole seconds at its
next tick (R157). -/
def setSeconds (t : Nat) (x : Int) (s : State) : State :=
  match s.tsKeeper t with
  | some d =>
    let r := s.fld (F.DPLL_STATUS_REF d)
    if (s.dpllState d == 1 || s.dpllState d == 2) && r < 22 && s.refKind r == 2 then
      s.setDpll d { s.dpll_ d with whole := (s.dpll_ d).whole + roundDiv x tsSec }
    else s
  | none => s

/-- The pending command of timescale `t` is applied at the boundary, with the bits below FRAC cleared by SET and ADJ (R155, R157). -/
def tsApply (s : State) (t : Nat) : State :=
  let v := s.tsp t
  match v.cmd with
  | none => s
  | some (code, d) =>
    let s0 := s.setTs t { v with cmd := none }
    if code = 3 then
      if (s.tsOwner t).isSome then s0.bump16 (Reg.TS_CMD_REF t)
      else let p := s.port (16 + t); s0.setPort (16 + t) ⟨p.new, p.new, d, 0, p.pend⟩
    else
      let new : Int := if code = 1 then d else v.acc + d
      if new < 0 then s0.bump16 (Reg.TS_CMD_REF t)
      else
        let s1 := (tsStep t (new / 2 ^ 56 * 2 ^ 56 - v.acc) s0).bump (Reg.TS_EVT t)
        if code = 1 then setSeconds t (new - v.acc) s1 else s1

/-! ### Leap events (R160) -/

/-- The UTC offset of TS_UTC moves by `k`. -/
def utcMove (t : Nat) (k : Int) (s : State) : State :=
  s.setFld (F.TS_UTC_UTC_OFF t) (unsigned 16 (signed 16 (s.fld (F.TS_UTC_UTC_OFF t)) + k))

/-- A pending write of TS_UTC_CFG is applied (R158). -/
def utcApply (s : State) (t : Nat) : State :=
  let v := s.tsp t
  if v.utcW then (s.setTs t { v with utcW := false }).setFld (F.TS_UTC_UTC_OFF t) (s.fld (F.TS_UTC_CFG_UTC_OFF t)) else s

/-- The leap event is done: UTC_OFF moved, LEAP_PEND and ARMED cleared, TS_EVT counted. -/
def leapDone (t : Nat) (k : Int) (s : State) : State :=
  (((utcMove t k s).setFlag (F.TS_UTC_LEAP_PEND t) false).setFlag (F.TS_LEAP_CFG_ARMED t) false).bump (Reg.TS_EVT t)

/-- The rows of R160 at a lap boundary. -/
def leapRow (s : State) (t : Nat) : State :=
  if !(s.tsp t).run || s.flag (F.TS_CFG_SCALE t) then s else
  let sec : Int := tsSecOf (s.tsp t).acc
  let l : Int := s.quant (Reg.TS_LEAP_AT t) 2
  let ann : Int := s.fld (F.TS_LEAP_CFG_ANNOUNCE_S t)
  let s0 := if s.flag (F.TS_UTC_INSERTED t) && decide (l ≤ sec) then s.setFlag (F.TS_UTC_INSERTED t) false else s
  let armed := s.flag (F.TS_LEAP_CFG_ARMED t)
  let dir := s.flag (F.TS_LEAP_CFG_DIR t)
  if armed && !dir && decide (l - 1 ≤ sec) then (leapDone t 1 s0).setFlag (F.TS_UTC_INSERTED t) (decide (sec < l))
  else if armed && dir && decide (l ≤ sec) then leapDone t (-1) s0
  else
    let pend := armed && decide (l - ann ≤ sec)
    (s0.setFlag (F.TS_UTC_LEAP_PEND t) pend).setFlag (F.TS_UTC_LEAP_DIR t) (pend && dir)

/-! ### Enabling and disabling (R155) -/

/-- At the boundary an enabled timescale starts at zero, and a disabled one loses its state and disarms its triggers. -/
def tsEnable (s : State) (t : Nat) : State :=
  let v := s.tsp t
  let en := s.flag (F.TS_CFG_EN t)
  if en = v.run then s
  else if en then (s.setTs t { TsPart.reset with run := true, gov := s.tsGov t, utcW := v.utcW, table := v.table }).setRv (Reg.TS_UTC t) 0
  else
    let s0 := ((s.setTs t { TsPart.reset with table := v.table }).setRv (Reg.TS_UTC t) 0).setPort (16 + t) (Steer.dflt (16 + t))
    let s1 := s0.setQuant (Reg.SNAP_TS t) 4 0
    (List.range 16).foldl (fun s i =>
      if s.flag (F.TRG_STATUS_ARMED i) && (s.trg i).ts == t then s.setFlag (F.TRG_STATUS_ARMED i) false else s) s1

/-- A tie record is kept at each TE lap boundary, 256 of them (R153); `before` is the increment before the boundary. -/
def tieRecord (before : Int) (s : State) : State :=
  { s with tm := { s.tm with ring := (⟨s.tiu.count, s.tm.mtc, before, (s.port 4).new⟩ :: s.tm.ring).take 256 } }

/-! ### The port stamping clocks (R154) -/

/-- The increment of PCp for the next lap: 16/25 of the MTC's, corrected for the error `err` in ps at the tie, by the law of the TE's code;
written by the TE that runs DPLL0 (R17, R154). -/
def pcSteer (p : Nat) (err : Int) (s : State) : State :=
  if s.teRuns 0 && s.rv Reg.DPLL_VER != 0 then steerWrite (5 + p) 0 (roundDiv (s.mtcInc * 16) 25 + Config.pcCorrection err) s else s

/-- PCp latches at the first FCLK edge after the tie, `ph` units of 4 ps after the TCLK edge of the boundary; after a start it is loaded from
the MTC. PC_TRACK and PORT_STATUS show whether it follows the MTC. -/
def pcTie (p ph : Nat) (s : State) : State :=
  let v := s.pcp p
  let tie := match s.tm.ring with
    | r :: _ => r.mtc
    | [] => s.tm.mtc
  let at_ : Int := tie + psToMtc (4 * ph : Nat)
  let sync := fun (b : Bool) (s : State) => (s.setFlag (F.PC_TRACK_SYNC p) b).setFlag (F.PORT_STATUS_PC_SYNC p) b
  if !v.loaded then
    sync false ((s.setPc p ⟨(at_ % (2 ^ 120 : Nat)).toNat, true, 0⟩).setFld (F.PC_TRACK_DELTA p) 0)
  else
    let err := roundDiv ((v.val - at_) * 1000) (2 ^ 40)
    let laps := if err.natAbs ≤ 15 then v.laps + 1 else 0
    let s1 := pcSteer p err ((s.setPc p { v with laps := min laps 8 }).setFld (F.PC_TRACK_DELTA p) (unsigned 16 (clampS 16 err)))
    if 40 < err.natAbs then sync false s1 else if 8 ≤ laps then sync true s1 else s1

/-! ### Trigger commands (R165, R166) -/

/-- The period of trigger `i` in 2⁻⁸⁸ ns (R169). -/
def State.trgPeriod (s : State) (i : Nat) : Nat := s.quant (Reg.TRG_PERIOD i) 3 % 2 ^ 80 * 2 ^ 56

/-- The least number of periods `p` that takes a gap of `g` to zero or below. -/
def periodsFor (g : Int) (p : Nat) : Nat := if g ≤ 0 then 0 else (g.toNat + p - 1) / p

/-- ARM (R165). -/
def trgArm (i : Nat) (s : State) : State :=
  let w := s.quant (Reg.TRG_AT i) 4
  let t := s.fld (F.TRG_CFG_TS i)
  if 10 ^ 9 ≤ w / 2 ^ 32 % 2 ^ 30 || !(s.tsp t).run then s.setFlag (F.TRG_STATUS_ARM_REF i) true
  else
    let f := tsOfWords w (w / 2 ^ 64 : Nat)
    let per := s.flag (F.TRG_CFG_PERIODIC i)
    let short := s.trgPeriod i < 16 * 2 ^ 88
    let pd := if per then (if short then 16 * 2 ^ 88 else s.trgPeriod i) else 0
    let need := s.tsAdvance t 100
    let lead := f - (s.tsp t).acc
    let late := decide (lead < need)
    let k := if late && per then periodsFor (need - lead) pd else 0
    let s1 := ((s.setFlag (F.TRG_STATUS_ARM_REF i) false).setFlag (F.TRG_STATUS_LATE i) late).setFlag (F.TRG_STATUS_PER_CLAMP i) (per && short)
    let s2 := s1.setFld (F.TRG_STATUS_MISSED i) (min 0xffff (s1.fld (F.TRG_STATUS_MISSED i) + k))
    showNext i ((s2.setFlag (F.TRG_STATUS_ARMED i) true).setTrg i ⟨f + k * pd, f, pd, per, t, s.fld (F.TRG_CFG_PE i), s.flag (F.TRG_CFG_TE i)⟩)

/-- ALIGN (R166): the first grid point with at least 100 TCLK of lead. -/
def trgAlign (i : Nat) (s : State) : State :=
  let v := s.trg i
  let s1 := (s.setFlag (F.TRG_STATUS_MISALIGNED i) false).setQuant (Reg.TRG_SKEW i) 2 0
  if s.flag (F.TRG_STATUS_ARMED i) && v.per then
    let need := (s.tsp v.ts).acc + s.tsAdvance v.ts 100
    showNext i (s1.setTrg i { v with f := v.anchor + periodsFor (need - v.anchor) v.period * v.period })
  else s1

/-- The trigger commands of R169; a reserved code does nothing. -/
def landTrgCmd (i : Nat) (v : Word) (s : State) : State :=
  match v.toNat % 16 with
  | 1 => trgArm i s
  | 2 => s.setFlag (F.TRG_STATUS_ARMED i) false
  | 3 => trgAlign i s
  | _ => s

/-- GO latches the MTC and all sixteen timescales (R161). -/
def timeSnap (s : State) : State :=
  let s1 := (List.range 16).foldl (fun s t =>
    s.setQuant (Reg.SNAP_TS t) 4 (if (s.tsp t).run then tsWords (s.tsp t).acc else 0)) (s.setQuant Reg.SNAP_MTC 4 s.tm.mtc)
  s1.setFlag F.TIME_SNAP_DONE true

/-- A write to TS_CFG lands; it takes effect at the next lap boundary (R155). -/
def landTsCfg (t : Nat) (v : Word) (s : State) : State := s.setReg (Reg.TS_CFG t) (v &&& 7)

/-- A write to TS_UTC_CFG lands and waits for the boundary (R158). -/
def landTsUtcCfg (t : Nat) (v : Word) (s : State) : State :=
  let s1 := s.setReg (Reg.TS_UTC_CFG t) (v &&& 0xffff)
  s1.setTs t { s1.tsp t with utcW := true }

/-- A write to TRIG_PIN: with EN = 0 the pin is held at its inactive level (R167). -/
def landTrigPin (k : Nat) (v : Word) (s : State) : State :=
  let s1 := s.setReg (Reg.TRIG_PIN k) (v &&& 0xffffff3f)
  if s1.flag (F.TRIG_PIN_EN k) then s1 else setPin k false s1

/-- A write to TIME_SNAP (R161). -/
def landTimeSnap (v : Word) (s : State) : State := if v.getLsbD 0 then timeSnap s else s

/-! ### The commands -/

/-- TS_SET (R157): the TS_CMD write with code 0x1 reaches the TE. -/
def execTsSet (t : Fin 16) (s : State) : Host.Outcome State Fault Refusal := fin (whenOn 5 (landTsCmd t.val 1) s)

/-- TS_ADJ (R157). -/
def execTsAdj (t : Fin 16) (s : State) : Host.Outcome State Fault Refusal := fin (whenOn 5 (landTsCmd t.val 2) s)

/-- TS_HRATE (R157). -/
def execTsHrate (t : Fin 16) (s : State) : Host.Outcome State Fault Refusal := fin (whenOn 5 (landTsCmd t.val 3) s)

/-- TS_CFG_WRITE (R155). -/
def execTsCfgWrite (t : Fin 16) (v : Word) (s : State) : Host.Outcome State Fault Refusal := fin (whenOn 5 (landTsCfg t.val v) s)

/-- TIME_SNAP_GO (R161). -/
def execTimeSnapGo (s : State) : Host.Outcome State Fault Refusal := fin (whenOn 5 timeSnap s)

/-- PC_TIE_LATCH (R154): PCp latches at the tie pulse with the tie phase in units of 4 ps. -/
def execPcTieLatch (p : Fin 4) (ph : Nat) (s : State) : Host.Outcome State Fault Refusal :=
  fin (if s.fclkOn then pcTie p.val ph s else s)

/-- TRG_ARM (R165). -/
def execTrgArm (i : Fin 16) (s : State) : Host.Outcome State Fault Refusal := fin (whenOn 5 (trgArm i.val) s)

/-- TRG_DISARM (R165). -/
def execTrgDisarm (i : Fin 16) (s : State) : Host.Outcome State Fault Refusal :=
  fin (whenOn 5 (fun s => s.setFlag (F.TRG_STATUS_ARMED i.val) false) s)

/-- TRG_ALIGN (R166). -/
def execTrgAlign (i : Fin 16) (s : State) : Host.Outcome State Fault Refusal := fin (whenOn 5 (trgAlign i.val) s)

/-- TRIG_PIN_PULSE_END (R167): the width of the latest pulse of pin `k` has run out. -/
def execTrigPinPulseEnd (k : Fin 4) (s : State) : Host.Outcome State Fault Refusal :=
  fin (setPin k.val false s)

/-- STEERING_UPDATE (R131): port `k` applies its next update. -/
def execSteeringUpdate (k : Fin 32) (s : State) : Host.Outcome State Fault Refusal :=
  fin (if s.tclkOn then steerUpdate k.val s else s)

end Sys2Proof.Machine
end

