-- ==== Sys2Proof/Machine/Port.lean ====
section
/-! DEFINITION. Ethernet ports (R221–R242): configuration and its current transfer, link bring-up, received frames and their stamps,
link faults, start opportunities, and the basket (R377). -/

namespace Sys2Proof.Machine

def State.prt_ (s : State) (p : Nat) : PortPart := Tbl.get (fun _ => PortPart.reset) s.prt p
def State.setPrt (s : State) (p : Nat) (v : PortPart) : State := { s with prt := Tbl.set (fun _ => PortPart.reset) s.prt p v }
def State.pe_ (s : State) (p : Nat) : PePart := Tbl.get (fun _ => PePart.reset) s.fab.pe p
def State.setPe (s : State) (p : Nat) (v : PePart) : State :=
  { s with fab := { s.fab with pe := Tbl.set (fun _ => PePart.reset) s.fab.pe p v } }

/-- The state of port `p`: 0 DISABLED, 1 AN, 2 TRAIN, 3 LOCKING, 4 UP (R225). -/
def State.portState (s : State) (p : Nat) : Nat := s.fld (F.PORT_STATUS_STATE p)

/-- A field of the configuration in force (R242). -/
def State.portCfg (s : State) (p : Nat) (f : Nat → Fld) : Nat := (f p).of (s.prt_ p).cfg

/-- The mode that code `m` of PORT_CFG.MODE means: 0b11 acts as 0b00 (R242). -/
def portMode (m : Nat) : Nat := if m = 3 then 0 else m

/-- The mode index m of R221 that port `p` runs. -/
def State.modeIdx (s : State) (p : Nat) : Nat :=
  match s.fld (F.PORT_STATUS_MODE_RES p) with
  | 1 => 3
  | 2 => 4
  | _ => s.fld (F.PORT_STATUS_FEC_RES p)

/-- FCLK cycles of the receive gate period, and the beat period, in mode index `m` (R251). -/
def gatePeriod (m : Nat) : Nat := if m < 3 then 2 else if m = 3 then 5 else 50

/-- An error counter of port `p` counts, and ERR_EVT with it (R242). -/
def portErr (p a : Nat) (s : State) : State := (s.bumpSat a).bump (Reg.ERR_EVT p)

/-- `n` errors count. -/
def portErrs (p a n : Nat) (s : State) : State :=
  (s.setRv a (min (2 ^ 32 - 1) (s.rv a + n))).setRv (Reg.ERR_EVT p) (s.rv (Reg.ERR_EVT p) + n)

/-- PORT_STATUS.CAL_VALID: both constants of the resolved mode are present (R231). -/
def State.calValid (s : State) (p : Nat) : Bool := (s.prt_ p).calRx.testBit (s.modeIdx p) && (s.prt_ p).calTx.testBit (s.modeIdx p)

def showCal (p : Nat) (s : State) : State := s.setFlag (F.PORT_STATUS_CAL_VALID p) (s.calValid p)

/-- A state change, counted in PORT_EVT (R225). -/
def portTo (p st : Nat) (s : State) : State := (s.setFld (F.PORT_STATUS_STATE p) st).bump (Reg.PORT_EVT p)

/-- The lock flags of port `p` fall (R225). -/
def portUnlock (p : Nat) (s : State) : State :=
  ((s.setFlag (F.PORT_STATUS_BLOCK_LOCK p) false).setFlag (F.PORT_STATUS_FEC_LOCK p) false).setFlag (F.PORT_STATUS_RXC_VALID p) false

/-- The frame in progress is cut: of the frame being released only the released beats remain, and frames that wait are gone (R225). -/
def cutFrames (p : Nat) (s : State) : State :=
  let e := s.pe_ p
  let insts := match e.cur with
    | some k => e.insts.map (fun i => if i.k = k then { i with frame := { i.frame with octets := i.frame.octets.take (8 * i.rel), cut := true } } else i)
    | none => e.insts
  s.setPe p { e with insts := insts, cur := none, rx := [] }

/-- A local fault begins or ends: while it lasts the port sends remote fault (R227). -/
def localFault (p : Nat) (on : Bool) (s : State) : State :=
  if s.flag (F.PORT_STATUS_LOCAL_FAULT p) = on then s else (s.setFlag (F.PORT_STATUS_LOCAL_FAULT p) on).emit (.remoteFault p on)

/-- Port `p` enters DISABLED (R225): transmitter idle, recovered clock squelched, the frame in progress discarded, the basket
emptied (R377). -/
def portDisable (p : Nat) (s : State) : State :=
  if s.portState p = 0 then s else
  let s1 := portUnlock p (portTo p 0 (cutFrames p s))
  let s2 := (localFault p false s1).setFlag (F.PORT_STATUS_REMOTE_FAULT p) false
  (s2.setPrt p { s2.prt_ p with basket := [] }).setRv (Reg.BASKET_STATUS p) 0

/-- PORT_CFG comes into force at an entry to AN or LOCKING; with AN_EN = 0 it gives the mode and the FEC (R221, R242). -/
def portLatch (p : Nat) (s : State) : State :=
  let c := s.rv (Reg.PORT_CFG p)
  let s1 := s.setPrt p { s.prt_ p with cfg := c }
  if (F.PORT_CFG_AN_EN p).of c = 1 then s1
  else
    let m := portMode ((F.PORT_CFG_MODE p).of c)
    let fec := if m = 0 then portMode ((F.PORT_CFG_FEC_SEL p).of c) else 0
    showCal p ((s1.setFld (F.PORT_STATUS_MODE_RES p) m).setFld (F.PORT_STATUS_FEC_RES p) fec)

/-- The port enters AN if AN_EN = 1, else LOCKING (R225). -/
def portStart (p : Nat) (s : State) : State :=
  let s1 := portUnlock p (portLatch p s)
  portTo p (if s1.portCfg p F.PORT_CFG_AN_EN = 1 then 1 else 3) s1

/-- The port enters LOCKING (R225). -/
def portLocking (p : Nat) (s : State) : State := portTo p 3 (portUnlock p (portLatch p s))

/-- Whether the port is held in DISABLED: EN = 0, the rung is not L0, or a whistle holds (R225, R505). -/
def State.portHeld (s : State) (p : Nat) : Bool := !s.flag (F.PORT_CFG_EN p) || s.rung != 0 || !s.fclkOn || s.wHeld 9 p

/-- EN takes effect at once (R242): DISABLED, or bring-up from DISABLED. -/
def portEnable (p : Nat) (s : State) : State :=
  if s.portHeld p then portDisable p s else if s.portState p = 0 then portStart p s else s

/-- TRAIN_COEF and the receive equaliser, for a port with link training whose last training is VALID: the equaliser starts from its stored
state, and the port offers the stored coefficients (R228). -/
def trainStored (p : Nat) (s : State) : State :=
  if s.flag (F.PORT_CFG_TRAIN_EN p) && s.flag (F.TRAIN_COEF_VALID p) then
    s.setPrt p { s.prt_ p with rxEq := some (s.prt_ p).eq, offer := some (s.rv (Reg.TRAIN_COEF p) % 2 ^ 22) }
  else s

/-- A port comes back with rung L0 (R228). -/
def portReturn (p : Nat) (s : State) : State := portEnable p (if s.portHeld p then s else trainStored p s)

/-- The current of a port configured as `c`, mA from VDD_CORE (R241). -/
def portMa (c : Nat) : Nat :=
  if c % 2 = 0 then 0 else match portMode (c / 2 % 4) with
    | 1 => 24
    | 2 => 14
    | _ => 52

/-- The bits of PORT_CFG whose change is a transfer: EN, MODE, FEC_ALLOW (R241). -/
abbrev portXferBits : Nat := 0x1f

/-- A PORT_CFG write lands: one that changes EN, MODE or FEC_ALLOW, or that follows one that waits, is acted on at the first ration
window; another is stored (R241). -/
def landPortCfg (p : Nat) (v : Word) (s : State) : State :=
  let v := v &&& 0xffff137f
  let a := Reg.PORT_CFG p
  if s.rat.xfers.any (fun x => x.addr == a) || v.toNat % 32 != s.rv a % 32 then s.askXfer a v else s.setReg a v

/-- A window makes a port's transfer: refused if the trim would leave its range; else PORT_CFG takes the value and the port acts (R241). -/
def portXfer (s : State) (x : Xfer) : State :=
  let p := (x.addr - Reg.PORT_CFG 0) / 0x1000
  match s.trimTake ((portMa x.val.toNat : Int) - portMa (s.rv x.addr)) with
  | some s1 => portEnable p (s1.setReg x.addr x.val)
  | none => s.bumpSat Reg.TRANSFER_REFUSED

/-- The SE writes CAL_RX[m] or CAL_TX[m] (R231); host writes are ignored. -/
def landCal (tx : Bool) (p m : Nat) (v : Word) (s : State) : State :=
  let r := s.prt_ p
  let s1 := s.setReg (if tx then Reg.CAL_TX p m else Reg.CAL_RX p m) v
  showCal p (s1.setPrt p (if tx then { r with calTx := r.calTx ||| 2 ^ m } else { r with calRx := r.calRx ||| 2 ^ m }))

/-- RESTART (R225, R228): TRAIN_COEF.VALID clears; no effect in DISABLED. -/
def portRestart (p : Nat) (s : State) : State :=
  if s.portState p = 0 then s else
  let s1 := (cutFrames p s).setFlag (F.TRAIN_COEF_VALID p) false
  portStart p (s1.setPrt p { s1.prt_ p with offer := none })

/-- RETRAIN (R225): from UP at 25G or 10G with TRAIN_EN = 1, else refused (R242). -/
def portRetrain (p : Nat) (s : State) : State :=
  if s.portState p = 4 && s.fld (F.PORT_STATUS_MODE_RES p) ≤ 1 && s.portCfg p F.PORT_CFG_TRAIN_EN = 1 then
    portTo p 2 (portUnlock p (cutFrames p s))
  else s.bump16 (Reg.PORT_CMD_REF p)

/-- PORT_CMD with code `c` (R242). -/
def landPortCmd (p c : Nat) (s : State) : State :=
  if c = 1 then portRestart p s else if c = 2 then portRetrain p s else s.bump16 (Reg.PORT_CMD_REF p)

/-- The mode and FEC that Clause 73 resolves from both advertisements, or none (R223). -/
def anResolve (mode allow own lp : Nat) : Option (Nat × Nat) :=
  if own.testBit 0 && lp.testBit 0 && portMode mode != 1 then
    let fec := if own.testBit 4 && lp.testBit 4 && allow.testBit 1 then 2
      else if own.testBit 5 && lp.testBit 5 && allow.testBit 0 then 1 else 0
    some (0, fec)
  else if own.testBit 1 && lp.testBit 1 then some (1, 0)
  else none

/-- Auto-negotiation completes with the partner's advertisement `lp` (R223, R225). -/
def anComplete (p lp : Nat) (s : State) : State :=
  let mode := portMode (s.portCfg p F.PORT_CFG_MODE)
  let r := if mode = 2 then some (2, 0)
    else anResolve mode (s.portCfg p F.PORT_CFG_FEC_ALLOW) (s.rv (Reg.PORT_AN_ADV p)) lp
  let s1 := s.setRv (Reg.PORT_AN_LP p) ((lp &&& 0x33) ||| 0x100)
  match r with
  | none => s1.bump (Reg.PORT_EVT p)
  | some (m, fec) =>
    let s2 := showCal p ((s1.setFld (F.PORT_STATUS_MODE_RES p) m).setFld (F.PORT_STATUS_FEC_RES p) fec)
    if m ≤ 1 && s2.portCfg p F.PORT_CFG_TRAIN_EN = 1 then portTo p 2 s2 else portLocking p s2

/-- A completed training stores the partner's final coefficients and the receive equaliser's state, whose value is open (R224). -/
def trainDone (p coef : Nat) (s : State) : State :=
  let d := s.draw
  let s1 := d.2.setPrt p { d.2.prt_ p with eq := d.1, rxEq := some d.1, offer := none }
  portLocking p (s1.setRv (Reg.TRAIN_COEF p) (coef + 2 ^ 24))

/-! ### Stamps (R229–R233) -/

/-- Picoseconds as PCn time, 2⁻⁴⁰ ns. -/
def psM (ps : Int) : Int := psToMtc ps

/-- `j` bit times of the mode in PCn time: 64/1,650 ns at 25G, 4/41.25 ns at 10G, 0.8 ns at 1G (R230). -/
def bitTimes (m j : Nat) : Int :=
  roundDiv ((j : Int) * 2 ^ 40 * (if m < 3 then 64 else if m = 3 then 160 else 1320)) 1650

/-- The stamp of R230 at the FCLK edge of this moment: φ back to the recovered-clock edge, less the constants, plus bit `j`. -/
def State.rxStamp (s : State) (p phi j : Nat) : Nat :=
  let m := s.modeIdx p
  let te := ((s.pcp p).val : Int) - psM phi
  ((te - psM (s.rv (Reg.CAL_RX p m)) - psM (s.srv (Reg.BOARD_RX p)) + bitTimes m j) % (2 ^ 120 : Nat)).toNat

/-- MAX_FRAME in force: 64 to 9,216 (R222). -/
def State.maxFrame (s : State) (p : Nat) : Nat := max 64 (min 9216 (s.portCfg p F.PORT_CFG_MAX_FRAME))

/-- The counters of a received frame (R222, R242). -/
def rxCount (p : Nat) (r : RxIn) (s : State) : State :=
  let n := r.octets.length
  let s1 := portErrs p (Reg.FEC_UNCORR p) r.fecUncorr (portErrs p (Reg.FEC_CORR p) r.fecCorr (portErrs p (Reg.RX_CODE_ERR p) r.codeErr s))
  if r.cut then s1
  else
    let s2 := (s1.bump48 (Reg.RX_FRAMES p) 1).bump48 (Reg.RX_OCTETS p) n
    let s3 := if fcsGood r.octets then s2 else portErr p (Reg.RX_FCS_ERR p) s2
    let s4 := if n < 64 then portErr p (Reg.RX_RUNT p) s3 else s3
    let s5 := if s.maxFrame p < n then portErr p (Reg.RX_OVERSIZE p) s4 else s4
    if isPause r.octets then portErr p (Reg.RX_PAUSE p) s5 else s5

/-- A frame arrives: it is stamped, counted, and waits at the receive gate (R222, R230, R251). -/
def rxFrame (p : Nat) (r : RxIn) (s : State) : State :=
  let n := r.octets.length
  let f : RxFrame :=
    { octets := r.octets, cut := r.cut, good := fcsGood r.octets, tooLong := decide (s.maxFrame p < n), runt := decide (n < 64),
      stamp := s.rxStamp p r.phi r.bit, unsync := !s.flag (F.PC_TRACK_SYNC p), uncal := !s.calValid p }
  let s1 := s.setFld ⟨Reg.PORT_RX_PHASE p, 0, 16⟩ r.phi
  let e := s1.pe_ p
  rxCount p r (s1.setPe p { e with rx := e.rx ++ [f] })

/-! ### The basket (R377) -/

/-- A record enters the basket, or is dropped when it holds 16. -/
def basketPut (p : Nat) (b : BasketRec) (s : State) : State :=
  let r := s.prt_ p
  if 16 ≤ r.basket.length then portErr p (Reg.BASKET_DROP p) s
  else ((s.setPrt p { r with basket := r.basket ++ [b] }).setRv (Reg.BASKET_STATUS p) (r.basket.length + 1)).bump (Reg.BASKET_EVT p)

/-- The words of BASKET_REC (R378). -/
def BasketRec.words : Option BasketRec → List Word
  | none => [0, 0, 0, 0]
  | some b =>
    let bit := fun (x : Bool) (k : Nat) => if x then 2 ^ k else 0
    [BitVec.ofNat 32 (b.tag % 256 + 256 + bit b.unsync 9 + bit b.uncal 10 + bit b.suppressed 11 + bit b.lateStart 12),
     BitVec.ofNat 32 (b.stamp / 256), BitVec.ofNat 32 (b.stamp / 2 ^ 40), BitVec.ofNat 32 (b.stamp / 2 ^ 72)]

/-- A read of word 0 pops the oldest record, which the read latches (R65, R377). -/
def basketPop (p : Nat) (s : State) : List Word × State :=
  let r := s.prt_ p
  match r.basket with
  | [] => (BasketRec.words none, s)
  | b :: t => (BasketRec.words (some b), (s.setPrt p { r with basket := t }).setRv (Reg.BASKET_STATUS p) t.length)

/-! ### Commands -/

/-- `f` where FCLK runs and the port is in state `st`. -/
def whenPort (p st : Nat) (f : State → State) (s : State) : State := if s.fclkOn && s.portState p == st then f s else s

/-- PORT_CFG_WRITE (R241). -/
def execPortCfgWrite (p : Fin 4) (v : Word) (s : State) : Host.Outcome State Fault Refusal := fin (whenOn 8 (landPortCfg p.val v) s)

/-- PORT_RESTART (R225, R228). -/
def execPortRestart (p : Fin 4) (s : State) : Host.Outcome State Fault Refusal := fin (whenOn 8 (landPortCmd p.val 1) s)

/-- PORT_RETRAIN (R225). -/
def execPortRetrain (p : Fin 4) (s : State) : Host.Outcome State Fault Refusal := fin (whenOn 8 (landPortCmd p.val 2) s)

/-- AN_COMPLETE (R223). -/
def execAnComplete (p : Fin 4) (lp : Fin 64) (s : State) : Host.Outcome State Fault Refusal := fin (whenPort p.val 1 (anComplete p.val lp.val) s)

/-- TRAIN_COMPLETE (R224, R225): both sides report receiver ready; the partner's coefficients are stored. -/
def execTrainComplete (p : Fin 4) (pre main post : Fin 64) (s : State) : Host.Outcome State Fault Refusal :=
  fin (whenPort p.val 2 (fun s => trainDone p.val (pre.val + 2 ^ 8 * main.val + 2 ^ 16 * post.val) s) s)

/-- TRAIN_TIMEOUT (R225, R226): AN if AN_EN = 1, else training again; the restart counts. -/
def execTrainTimeout (p : Fin 4) (s : State) : Host.Outcome State Fault Refusal :=
  fin (whenPort p.val 2 (fun s =>
    if s.portCfg p.val F.PORT_CFG_AN_EN = 1 then portStart p.val s else s.bump (Reg.PORT_EVT p.val)) s)

/-- LINK_UP (R225): the lock conditions are met; `gear` is the gearbox offset found. -/
def execLinkUp (p : Fin 4) (gear : Fin 128) (s : State) : Host.Outcome State Fault Refusal :=
  fin (whenPort p.val 3 (fun s =>
    let s1 := (s.setFlag (F.PORT_STATUS_BLOCK_LOCK p.val) true).setFlag (F.PORT_STATUS_FEC_LOCK p.val) (s.fld (F.PORT_STATUS_FEC_RES p.val) != 0)
    let s2 := (localFault p.val false s1).setFld ⟨Reg.PORT_RX_PHASE p.val, 16, 7⟩ gear.val
    (portTo p.val 4 s2).setFlag (F.PORT_STATUS_RXC_VALID p.val) true) s)

/-- LOCKING_TIMEOUT (R225, R226): AN if AN_EN = 1, else LOCKING again; the restart counts. -/
def execLockingTimeout (p : Fin 4) (s : State) : Host.Outcome State Fault Refusal :=
  fin (whenPort p.val 3 (fun s =>
    if s.portCfg p.val F.PORT_CFG_AN_EN = 1 then portStart p.val s else (portLatch p.val s).bump (Reg.PORT_EVT p.val)) s)

/-- LINK_LOSS (R225): block lock, FEC lock, a local fault or a high bit error rate takes an UP port back to LOCKING; a frame in
progress, at the receive MAC (`frame`) or on its way into the engine, is discarded and counted. -/
def execLinkLoss (p : Fin 4) (block fec fault frame : Bool) (s : State) : Host.Outcome State Fault Refusal :=
  fin (whenPort p.val 4 (fun s =>
    let n := if frame || (s.pe_ p.val).cur.isSome || !(s.pe_ p.val).rx.isEmpty then 1 else 0
    let s1 := portLocking p.val (cutFrames p.val s)
    let s2 := (s1.setFlag (F.PORT_STATUS_BLOCK_LOCK p.val) (!block)).setFlag (F.PORT_STATUS_FEC_LOCK p.val)
      (!fec && s1.fld (F.PORT_STATUS_FEC_RES p.val) != 0)
    portErrs p.val (Reg.RX_CODE_ERR p.val) n (localFault p.val fault s2)) s)

/-- REMOTE_FAULT (R227). -/
def execRemoteFault (p : Fin 4) (s : State) : Host.Outcome State Fault Refusal :=
  fin (if s.fclkOn && s.portState p.val != 0 then s.setFlag (F.PORT_STATUS_REMOTE_FAULT p.val) true else s)

/-- REMOTE_FAULT_CLEAR (R227). -/
def execRemoteFaultClear (p : Fin 4) (s : State) : Host.Outcome State Fault Refusal :=
  fin (if s.fclkOn then s.setFlag (F.PORT_STATUS_REMOTE_FAULT p.val) false else s)

/-- RX_FRAME (R222): the receive MAC of an UP port receives a frame. -/
def execRxFrame (p : Fin 4) (r : RxIn) (s : State) : Host.Outcome State Fault Refusal := fin (whenPort p.val 4 (rxFrame p.val r) s)

/-- The snapshot buffer of master `m` in the block of `a` takes the words `ws` of the quantity at `a`, and the lowest is answered (R65). -/
def latch (m : Master) (a : Nat) (ws : List Word) (s : State) : State :=
  let k := m.id * 32 + a / 0x10000
  answerWord (ws.headD 0) { s with bus := { s.bus with snap := Tbl.set (fun _ => none) s.bus.snap k (some ⟨a, ws⟩) } }

/-- A record of the basket of port `p` is popped into the snapshot buffer (R377). -/
def basketRead (m : Master) (p : Nat) (s : State) : State := let r := basketPop p s; latch m (Reg.BASKET_REC p) r.1 r.2

/-- BASKET_POP (R377): the read of BASKET_REC word 0 pops, and its words answer the reads that follow. -/
def execBasketPop (p : Fin 4) (m : Master) (s : State) : Host.Outcome State Fault Refusal :=
  fin (reads m (whenOn 8 (basketRead m p.val)) s)

/-- ESMC_TIMEOUT (R240): no information PDU for 5 s; SE firmware writes QL_RANK = 15 of RXCp. -/
def execEsmcTimeout (p : Fin 4) (s : State) : Host.Outcome State Fault Refusal :=
  fin (if s.blockOn 3 && 2500000000 ≤ (s.tiu.count + 2 ^ 56 - (s.prt_ p.val).esmcRx % 2 ^ 56) % 2 ^ 56 then s.setFld ⟨Reg.REF_QL (12 + p.val), 0, 4⟩ 15 else s)

end Sys2Proof.Machine
end

