-- ==== Sys2Proof/Machine/Detect.lean ====
section
/-! DEFINITION. Conversions of time (R153, R287, R288): stamps to device time by the tie ring, device time to timescale time and back by the
tie tables with the spread of R131; and what a DPLL's phase detector measures with them (R125, R133, R134, R145). -/

namespace Sys2Proof.Machine

/-- A TIU stamp `t` (era:coarse:fraction, 2⁻¹⁵ ns) as device time, with EXTRAP and AHEAD, by the record of the last boundary at or before
it; stamps are compared as 72-bit times (R153, R288, R577). -/
def stampToM (t : Nat) (s : State) : Int × Bool × Bool :=
  let off := fun (c : Nat) => tdiff t (c * 65536 : Nat)
  match s.tm.ring with
  | [] => ((s.tm.mtc : Int) + off s.tiu.count * s.mtcInc / 65536, false, true)
  | n :: _ =>
    if 0 < off n.count then ((n.mtc : Int) + off n.count * s.mtcInc / 65536, false, true)
    else match s.tm.ring.find? (fun r => decide (0 ≤ off r.count)) with
      | some r =>
        let d := (off r.count).toNat
        let k := min 62500 (d / 65536)
        let inc := fun j => spread r.before r.after j
        let j := min 999 ((2 * k) / 125)
        let rest := (d - k * 65536 : Nat)
        ((r.mtc : Int) + lapSum inc 0 k + (rest : Int) * (if k < 62500 then inc j else r.after) / 65536, false, false)
      | none =>
        match s.tm.ring.getLast? with
        | some r => ((r.mtc : Int) + off r.count * r.before / 65536, true, false)
        | none => (0, true, false)

/-- What the MTC and the timescale gain in update `j` of an entry's lap: device time, and its rate factor 2⁴⁸ + RATE. -/
def TsTie.piece (e : TsTie) (j : Nat) : Int × Int :=
  ((updEdges 0 62500 j : Int) * spread e.incBefore e.incAfter j, 2 ^ 48 + spread e.rateBefore e.rateAfter j)

/-- The timescale time, in 2⁻⁸⁸ ns, that passes in `d` of device time after an entry's boundary (R288). -/
def TsTie.forward (e : TsTie) (d : Int) : Int :=
  let r := (List.range 1000).foldl (fun (acc : Int × Int) j =>
    let p := e.piece j
    let a := min acc.1 p.1
    (acc.1 - a, acc.2 + a * p.2)) (d, 0)
  r.2 + r.1 * (2 ^ 48 + e.rateAfter)

/-- The device time that passes in `d` of timescale time after an entry's boundary. -/
def TsTie.back (e : TsTie) (d : Int) : Int :=
  let r := (List.range 1000).foldl (fun (acc : Int × Int) j =>
    let p := e.piece j
    let full := p.1 * p.2
    if full ≤ acc.1 then (acc.1 - full, acc.2 + p.1) else (0, acc.2 + acc.1 / p.2)) (d, 0)
  r.2 + r.1 / (2 ^ 48 + e.rateAfter)

/-- Device time to time of timescale `t` in 2⁻⁸⁸ ns; none where it is disabled (R288). -/
def mToTs (t : Nat) (m : Nat) (s : State) : Option Nat :=
  if !(s.tsp t).run then none else
  match (s.tsp t).table.find? (fun e => e.run && decide (e.mtc ≤ m)) with
  | some e => some (tsWrap (e.acc + e.forward ((m : Int) - e.mtc)))
  | none =>
    match (s.tsp t).table.getLast? with
    | some e => some (tsWrap (e.acc + ((m : Int) - e.mtc) * (2 ^ 48 + e.rateBefore)))
    | none => some (tsWrap ((s.tsp t).acc + ((m : Int) - s.tm.mtc) * (2 ^ 48 + s.tsRate t)))

/-- Time of timescale `t` in 2⁻⁸⁸ ns to device time; none where it is disabled (R288). -/
def tsToM (t : Nat) (v : Nat) (s : State) : Option Nat :=
  if !(s.tsp t).run then none else
  let w := fun (x : Int) => (x % (2 ^ 120 : Nat)).toNat
  match (s.tsp t).table.find? (fun e => e.run && decide (e.acc ≤ v)) with
  | some e => some (w (e.mtc + e.back ((v : Int) - e.acc)))
  | none =>
    match (s.tsp t).table.getLast? with
    | some e => some (w (e.mtc + ((v : Int) - e.acc) / (2 ^ 48 + e.rateBefore)))
    | none => some (w (s.tm.mtc + ((v : Int) - (s.tsp t).acc) / (2 ^ 48 + s.tsRate t)))

/-! ### Stamps read by the TEs (R134, R294) -/

/-- RXTS of channel `n` by engine `t`: in FIFO mode the oldest record is popped; the engine keeps the newest record it has read. -/
def rxtsRead (t n : Nat) (s : State) : State :=
  let c := s.chan n
  let recs := match c.buf.head? with
    | some r => Tbl.set (fun _ => none) s.tiu.recs (24 * t + n) (some r)
    | none => s.tiu.recs
  let s1 : State := { s with tiu := { s.tiu with reads := s.tiu.reads ||| 2 ^ (24 * t + n), recs := recs } }
  if s.flag (F.CH_CFG_LATEST n) then s1 else s1.setChan n { c with buf := c.buf.tail }

/-- The stamp reads of the stock lap of engine `t`: every channel once, but for those that a TE_RXTS command of this lap has read (R134). -/
def stockReads (t : Nat) (s : State) : State :=
  if s.teRuns t && s.rv Reg.DPLL_VER == 1 then
    (List.range 24).foldl (fun s n => if s.tiu.reads.testBit (24 * t + n) then s else rxtsRead t n s) s
  else s

/-- A lap of engine `t` begins: no channel has been read in it, and for TE0 the selection routine has not run. -/
def readsBegin (t : Nat) (s : State) : State :=
  { s with tiu := { s.tiu with reads := if t = 0 then s.tiu.reads / 2 ^ 24 * 2 ^ 24 else s.tiu.reads % 2 ^ 24,
                               selDone := if t = 0 then false else s.tiu.selDone } }

/-! ### The phase of a reference against an output (R125, R133, R145) -/

/-- One second in units of 2⁻⁴⁰ ns. -/
abbrev secM : Nat := 10 ^ 9 * 2 ^ 40

/-- The phase of port `k` at stamp `t`, in 2⁻⁴⁰ ns: nominal time with the steering of APLL `k` added to it; 9 for a DPLL that steers nothing. -/
def State.phaseAt (s : State) (k t : Nat) : Int :=
  (Tbl.get (fun _ => 0) s.tm.aph k + tdiff t (s.tiu.count * 65536 : Nat) * (2 ^ 48 + (s.port k).cur) / 65536) / 128

/-- The time that DPLL `d` keeps, at stamp `t`, in 2⁻⁴⁰ ns: device time for DPLL0, that is TS0 while it is linked to the MTC (R129, R156,
R523); its timescale, or the phase of its APLL. -/
def State.outTime (s : State) (d t : Nat) : Int :=
  let m := (stampToM t s).1
  let ts := fun (k : Nat) => match mToTs k (m % (2 ^ 120 : Nat)).toNat s with
    | some v => (v / 2 ^ 48 : Nat)
    | none => m
  if d = 0 then (if s.flag (F.TS_CFG_LINK 0) then ts 0 else m)
  else match s.dpllPort d with
    | some k => if 16 ≤ k then ts (k - 16) else s.phaseAt k t
    | none => s.phaseAt 9 t

/-- The stamp of the newest sample of reference `i` for engine `t`: the newest record it has read of the channel, the top of second of the
last GNSS pulse, the pin time of the packet servo's output, the stamp of the daisy mark (R133, R134, R215, R534). -/
def State.refStamp (s : State) (t i : Nat) : Option Nat :=
  if i < 16 then (Tbl.get (fun _ => none) s.tiu.recs (24 * t + i)).map (·.t)
  else if i = 16 then s.gnss.top
  else if i < 21 then (s.refp i).phase.map (·.1)
  else s.dz.pair.map (·.1)

/-- The time that reference `i` itself gives its newest sample, in 2⁻⁴⁰ ns; the edges of a channel and the tops of GNSS seconds are
grid points. -/
def State.refMark (s : State) (i : Nat) : Int :=
  if i < 17 then 0
  else if i < 21 then match (s.refp i).phase with
    | some (t, x) => s.outTime 0 t - psToMtc x
    | none => 0
  else match s.dz.pair with
    | some (_, m) => m * 256
    | none => 0

/-- The period within which the phase of reference `i` is known: that of its edges, or one second, since whole seconds are the host's
(R523). -/
def State.refPeriod (s : State) (i : Nat) : Nat := if i < 16 then s.quant (Reg.NOM_PERIOD i) 2 * 512 else secM

/-- `x` folded into (−p/2, p/2]. -/
def foldInto (x : Int) (p : Nat) : Int := let r := x % (p : Int); if (p : Int) < 2 * r then r - p else r

/-- The representative of `x` modulo the period `p` nearest to `prev`; open where the reference has no period. -/
def nearPhase (p : Nat) (prev x : Int) : Int := if p = 0 then Config.phaseNoPeriod x else prev + foldInto (x - prev) p

/-- The phase Δ of reference `i` against the output of DPLL `d`, in ps, nearest to `prev`, as engine `t` measures it with its newest sample:
positive where the reference is later. Without any sample it is open. -/
def State.refDelta (s : State) (t d i : Nat) (prev : Int) : Int :=
  match s.refStamp t i with
  | some st => roundDiv (nearPhase (s.refPeriod i) (psToMtc prev) (s.outTime d st - s.refMark i) * 1000) (2 ^ 40)
  | none => Config.phaseNoSample

/-- Samples of reference `i` arrive at less than 100 per second: one a second from GNS and DSY, else by the nominal period of the channel or
by the time since or between the last samples that DPLL `d` took (R133). -/
def State.refSlow (s : State) (d i : Nat) : Bool :=
  i == 16 || i == 21 || (i < 16 && decide (10 ^ 7 * 2 ^ 31 < s.quant (Reg.NOM_PERIOD i) 2)) || 80 < max (s.dpll_ d).gap (s.dpll_ d).ival

end Sys2Proof.Machine
end

