-- ==== Sys2Proof/Machine/Dpll.lean ====
section
/-! DEFINITION. The DPLLs (R129–R149): detector, loop and model, the state rows of R137, commands and returns. Phases are in ps, remaining
slew in 1/8 ps, timers in units of 125 µs. -/

namespace Sys2Proof.Machine

/-- The engine that runs DPLL `d` (chapter 6, first table). -/
def dpllTe (d : Nat) : Nat := if d < 4 then 0 else 1

/-- The reference that the selector hands to DPLL `d`, if any; none while no selection result stands behind it (R143). -/
def State.dpllRef (s : State) (d : Nat) : Option Nat :=
  if s.fld (F.SEL_STATUS_STATE d) = 0 || s.flag (F.DPLL_STATUS_SEL_ABSENT d) then none
  else let i := s.selCur d; if i < 22 then some i else none

/-- The length of a lap in units of 125 µs: one, and in L2 the second between two rest laps (R134, R485). -/
def State.lapLen (s : State) : Nat := if s.rung = 2 then 8000 else 1

/-- The offset of reference `i` from DPLL `d`'s output, in ps, within half its period (R125, R145). -/
def State.dpllDelta (s : State) (d i : Nat) : Int := s.refDelta (dpllTe d) d i 0

/-- A change of state counts DPLL_EVT (R137). -/
def dpllTo (d st : Nat) (s : State) : State :=
  if s.dpllState d = st then s else (s.setFld (F.DPLL_STATUS_STATE d) st).bump (Reg.DPLL_EVT d)

/-- The sum of the four die sensors, that is, their mean in 1/256 K (R140). -/
def State.dieMean (s : State) : Int :=
  signed 16 (s.rv Reg.TB_TEMP_DIE01) + signed 16 (s.rv Reg.TB_TEMP_DIE01 / 65536)
    + signed 16 (s.rv Reg.TB_TEMP_DIE23) + signed 16 (s.rv Reg.TB_TEMP_DIE23 / 65536)

/-- The crystal temperature in mK. -/
def State.xtalTemp (s : State) : Int := signed 18 (s.rv Reg.TB_TEMP)

/-- HO_WIN_S held within 1 to 86,400 (R150). -/
def State.hoWin (s : State) (d : Nat) : Nat := max 1 (min 86400 (s.fld (F.DPLL_HO_WIN_HO_WIN_S d)))

/-- LOCK_THR in ps. -/
def State.lockThr (s : State) (d : Nat) : Nat := s.fld (F.DPLL_LOCK_LOCK_THR d) * 1000

/-- A field of STEP_PEND and STEP_WAIT takes a held offset, or none (R145, R147). -/
def stepPend (d : Nat) (v : Option Int) (s : State) : State :=
  (s.setQuant (Reg.DPLL_STEP_PEND d) 2 (unsigned 64 (v.getD 0))).setFlag (F.DPLL_STATUS_STEP_WAIT d) v.isSome

/-- The estimate is shown in ps, the duration in seconds (R150). -/
def showEst (d : Nat) (s : State) : State :=
  let v := s.dpll_ d
  (s.setRv (Reg.DPLL_TE_EST d) (min (v.te / teUnit) (2 ^ 32 - 1))).setRv (Reg.DPLL_HO_DUR d) (min (v.ho / 8000) (2 ^ 32 - 1))

/-- The model's frequency at the present time and temperatures (R140). -/
def hoFreq (m : HoModel) (ho : Nat) (tc td : Int) : Int :=
  m.y + roundDiv (m.age * ho) 691200000 + roundDiv (m.kc * (tc - m.tc)) 1000 + roundDiv (m.kd * (td - m.td)) 256

/-- The sums over the newest `n` units of 125 µs of a history, newest first (R140). -/
def hoSum : Nat → List HoSec → HoSec
  | _, [] => .zero
  | n, e :: l =>
    if n = 0 then .zero else
    let k := min n e.n
    let r := hoSum (n - k) l
    ⟨r.y + e.y * k / e.n, r.tc + e.tc * k / e.n, r.td + e.td * k / e.n, r.n + k⟩

/-- Entry to HOLDOVER (R140, R141): the means over the last HO_WIN_S seconds in LOCKED and the coefficients are latched, the estimate starts.
`short` forces HO_SHORT. -/
def hoEnter (d : Nat) (short : Bool) (s : State) : State :=
  let v := s.dpll_ d
  let w := hoSum (8000 * s.hoWin d) v.hist
  let mean := fun (x dflt : Int) => if w.n = 0 then dflt else roundDiv x w.n
  let sh := short || decide (w.n < 8000 * s.hoWin d) || !s.flag (F.HO_CTRL_MODEL_OK d)
  let k := fun (a : Nat) => if sh then 0 else s.srv a
  let m : HoModel := { y := mean w.y v.y, age := k (Reg.HO_AGE d), kc := k (Reg.HO_KC d), kd := k (Reg.HO_KD d),
                       tc := mean w.tc s.xtalTemp, td := mean w.td s.dieMean }
  let pe := if v.pe.length = 0 then 0 else v.pe.foldl (· + ·) 0 * teUnit / v.pe.length
  let v' := { v with model := m, held := none, ho := 0, te := s.rv (Reg.HO_TE0 d) * 1000 * teUnit + pe, y := hoFreq m 0 s.xtalTemp s.dieMean,
                     slew := 0, step := none, lockT := 0, unlockT := 0, whole := 0 }
  let s1 := ((s.setDpll d v').setQuant (Reg.HO_Y_AVG d) 2 (unsigned 64 m.y)).setFlag (F.DPLL_STATUS_HO_SHORT d) sh
  let s2 := stepPend d none (s1.setFlag (F.DPLL_STATUS_MODEL_VALID d) (!sh))
  dpllTo d 3 (showEst d (s2.setFld (F.DPLL_STATUS_REF d) 0x1f))

/-- The detector takes the sample of reference `i` in force; what it reads is `det`, the rest of the offset is built out. -/
def detStart (d i : Nat) (bo det : Int) (s : State) : State :=
  s.setDpll d { s.dpll_ d with bo := bo, det := det, smp := s.refStamp (dpllTe d) i, gap := 0, rebase := false, relock := false }

/-- An offset on a return or a slewed first alignment (R145). -/
def dpllReturn (d i : Nat) (delta : Int) (s : State) : State :=
  if s.flag (F.DPLL_CFG_JUMP_POL d) || s.fld (F.DPLL_JUMP_MAX_SLEW d) * 10 ^ 6 < delta.natAbs then
    stepPend d (some delta) (detStart d i delta 0 (s.setDpll d { s.dpll_ d with slew := 0 }))
  else detStart d i 0 delta (s.setDpll d { s.dpll_ d with slew := 8 * delta })

/-- Entry to ACQUIRING for reference `i` (R137 rows 7 and 12, R144, R145): the offset is measured and treated by kind and policy; the
estimate, the duration and the rung term are cleared, and for DPLL0 so is RESTORED. The integrator starts at the frequency in force. -/
def acqEnter (d i : Nat) (s : State) : State :=
  let first := s.dpllState d == 0
  let delta := s.dpllDelta d i
  let v := { s.dpll_ d with lockT := 0, unlockT := 0, ho := 0, te := 0, rung := 0, held := none, step := none, whole := 0, ival := 0,
                            integ := (s.dpll_ d).y * 2 ^ 64, slew := 0 }
  let s0 := (showEst d (s.setDpll d v)).setFld (F.DPLL_STATUS_REF d) i
  let s1 := stepPend d none (((s0.setFlag (F.DPLL_STATUS_HO_SHORT d) false).setFlag (F.DPLL_STATUS_HO_FORCED d) false).setFlag (F.DPLL_STATUS_TB_COLD d) false)
  let s2 := if s.refKind i = 0 then detStart d i delta 0 s1
    else if first && s.flag (F.DPLL_CFG_INIT_STEP d) then
      let s3 := detStart d i delta 0 s1
      s3.setDpll d { s3.dpll_ d with step := some delta }
    else dpllReturn d i delta s1
  dpllTo d 1 (if d = 0 then s2.setFlag F.MTC_STATUS_RESTORED false else s2)

/-- FREERUN by EN = 0 or RESET: history and estimate cleared, and the learned model too by RESET (R137 rows 1 and 4). -/
def freerun (d : Nat) (model : Bool) (s : State) : State :=
  let v := s.dpll_ d
  let s1 := showEst d (s.setDpll d { DpllPart.reset with cmd := v.cmd, rung := v.rung, ticked := v.ticked })
  let s2 := if model then
      ((((s1.setQuant (Reg.HO_Y_AVG d) 2 0).setRv (Reg.HO_AGE d) 0).setRv (Reg.HO_KC d) 0).setRv (Reg.HO_KD d) 0).setRv (Reg.HO_CTRL d) 0
    else s1
  let s3 := (stepPend d none s2).setRv (Reg.DPLL_PHERR d) 0
  let keep := s3.fld (F.DPLL_STATUS_STATE d) + (if s3.flag (F.DPLL_STATUS_CFG_CONFLICT d) then 2 ^ 10 else 0) + 0x1f * 2 ^ 16
  dpllTo d 0 (s3.setRv (Reg.DPLL_STATUS d) keep)

/-- The estimate grows by the `n` units of 125 µs of a lap in HOLDOVER or LOST (R141). -/
def estTick (d n : Nat) (s : State) : State :=
  let v := s.dpll_ d
  let cold := !s.flag F.TB_STATUS_TB_WARM
  let uy := if cold then 5629500 else s.rv (Reg.HO_UNC_Y d)
  let dt := (s.dieMean - v.model.td).natAbs
  let inc := 10000 * (uy * 691200000 * 256 + s.rv (Reg.HO_UNC_A d) * v.ho * 256 + s.rv (Reg.HO_UNC_K d) * dt * 691200000)
  showEst d ((s.setDpll d { v with ho := v.ho + n, te := v.te + n * inc }).setFlag (F.DPLL_STATUS_TB_COLD d) cold)

/-- A steering word is clamped to the pull range (R130). -/
def pullClamp (d : Nat) (y : Int) : Int :=
  let lim : Int := (if d = 0 then 50 else 200) * 2 ^ 48 / 10 ^ 6
  max (-lim) (min lim y)

/-- The tick writes its steering word: to APLL0 and the MTC increment for DPLL0, to its target for the others (R129, R130, R152). -/
def steerTick (d : Nat) (y : Int) (s : State) : State :=
  let w := pullClamp d y
  let v := s.dpll_ d
  let s1 := ((s.setDpll d { v with y := w, wrote := true }).setFlag (F.DPLL_STATUS_PULL_LIM d) (w != y)).setQuant (Reg.DPLL_FREQ d) 2 (unsigned 64 w)
  let te := dpllTe d
  let s2 := match s1.dpllPort d with
    | some k => if s1.flag (F.DPLL_STATUS_CFG_CONFLICT d) then s1 else steerWrite k te w s1
    | none => s1
  if d = 0 then steerWrite 4 0 (0x20000000000 + (w + 64) / 128) s2 else s2

/-- The output period of the lowest-numbered enabled output of the APLL that DPLL `d` steers, in 2⁻⁴⁰ ns; 0 where there is none (R193). -/
def State.relockPeriod (s : State) (d : Nat) : Nat :=
  match s.dpllPort d with
  | some a => match (List.range 16).find? (fun o => s.flag (F.OUT_CFG_EN o) && (s.outp o).grp == a) with
    | some o => s.rv (Reg.OUT_DIV_ACT o) % 2 ^ 24 * 2 ^ 88 * 40 / s.vcoNom a
    | none => 0
  | none => 0

/-- A new sample of reference `i` (R133): after a STEP it is taken into build-out (R147); after a relock of the APLL it is taken into build-out
for FREQ, and folded into the output period and slewed for PHASE and TIME (R193); after a SET the whole seconds are added to it and treated
as on a return (R157). -/
def detSample (d i : Nat) (s : State) : State :=
  let v := s.dpll_ d
  let raw := s.refDelta (dpllTe d) d i (v.det + v.bo)
  let s1 := s.setDpll d { v with smp := s.refStamp (dpllTe d) i, ival := v.gap, gap := 0, rebase := false, relock := false, whole := 0 }
  let put := fun (bo det slew : Int) => s1.setDpll d { s1.dpll_ d with bo := bo, det := det, slew := slew }
  if v.rebase then put raw 0 v.slew
  else if v.relock then
    if s.refKind i = 0 then put raw 0 v.slew
    else
      let p := s.relockPeriod d
      let x := if p = 0 then raw - v.bo else roundDiv (foldInto (psToMtc (raw - v.bo)) p * 1000) (2 ^ 40)
      put (raw - x) x (8 * x)
  else if v.whole = 0 then put v.bo (raw - v.bo) v.slew
  else dpllReturn d i (s.dpllDelta d i + v.whole * 10 ^ 12) s1

/-- The detector at a tick of `n` units of 125 µs takes a new sample, if one has come (R133). -/
def detTake (d i n : Nat) (s : State) : State :=
  let s0 := s.setDpll d { s.dpll_ d with gap := (s.dpll_ d).gap + n }
  let st := s0.refStamp (dpllTe d) i
  if st.isSome && st != (s0.dpll_ d).smp then detSample d i s0 else s0

/-- The remaining slew moves by PSL, and the phase error is the detector's output less what is still to be slewed (R125, R126, R137). -/
def slewTick (d n : Nat) (s : State) : State :=
  let v := s.dpll_ d
  let psl : Int := max 1 (s.fld (F.SEL_CFG_PSL d)) * n
  let sl := if 0 ≤ v.slew then max 0 (v.slew - psl) else min 0 (v.slew + psl)
  (s.setDpll d { v with slew := sl }).setRv (Reg.DPLL_PHERR d) (unsigned 32 (clampS 32 (v.det - roundDiv sl 8)))

/-- The phase error at the last tick, ps. -/
def State.phErr (s : State) (d : Nat) : Int := s.srv (Reg.DPLL_PHERR d)

/-- A tick of `n` units of 125 µs spent in LOCKED enters the running means (R140, R141). -/
def lockedSum (d n : Nat) (s : State) : State :=
  let v := s.dpll_ d
  let e : HoSec := ⟨v.y * n, s.xtalTemp * n, s.dieMean * n, n⟩
  s.setDpll d { v with hist := (e :: v.hist).take (8000 * 86400), pe := ((s.phErr d).natAbs :: v.pe).take (8000 / n) }

/-- The bandwidth code for a tick (R132, R133): codes above 60 act as 60, and a slow reference limits it to 30; in LOCKED it moves one code
per tick (row 9). -/
def bwTick (d : Nat) (slow : Bool) (s : State) : State :=
  let v := s.dpll_ d
  let acq := s.dpllState d == 1
  let code := min 60 (if acq then s.fld (F.DPLL_BW_ACQ_BW_CODE d) else s.fld (F.DPLL_BW_BW_CODE d))
  let want := if slow then min 30 code else code
  let bw := if acq then want else if v.bw < want then v.bw + 1 else if want < v.bw then v.bw - 1 else v.bw
  (s.setDpll d { v with bw := if slow then min 30 bw else bw }).setFlag (F.DPLL_STATUS_BW_CLAMPED d) (slow && 30 < code)

/-- DAMP; 0 acts as 1 (R132). -/
def State.damp (s : State) (d : Nat) : Nat := max 1 (s.fld (F.DPLL_BW_DAMP d))

/-- The proportional-integral filter at a tick (R126, R132, R133): the integral term at a new sample only; the switch slew, of which `moved`
1/8 ps in `n` units of 125 µs is ns/s, and the proportional term together are held to PSL. The result is the steering offset. -/
def loopTick (d n : Nat) (new : Bool) (moved : Int) (s : State) : Int × State :=
  let v := s.dpll_ d
  let pe := s.phErr d
  let damp := s.damp d
  let integ := if new then v.integ - Config.loopKi v.bw damp v.ival * pe else v.integ
  let lim : Int := max 1 (s.fld (F.SEL_CFG_PSL d)) * 2 ^ 48 / 10 ^ 9
  let corr := roundDiv (Config.loopKp v.bw damp * pe) (2 ^ 64) + roundDiv (moved * 2 ^ 48) (n * 10 ^ 9)
  (roundDiv integ (2 ^ 64) - max (-lim) (min lim corr), s.setDpll d { v with integ := integ })

/-- Rows 9 and 11 of R137: the lock and unlock timers. -/
def lockRows (d n : Nat) (s : State) : State :=
  let v := s.dpll_ d
  let pe := (s.phErr d).natAbs
  if s.dpllState d = 1 then
    if v.slew = 0 && !s.flag (F.DPLL_STATUS_STEP_WAIT d) && v.step.isNone && pe ≤ s.lockThr d then
      if 8000 * max 1 (s.fld (F.DPLL_LOCK_LOCK_S d)) ≤ v.lockT + n then dpllTo d 2 (s.setDpll d { v with lockT := 0, unlockT := 0 })
      else s.setDpll d { v with lockT := v.lockT + n }
    else s.setDpll d { v with lockT := 0 }
  else if s.dpllState d = 2 then
    if 4 * s.lockThr d < pe then
      if 8000 ≤ v.unlockT + n then dpllTo d 1 (s.setDpll d { v with unlockT := 0, lockT := 0 })
      else s.setDpll d { v with unlockT := v.unlockT + n }
    else s.setDpll d { v with unlockT := 0 }
  else s

/-- A tick that follows reference `i` in ACQUIRING or LOCKED: the loop, its timers and its word. While `i` is in HOLDOFF the frequency of the
integrator is held (R139). -/
def followTick (d i : Nat) (s : State) : State :=
  let n := s.lapLen
  let s0 := s.setFld (F.DPLL_STATUS_REF d) i
  if s0.refState i = 4 then steerTick d (roundDiv (s0.dpll_ d).integ (2 ^ 64)) s0
  else
    let a := detTake d i n s0
    let s1 := bwTick d (s0.refSlow d i) (slewTick d n a)
    let l := loopTick d n ((s1.dpll_ d).gap == 0) ((a.dpll_ d).slew - (s1.dpll_ d).slew) s1
    let s2 := lockRows d n (steerTick d l.1 l.2)
    let s3 := if s2.dpllState d = 2 then lockedSum d n s2 else s2
    if s3.fld (F.SEL_STATUS_STATE d) = 2 then s3.showSlew d (s3.dpll_ d).slew else s3.showSlew d 0

/-- The limit on estimated error or on duration is reached (row 13). -/
def State.hoLimit (s : State) (d : Nat) : Bool :=
  let v := s.dpll_ d
  let te := s.rv (Reg.DPLL_LOST_TE d)
  let du := s.rv (Reg.DPLL_LOST_S d)
  (te != 0 && te * 1000 * teUnit < v.te) || (du != 0 && du ≤ v.ho / 8000)

/-- A tick of the model in HOLDOVER or LOST (R140, R141), and row 13, which a forced holdover (row 6) does not reach. -/
def modelTick (d : Nat) (s : State) : State :=
  let s1 := estTick d s.lapLen s
  let v := s1.dpll_ d
  let s2 := steerTick d (hoFreq v.model v.ho s1.xtalTemp s1.dieMean) s1
  if s2.dpllState d = 3 && !s2.flag (F.DPLL_STATUS_HO_FORCED d) && s2.hoLimit d then dpllTo d 4 s2 else s2

/-- The servo resumes: 0.3 ppb of the whole seconds absent enter the estimate, and SERVO_ABSENT clears (R143). -/
def servoResume (d : Nat) (s : State) : State :=
  if !s.flag (F.DPLL_STATUS_SERVO_ABSENT d) then s else
  let v := s.dpll_ d
  let te := if 3 ≤ s.dpllState d then v.te + v.absent / 8000 * 300 * teUnit else v.te
  showEst d ((s.setDpll d { v with te := te, absent := 0 }).setFlag (F.DPLL_STATUS_SERVO_ABSENT d) false)

/-- The selection routine is absent for a DPLL on TE1 while TE0 does not run; SEL_ABSENT clears with the next selection result (R143). -/
def selAbsent (d : Nat) (s : State) : State :=
  if d < 4 then s else
  let gone := !s.teRuns 0
  let s1 := if gone then s.setFlag (F.DPLL_STATUS_SEL_ABSENT d) true else s
  if gone && (s.dpllState d == 1 || s.dpllState d == 2) then hoEnter d (s.dpllState d == 1) s1 else s1

/-- The rows of R137 that the engine takes at a tick, in order. -/
def dpllRows (d : Nat) (cmd : Option Nat) (s : State) : State :=
  let st := s.dpllState d
  let ho := fun (short : Bool) (s : State) =>
    let s1 := hoEnter d short s
    steerTick d (s1.dpll_ d).y s1
  if !s.flag (F.DPLL_CFG_EN d) then steerTick d 0 (freerun d false s)
  else if cmd = some 2 then steerTick d 0 (freerun d true s)
  else if cmd = some 3 && (st == 1 || st == 2) then (ho false s).setFlag (F.DPLL_STATUS_HO_FORCED d) true
  else
    let s := if cmd = some 4 then s.setFlag (F.DPLL_STATUS_HO_FORCED d) false else s
    if s.flag (F.DPLL_STATUS_HO_FORCED d) && st == 3 then modelTick d s
    else match st, s.dpllRef d with
      | 0, some i => followTick d i (acqEnter d i s)
      | 0, none => steerTick d 0 s
      | 1, none => ho true s
      | 2, none => ho false s
      | 1, some i => followTick d i s
      | 2, some i => followTick d i s
      | _, some i =>
        if s.flag (F.DPLL_STATUS_HO_FORCED d) then modelTick d s
        else followTick d i (acqEnter d i s)
      | _, none => modelTick d s

/-- One tick of DPLL `d` (R137), once in a lap (R134): the command that the boundary handed over, the absences and the rows, on the register
values in force. -/
def dpllTick (d : Nat) (s : State) : State :=
  if (s.dpll_ d).ticked then s else
  let s0 := stockReads (dpllTe d) s
  let cmd := (s0.dpll_ d).now
  onHeld (fun s => tsTrack (dpllRows d cmd (selAbsent d (servoResume d s)))) (s0.setDpll d { s0.dpll_ d with now := none, ticked := true })

/-! ### Commands (R147, R148) -/

/-- The command is refused in the present state (R148). -/
def State.cmdRefused (s : State) (d code : Nat) : Bool :=
  let st := s.dpllState d
  match code with
  | 1 => !((st == 1 || st == 2) && (s.quant (Reg.DPLL_STEP_PEND d) 2 != 0 || (s.dpll_ d).slew != 0))
  | 2 => false
  | 3 => !(st == 1 || st == 2)
  | 4 => !s.flag (F.DPLL_STATUS_HO_FORCED d)
  | _ => true

/-- A command of DPLL_CMD reaches the TE (R148): one that still waits is replaced and counted, even where the new one is refused. -/
def landDpllCmd (d code : Nat) (s : State) : State :=
  let v := s.dpll_ d
  let s1 := if v.cmd.isSome then (s.bump16 (Reg.DPLL_CMD_REF d)).setDpll d { v with cmd := none } else s
  if s.cmdRefused d code then s1.bump16 (Reg.DPLL_CMD_REF d)
  else s1.setDpll d { v with cmd := some code }

/-- The time that DPLL `d` steers moves by −`ps`: the MTC, or the timescale it steers (R147, R156). -/
def dpllStep (d : Nat) (ps : Int) (s : State) : State :=
  if d = 0 then mtcStep (-(psToMtc ps)) s
  else match s.dpllPort d with
    | some k =>
      if 16 ≤ k && !s.flag (F.DPLL_STATUS_CFG_CONFLICT d) && (s.tsp (k - 16)).run then
        (tsStep (k - 16) (-(psToMtc ps) * 2 ^ 48) s).bump (Reg.TS_EVT (k - 16))
      else s
    | none => s

/-- The phase error becomes zero and the detector is rebased at the next sample; a remaining slew is abandoned (R147). -/
def detRebase (d : Nat) (s : State) : State :=
  (s.setDpll d { s.dpll_ d with slew := 0, det := 0, rebase := true, step := none }).setRv (Reg.DPLL_PHERR d) 0

/-- The steps of a lap boundary: a STEP command, or an initial alignment (R144, R147). -/
def stepApply (d : Nat) (s : State) : State :=
  let v := s.dpll_ d
  if v.cmd = some 1 then
    let ps := signed 64 (s.quant (Reg.DPLL_STEP_PEND d) 2)
    stepPend d none (dpllStep d ps (detRebase d (s.setDpll d { v with cmd := none })))
  else match v.step with
    | some ps => dpllStep d ps (detRebase d s)
    | none => s

/-- The other commands are handed to the tick that follows the boundary (R148). -/
def cmdApply (d : Nat) (s : State) : State :=
  let v := s.dpll_ d
  match v.cmd with
  | some 1 => s
  | some c => s.setDpll d { v with cmd := none, now := some c }
  | none => s

/-- The word that DPLL `d`'s steering port holds; a DPLL that steers nothing holds its own. -/
def State.heldWord (s : State) (d : Nat) : Int :=
  match s.dpllPort d with
  | some k => if s.dpllConflict d then (s.dpll_ d).y else (s.port k).new
  | none => (s.dpll_ d).y

/-- The itinerary that runs has no loop code: every DPLL reads FREERUN (R150). -/
def noLoops (s : State) : State :=
  if s.rv Reg.DPLL_VER != 0 then s
  else forEach (List.range 8) (fun s d => if s.dpllState d = 0 then s else freerun d false s) s

/-- The hardware rows 2 and 3 of R137 at a lap boundary, with CFG_CONFLICT (R129, R143). The time since the entry to holdover counts on. -/
def hwRows (d : Nat) (s : State) : State :=
  let v := s.dpll_ d
  let s0 := s.setFlag (F.DPLL_STATUS_CFG_CONFLICT d) (s.dpllConflict d)
  if v.wrote then s0.setDpll d { v with wrote := false, ticked := false }
  else
    let st := s.dpllState d
    let w := s.heldWord d
    let s1 := s0.setFlag (F.DPLL_STATUS_SERVO_ABSENT d) true
    let s2 := s1.setDpll d { v with absent := v.absent + 1, held := some w, y := w, ticked := false, ho := if 3 ≤ st then v.ho + 1 else 0 }
    let s3 := if st == 1 || st == 2 then
        let m : HoModel := { HoModel.zero with y := w, tc := s.xtalTemp, td := s.dieMean }
        dpllTo d 3 ((s2.setDpll d { s2.dpll_ d with model := m }).setFld (F.DPLL_STATUS_REF d) 0x1f)
      else s2
    let lim := s.rv (Reg.DPLL_LOST_S d)
    let s4 := s3.setRv (Reg.DPLL_HO_DUR d) (min ((s3.dpll_ d).ho / 8000) (2 ^ 32 - 1))
    if s4.dpllState d = 3 && lim != 0 && lim ≤ (v.absent + 1) / 8000 then dpllTo d 4 s4 else s4

/-- A write to DPLL_CFG: STEER and APLL of DPLL0 are fixed (R129, R150). -/
def landDpllCfg (d : Nat) (v : Word) (s : State) : State :=
  if d = 0 then s.setReg (Reg.DPLL_CFG 0) ((v &&& 0x3f01) ||| 2) else s.setReg (Reg.DPLL_CFG d) (v &&& 0x3f37)

/-! ### The commands -/

/-- DPLL `d`'s loop code runs: its engine issues and its itinerary has the loop (R134, R150). -/
def State.dpllRuns (s : State) (d : Nat) : Bool := s.teRuns (dpllTe d) && s.rv Reg.DPLL_VER != 0

/-- DPLL_TICK (R137): in a lap of engine `m`, which runs the loops of its own DPLLs alone (R134). -/
def execDpllTick (d : Fin 8) (m : Fin 2) (s : State) : Host.Outcome State Fault Refusal :=
  fin (if m.val = dpllTe d.val ∧ s.dpllRuns d.val = true then dpllTick d.val s else s)

/-- No earlier row of R137 is due at this tick: DPLL `d` is enabled, and no RESET or HOLD command waits for its rows. -/
def State.rowsPass (s : State) (d : Nat) : Bool :=
  s.dpllRuns d && s.flag (F.DPLL_CFG_EN d) && (s.dpll_ d).now != some 2 && (s.dpll_ d).now != some 3

/-- DPLL_LOCK (R137 row 9): the phase error has stayed within LOCK_THR for LOCK_S. -/
def execDpllLock (d : Fin 8) (s : State) : Host.Outcome State Fault Refusal :=
  fin (if s.rowsPass d.val && s.dpllState d.val == 1 && (s.dpllRef d.val).isSome && decide ((s.dpll_ d.val).slew = 0)
      && !s.flag (F.DPLL_STATUS_STEP_WAIT d.val) && (s.phErr d.val).natAbs ≤ s.lockThr d.val then
    tsTrack (dpllTo d.val 2 (s.setDpll d.val { s.dpll_ d.val with lockT := 0, unlockT := 0 })) else s)

/-- DPLL_UNLOCK (R137 row 11): the phase error has exceeded 4 × LOCK_THR for 1 s. -/
def execDpllUnlock (d : Fin 8) (s : State) : Host.Outcome State Fault Refusal :=
  fin (if s.rowsPass d.val && s.dpllState d.val == 2 && (s.dpllRef d.val).isSome && 4 * s.lockThr d.val < (s.phErr d.val).natAbs then
    tsTrack (dpllTo d.val 1 (s.setDpll d.val { s.dpll_ d.val with lockT := 0, unlockT := 0 })) else s)

/-- HOLDOVER_LIMIT (R137 row 13); a reference selected at the same tick wins, and the DPLL goes to ACQUIRING (R26, R138). -/
def execHoldoverLimit (d : Fin 8) (s : State) : Host.Outcome State Fault Refusal :=
  fin (if s.rowsPass d.val && s.dpllState d.val == 3 && !s.flag (F.DPLL_STATUS_HO_FORCED d.val) && s.hoLimit d.val then
    (match s.dpllRef d.val with
      | some i => tsTrack (acqEnter d.val i s)
      | none => dpllTo d.val 4 s)
  else s)

/-- ABSENCE_LIMIT (R137 row 3): the absence timer has reached LOST_S. -/
def execAbsenceLimit (d : Fin 8) (s : State) : Host.Outcome State Fault Refusal :=
  fin (if s.tclkOn && s.dpllState d.val == 3 && s.flag (F.DPLL_STATUS_SERVO_ABSENT d.val) && s.rv (Reg.DPLL_LOST_S d.val) != 0 then
    dpllTo d.val 4 s else s)

/-- DPLL_STEP (R147, R148). -/
def execDpllStep (d : Fin 8) (s : State) : Host.Outcome State Fault Refusal := fin (whenOn 4 (landDpllCmd d.val 1) s)

/-- DPLL_RESET (R137 row 4). -/
def execDpllReset (d : Fin 8) (s : State) : Host.Outcome State Fault Refusal := fin (whenOn 4 (landDpllCmd d.val 2) s)

/-- DPLL_HOLD (R137 row 5). -/
def execDpllHold (d : Fin 8) (s : State) : Host.Outcome State Fault Refusal := fin (whenOn 4 (landDpllCmd d.val 3) s)

/-- DPLL_RELEASE (R137 row 6). -/
def execDpllRelease (d : Fin 8) (s : State) : Host.Outcome State Fault Refusal := fin (whenOn 4 (landDpllCmd d.val 4) s)

end Sys2Proof.Machine
end

