-- ==== Sys2Proof/Machine/Synth.lean ====
section
/-! DEFINITION. Synthesizers and outputs (R170–R203): nominal frequencies, the APLL state machine, dividers, phase steppers,
relock policies. Frequencies are in units of 25 MHz × 2⁻⁴⁸, so that f_PFD × N is exact. -/

namespace Sys2Proof.Machine

/-- The nominal frequency that the registers of APLL `a` give. -/
def State.apllReg (s : State) (a : Nat) : Nat := pfdUnits (s.fld (F.APLL_CFG_PFDSEL a)) * nOfFreq (s.quant (Reg.APLL_FREQ a) 3)

/-- A nominal frequency is legal from 9.6 to 11.2 GHz (R172). -/
def freqLegal (q : Nat) : Bool := 384 * 2 ^ 48 ≤ q && q ≤ 448 * 2 ^ 48

/-- The rung, or the rung a step leads to, allows APLL `a`: APLL0 in L0 only, the others in L0 and L1 (R201). -/
def State.apllAllowed (s : State) (a : Nat) : Bool := !s.inReset && (s.lad.step.getD s.rung) ≤ (if a = 0 then 0 else 1)

/-- |a − b| is at most 1,000 ppm of b (R177, R178). -/
def within1000ppm (a b : Nat) : Bool := ((a : Int) - b).natAbs * 1000 ≤ b

/-- A refused write or command of APLL `a` (R172, R185). -/
def apllRefuse (a : Nat) (s : State) : State := (s.bump16 (Reg.APLL_REF a)).bump (Reg.APLL_EVT a)

/-- The outputs of APLL `a`'s group. -/
def State.groupOuts (s : State) (a : Nat) : List Nat := (List.range 16).filter (fun o => (s.outp o).grp == a)

/-- The outputs that L1 keeps where they run: the eight lowest-numbered with L1_KEEP = 1 (R201). -/
def State.keptOuts (s : State) : List Nat := ((List.range 16).filter (fun o => s.flag (F.OUT_CFG_L1_KEEP o))).take 8

/-- L1_DROPPED of output `o` (R203): L1_KEEP is set, and it is beyond the eight. -/
def State.l1Dropped (s : State) (o : Nat) : Bool := s.flag (F.OUT_CFG_L1_KEEP o) && !s.keptOuts.contains o

/-- Output `o` may run in the present rung, or in that a step leads to: in L1 only those that it keeps (R201). -/
def State.outRuns (s : State) (o : Nat) : Bool := s.lad.step.getD s.rung == 0 || s.keptOuts.contains o

/-- An output is to complete its high phase and stop at low level (R181); one that is low waits no more. -/
def outStop (o : Nat) (s : State) : State :=
  s.setOut o { s.outp o with stopping := s.running o, waiting := false, hoPend := false }

/-- A HANDOVER output falls back to SQUELCH: it stops at low level, and restarts as a SQUELCH output would (R192). -/
def hoFail (o : Nat) (s : State) : State :=
  let s1 := (s.setFlag (F.OUT_STATUS_HO_FAILED o) true).bump (Reg.APLL_EVT (s.outp o).grp)
  s1.setOut o { s1.outp o with stopping := s1.running o, hoPend := false }

/-- The outputs handed over to APLL `a`, or about to be, fall back when it leaves LOCKED and SLEWING (R192). -/
def hoOrphans (a : Nat) (s : State) : State :=
  forEach (List.range 16) (fun s o =>
    if (s.flag (F.OUT_STATUS_HANDED_OVER o) || (s.outp o).hoPend) && s.fld (F.OUT_HO_HO_APLL o) == a then hoFail o s else s) s

/-- A relock starts: WAIT_LOW, and each running output of the group follows its policy (R180, R190, R192). -/
def apllWaitLow (a : Nat) (s : State) : State :=
  let s1 := (s.setFld (F.APLL_STATUS_STATE a) 1).bump (Reg.APLL_EVT a)
  let s2 := forEach (s1.groupOuts a) (fun s o =>
    if !s.running o || !s.flag (F.OUT_CFG_EN o) || s.flag (F.OUT_STATUS_HANDED_OVER o) then s
    else if s.flag (F.OUT_CFG_POLICY o) then
      let h := s.fld (F.OUT_HO_HO_APLL o)
      if h = a || s.apllState h < 3 then hoFail o s else s.setOut o { s.outp o with hoPend := true }
    else outStop o s) s1
  hoOrphans a s2

/-- FCLK starts with the lock of APLL0: PC0–PC3 are loaded afresh, and the hamper is initialised unless L1 has kept it (R154, R266). -/
def fclkStart (s : State) : State :=
  let k := s.fab.keep
  let s0 := ((s.setFlag F.HAMPER_STATUS_INIT (!k)).setFlag F.HAMPER_STATUS_READY k).setFlag F.HAMPER_STATUS_RETAINED k
  let s1 := (((s0.setFlag F.FAB_STATUS_FCLK_RUN true).milestone 5).setQuant Reg.FAB_CYCLE 2 0)
  let s1 := { s1 with fab := { s1.fab with frac := 0, keep := false, mem := if k then s1.fab.mem else [] } }
  forEach (List.range 4) (fun s p => ((s.setPc p .reset).setFlag (F.PC_TRACK_SYNC p) false).setFlag (F.PORT_STATUS_PC_SYNC p) false) s1

/-- An APLL turns off: its group's outputs stop at low level, and with APLL0 goes FCLK (R180). -/
def apllOff (a : Nat) (s : State) : State :=
  if s.apllState a = 0 then s else
  let s1 := forEach (s.groupOuts a) (fun s o => outStop o s) (s.setFld (F.APLL_STATUS_STATE a) 0)
  let s2 := hoOrphans a s1
  if a = 0 then s2.setFlag F.FAB_STATUS_FCLK_RUN false else s2

/-- An enabled APLL that its rung allows leaves OFF as for a relock (R180). -/
def apllWake (a : Nat) (s : State) : State :=
  if s.flag (F.APLL_CFG_EN a) && s.apllAllowed a && s.apllState a == 0 then
    let s1 := apllWaitLow a s
    if s1.flag ⟨Reg.BOOT_STATUS, 4, 1⟩ || s1.flag ⟨Reg.BOOT_STATUS, 8, 1⟩ then s1 else s1.setFlag ⟨Reg.BOOT_STATUS, 9, 1⟩ true
  else s

/-- Band searches are released: TB_WARM has been reached with TB_CTRL locked, or COLD_GO was accepted (R520, R521). -/
def State.bandGate (s : State) : Bool :=
  (s.tbLocked && (s.flag F.TB_STATUS_TB_WARM || s.flag ⟨Reg.BOOT_STATUS, 4, 1⟩)) || s.flag ⟨Reg.BOOT_STATUS, 8, 1⟩

/-- The band search starts with the nominal frequency that the registers give (R175, R180). -/
def bandSearch (a : Nat) (s : State) : State :=
  let n := nOfFreq (s.quant (Reg.APLL_FREQ a) 3)
  let p := s.fld (F.APLL_CFG_PFDSEL a)
  let s1 := (s.setApll a { s.apll a with nom := n, pfd := p }).setFld (F.APLL_STATUS_STATE a) 2
  s1.setFlag ⟨Reg.BOOT_STATUS, 9, 1⟩ false

/-- A nominal frequency write of APLL `a` (R172, R174, R180). -/
def landApllFreq (a v : Nat) (s : State) : State :=
  if a = 0 then s else
  let q := pfdUnits (s.fld (F.APLL_CFG_PFDSEL a)) * nOfFreq v
  if !freqLegal q then apllRefuse a s
  else
    let s1 := s.setQuant (Reg.APLL_FREQ a) 3 (v % 2 ^ 48 + v / 2 ^ 80 % 2 ^ 10 * 2 ^ 80)
    match s.apllState a with
    | 0 => s1.setFlag (F.APLL_STATUS_FREQ_PEND a) true
    | 1 => s1
    | 2 => s1.setFlag (F.APLL_STATUS_FREQ_PEND a) true
    | _ =>
      let s2 := s1.setApll a { s1.apll a with nom := nOfFreq v }
      if within1000ppm q (s.apll a).searched then s2.setFld (F.APLL_STATUS_STATE a) 4 else apllWaitLow a s2

/-- A write to APLL_CFG: EN and PFDSEL (R174, R180). -/
def landApllCfg (a : Nat) (v : Word) (s : State) : State :=
  if a = 0 then s else
  let s1 := s.setReg (Reg.APLL_CFG a) (v &&& 7)
  if !s1.flag (F.APLL_CFG_EN a) then apllOff a s1
  else if s.apllState a = 0 then apllWake a s1
  else if 3 ≤ s.apllState a && pfdUnits (s1.fld (F.APLL_CFG_PFDSEL a)) != pfdUnits (s.apll a).pfd then apllWaitLow a s1
  else s1

/-- The frequency that a COMMIT is checked against: a staged nominal frequency, else the searched one, or the one about to be searched or
being searched (R185). -/
def State.commitFreq (s : State) (a : Nat) : Nat :=
  if s.flag (F.APLL_STATUS_FREQ_PEND a) || s.apllState a == 1 then s.apllReg a
  else if s.apllState a = 2 then s.vcoNom a
  else (s.apll a).searched

/-- The staged divider of output `o`; values below 2 act as 2. -/
def State.outDiv (s : State) (o : Nat) : Nat := max 2 (s.rv (Reg.OUT_DIV o) % 2 ^ 24)

/-- The frequency limit of output `o` in MHz by its format (R185, R199). -/
def State.outLimit (s : State) (o : Nat) : Nat :=
  if s.fld (F.OUT_CFG_FMT o) ≤ 2 then 1600 else if Config.vddioLow (o / 4) then 200 else 250

/-- A COMMIT to APLL `a` is refused (R185). -/
def State.commitRefused (s : State) (a : Nat) : Bool :=
  s.apllState a == 0 || (List.range 16).any (fun o =>
    s.flag (F.OUT_CFG_EN o) && s.fld (F.OUT_CFG_APLL o) == a && !s.flag (F.OUT_CFG_MODE o) &&
      (s.rv (Reg.ALIGN_DIV a) % s.outDiv o != 0 || s.outLimit o * s.outDiv o * 2 ^ 48 < s.commitFreq a * 25))

/-- COMMIT (R184, R185). -/
def apllCommit (a : Nat) (s : State) : State :=
  if s.commitRefused a then apllRefuse a s else s.setFlag (F.APLL_STATUS_COMMIT_PEND a) true

/-- RELOCK (R174, R180): absorbed in WAIT_LOW; without effect in OFF. -/
def apllRelock (a : Nat) (s : State) : State :=
  if a = 0 && s.rung == 0 then apllRefuse a s
  else match s.apllState a with
    | 0 => s
    | 1 => s
    | 2 => s.setFld (F.APLL_STATUS_STATE a) 2
    | _ => apllWaitLow a s

/-- The commands of APLL_CMD; reserved codes are refused (R203). -/
def landApllCmd (a : Nat) (v : Word) (s : State) : State :=
  match v.toNat % 16 with
  | 1 => apllCommit a s
  | 2 => apllRelock a s
  | _ => apllRefuse a s

/-- A DPLL steers APLL `a` (R129). -/
def State.apllSteered (s : State) (a : Nat) : Bool := (List.range 8).any (fun d => s.dpllPort d == some a && !s.dpllConflict d)

/-- The steering offset y of APLL `a`: zero when no DPLL steers it (R170). -/
def State.apllY (s : State) (a : Nat) : Int := if s.apllSteered a then (s.port a).cur else 0

/-- f_PFD × N × (1 + y), in units of 25 MHz × 2⁻⁹⁶ (R170). -/
def State.dcoTarget (s : State) (a : Nat) : Int := s.vcoNom a * (2 ^ 48 + s.apllY a)

/-- In `ps` the DCO moves toward its target by no more than APLL_SLOPE ppm/s of the searched frequency, and never beyond it; a slope of 0
acts as 1 (R178). -/
def dcoStep (a ps : Nat) (s : State) : State :=
  if s.apllState a < 3 then s else
  let v := s.apll a
  let lim : Int := (v.searched * 2 ^ 48 * max 1 (s.fld ⟨Reg.APLL_SLOPE a, 0, 16⟩) * ps / 10 ^ 18 : Nat)
  s.setApll a { v with dco := v.dco + max (-lim) (min lim (s.dcoTarget a - v.dco)) }

/-- An output of the group restarts after a relock: a clock at the next alignment tick, a pulse output with its next fire (R184, R195). -/
def outRestart (s : State) (o : Nat) : State :=
  if !s.flag (F.OUT_CFG_EN o) || !s.outRuns o then s
  else if s.flag (F.OUT_CFG_MODE o) then
    if s.running o && !s.flag (F.OUT_STATUS_HANDED_OVER o) then s
    else
      let s1 := s.setOut o { s.outp o with waiting := false, stopping := false, hoPend := false }
      ((s1.setFlag (F.OUT_STATUS_RUNNING o) true).setFlag (F.OUT_STATUS_HANDED_OVER o) false).bump (Reg.OUT_EVT o)
  else s.setOut o { s.outp o with waiting := true }

/-- Once APLL0 has locked on a return to L0, every other enabled APLL is searched (R177, R201). -/
def searchRest (s : State) : State :=
  if !s.syn.back then s
  else forEach [1, 2, 3] (fun s a =>
    if !s.flag (F.APLL_CFG_EN a) then s else if 3 ≤ s.apllState a then apllWaitLow a s else apllWake a s)
    { s with syn := { s.syn with back := false } }

/-- A relock leaves the phase of an APLL's outputs open (R193). -/
def phaseOpen (a : Nat) (s : State) : State :=
  let d := s.draw
  { d.2 with tm := { d.2.tm with aph := Tbl.set (fun _ => 0) d.2.tm.aph a (Tbl.get (fun _ => 0) d.2.tm.aph a + d.1) } }

/-- Lock is declared: the searched frequency is reported, and what is staged is applied (R175, R180, R181). -/
def lockDeclared (a band : Nat) (s : State) : State :=
  let v := s.apll a
  let q := pfdUnits v.pfd * v.nom
  let s1 := (s.setApll a { v with searched := q, dco := s.dcoTarget a }).setRv (Reg.APLL_VCO a) (q * 25000 / 2 ^ 48 % 2 ^ 24)
  let s2 := ((s1.setFld (F.APLL_STATUS_BAND a) band).setFld (F.APLL_STATUS_STATE a) 3).bump (Reg.APLL_EVT a)
  let s3 := phaseOpen a (forEach (s2.groupOuts a) outRestart s2)
  let s4 := (List.range 8).foldl (fun s d => if s.dpllPort d == some a then s.setDpll d { s.dpll_ d with relock := true } else s) s3
  let s5 := if a = 0 then searchRest (fclkStart s4) else s4
  let n := nOfFreq (s5.quant (Reg.APLL_FREQ a) 3)
  let pend := s5.flag (F.APLL_STATUS_FREQ_PEND a)
  let s6 := s5.setFlag (F.APLL_STATUS_FREQ_PEND a) false
  if pfdUnits (s.fld (F.APLL_CFG_PFDSEL a)) != pfdUnits v.pfd then apllWaitLow a s6
  else if pend && n != v.nom then
    if within1000ppm (s.apllReg a) q then (s6.setApll a { s6.apll a with nom := n }).setFld (F.APLL_STATUS_STATE a) 4
    else apllWaitLow a s6
  else s6

/-- A COMMIT copies the dividers of output `o`, and brings it into the group of APLL `a` that OUT_CFG names (R184, R203). -/
def outCommit (a : Nat) (s : State) (o : Nat) : State :=
  if s.fld (F.OUT_CFG_APLL o) != a then s else
  let v := s.outp o
  let joins := v.grp != a && s.flag (F.OUT_CFG_EN o) && !s.running o && s.outRuns o
  (s.setOut o { v with grp := a, waiting := v.waiting || joins }).setRv (Reg.OUT_DIV_ACT o) (s.outDiv o)

/-- An alignment tick of APLL `a`: a pending COMMIT copies, waiting outputs start, handed-over ones return (R184, R186, R190). -/
def alignTick (a : Nat) (s : State) : State :=
  let s1 := if s.flag (F.APLL_STATUS_COMMIT_PEND a) then
      let s0 := (s.setFlag (F.APLL_STATUS_COMMIT_PEND a) false).setRv (Reg.ALIGN_DIV_ACT a) (s.rv (Reg.ALIGN_DIV a))
      forEach (List.range 16) (outCommit a) s0
    else s
  forEach (s1.groupOuts a) (fun s o =>
    if (s.outp o).waiting then
      let s2 := s.setOut o { s.outp o with waiting := false, stopping := false, hoPend := false }
      ((s2.setFlag (F.OUT_STATUS_RUNNING o) true).setFlag (F.OUT_STATUS_HANDED_OVER o) false).bump (Reg.OUT_EVT o)
    else s) s1

/-- A write to OUT_CFG: an enable waits for the next alignment tick, a disable completes the high phase (R186). The APLL it names takes effect
at that APLL's next COMMIT (R203). -/
def landOutCfg (o : Nat) (v : Word) (s : State) : State :=
  let was := s.flag (F.OUT_CFG_EN o)
  let s1 := s.setReg (Reg.OUT_CFG o) (v &&& 0xff3ff)
  let en := s1.flag (F.OUT_CFG_EN o)
  let s2 := if !was && en then
      s1.setOut o { s1.outp o with waiting := decide (3 ≤ s1.apllState (s1.outp o).grp) && s1.outRuns o, stopping := false }
    else if was && !en then outStop o s1
    else s1
  showStepping o s2

def landOutPhase (o : Nat) (v : Word) (s : State) : State := showStepping o (s.setReg (Reg.OUT_PHASE o) v)

/-! ### The commands -/

/-- APLL_FREQ_WRITE (R180): the highest word of APLL_FREQ lands; `v` is the whole three-word quantity. -/
def execApllFreqWrite (a : Fin 4) (v : Nat) (s : State) : Host.Outcome State Fault Refusal := fin (whenOn 6 (landApllFreq a.val v) s)

/-- APLL_CFG_WRITE (R180). -/
def execApllCfgWrite (a : Fin 4) (v : Word) (s : State) : Host.Outcome State Fault Refusal := fin (whenOn 6 (landApllCfg a.val v) s)

/-- APLL_COMMIT (R184). -/
def execApllCommit (a : Fin 4) (s : State) : Host.Outcome State Fault Refusal := fin (whenOn 6 (apllCommit a.val) s)

/-- APLL_RELOCK (R180). -/
def execApllRelock (a : Fin 4) (s : State) : Host.Outcome State Fault Refusal := fin (whenOn 6 (apllRelock a.val) s)

/-- BAND_SEARCH_START (R175, R520): every output of the group is low or handed over, and the searches are released. -/
def execBandSearchStart (a : Fin 4) (s : State) : Host.Outcome State Fault Refusal :=
  fin (if s.apllState a.val == 1 && s.apllAllowed a.val && s.bandGate
      && (s.groupOuts a.val).all (fun o => !s.running o || s.flag (F.OUT_STATUS_HANDED_OVER o)) then bandSearch a.val s else s)

/-- VCO_RANGE_CHECK (R176): the millisecond's measured VCO frequency in Hz against f_PFD × N × (1 + y). -/
def execVcoRangeCheck (a : Fin 4) (hz : Nat) (s : State) : Host.Outcome State Fault Refusal :=
  fin (if 3 ≤ s.apllState a.val then
    let v := s.apll a.val
    let want : Int := s.dcoTarget a.val * 25000000
    let bad := decide (2 * want.natAbs < ((hz : Int) * 2 ^ 96 - want).natAbs * 1000)
    let s1 := s.setFlag (F.APLL_STATUS_VCO_RANGE a.val) bad
    if bad && !s.flag (F.APLL_STATUS_VCO_RANGE a.val) then s1.bump (Reg.APLL_EVT a.val) else s1
  else s)

/-- APLL_SLEW_DONE (R178, R180): the DCO is at its nominal target. -/
def execApllSlewDone (a : Fin 4) (s : State) : Host.Outcome State Fault Refusal :=
  fin (if s.apllState a.val == 4 && decide ((s.apll a.val).dco = s.dcoTarget a.val) then s.setFld (F.APLL_STATUS_STATE a.val) 3 else s)

/-- ALIGNMENT_TICK (R184). -/
def execAlignmentTick (a : Fin 4) (s : State) : Host.Outcome State Fault Refusal :=
  fin (if 3 ≤ s.apllState a.val then alignTick a.val s else s)

/-- OUT_CFG_WRITE (R186). -/
def execOutCfgWrite (o : Fin 16) (v : Word) (s : State) : Host.Outcome State Fault Refusal := fin (whenOn 6 (landOutCfg o.val v) s)

/-- OUTPUT_STOP (R181): the output has completed its high phase and stays low. -/
def execOutputStop (o : Fin 16) (s : State) : Host.Outcome State Fault Refusal :=
  fin (if (s.outp o.val).stopping then
    ((((s.setOut o.val { s.outp o.val with stopping := false, high := false }).setFlag (F.OUT_STATUS_RUNNING o.val) false).setFlag
      (F.OUT_STATUS_HANDED_OVER o.val) false).bump (Reg.OUT_EVT o.val)) else s)

/-- OUT_PHASE_WRITE (R188). -/
def execOutPhaseWrite (o : Fin 16) (v : Word) (s : State) : Host.Outcome State Fault Refusal := fin (whenOn 6 (landOutPhase o.val v) s)

/-- PHASE_STEP (R188): a running clock output's stepper makes one step. -/
def execPhaseStep (o : Fin 16) (s : State) : Host.Outcome State Fault Refusal :=
  fin (if s.running o.val && !s.flag (F.OUT_CFG_MODE o.val) then
    let w := s.srv (Reg.OUT_PHASE o.val)
    let c := s.srv (Reg.OUT_PHASE_ACT o.val)
    showStepping o.val (s.setRv (Reg.OUT_PHASE_ACT o.val) (unsigned 32 (if c < w then c + 1 else if w < c then c - 1 else c)))
  else s)

/-- HANDOVER_SWITCH (R190): both sources are low, and the multiplexer switches. -/
def execHandoverSwitch (o : Fin 16) (s : State) : Host.Outcome State Fault Refusal :=
  fin (if (s.outp o.val).hoPend then
    (((s.setOut o.val { s.outp o.val with hoPend := false }).setFlag (F.OUT_STATUS_HANDED_OVER o.val) true).setFlag
      (F.OUT_STATUS_HO_FAILED o.val) false).bump (Reg.OUT_EVT o.val) else s)

/-- PULSE_END (R194): the width of the latest pulse has run out. -/
def execPulseEnd (o : Fin 16) (s : State) : Host.Outcome State Fault Refusal :=
  fin (s.setOut o.val { s.outp o.val with high := false })

/-- TRIGGER_FIRE (R164–R167): F of an armed trigger lies before the next edge of its timescale, TS(n) ≤ F < TS(n + 1), or has passed (R165). -/
def execTriggerFire (i : Fin 16) (s : State) : Host.Outcome State Fault Refusal :=
  let v := s.trg i.val
  fin (if s.flag (F.TRG_STATUS_ARMED i.val) && (s.tsp v.ts).run && s.rung ≤ 3 && decide (v.f < s.tsNext v.ts) then
    trgAfter i.val (trgFire i.val s) else s)

end Sys2Proof.Machine
end

