-- ==== Sys2Proof/Machine/Fabric.lean ====
section
/-! DEFINITION. The schedule fabric (R243–R268): instance starts, beats, claims and replies, the originated share, the hamper and its
gates, samples and trigger events on their way to the engines. -/

namespace Sys2Proof.Machine

def State.eng_ (s : State) (e : Nat) : EngPart := Tbl.get (fun _ => EngPart.reset) s.eng e
def State.setEng (s : State) (e : Nat) (v : EngPart) : State := { s with eng := Tbl.set (fun _ => EngPart.reset) s.eng e v }

/-- The image of bank `b` of the store. -/
def State.img (s : State) (b : Nat) : Img := ⟨s.itin.store, b * 1048576⟩

/-- A bank runs (R340). -/
def State.itinRuns (s : State) : Bool := s.flag F.ITIN_STATUS_RUNNING
def State.runBank (s : State) : Nat := s.fld F.ITIN_STATUS_RUN_BANK

/-- II and D of the running image for the port's resolved mode; 0 where it is not served. -/
def State.iiNow (s : State) (p : Nat) : Nat := (s.pe_ p).hdr.ii.getD (s.modeIdx p) 0
def State.dNow (s : State) (p : Nat) : Nat := (s.pe_ p).hdr.d.getD (s.modeIdx p) 0

/-- The running image serves the port's resolved mode. -/
def State.served (s : State) (p : Nat) : Bool := (s.pe_ p).hdr.modes.testBit (s.modeIdx p)

/-- The fabric cycle (R268). -/
def State.cycle (s : State) : Nat := s.quant Reg.FAB_CYCLE 2

/-- PE_STATUS.LIVE follows the instances that are live, and LIVE_MAX its largest value. -/
def showLive (p : Nat) (s : State) : State :=
  let n := (s.pe_ p).insts.length
  let s1 := s.setFld (F.PE_STATUS_LIVE p) n
  if s1.fld (F.PE_STATUS_LIVE_MAX p) < n then s1.setFld (F.PE_STATUS_LIVE_MAX p) n else s1

/-- Instances whose last bundle has issued by cycle `c` end (R250). -/
def pruneInsts (p c : Nat) (s : State) : State :=
  let e := s.pe_ p
  let live := e.insts.filter (fun i => decide (c < i.stop))
  if live.length = e.insts.length then s else showLive p (s.setPe p { e with insts := live })

/-- A PE counter of 48 bits counts one. -/
def State.count48 (s : State) (a : Nat) : State := s.bump48 a 1

/-- Beats of a frame. -/
def beatsOf (l : List Byte) : Nat := (l.length + 7) / 8

/-- An instance starts with the head frame `f` (R247, R251, R279). -/
def instStart (p c : Nat) (f : RxFrame) (s : State) : State :=
  let e := s.pe_ p
  let m := s.modeIdx p
  let n := match (s.img e.bank).variant e.hdr.entry m (c % 16) with
    | some v => v.len / 32
    | none => 0
  let i : Inst :=
    { k := e.k, bank := e.bank, start := c, stop := c + n, f := e.hdr.f, fp := e.hdr.fp, frame := f, rel := 1, late := false, reply := [],
      claim := none, done := false }
  let more := decide (1 < beatsOf f.octets)
  let s1 := s.setPe p { e with
    k := e.k + 1, last := some c, gapII := e.hdr.ii.getD m 0, insts := e.insts ++ [i], cur := if more then some e.k else none }
  showLive p (s1.count48 (Reg.PE_INIT p))

/-- The reasons for which a released frame starts no instance, in their order, with their counters (R253, R330, R331, R334, R336). -/
def startBlock (p c : Nat) (s : State) : Option (State → State) :=
  let e := s.pe_ p
  let dark : State → State := fun s => s.bumpSat (Reg.DARK_FRAMES p)
  if s.wHeld 2 p then some dark
  else if !e.runs then some (if s.itinRuns then dark else id)
  else if !s.served p then some (fun s => (dark s).setFlag ⟨Reg.COMPAT p, 4, 1⟩ true)
  else
    let gap := match s.itin.arm with
      | some a => s.itin.gap.testBit p && decide (a.cs ≤ c + dcyc (s.dNow p)) && decide (c < a.cs)
      | none => false
    if gap then some (fun s => (s.bumpSat (Reg.SWAP_REFUSED p)).setFlag ⟨Reg.COMPAT p, 3, 1⟩ true)
    else match e.last with
      | some l => if c < l + e.gapII then some (fun s => s.count48 (Reg.TOO_SOON p)) else none
      | none => none

/-- Beat 0 of the head frame is released in cycle `c` (R251). -/
def beat0 (p c : Nat) (s : State) : State :=
  let e := s.pe_ p
  match e.rx with
  | [] => s
  | f :: t =>
    let s1 := pruneInsts p c (s.setPe p { e with rx := t, cur := none })
    match startBlock p c s1 with
    | some g => g s1
    | none => instStart p c f s1

/-- The instance `k` of port `p`, if it is live. -/
def State.inst? (s : State) (p k : Nat) : Option Inst := (s.pe_ p).insts.find? (fun i => i.k == k)

/-- The instance as `f` leaves it. -/
def State.modInst (s : State) (p k : Nat) (f : Inst → Inst) : State :=
  let e := s.pe_ p
  s.setPe p { e with insts := e.insts.map (fun i => if i.k = k then f i else i) }

/-- A later beat is released, or misses its gate phase: the frame is then discarded, counted, and sends GATE_LATE (R21, R251). -/
def nextBeat (p : Nat) (late : Bool) (s : State) : State :=
  match (s.pe_ p).cur with
  | none => s
  | some k =>
    if late then
      let s1 := s.modInst p k (fun i => { i with late := true })
      let s2 := s1.setPe p { s1.pe_ p with cur := none }
      (portErr p (Reg.RX_GATE_LATE p) s2).sendFault (srcPort p) kGateLate 0
    else
      let s1 := s.modInst p k (fun i => { i with rel := i.rel + 1 })
      match s1.inst? p k with
      | some i => if beatsOf i.frame.octets ≤ i.rel then s1.setPe p { s1.pe_ p with cur := none } else s1
      | none => s1.setPe p { s1.pe_ p with cur := none }

/-- The frame's last beat has been released, or it was cut or discarded (R292). -/
def Inst.complete (i : Inst) : Bool := i.late || decide (beatsOf i.frame.octets ≤ i.rel)

/-! ### Start opportunities and claims (R234–R236) -/

/-- PCn time that passes in one FCLK cycle. -/
def State.pcInc (s : State) (p : Nat) : Nat := (s.port (5 + p)).cur.toNat

/-- FCLK cycles from one opportunity to the next, as a fraction (R234). -/
def oppStep (m : Nat) : Nat × Nat := if m < 3 then (1, 1) else if m = 3 then (5, 2) else (25, 2)

/-- `n` octet times in PCn time (R237): 1/4, 5/8 or 25/4 of an FCLK cycle each. -/
def State.octs (s : State) (p n : Nat) : Nat :=
  let m := s.modeIdx p
  let i := s.pcInc p
  if m < 3 then n * i / 4 else if m = 3 then n * i * 5 / 8 else n * i * 25 / 4

/-- FCLK cycles in which the word clock of the transmit SerDes comes back to one phase: each, 5 or 25 (R234). -/
def txTurn (m : Nat) : Nat := if m < 3 then 1 else if m = 3 then 5 else 25

/-- The FCLK edges at which the word clock of port `p`'s transmitter is at the phase of PORT_TX_PHASE: a lock fixes one, `grid`, which the
first command to need it gives (R234). -/
def State.turnAt (s : State) (p grid : Nat) : State :=
  match (s.prt_ p).turn with
  | some _ => s
  | none => s.setPrt p { s.prt_ p with turn := some (grid % 25) }

/-- The timestamp point of opportunity 0, in PCn time: from the last FCLK edge at which the word clock came back to its phase by
PORT_TX_PHASE, CAL_TX of the mode and BOARD_TX (R231, R234). -/
def State.txGrid (s : State) (p : Nat) : Int :=
  let m := s.modeIdx p
  (s.pcp p).val - ((s.cycle + 25 - (s.prt_ p).turn.getD 0) % txTurn m * s.pcInc p : Nat) +
    psM (s.fld ⟨Reg.PORT_TX_PHASE p, 0, 16⟩ + s.rv (Reg.CAL_TX p m) + s.srv (Reg.BOARD_TX p))

/-- The timestamp point of opportunity `n`. -/
def State.opp (s : State) (p : Nat) (n : Int) : Int :=
  let st := oppStep (s.modeIdx p)
  s.txGrid p + n * (s.pcInc p * st.1 : Nat) / (st.2 : Nat)

/-- The last opportunity at or before `t`. -/
def State.oppBefore (s : State) (p : Nat) (t : Int) : Int :=
  let st := oppStep (s.modeIdx p)
  (t - s.txGrid p) * (st.2 : Nat) / ((max 1 (s.pcInc p) * st.1 : Nat) : Int)

/-- The opportunity nearest to `t`; an exact tie goes to the earlier one (R235). -/
def State.oppNearest (s : State) (p : Nat) (t : Int) : Int :=
  let q := s.oppBefore p t
  if t - s.opp p q ≤ s.opp p (q + 1) - t then q else q + 1

/-- The first opportunity whose timestamp point is at or after `t`. -/
def State.oppFrom (s : State) (p : Nat) (t : Int) : Int :=
  let q := s.oppBefore p t
  if s.opp p q < t then q + 1 else q

/-- The minimum gap in octets (R236). -/
def minGap (m : Nat) : Nat := if m ≤ 3 then 9 else 12

/-- A claim for target `t` by instance `k` (R235, R236): the nearest opportunity, or the first that keeps the gap to the earlier claims in
force and to the replies that instances have committed. -/
def claimFor (p k : Nat) (t : Int) (s : State) : Claim :=
  let pre : Int := s.octs p 8
  let near := s.opp p (s.oppNearest p t)
  let e := s.pe_ p
  let ends := (e.insts.filter (fun i => i.k != k)).filterMap (fun i => i.claim.map Claim.spanEnd)
    ++ e.commits.map (fun c => c.tp + s.octs p c.octets.length)
  let need := ends.foldl (fun (acc : Int) (x : Nat) => max acc ((x : Int) + s.octs p (minGap (s.modeIdx p)) + pre)) near
  let tp := if need ≤ near then near else s.opp p (s.oppFrom p need)
  let n := match s.inst? p k with
    | some i => i.frame.octets.length
    | none => 0
  { tp := tp.toNat, spanEnd := (tp + s.octs p n).toNat, moved := decide (near < tp) }

/-- TXTS (R291, R293): the claim replaces the instance's; a moved one is counted (R236). -/
def txClaim (p k : Nat) (t : Int) (s : State) : State :=
  let c := claimFor p k t s
  let s1 := s.modInst p k (fun i => { i with claim := some c })
  if c.moved then portErr p (Reg.TX_LATE_START p) s1 else s1

/-! ### Replies (R254, R259, R260, R293) -/

/-- The octets of a reply slot (R291). -/
def replyOctets (i : Inst) (n : Nat) : List Byte :=
  ((List.range ((n + 7) / 8)).flatMap (fun b => beatOctets (Tbl.get (fun _ => (0 : DWord)) i.reply b))).take n

/-- The reply as it is sent: with its FCS, or cut at the request's length with an inverted FCS (R254). -/
def replyFrame (i : Inst) (len : Nat) : List Byte × Bool :=
  let n := max 64 (min 512 len)
  let req := i.frame.octets.length
  let body := replyOctets i ((if req < n then req else n) - 4)
  let f := fcsOf body
  if req < n then (body ++ f.map (fun b => ~~~b), true) else (body ++ f, false)

/-- The length of the meeting of [a, b) and [c, d). -/
def meet (a b c d : Nat) : Nat := min b d - max a c

/-- The echo meter refuses a reply that would end at `e`: octets of committed replies in the last 1,024 FCLK exceed the replies' share
(R260). Times stand for octets, which all last alike. -/
def echoRefuses (p : Nat) (tp e : Nat) (s : State) : Bool :=
  let w := 1024 * s.pcInc p
  let total := ((0, tp, e) :: (s.pe_ p).sent).foldl (fun acc c => acc + meet (e - w) e c.2.1 c.2.2) 0
  decide ((1024 - (s.pe_ p).hdr.share) * w < total * 1024)

/-- A reservation lies over [a, b), or begins less than the minimum gap after it (R236, R259). -/
def clash (p a b : Nat) (s : State) : Bool :=
  (s.pe_ p).resv.any (fun r => 0 < meet a (b + s.octs p (minGap (s.modeIdx p))) (r.tp - s.octs p 8) (r.tp + s.octs p (r.d.len + 12)))

/-- TXGO of instance `k` with length `len` (R293): the first one decides the reply, by R259 and then R260. A claim stays in force until the
reply is committed or the instance ends (R236). -/
def txGo (p k len : Nat) (s : State) : State :=
  match s.inst? p k with
  | none => s
  | some i =>
    if i.done then s else
    let s1 := s.modInst p k (fun i => { i with done := true })
    match i.claim with
    | none => s1
    | some c =>
      let r := replyFrame i len
      let e := c.tp + s.octs p r.1.length
      if clash p (c.tp - s.octs p 8) e s then s1.count48 (Reg.CLASH_REFUSED p)
      else if echoRefuses p c.tp e s then s1.count48 (Reg.ECHO_REFUSED p)
      else
        let s2 := tmuxEvent (0x5c + p) (s1.modInst p k (fun i => { i with claim := none }))
        let q := s2.pe_ p
        s2.setPe p { q with
          commits := q.commits ++ [⟨k, i.bank, c.tp, len, r.1, r.2⟩]
          sent := (i.bank, c.tp, e) :: q.sent.filter (fun x => decide (e < x.2.2 + 2048 * s.pcInc p)) }

/-- The transmitter withholds every frame: remote fault is received, or the port is not UP (R225, R227). -/
def State.txOff (s : State) (p : Nat) : Bool := s.flag (F.PORT_STATUS_REMOTE_FAULT p) || s.portState p != 4

/-- A frame leaves port `p` at timestamp point `tp`. -/
def txFrame (p tp : Nat) (octets : List Byte) (s : State) : State :=
  ((s.emit (.frame p tp octets)).bump48 (Reg.TX_FRAMES p) 1).bump48 (Reg.TX_OCTETS p) octets.length

/-- The commit with the lowest timestamp point. -/
def firstCommit : List Commit → Option Commit
  | [] => none
  | c :: t => match firstCommit t with
    | none => some c
    | some d => if d.tp < c.tp then some d else some c

/-- R331: a new bank's reply that overlaps an old bank's, where the new D is the smaller, is not sent. -/
def swapClash (p : Nat) (c : Commit) (s : State) : Bool :=
  let e := s.pe_ p
  decide (s.dNow p < e.oldD.getD (s.modeIdx p) 0) && c.bank == e.bank
    && e.sent.any (fun x => x.1 != c.bank && 0 < meet (c.tp - s.octs p 8) (c.tp + s.octs p c.octets.length) (x.2.1 - s.octs p 8) x.2.2)

/-- The transmitter picks up a committed reply (R254). -/
def replyLeave (p : Nat) (s : State) : State :=
  let e := s.pe_ p
  match firstCommit e.commits with
  | none => s
  | some c =>
    let s1 := s.setPe p { e with commits := e.commits.erase c }
    if swapClash p c s then s1.bumpSat (Reg.SWAP_REFUSED p)
    else if s.txOff p then portErr p (Reg.TX_SUPPRESSED p) s1
    else
      let s2 := (txFrame p c.tp c.octets s1).bump48 (Reg.TX_REPLIES p) 1
      if c.clipped then (s2.bumpSat (Reg.REPLY_CLIPPED p)).bump (Reg.PE_EVT p) else s2

/-! ### The originated share (R257–R259) -/

/-- ORIG_LEVEL follows the queue and the frames that the buffer holds. -/
def showOrig (p : Nat) (s : State) : State :=
  let e := s.pe_ p
  let oct := (e.queue.map Desc.len ++ e.resv.map (fun r => r.d.len)).foldl (· + ·) 0
  (s.setFld (F.ORIG_LEVEL_FRAMES p) e.queue.length).setFld (F.ORIG_LEVEL_OCTETS p) (min 32767 oct)

/-- The fields of a descriptor word (R257). -/
def descOf (w : Nat) : Desc :=
  { off := w % 2 ^ 14, len := w / 2 ^ 14 % 2 ^ 14, mode := w / 2 ^ 28 % 4, tag := w / 2 ^ 30 % 256, insOff := w / 2 ^ 38 % 2 ^ 14,
    insFmt := w / 2 ^ 52 % 4 }

/-- Octets of an insertion's field (R375). -/
def insLen (fmt : Nat) : Nat := if fmt = 1 ∨ fmt = 2 then 8 else 10

/-- A descriptor's fields are in range (R257, R375). -/
def descOk (w maxFrame : Nat) : Bool :=
  let d := descOf w
  w / 2 ^ 54 == 0 && d.off % 8 == 0 && decide (64 ≤ d.len) && decide (d.len ≤ maxFrame) && decide (d.off + d.len ≤ 16384)
    && (d.mode != 2 || (d.insOff % 2 == 0 && decide ((if d.insFmt = 3 then 40 else 14) ≤ d.insOff)
      && decide (d.insOff + insLen d.insFmt + 4 ≤ d.len)))

/-- A descriptor is written: its frame queues, or is dropped (R257). -/
def origQueue (p w : Nat) (s : State) : State :=
  let e := s.pe_ p
  if descOk w (s.maxFrame p) && decide (e.queue.length < 16) then
    showOrig p ((s.setPe p { e with queue := e.queue ++ [descOf w] }).count48 (Reg.ORIG_QUEUED p))
  else (s.bumpSat (Reg.ORIG_DROPPED p)).bump (Reg.PE_EVT p)

/-- The end of the committed replies and the earlier reservations that `n` octet times from the opportunity with timestamp point `t`
overlap, with the minimum gap after each (R236, R259). -/
def replyOver (p n : Nat) (t : Int) (s : State) : Option Int :=
  let a := (t - s.octs p 8).toNat
  let b := a + s.octs p n
  let gap := s.octs p (minGap (s.modeIdx p))
  let e := s.pe_ p
  let taken := e.commits.map (fun c => (c.tp, c.tp + s.octs p c.octets.length + gap)) ++ e.resv.map (fun r => (r.tp, r.tp + s.octs p (r.d.len + 12)))
  let hits := taken.filter (fun x => 0 < meet a b (x.1 - s.octs p 8) x.2)
  hits.foldl (fun acc x => some (match acc with
    | some y => max y (x.2 : Int)
    | none => (x.2 : Int))) none

/-- The earliest opportunity from `n` on whose octets overlap none of them. -/
def freeOpp (p oct : Nat) (s : State) : Nat → Int → Int
  | 0, n => n
  | fuel + 1, n =>
    match replyOver p oct (s.opp p n) s with
    | none => n
    | some e => freeOpp p oct s fuel (s.oppFrom p (max (s.opp p (n + 1)) (e + s.octs p 8)))

/-- ORIG_RESERVATION (R258, R259): with credit for LENGTH + 20 octets the head frame takes its place, at least 16 FCLK ahead. -/
def origReserve (p : Nat) (s : State) : State :=
  let e := s.pe_ p
  match e.queue with
  | [] => s
  | d :: t =>
    let need := (d.len + 20) * 25600
    if e.credit < need || !e.runs then s
    else
      let from_ := ((s.pcp p).val : Int) + 16 * s.pcInc p + s.octs p 8
      let n := freeOpp p (d.len + 20) s (e.commits.length + e.resv.length + 1) (s.oppFrom p from_)
      showOrig p (s.setPe p { e with
        queue := t, credit := e.credit - need, resv := e.resv ++ [⟨d, (s.opp p n).toNat⟩] })

/-- A departure time as an M value of 120 bits. -/
abbrev mNs (tp : Nat) : Nat := tp / 2 ^ 40

/-- ORIG_CREDIT grows by SHARE of an octet time in each octet time, up to MAX_FRAME + 20 octets (R258); `k` FCLK cycles pass. -/
def creditTick (p k : Nat) (s : State) : State :=
  let e := s.pe_ p
  if e.hdr.share = 0 ∨ !e.runs then s else
  let m := s.modeIdx p
  let g := (if m < 3 then 100 else if m = 3 then 40 else 4) * e.hdr.share
  s.setPe p { e with credit := min ((s.maxFrame p + 20) * 25600) (e.credit + k * g) }

/-! ### Hamper (R261–R266) -/

/-- The word of the hamper at byte address `a`, with what its check bits say: a word that cannot be corrected reads as zero (R265). -/
def hamWord (a : Nat) (ecc : Ecc) (s : State) : Nat × State :=
  let r := a / 2 ^ 22 % 4
  match ecc with
  | .good => (s.fab.mem.le a 4, s)
  | .corrected => (s.fab.mem.le a 4, (s.bumpSat (Reg.HAMPER_CORR r)).bump Reg.ECC_EVT)
  | .bad => (0, ((s.bumpSat (Reg.HAMPER_UNCORR r)).bump Reg.ECC_EVT).sendFault srcHamper kEccUncorrectable a)

def setHam (a n v : Nat) (s : State) : State := { s with fab := { s.fab with mem := s.fab.mem.setLe a n v } }

/-- A doubleword read (R295): its low word carries `ecc`. -/
def hamDword (a : Nat) (ecc : Ecc) (s : State) : Nat × State :=
  let a := a % 2 ^ 24 / 8 * 8
  let lo := hamWord a ecc s
  (lo.1 + 2 ^ 32 * s.fab.mem.le (a + 4) 4, lo.2)

/-- One leaky-bucket update (R297): the new bucket doubleword and the result. -/
def bucket (w c : Nat) : Nat × Nat :=
  let last := w / 2 ^ 40
  let spare := w / 2 ^ 16 % 2 ^ 24
  let now := c / 2 ^ 40
  let shift := min 23 (c / 2 ^ 32 % 256)
  let cost := c / 2 ^ 16 % 2 ^ 16
  let limit := c % 2 ^ 16
  let elapsed := (now + 2 ^ 24 - last) % 2 ^ 24
  let level := w % 2 ^ 16 - elapsed / 2 ^ shift
  let acc := decide (level + cost ≤ limit)
  let level := if acc then level + cost else level
  (now * 2 ^ 40 + spare * 2 ^ 16 + level, (if acc then 2 ^ 63 else 0) + spare * 2 ^ 16 + level)

/-- A hamper operation at its bank: 0 HLD, 1 HST, 2 HBKT (R262, R295); the result and the state. -/
def hamOp (kind a : Nat) (v : Nat) (ecc : Ecc) (s : State) : Nat × State :=
  let a := a % 2 ^ 24 / 8 * 8
  if kind = 1 then (0, setHam a 8 v s)
  else
    let r := hamDword a ecc s
    if kind = 0 then r
    else
      let b := bucket r.1 v
      (b.2, setHam a 8 b.1 r.2)

/-- Whether the fabric is unclocked or initialising, so that a TE's hamper operation finds it dark (R23, R266). -/
def State.hamDark (s : State) : Bool := !s.fclkOn || s.flag F.HAMPER_STATUS_INIT

/-- The value of a register of an engine's file. -/
def EngPart.reg (e : EngPart) (r : Nat) : DWord := Tbl.get (fun _ => (0 : DWord)) e.g r
def EngPart.setReg (e : EngPart) (r : Nat) (v : DWord) : EngPart := { e with g := Tbl.set (fun _ => (0 : DWord)) e.g r v }
/-- p0 is always true (R273). -/
def EngPart.pr (e : EngPart) (q : Nat) : Bool := q == 0 || e.p.testBit q
def EngPart.setPr (e : EngPart) (q : Nat) (b : Bool) : EngPart :=
  if q = 0 ∨ e.p.testBit q = b then e else { e with p := e.p ^^^ 2 ^ q }

/-- The requests that the host hamper gate injects at its phase: the first of each ring, in queue order (R264); a prefetch of HWIN completes
with its own event. -/
def gatePick : List HamReq → Nat → List HamReq × List HamReq
  | [], _ => ([], [])
  | r :: t, used =>
    let k := r.addr / 2 ^ 22 % 4
    if used.testBit k || r.hwin then let q := gatePick t (used ||| 2 ^ k); (q.1, r :: q.2)
    else let q := gatePick t (used ||| 2 ^ k); (r :: q.1, q.2)

/-- A host request takes effect; a read answers its master. -/
def gateDo (s : State) (r : HamReq) : State :=
  match r.wr with
  | some w => setHam r.addr 4 w.toNat s
  | none =>
    let v := hamWord r.addr r.ecc s
    { v.2 with bus := { v.2.bus with reply := ⟨.ok, [BitVec.ofNat 32 v.1]⟩ } }

/-- The host hamper gate at c mod 16 = 4 (R264, R266): requests that stay behind have waited beyond their phase and are counted once. -/
def gateRelease (s : State) : State :=
  if s.hamDark then s else
  let q := gatePick s.fab.gateQ 0
  let late := (q.2.filter (fun r => !r.waited && !r.hwin)).length
  let s1 := forEach (List.range late) (fun s _ => (s.bumpSat Reg.GATE_LATE_HOST).bump Reg.GATE_EVT) s
  q.1.foldl gateDo { s1 with fab := { s1.fab with gateQ := q.2.map (fun r => { r with waited := true }) } }

/-- A doorbell word lands, or is dropped while one is pending (R339). -/
def landDoorbell (p : Nat) (v : Word) (s : State) : State :=
  if s.flag ⟨Reg.DB_STATUS p, 0, 1⟩ then s.bumpFld ⟨Reg.DB_STATUS p, 16, 16⟩
  else
    let s1 := (s.setReg (Reg.DOORBELL p) v).setFlag ⟨Reg.DB_STATUS p, 0, 1⟩ true
    s1.setPe p { s1.pe_ p with dbAt := s1.cycle }

/-- The lap reads the doorbell word: PEND clears and DB_EVT counts (R339). A word that has waited longer than 3 FCLK and a lap has missed its
phase and is counted, as is one that is `late` besides (R20, R21). -/
def takeDoorbell (p : Nat) (late : Bool) (s : State) : Word × State :=
  if s.flag ⟨Reg.DB_STATUS p, 0, 1⟩ then
    let s1 := (s.setFlag ⟨Reg.DB_STATUS p, 0, 1⟩ false).bump (Reg.DB_EVT p)
    let late := late || decide (3 + (s.pe_ p).lap < (s.cycle + 2 ^ 64 - (s.pe_ p).dbAt) % 2 ^ 64)
    (s.reg (Reg.DOORBELL p), if late then (s1.bumpSat (Reg.GATE_LATE_DB p)).bump Reg.GATE_EVT else s1)
  else (0, s)

/-- The PE stops at this lap boundary, or resumes, as the fabric whistle says (R334, R338). -/
def peBoundary (p : Nat) (s : State) : State :=
  let e := s.pe_ p
  if s.wHeld 1 0 then
    if e.runs then
      let s1 := (s.setPe p { e with runs := false }).setFlag (F.PE_STATUS_RUNNING p) false
      s1.setFlag F.RATION_STATUS_FABRIC_BACKFILL true
    else s
  else if s.itinRuns && !e.runs then
    ((s.setPe p { e with runs := true }).setFlag (F.PE_STATUS_RUNNING p) true).setFlag F.RATION_STATUS_FABRIC_BACKFILL false
  else s

/-- `k` FCLK cycles pass: the cycle count, the credits and the instances that end. -/
def fabTick (k : Nat) (s : State) : State :=
  if !s.fclkOn then s else
  let c := (s.cycle + k) % 2 ^ 64
  forEach (List.range 4) (fun s p => pruneInsts p c (creditTick p k s)) (s.setQuant Reg.FAB_CYCLE 2 c)

/-- The fabric is ready: the hamper is READY and the master slots are filled (R522, R524). -/
def fabricReady (s : State) : State :=
  if s.flag F.HAMPER_STATUS_READY && !s.flag F.SEC_STATUS_KEYS_FILLING then s.milestone 6 else s

/-! ### Commands -/

/-- REPLY_DEPARTURE (R254). -/
def execReplyDeparture (p : Fin 4) (s : State) : Host.Outcome State Fault Refusal := fin (if s.fclkOn then replyLeave p.val s else s)

/-- ORIG_RESERVATION (R258, R259). -/
def execOrigReservation (p : Fin 4) (grid : Nat) (s : State) : Host.Outcome State Fault Refusal :=
  fin (if s.fclkOn then origReserve p.val (s.turnAt p.val grid) else s)

/-- HOST_HAMPER_GATE_RELEASE (R264): at c mod 16 = 4, or in the cycle after it where a clock edge passed two cycles. -/
def execHostHamperGateRelease (s : State) : Host.Outcome State Fault Refusal :=
  fin (if s.cycle % 16 = 4 ∨ s.cycle % 16 = 5 then gateRelease s else s)

/-- HAMPER_INIT_DONE (R266): initialisation is over, 16,384 FCLK after FCLK started; source 16 of the PEs is pending (R306). -/
def execHamperInitDone (s : State) : Host.Outcome State Fault Refusal :=
  fin (if s.fclkOn && s.flag F.HAMPER_STATUS_INIT && decide (16384 ≤ s.cycle) then
    let s1 := fabricReady ((s.setFlag F.HAMPER_STATUS_INIT false).setFlag F.HAMPER_STATUS_READY true)
    forEach (List.range 4) (fun s p => s.setEng p { s.eng_ p with ev16 := true }) s1
  else s)

/-- SAMPLE_DELIVERY (R21, R103, R296): the oldest sample of SMPp on its way reaches the TE copy, which keeps 64, and the statistics
engines; one that waited beyond its phase at the sample gate is counted (R20, R21). -/
def execSampleDelivery (p : SampleIn) (s : State) : Host.Outcome State Fault Refusal :=
  fin (if s.tclkOn then
    match s.fab.smpWay.find? (fun e => e.1 == p.port.val) with
    | none => s
    | some e =>
      let old := Tbl.get (fun _ => []) s.fab.smp p.port.val
      let new := (old ++ [e.2]).drop (old.length - 63)
      let s0 := if p.late then s.gateLate 1 else s
      statStream p.port.val (signed 64 e.2.toNat)
        { s0 with fab := { s.fab with smpWay := s.fab.smpWay.erase e, smp := Tbl.set (fun _ => []) s.fab.smp p.port.val new } }
  else s)

/-- TRIGGER_EVENT_DELIVERY (R21, R306): an event reaches a PE through its gate, late ones counted; a fifth waiting event is dropped. -/
def execTriggerEventDelivery (p : Fin 4) (i : Fin 16) (late : Bool) (s : State) : Host.Outcome State Fault Refusal :=
  fin (if s.fclkOn then
    match s.tm.evGate.find? (fun e => e.1 == p.val && e.2.1 == i.val) with
    | none => s
    | some e =>
      let s1 := { s with tm := { s.tm with evGate := s.tm.evGate.erase e } }
      let key := p.val * 16 + i.val
      let q := Tbl.get (fun _ => []) s1.tm.evq key
      let lateCount : State → State := fun s => (s.bumpSat Reg.GATE_LATE_TRG).bump Reg.GATE_EVT
      if 4 ≤ q.length then lateCount s1
      else
        let s2 := { s1 with tm := { s1.tm with evq := Tbl.set (fun _ => []) s1.tm.evq key (q ++ [e.2.2]) } }
        if late then lateCount s2 else s2
  else s)

/-- DOORBELL_WRITE (R339). -/
def execDoorbellWrite (p : Fin 4) (v : Word) (s : State) : Host.Outcome State Fault Refusal := fin (whenOn 9 (landDoorbell p.val v) s)

/-- TE_HAMPER_DELIVERY (R23, R295): the oldest hamper operation of engine `t` is delivered, 40 TCLK after its issue: performed, or zero
if the fabric is dark, or zero with GATE_LATE if it is late. -/
def execTeHamperDelivery (t : Fin 2) (late : Bool) (ecc : Ecc) (s : State) : Host.Outcome State Fault Refusal :=
  fin (if s.tclkOn then
    let e := s.eng_ (4 + t.val)
    match e.teOps with
    | [] => s
    | o :: rest =>
      if (s.tiu.count + 2 ^ 56 - o.at_ % 2 ^ 56) % 2 ^ 56 < 40 then s else
      let s1 := s.setEng (4 + t.val) { e with teOps := rest }
      let give := fun (v : Nat) (s : State) =>
        match o.dst with
        | some r => if s.wHeld 7 t.val then s else s.setEng (4 + t.val) ((s.eng_ (4 + t.val)).setReg r (BitVec.ofNat 64 v))
        | none => s
      if s.hamDark then give 0 (s1.bumpSat (Reg.TE_DARK t.val))
      else
        let r := hamOp o.kind o.addr o.data.toNat ecc s1
        if late then
          give 0 ((((r.2.bumpSat (Reg.GATE_LATE_TE t.val)).bump Reg.GATE_EVT)).sendFault (srcTe t.val) kGateLate 1)
        else give r.1 r.2
  else s)

/-- The result has been in flight for its latency (R276). -/
def State.flightDue (s : State) (e : Nat) (f : Flight) : Bool :=
  if e < 4 then (s.cycle + 2 ^ 64 - f.due % 2 ^ 64) % 2 ^ 64 < 2 ^ 63 else (s.tiu.count + 2 ^ 56 - f.due % 2 ^ 56) % 2 ^ 56 < 2 ^ 55

/-- Result number `n` of engine `e`, oldest first, is delivered; a whistled engine discards it (R334, R337). -/
def deliver (e : Eng) (n : Nat) (s : State) : State :=
  let g := s.eng_ e.num
  match g.fly[n]? with
  | none => s
  | some f =>
    if !s.flightDue e.num f then s else
    let off := match e with
      | .pe p => !(s.pe_ p.val).runs && s.wHeld 1 0 && f.inst.isNone
      | .te t => s.wHeld 7 t.val
      | .se => false
    let g1 := { g with fly := g.fly.eraseIdx n }
    if off then s.setEng e.num g1
    else
      let g2 := f.regs.foldl (fun g r => g.setReg r.1 r.2) g1
      s.setEng e.num (match f.pred with
        | some (q, b) => g2.setPr q b
        | none => g2)

/-- RESULT_DELIVERY (R276). -/
def execResultDelivery (e : Eng) (n : Nat) (s : State) : Host.Outcome State Fault Refusal := fin (deliver e n s)

end Sys2Proof.Machine
end

