-- ==== Sys2Proof/Machine/Lap.lean ====
section
/-! DEFINITION. The TE lap boundary as the timekeeping island sees it (R131, R137, R153, R158, R288): the order in which steering
words, steps, commands, leaps and trigger shifts are applied, and the tie table entry published before it. -/

namespace Sys2Proof.Machine

/-- The DPLLs of engine `t`. -/
def teDplls (t : Nat) : List Nat := if t = 0 then [0, 1, 2, 3] else [4, 5, 6, 7]

/-- The steering ports (R294). -/
def allPorts : List Nat := List.range 9 ++ (List.range 16).map (· + 16)

/-- The steps that engine `t` asked for with TXGO: the MTC, or a timescale (R294). -/
def txgoSteps (t : Nat) (s : State) : State :=
  let mine := s.tm.stepReq.filter (fun e => e.1 == t)
  let s1 := { s with tm := { s.tm with stepReq := s.tm.stepReq.filter (fun e => e.1 != t) } }
  forEach mine (fun s e =>
    if e.2.1 = 0 then mtcStep (e.2.2 * 2 ^ 24) s
    else if (s.tsp (e.2.1 - 1)).run then (tsStep (e.2.1 - 1) (e.2.2 * 2 ^ 72) s).bump (Reg.TS_EVT (e.2.1 - 1))
    else s) s1

/-- STEERED of each APLL (R203): an enabled DPLL steers it. -/
def showSteered (s : State) : State :=
  forEach (List.range 4) (fun s a =>
    s.setFlag (F.APLL_STATUS_STEERED a) ((List.range 8).any (fun d =>
      s.flag (F.DPLL_CFG_EN d) && s.dpllPort d == some a && !s.dpllConflict d))) s

/-- The steering words and steps of engine `t` take effect (R131, R147, R158 step 1). -/
def lapSteps (t : Nat) (s : State) : State :=
  txgoSteps t (forEach (teDplls t) (fun s d => stepApply d s) (forEach allPorts (fun s k => steerApply k t s) s))

/-- What engine `t` applies at its boundary, in the order of R158: words and steps, timescale commands, UTC and leap writes and
leap evaluation; trigger schedules shift with each step. The boundaries of the engines fall on one edge, so TE0's carries TE1's words and steps
ahead of its commands. The commands of the DPLLs go to the tick that follows (R148). -/
def lapApply (t : Nat) (s : State) : State :=
  let s0 := if t = 0 then forEach (List.range 16) tsEnable s else s
  let s1 := lapSteps t s0
  let s2 := if t = 0 && s1.teRuns 1 then lapSteps 1 s1 else s1
  let s3 := if t = 0 then forEach (List.range 16) leapRow (forEach (List.range 16) utcApply (forEach (List.range 16) tsApply s2)) else s2
  forEach (teDplls t) (fun s d => cmdApply d s) s3

/-- The boundary of engine `t`'s lap: the hardware rows of its DPLLs, then, if it runs, what it applies and its lap count. -/
def lapCore (t : Nat) (s : State) : State :=
  let before := s.mtcInc
  let s1 := forEach (teDplls t) (fun s d => hwRows d s) s
  let s2 := if s.teRuns t then (lapApply t s1).bump (if t = 0 then Reg.SERVO_ITER0 else Reg.SERVO_ITER1) else s1
  let s3 := if t = 0 then tieRecord before s2 else s2
  tsTrack (showSteered s3)

/-- The counters at the coming boundary, 500 TCLK ahead, with the spread of the lap integrated exactly (R131, R288). -/
def advance500 (s : State) : State :=
  let p := s.port 4
  let inc := fun j => spread p.old p.new j
  let s1 := s.setMtc (((s.tm.mtc : Int) + lapSum inc 62000 62500) % (2 ^ 120 : Nat)).toNat
  forEach (List.range 16) (fun s t =>
    let v := s.tsp t
    let r := s.port (16 + t)
    if v.run then s.setTs t { v with acc := tsWrap (v.acc + lapSum (fun j => inc j * (2 ^ 48 + spread r.old r.new j)) 62000 62500) } else s) s1

/-- The tie table entry of timescale `t` at the coming boundary (R288, R289): every step and rate change that the boundary applies
is in it. -/
def State.nextTie (s : State) (t : Nat) : TsTie :=
  let b := lapCore 1 (lapCore 0 (advance500 s))
  let r := b.port (16 + t)
  { run := (b.tsp t).run, mtc := b.tm.mtc, acc := (b.tsp t).acc, incBefore := (b.port 4).old, incAfter := (b.port 4).new,
    rateBefore := r.old, rateAfter := r.new }

/-- TIE_TABLE_PUBLISH (R288): timescale `t`'s entry for the coming boundary is published. -/
def execTieTablePublish (t : Fin 16) (s : State) : Host.Outcome State Fault Refusal :=
  fin (if s.tclkOn then
    let v := s.tsp t.val
    s.setTs t.val { v with table := (s.nextTie t.val :: v.table).take 256 }
  else s)

end Sys2Proof.Machine
end

