-- ==== Sys2Proof/Machine/Nvs.lean ====
section
/-! DEFINITION. The non-volatile store (R430–R452): regions and access, the banked window with its write buffer, passwords, recall,
power failure, monotonic counters and the log ring. -/

namespace Sys2Proof.Machine

/-! ### Regions (R430, R431) -/

/-- The index of the region that holds byte `a`: 0 vendor, 1 C0, 2 C1, 3 log, 4 counters, 5 keys. -/
def nvsRegion (a : Nat) : Nat :=
  if a < 0x8000 then 0 else if a < 0x18000 then 1 else if a < 0x28000 then 2 else if a < 0x3c000 then 3 else if a < 0x3e000 then 4 else 5

/-- The first byte beyond region `r`. -/
def nvsEnd : Nat → Nat
  | 0 => 0x8000
  | 1 => 0x18000
  | 2 => 0x28000
  | 3 => 0x3c000
  | 4 => 0x3e000
  | _ => 0x40000

def State.nvsBank (s : State) (m : Nat) : NvsBank := Tbl.get (fun _ => NvsBank.reset) s.nvs.bank m
def State.setNvsBank (s : State) (m : Nat) (b : NvsBank) : State :=
  { s with nvs := { s.nvs with bank := Tbl.set (fun _ => NvsBank.reset) s.nvs.bank m b } }

/-- Password `kind` (0 read, 1 write) of region `r` (0 C0, 1 C1). -/
def State.nvsPw (s : State) (r kind : Nat) : Nat := Tbl.get (fun _ => 0) s.nvs.pw (2 * r + kind)

/-- Whether that kind of access to that region is open for master ID `m`: its password is zero, or the master has opened it (R438). -/
def State.nvsOpen (s : State) (m r kind : Nat) : Bool :=
  s.nvsPw r kind == 0 || Tbl.get (fun _ => false) s.nvs.opened (8 * m + 2 * r + kind)

def State.setOpen (s : State) (m r kind : Nat) (b : Bool) : State :=
  { s with nvs := { s.nvs with opened := Tbl.set (fun _ => false) s.nvs.opened (8 * m + 2 * r + kind) b } }

/-- The read path of R431 for master ID `m`. -/
def State.nvsMayRead (s : State) (m a : Nat) : Bool :=
  match nvsRegion a with
  | 1 => s.nvsOpen m 0 0
  | 2 => s.nvsOpen m 1 0
  | 5 => false
  | _ => true

/-- The direct write path of R431: the vendor region for the SE in Maintenance, C0 and C1 where write access is open. -/
def State.nvsMayWrite (s : State) (m a : Nat) : Bool :=
  match nvsRegion a with
  | 0 => m == 4 && s.flag F.SEC_STATUS_MAINT
  | 1 => s.nvsOpen m 0 1
  | 2 => s.nvsOpen m 1 1
  | _ => false

/-- The store accepts accesses: recalled, not whistled, no power failure (R442, R443, R450). -/
def State.nvsUp (s : State) : Bool :=
  s.blockOn 12 && s.flag F.NVS_STATUS_READY && !s.flag F.NVS_STATUS_RECALL && !s.flag F.NVS_STATUS_PF && !s.wHeld 0xb 0

/-- A refusal is counted in NVS_REFUSED; during a recall it is counted once the recall completes (R442). -/
def nvsRefuse (s : State) : State :=
  if s.flag F.NVS_STATUS_RECALL then { s with nvs := { s.nvs with recallRef := s.nvs.recallRef + 1 } } else s.bump16 Reg.NVS_REFUSED

/-- A refused write of R431 is discarded and sends LOCKED_WRITE with the NVS address and bit 20. -/
def nvsRefuseWrite (a : Nat) (s : State) : State := (nvsRefuse s).sendFault srcNvs kLockedWrite (a % 2 ^ 18 + 2 ^ 20)

/-- Every open access of master ID `m` closes (R438). -/
def nvsCloseAll (m : Nat) (s : State) : State :=
  forEach (List.range 4) (fun s k => s.setOpen m (k / 2) (k % 2) false) s

/-! ### The window (R433–R436) -/

/-- A region end stops a write stream: the fault, STOPPED and NVS_EVT (R435, R452). -/
def nvsRegionEnd (m e : Nat) (s : State) : State :=
  (s.sendFault srcNvs kNvsRegionEnd (e % 2 ^ 18 + m % 16 * 2 ^ 20)).bump Reg.NVS_EVT

/-- The selected bytes of a word, lowest address first: address and byte. -/
def laneBytes (w : NvsWrite) : List (Nat × Byte) :=
  (List.range 4).filterMap (fun k => if w.be.testBit k then some (w.addr + k, BitVec.ofNat 8 (w.data.toNat / 2 ^ (8 * k))) else none)

/-- A buffered word is written into the array, byte by byte up to the end of its stream's region (R434, R435). -/
def nvsWriteWord (w : NvsWrite) (s : State) : State :=
  let b := s.nvsBank w.master
  if b.stopped then nvsRefuse s
  else
    let e := nvsEnd (nvsRegion w.start)
    let l := laneBytes w
    let s1 := forEach (l.filter (fun x => decide (x.1 < e))) (fun s x => { s with nvs := { s.nvs with mem := s.nvs.mem.setByte x.1 x.2 } }) s
    if l.any (fun x => decide (e ≤ x.1)) then (nvsRegionEnd w.master e s1).setNvsBank w.master { b with stopped := true } else s1

/-- The oldest buffered word drains. -/
def nvsDrain (s : State) : State :=
  match s.nvs.buf with
  | [] => s
  | w :: t => nvsWriteWord w { s with nvs := { s.nvs with buf := t } }

/-- The buffer drains until it holds no word of master ID `m` (R434). -/
def nvsDrainOf (m : Nat) : Nat → State → State
  | 0, s => s
  | n + 1, s => if s.nvs.buf.any (fun w => w.master == m) then nvsDrainOf m n (nvsDrain s) else s

/-- NVS_STATUS.BUF_FULL follows the buffer (R434). -/
def showNvs (s : State) : State := s.setFlag F.NVS_STATUS_BUF_FULL (decide (16 ≤ s.nvs.buf.length))

/-- A write of NVS_WDATA by master `m` (R433–R435, R442): dropped while the buffer is full (R59). -/
def nvsWdata (m : Master) (v : Word) (s : State) : State :=
  let i := m.id
  let b := s.nvsBank i
  if !s.blockOn 12 then offAccess s
  else if !s.nvsUp then (if s.wHeld 0xb 0 then nvsRefuseWrite b.addr s else nvsRefuse s)
  else if 16 ≤ s.nvs.buf.length then decodeFault kBusyWrite Reg.NVS_WDATA s
  else if b.stopped then nvsRefuse s
  else if !s.nvsMayWrite i b.start then nvsRefuseWrite b.addr s
  else
    let s1 : State := { s with nvs := { s.nvs with buf := s.nvs.buf ++ [⟨i, b.addr, b.start, b.be, v⟩] } }
    showNvs (s1.setNvsBank i { b with addr := (b.addr + 4) % 2 ^ 18 })

/-- A read of NVS_RDATA by master `m`: the four bytes at NVS_ADDR, which advances by 4 (R433, R435). -/
def nvsRdata (m : Master) (s : State) : State :=
  let i := m.id
  if !s.blockOn 12 then answerErr m .domainOff (offAccess s)
  else if !s.nvsUp then answerErr m .refused (nvsRefuse s)
  else
    let s1 := nvsDrainOf i 16 s
    let b := s1.nvsBank i
    if s1.nvsMayRead i b.start && decide (b.addr + 4 ≤ nvsEnd (nvsRegion b.start)) then
      answerWord (BitVec.ofNat 32 (s1.nvs.mem.le b.addr 4)) (showNvs (s1.setNvsBank i { b with addr := b.addr + 4 }))
    else answerErr m .refused (nvsRefuse (showNvs s1))

/-- A write of NVS_ADDR starts a stream in the region of the new address (R435). -/
def landNvsAddr (m v : Nat) (s : State) : State :=
  s.setNvsBank m { s.nvsBank m with addr := v % 2 ^ 18, start := v % 2 ^ 18, stopped := false }

/-! ### Passwords (R438–R440) -/

/-- A failed comparison (R439). -/
def nvsPwFail (m r kind : Nat) (s : State) : State :=
  let n := Tbl.get (fun _ => 0) s.nvs.fails r + 1
  let s0 : State := { s with nvs := { s.nvs with fails := Tbl.set (fun _ => 0) s.nvs.fails r n } }
  let s1 := (s0.setFld ⟨Reg.NVS_PW_FAIL, 4 * r, 4⟩ n).sendFault
    srcNvs kNvsPassword (r + 2 * kind + 16 * (n % 16) + 256 * (m % 16))
  if n < 8 then s1
  else
    let s2 := { s1 with nvs := { s1.nvs with locked := Tbl.set (fun _ => false) s1.nvs.locked r true,
                                             opened := s1.nvs.opened.filter (fun x => x.1 / 2 % 2 != r) } }
    (s2.setFlag ⟨Reg.NVS_STATUS, 8 + r, 1⟩ true).bump Reg.NVS_EVT

/-- OPEN_READ or OPEN_WRITE (R438, R439). -/
def nvsOpenCmd (m r kind : Nat) (s : State) : State :=
  if Tbl.get (fun _ => false) s.nvs.locked r then nvsRefuse s
  else if (s.nvsBank m).pw = s.nvsPw r kind then
    let s1 : State := { s with nvs := { s.nvs with fails := Tbl.set (fun _ => 0) s.nvs.fails r 0 } }
    (s1.setFld ⟨Reg.NVS_PW_FAIL, 4 * r, 4⟩ 0).setOpen m r kind true
  else nvsPwFail m r kind s

/-- CLOSE ends the master's open access to the region (R438). -/
def nvsClose (m r : Nat) (s : State) : State := (s.setOpen m r 0 false).setOpen m r 1 false

/-- SET_READ_PW or SET_WRITE_PW (R440): every other master's open access of that kind closes. -/
def nvsSetPw (m r kind : Nat) (s : State) : State :=
  if s.nvsOpen m r 1 then
    { s with nvs := { s.nvs with
        pw := Tbl.set (fun _ => 0) s.nvs.pw (2 * r + kind) (s.nvsBank m).pw
        opened := s.nvs.opened.filter (fun x => x.1 % 8 != 2 * r + kind || x.1 / 8 == m) } }
  else nvsRefuse s

/-- NVS_PW_CMD with value `v` (R452): a code that the table does not name is ignored. -/
def landNvsPwCmd (m v : Nat) (s : State) : State :=
  let r := v / 256 % 2
  if !s.nvsUp then nvsRefuse s
  else match v % 16 with
    | 1 => nvsOpenCmd m r 0 s
    | 2 => nvsOpenCmd m r 1 s
    | 3 => nvsClose m r s
    | 4 => nvsSetPw m r 0 s
    | 5 => nvsSetPw m r 1 s
    | _ => s

/-! ### Monotonic counters (R445–R447) -/

/-- The address of counter `n`. -/
def ctrAddr (n : Nat) : Nat := 0x3c000 + 32 * n
def State.ctrValid (s : State) (n copy : Nat) : Bool := s.nvs.mem.byte (ctrAddr n + 16 * copy + 8) == 0x5a
def State.ctrCopy (s : State) (n copy : Nat) : Nat := s.nvs.mem.le (ctrAddr n + 16 * copy) 8
def State.ctr (s : State) (n : Nat) : Nat := Tbl.get (fun _ => 0) s.nvs.ctr n

/-- The value that recall settles (R445). -/
def State.ctrSettled (s : State) (n : Nat) : Nat :=
  match s.ctrValid n 0, s.ctrValid n 1 with
  | true, true => max (s.ctrCopy n 0) (s.ctrCopy n 1)
  | true, false => s.ctrCopy n 0
  | false, true => s.ctrCopy n 1
  | false, false => 0

/-- The copy that an increment writes (R446): the invalid one, else the lower, B of two equal. -/
def State.ctrTarget (s : State) (n : Nat) : Nat :=
  if !s.ctrValid n 0 then 0 else if !s.ctrValid n 1 then 1 else if s.ctrCopy n 0 < s.ctrCopy n 1 then 0 else 1

/-- The first increment waiting starts: its target's commit byte is written as 0x00; a saturated counter is refused (R446). -/
def ctrStart : List Nat → State → State
  | [], s => { s with nvs := { s.nvs with jobs := [] } }
  | n :: t, s =>
    if s.ctr n = 2 ^ 64 - 1 then
      ctrStart t (nvsRefuse { s with nvs := { s.nvs with sat := Tbl.set (fun _ => false) s.nvs.sat n true } })
    else { s with nvs := { s.nvs with jobs := n :: t, mem := s.nvs.mem.setByte (ctrAddr n + 16 * s.ctrTarget n + 8) 0 } }

/-- NVS_CTR_CMD for counter `n` by master ID `m` (R446, R447): counters 0–31 only by the SE, the others by a host or the SE. -/
def ctrIncrement (m n : Nat) (s : State) : State :=
  if !s.nvsUp then nvsRefuse s
  else if n < 32 && m != 4 || 4 < m then nvsRefuse s
  else match s.nvs.jobs with
    | [] => ctrStart [n] s
    | l => { s with nvs := { s.nvs with jobs := l ++ [n] } }

/-- The increment in progress ends: value bytes, commit byte, shadow (R446). -/
def ctrDone (s : State) : State :=
  match s.nvs.jobs with
  | [] => s
  | n :: t =>
    let v := s.ctr n + 1
    let a := ctrAddr n + 16 * s.ctrTarget n
    ctrStart t { s with nvs := { s.nvs with mem := (s.nvs.mem.setLe a 8 v).setByte (a + 8) 0x5a, ctr := Tbl.set (fun _ => 0) s.nvs.ctr n v } }

/-- NVS_CTR_STATUS of counter `n` (R452). -/
def State.ctrStatus (s : State) (n : Nat) : Nat :=
  let a := s.ctrValid n 0
  let b := s.ctrValid n 1
  (if a then 1 else 0) + (if b then 2 else 0) + (if !a && !b then 4 else 0) + (if Tbl.get (fun _ => false) s.nvs.sat n then 8 else 0)

/-! ### The log ring (R448, R449) -/

/-- The address of the page of sequence `q`. -/
def logPage (q : Nat) : Nat := 0x28000 + 64 * (q % 1280)

/-- LOG_SEQ and LOG_OVERWRITES take the next sequence `q` (R449). -/
def setLogSeq (q : Nat) (s : State) : State := (s.setQuant Reg.LOG_SEQ 2 q).setQuant Reg.LOG_OVERWRITES 2 (q - 1280)

/-- LOG_CMD (R448): the flag byte of the page is written as 0x00 and the payload taken from LOG_BUF. -/
def logAppend (s : State) : State :=
  if !s.nvsUp then nvsRefuse s
  else match s.nvs.log with
    | some _ => nvsRefuse s
    | none =>
      let pay := (List.range 13).flatMap (fun j => leBytes 4 (s.rv (Reg.LOG_BUF + 4 * j)))
      { s with nvs := { s.nvs with log := some pay, mem := s.nvs.mem.setByte (logPage (s.quant Reg.LOG_SEQ 2) + 6) 0 } }

/-- The 64 bytes of the record of sequence `q` with its flag valid (R448). -/
def logRecord (q : Nat) (pay : List Byte) : List Byte :=
  let sq := leBytes 6 q
  sq ++ [0xa5, 0] ++ fcsOf (sq ++ pay) ++ pay

/-- The append ends: the record is whole, LOG_SEQ advances and LOG_EVT counts (R448). -/
def logDone (s : State) : State :=
  match s.nvs.log with
  | none => s
  | some pay =>
    let q := s.quant Reg.LOG_SEQ 2
    let s1 := { s with nvs := { s.nvs with log := none, mem := s.nvs.mem.setBytes (logPage q) (logRecord q pay) } }
    (setLogSeq ((q + 1) % 2 ^ 48) s1).bump Reg.LOG_EVT

/-- Stock firmware appends a record for a fault record that became VALID or a whistle that completed (R500): its payload is the firmware's
own, which the spec does not give; a record that cannot be appended yet is owed. -/
def fwLog (s : State) : State :=
  if s.fld F.SE_STATUS_STATE != 4 then s
  else if s.nvs.log.isSome || !s.nvsUp then { s with se := { s.se with owed := s.se.owed + 1 } }
  else
    let d := s.draw
    logAppend (d.2.setQuant Reg.LOG_BUF 13 (d.1 % 2 ^ 416))

/-- A record that firmware owes is appended as soon as it can be. -/
def fwLogPay (s : State) : State :=
  if s.se.owed = 0 ∨ s.nvs.log.isSome ∨ !s.nvsUp ∨ s.fld F.SE_STATUS_STATE ≠ 4 then s else fwLog { s with se := { s.se with owed := s.se.owed - 1 } }

/-- The sequence of the record in the page at `a`, if the record is valid (R449). -/
def pageSeq (m : Memory) (a : Nat) : Option Nat :=
  let b := m.bytes a 64
  if b.getD 6 0 = 0xa5 ∧ fcsOf (b.take 6 ++ b.drop 12) = (b.drop 8).take 4 then some (leVal (b.take 6)) else none

/-- The pages of the log that hold something other than zeros. -/
def logPages (m : Memory) : List Nat :=
  (m.filterMap (fun x => if nvsRegion x.1 = 3 then some (x.1 / 64 * 64) else none)).eraseDups

/-- The counters whose slots hold something other than zeros. -/
def usedCtrs (m : Memory) : List Nat :=
  (m.filterMap (fun x => if nvsRegion x.1 = 4 then some ((x.1 - 0x3c000) / 32) else none)).eraseDups

/-! ### Recall and power failure (R441–R443) -/

/-- The recall settles the counters, finds the log head and sets READY (R441, R445, R449). -/
def recallDone (s : State) : State :=
  if !(s.blockOn 12 && s.flag F.NVS_STATUS_RECALL) then s else
  let used := usedCtrs s.nvs.mem
  let pages := logPages s.nvs.mem
  let seqs := pages.filterMap (pageSeq s.nvs.mem)
  let s1 := { s with nvs := { s.nvs with
    ctr := used.foldl (fun t n => Tbl.set (fun _ => 0) t n (s.ctrSettled n)) []
    recallRef := 0 } }
  let s2 := (s1.setFlag F.NVS_RECALL_INFO_CTR_REPAIR (used.any (fun n => s.ctrValid n 0 != s.ctrValid n 1))).setFlag
    F.NVS_RECALL_INFO_LOG_TORN (pages.any (fun a => (pageSeq s.nvs.mem a).isNone))
  let s3 := setLogSeq (match seqs.max? with | some q => (q + 1) % 2 ^ 48 | none => 0) s2
  let s4 := ((s3.setFlag F.NVS_STATUS_RECALL false).setFlag F.NVS_STATUS_READY true).bump Reg.NVS_EVT
  let s5 := s4.setFld ⟨Reg.NVS_REFUSED, 0, 16⟩ (min 0xffff (s4.rv Reg.NVS_REFUSED + s.nvs.recallRef))
  s5.milestone 0

/-- The supervisor island powers up: the recall starts; the array, the passwords, the always-on counts and the banked control fields
stay (R439, R441, R487), and every open access has closed (R438). -/
def nvsPowerUp (s : State) : State :=
  let fails := fun r => Tbl.get (fun _ => 0) s.nvs.fails r
  let lock := fun r => if Tbl.get (fun _ => false) s.nvs.locked r then 2 ^ (8 + r) else 0
  let s1 : State := { s with nvs := { s.nvs with opened := [], buf := [], ctr := [], sat := [], jobs := [], log := none, recallRef := 0 } }
  let s2 := forEach [1, 2, 3, 4] (fun s m => s.setNvsBank m { s.nvsBank m with stopped := false }) s1
  (s2.setRv Reg.NVS_STATUS (2 + lock 0 + lock 1)).setRv Reg.NVS_PW_FAIL (fails 0 + 16 * fails 1)

/-- The byte writes still to come of the buffered word, the increment and the append in progress, each in its order (R434, R446, R448). -/
def State.nvsBytes (s : State) : List (Nat × Byte) × List (Nat × Byte) × List (Nat × Byte) :=
  let bytes := fun (a : Nat) (l : List Byte) => l.zipIdx.map (fun b => (a + b.2, b.1))
  let word := match s.nvs.buf with
    | [] => []
    | w :: _ => if (s.nvsBank w.master).stopped then [] else (laneBytes w).filter (fun x => decide (x.1 < nvsEnd (nvsRegion w.start)))
  let incr := match s.nvs.jobs with
    | [] => []
    | n :: _ => let a := ctrAddr n + 16 * s.ctrTarget n; bytes a (leBytes 8 (s.ctr n + 1)) ++ [(a + 8, 0x5a)]
  let app := match s.nvs.log with
    | none => []
    | some pay =>
      let q := s.quant Reg.LOG_SEQ 2
      let r := logRecord q pay
      bytes (logPage q + 12) pay ++ bytes (logPage q) (r.take 6) ++ bytes (logPage q + 8) ((r.drop 8).take 4) ++ [(logPage q + 6, 0xa5)]
  (word, incr, app)

/-- What stands of the writes `l` of which `k` have started as the supply fails: a board that lets it fall faster than R444 allows leaves
the byte in progress undefined. -/
def State.started (s : State) (k : Nat) (l : List (Nat × Byte)) : List (Nat × Byte) :=
  let t := l.take k
  if Config.holdUp then t else t.dropLast ++ (t.drop (t.length - 1)).map (fun x => (x.1, BitVec.ofNat 8 (Config.cutByte x.1 s.now)))

/-- Power failure (R26, R443): of the word, the increment and the append in progress, the bytes whose writes have started complete — `w`,
`c` and `l` of them — with the board of R444, no other byte is written, what is in progress is discarded, and every access is refused. -/
def powerFail (w c l : Nat) (s : State) : State :=
  let b := s.nvsBytes
  let mem := (s.started w b.1 ++ s.started c b.2.1 ++ s.started l b.2.2).foldl (fun m x => m.setByte x.1 x.2) s.nvs.mem
  showNvs { s with nvs := { s.nvs with mem := mem, buf := [], jobs := [], log := none } } |>.setFlag F.NVS_STATUS_PF true

/-- The supply fails: how many of the byte writes had started is open. -/
def supplyFails (s : State) : State :=
  let w := s.draw
  let c := w.2.draw
  let l := c.2.draw
  powerFail w.1 c.1 l.1 l.2

/-- A whistle to the controller: an increment or append in progress completes, the buffer is discarded and counted (R450). -/
def nvsWhistle (s : State) : State :=
  let n := s.nvs.buf.length
  let s1 := forEach (List.range s.nvs.jobs.length) (fun s _ => ctrDone s) (logDone s)
  let s2 := forEach (List.range n) (fun s _ => nvsRefuse s) { s1 with nvs := { s1.nvs with buf := [] } }
  (showNvs s2).setFlag F.NVS_STATUS_WHISTLED true

/-- NVS_STATUS as master ID `m` reads it: its open accesses and its STOPPED (R452). -/
def State.nvsStatus (s : State) (m : Nat) : Nat :=
  s.rv Reg.NVS_STATUS + (List.range 4).foldl (fun acc k => if s.nvsOpen m (k / 2) (k % 2) then acc + 2 ^ (4 + k) else acc) 0
    + (if (s.nvsBank m).stopped then 2 ^ 11 else 0)

/-! ### DMA (R437) -/

/-- A DMA channel of owner `m` reads a byte of the transfer that started at `start`; none where it is refused. -/
def State.nvsDmaRead (s : State) (m start a : Nat) : Option Byte :=
  if s.nvsUp && s.nvsMayRead m start && decide (a < nvsEnd (nvsRegion start)) then some (s.nvs.mem.byte a) else none

/-- A DMA channel of owner `m` writes a byte; none where it is refused. -/
def State.nvsDmaWrite (s : State) (m start a : Nat) (b : Byte) : Option State :=
  if s.nvsUp && s.nvsMayWrite m start && decide (a < nvsEnd (nvsRegion start)) then
    some { s with nvs := { s.nvs with mem := s.nvs.mem.setByte a b } }
  else none

/-! ### Meanings -/

/-- NVS_RDATA_READ. -/
def execNvsRdataRead (m : Master) (s : State) : Host.Outcome State Fault Refusal := fin (reads m (nvsRdata m) s)

/-- NVS_WDATA_WRITE. -/
def execNvsWdataWrite (m : Master) (v : Word) (s : State) : Host.Outcome State Fault Refusal :=
  fin (writes m (nvsWdata m v) s)

/-- NVS_ADDR_WRITE takes effect. -/
def execNvsAddrWrite (m : Master) (v : Word) (s : State) : Host.Outcome State Fault Refusal :=
  fin (whenOn 12 (fun s => if s.nvsUp then landNvsAddr m.id v.toNat s else nvsRefuse s) s)

/-- NVS_BUFFER_DRAIN. -/
def execNvsBufferDrain (s : State) : Host.Outcome State Fault Refusal := fin (if s.nvsUp then showNvs (nvsDrain s) else s)

/-- OPEN_READ. -/
def execOpenRead (m : Master) (r : Fin 2) (s : State) : Host.Outcome State Fault Refusal :=
  fin (whenOn 12 (landNvsPwCmd m.id (1 + 256 * r.val)) s)

/-- OPEN_WRITE. -/
def execOpenWrite (m : Master) (r : Fin 2) (s : State) : Host.Outcome State Fault Refusal :=
  fin (whenOn 12 (landNvsPwCmd m.id (2 + 256 * r.val)) s)

/-- CLOSE. -/
def execClose (m : Master) (r : Fin 2) (s : State) : Host.Outcome State Fault Refusal :=
  fin (whenOn 12 (landNvsPwCmd m.id (3 + 256 * r.val)) s)

/-- SET_READ_PW. -/
def execSetReadPw (m : Master) (r : Fin 2) (s : State) : Host.Outcome State Fault Refusal :=
  fin (whenOn 12 (landNvsPwCmd m.id (4 + 256 * r.val)) s)

/-- SET_WRITE_PW. -/
def execSetWritePw (m : Master) (r : Fin 2) (s : State) : Host.Outcome State Fault Refusal :=
  fin (whenOn 12 (landNvsPwCmd m.id (5 + 256 * r.val)) s)

/-- COUNTER_INCREMENT. -/
def execCounterIncrement (m : Master) (n : Fin 256) (s : State) : Host.Outcome State Fault Refusal :=
  fin (whenOn 12 (ctrIncrement m.id n.val) s)

/-- LOG_APPEND: LOG_CMD written by the SE. -/
def execLogAppend (s : State) : Host.Outcome State Fault Refusal := fin (whenOn 12 logAppend s)

/-- LOG_APPEND_DONE. -/
def execLogAppendDone (s : State) : Host.Outcome State Fault Refusal := fin (whenOn 12 (fun s => fwLogPay (logDone s)) s)

/-- POWER_FAIL. -/
def execPowerFail (s : State) : Host.Outcome State Fault Refusal := fin (whenOn 12 supplyFails s)

end Sys2Proof.Machine
end

