-- ==== Sys2Proof/Machine/Verify.lean ====
section
/-! DEFINITION. The verifier's checks of the code and of the rations (R318–R320, codes 0x3001 onwards), and the whole verification in the
order of R320. -/

namespace Sys2Proof.Machine

/-! ### Laps and life: codes 0x3001–0x4001 -/

def chkLapLength (i : Img) : List Rej :=
  let l := i.peLap
  let bad := decide (4096 < l) || l == 0 || l % 128 != 0 || i.served.any (fun pm => l % modeP pm.2 != 0)
  failIf bad (rejImg 0x3001 0x24)

/-- The bundles of engine `e`'s TE lap in issue order. -/
def Img.teOrder (i : Img) (e : Nat) : Option (List Nat) :=
  match i.lap e with
  | none => none
  | some s => teIssue i s 400000 0 []

def chkTeCount (i : Img) : List Rej :=
  let isLoop := fun (y : Syn1) => y.x.op == 0x38
  [4, 5].flatMap (fun e =>
    match i.lap e with
    | none => []
    | some s => failIf ((i.teOrder e).map List.length != some 62500) ⟨0x3002, rejAt e 0 0 0 1 0, 0, s.off⟩)
  ++ perLap i [0, 1, 2, 3] (fun e y => failIf (isLoop y) (rejL 0x3002 e y 0))
  ++ perVar i (fun v y => failIf (isLoop y) (rejV 0x3002 v y 0))

/-- R318: every syllable issues, and every result lands, below the reply-delay interval and below 64 × II. -/
def chkLife (i : Img) : List Rej :=
  perVar i (fun v y =>
    let top := min (dcyc (i.d v.p v.m)) (64 * i.ii v.p v.m)
    failIf (decide (top ≤ y.n + y.lat v.p)) (rejV 0x3003 v y 0))

def chkMalformed (i : Img) : List Rej :=
  perLap i (List.range 6) (fun e y => failIf (!sylOk (engKind e) (e - 4) false y.slot y.w) (rejL 0x4001 e y 0))
  ++ perVar i (fun v y => failIf (!sylOk .pe 0 true y.slot y.w) (rejV 0x4001 v y 0))

/-! ### The reservation tables: codes 0x5001–0x5006 -/

/-- The slot record of a port in a mode: w_σ and M_σ (R248, R315). -/
def Img.resv (i : Img) (p m slot : Nat) : Option (Nat × Nat) :=
  match i.sec 3 p m with
  | none => none
  | some s =>
    let w := i.n (s.off + 16 * slot) 2
    if w = 0xffff then none else some (w, i.n (s.off + 16 * slot + 8) 8)

def chkSpan (i : Img) : List Rej :=
  perVar i (fun v y =>
    match i.resv v.p v.m y.slot with
    | none => [rejV 0x5001 v y y.n]
    | some (w, _) => failIf (decide (y.n < w) || decide (w + i.ii v.p v.m ≤ y.n)) (rejV 0x5001 v y ((y.n : Int) - w)))

def chkResidue (i : Img) : List Rej :=
  perVar i (fun v y =>
    match i.resv v.p v.m y.slot with
    | none => []
    | some (_, mask) => failIf (!mask.testBit (y.n % modeP v.m)) (rejV 0x5002 v y 0))

def chkHole (i : Img) : List Rej :=
  perLap i [0, 1, 2, 3] (fun e y =>
    failIf ((List.range 5).any (fun m => (i.modes e).testBit m && (match i.resv e m y.slot with
      | some (_, mask) => mask.testBit (y.n % modeP m)
      | none => false))) (rejL 0x5003 e y 0))

def chkRxEarly (i : Img) : List Rej :=
  perVar i (fun v y => failIf (y.x.op == 0x1c && decide (y.n < modeP v.m * (y.x.a + 64 * y.x.md))) (rejV 0x5004 v y 0))

/-- R256: TXGO by REPLY_LEAD − 1, a write of reply beat i by REPLY_LEAD + b × i − 2. -/
def chkEmit (i : Img) : List Rej :=
  perVar i (fun v y =>
    let lead := replyLead (i.d v.p v.m) v.m
    let late := if y.x.op = 0x23 then decide (lead ≤ y.n)
      else if y.x.op = 0x20 ∨ y.x.op = 0x22 then decide (lead + modeP v.m * y.x.a < y.n + 2) else false
    failIf late (rejV 0x5005 v y 0))

/-- No write of predicate `q` lands in the stream `c` of port `p` after cycle `a` and by cycle `b`. -/
def steady (p : Nat) (c : List Syn1) (q a b : Nat) : Bool :=
  !c.any (fun w => (w.pwrites p).contains q && decide (a < w.n + w.lat p) && decide (w.n + w.lat p ≤ b))

/-- R293: a TXGO that can execute has a TXTS before it that executes whenever it does: an unpredicated one, one under the same test of a
predicate not written between, or two under the two tests of one predicate not written between. -/
def chkClaim (i : Img) : List Rej :=
  perVar i (fun v y =>
    let c := i.code v.s
    let never := y.x.pred == 0 && y.x.sense == 1
    let before := c.filter (fun t => t.x.op == 0x21 && decide (t.n < y.n))
    let covered := before.any (fun t => (t.x.pred == 0 && t.x.sense == 0)
      || (t.x.pred == y.x.pred && t.x.sense == y.x.sense && steady v.p c t.x.pred t.n y.n)
      || before.any (fun u => u.x.pred == t.x.pred && u.x.sense != t.x.sense && decide (t.n ≤ u.n) && steady v.p c t.x.pred t.n u.n))
    failIf (y.x.op == 0x23 && !never && !covered) (rejV 0x5006 v y 0))

/-! ### Registers: codes 0x6001–0x6005 -/

/-- The landings of a stream: (cycle, register or 64 + predicate, syllable). -/
def landings (e : Nat) (l : List (Nat × Syn1)) : List (Nat × Nat × Syn1) :=
  l.flatMap (fun ty => ((ty.2.writes e).map (fun r => (ty.1 + ty.2.lat e, r, ty.2)))
    ++ ((ty.2.pwrites e).map (fun q => (ty.1 + ty.2.lat e, 64 + q, ty.2))))

/-- The syllables of a lap with their issue cycles. -/
def Img.lapCycles (i : Img) (e : Nat) : List (Nat × Syn1) :=
  match i.lap e with
  | none => []
  | some s =>
    let c := i.code s
    if e ≤ 3 then c.map (fun y => (y.n, y))
    else ((i.teOrder e).getD []).zipIdx.flatMap (fun nb => (c.filter (fun y => y.n == nb.1)).map (fun y => (nb.2, y)))

/-- The later of two writes that land in one register in one cycle, modulo the lap length where it is not 0. -/
def doubles (len : Nat) (l : List (Nat × Nat × Syn1)) : List Syn1 :=
  let md := fun (c : Nat) => if len = 0 then c else c % len
  l.filterMap (fun a =>
    if l.any (fun b => md a.1 == md b.1 && a.2.1 == b.2.1 && a.2.1 != 64 && decide (b.2.2.off < a.2.2.off)) then some a.2.2 else none)

def chkDouble (i : Img) : List Rej :=
  (List.range 6).flatMap (fun e =>
    (doubles (if e ≤ 3 then i.peLap else 62500) (landings e (i.lapCycles e))).map (fun y => rejL 0x6001 e y 0))
  ++ i.vctxs.flatMap (fun v => (doubles 0 (landings v.p ((i.code v.s).map (fun y => (y.n, y))))).map (fun y => rejV 0x6001 v y 0))

/-- R279: rotating names lie inside the frame, and every use falls inside the window. -/
def chkRotate (i : Img) : List Rej :=
  perVar i (fun v y =>
    let f := i.f v.p
    let fp := i.fp v.p
    let ii := i.ii v.p v.m
    let badG := fun (at_ r : Nat) => 32 ≤ r && (decide (32 + f ≤ r) || decide (32 / f * ii ≤ at_))
    let badP := fun (at_ q : Nat) => 8 ≤ q && (decide (8 + fp ≤ q) || decide (8 / fp * ii ≤ at_))
    failIf ((y.reads v.p).any (badG y.n) || (y.writes v.p).any (badG (y.n + y.lat v.p))
      || (y.preads v.p).any (badP y.n) || (y.pwrites v.p).any (badP (y.n + y.lat v.p))) (rejV 0x6002 v y 0))

/-- R279: an instance reads no rotating name before it has written it. -/
def chkReadFirst (i : Img) : List Rej :=
  i.vctxs.flatMap (fun v =>
    let c := i.code v.s
    let lands := landings v.p (c.map (fun y => (y.n, y)))
    let known := fun (at_ r : Nat) => lands.any (fun l => l.2.1 == r && decide (l.1 ≤ at_))
    c.flatMap (fun y =>
      failIf ((y.reads v.p).any (fun r => 32 ≤ r && !known y.n r) || (y.preads v.p).any (fun q => 8 ≤ q && !known y.n (64 + q)))
        (rejV 0x6003 v y 0)))

def chkPartition (i : Img) : List Rej :=
  perLap i [0, 1, 2, 3] (fun e y =>
    failIf ((y.writes e).any (fun r => 32 ≤ r) || (y.pwrites e).any (fun q => 8 ≤ q)) (rejL 0x6004 e y 0))
  ++ perVar i (fun v y =>
    failIf ((y.writes v.p).any (fun r => r < 32) || (y.pwrites v.p).any (fun q => 1 ≤ q && q < 8)) (rejV 0x6004 v y 0))

/-- The long immediate of a bundle of the image (R281). -/
def Img.limmOf (i : Img) (y : Syn1) : Nat := i.n (y.off - 4 * y.slot + 28) 4 % 2 ^ 26

/-- R300: REL slots are used below 16 × II. A control word that is not a long immediate may have REL set. -/
def chkKeyWindow (i : Img) : List Rej :=
  perVar i (fun v y =>
    let rel := !(y.limm && y.x.b == 63) || (i.limmOf y).testBit 7
    failIf ((y.x.op == 0x30 || y.x.op == 0x31) && rel && decide (16 * i.ii v.p v.m ≤ y.n)) (rejV 0x6005 v y 0))

/-! ### Units and phases: codes 0x7001–0x7005 -/

/-- PE `p` may inject on ring `k` in a cycle of class `c` (R22, R264). -/
def ringOk (p k c : Nat) : Bool := (c + k) % 4 == p && !(k == p && (c == 0 || c == 4 || c == 8))

def isRing (op : Nat) : Bool := op == 0x24 || op == 0x25 || op == 0x26

def chkRing (i : Img) : List Rej :=
  let bad := fun (p c k : Nat) => !ringOk p k c
  perLap i [0, 1, 2, 3] (fun e y =>
    failIf (isRing y.x.op && bad e (y.n % 16) y.x.md) (rejL 0x7001 e y (y.n % 16 + 16 * y.x.md : Nat)))
  ++ perVar i (fun v y =>
    let c := (v.c + y.n) % 16
    failIf (isRing y.x.op && bad v.p c y.x.md) (rejV 0x7001 v y (c + 16 * y.x.md : Nat)))

/-- The cyclic distance from `a` to `b` in a lap of `n`. -/
def cycDist (n a b : Nat) : Nat := (b + n - a % n) % n

def chkDivu (i : Img) : List Rej :=
  [4, 5].flatMap (fun e =>
    let l := (i.lapCycles e).filter (fun ty => ty.2.x.op == 0x2c || ty.2.x.op == 0x2d || ty.2.x.op == 0x33)
    let divs := l.filter (fun ty => ty.2.x.op == 0x33)
    l.flatMap (fun ty => failIf (divs.any (fun d => d.2.x.md % 4 == ty.2.x.md % 4 && 0 < cycDist 62500 d.1 ty.1 && cycDist 62500 d.1 ty.1 < 34))
      (rejL 0x7002 e ty.2 0)))

def chkTeSpacing (i : Img) : List Rej :=
  [4, 5].flatMap (fun e =>
    let l := (i.lapCycles e).filter (fun ty => isRing ty.2.x.op)
    l.flatMap (fun ty => failIf (l.any (fun d => 0 < cycDist 62500 d.1 ty.1 && cycDist 62500 d.1 ty.1 < 12)) (rejL 0x7003 e ty.2 0)))

/-- The read phase of channel `n` for engine `e` (R315). -/
def Img.phase (i : Img) (e n : Nat) : Nat :=
  match i.sec 6 e 0 with
  | some s => i.n (s.off + 4 * n) 4 % 2 ^ 17
  | none => 0x1ffff

def chkReadPhase (i : Img) : List Rej :=
  [4, 5].flatMap (fun e => (i.lapCycles e).flatMap (fun ty =>
    failIf (ty.2.x.op == 0x1f && (decide (24 ≤ ty.2.x.a) || i.phase e ty.2.x.a != ty.1)) (rejL 0x7004 e ty.2 0)))

def chkSteerLate (i : Img) : List Rej :=
  [4, 5].flatMap (fun e => (i.lapCycles e).flatMap (fun ty =>
    failIf ((ty.2.x.op == 0x20 || ty.2.x.op == 0x23) && decide (62000 < ty.1)) (rejL 0x7005 e ty.2 0)))

/-! ### Rations: codes 0x8001–0x8005 (R35–R38). Charges are summed in units of 0.1 pC / 12,240, the latencies' common multiple -/

abbrev qUnit : Nat := 12240

/-- The cycles of `[c, c + n)`, taken modulo `len`, that lie in `[a, b)`. -/
def overlap (len c n a b : Nat) : Nat := ((List.range n).filter (fun k => let t := (c + k) % len; a ≤ t && t < b)).length

/-- The charge that a lap of length `len` books in its cycles `[a, b)`: its syllables, NOPs with their modifiers included, in equal
parts over their latencies; slots in `claim` are left out. -/
def lapCharge (e len a b : Nat) (claim : Nat → Bool) (l : List (Nat × Syn1)) : Nat :=
  l.foldl (fun acc ty =>
    if claim ty.2.slot then acc else acc + ty.2.charge e * (qUnit / ty.2.span e) * overlap len ty.1 (ty.2.span e) a b) 0

/-- Every syllable of a lap with its cycle, NOPs included. -/
def Img.lapAll (i : Img) (e : Nat) : List (Nat × Syn1) :=
  match i.lap e with
  | none => []
  | some s =>
    let c := i.syls s
    if e ≤ 3 then c.map (fun y => (y.n, y))
    else ((i.teOrder e).getD []).zipIdx.flatMap (fun nb => (c.filter (fun y => y.n == nb.1)).map (fun y => (nb.2, y)))

/-- The booked charge of the PE window `w` (R38): each claimable slot at its SLOTQ in every cycle, every other slot's lap syllables. -/
def Img.window (i : Img) (w : Nat) : Nat :=
  (List.range 4).foldl (fun acc e =>
    let claim := fun (slot : Nat) => i.slotQ e slot != 0
    acc + (List.range 8).foldl (fun acc slot => acc + 128 * i.slotQ e slot * qUnit) 0
      + lapCharge e i.peLap (128 * w) (128 * w + 128) claim (i.lapAll e)) 0

def absDiff (a b : Nat) : Nat := if a < b then b - a else a - b

/-- A failure at window `w` of the PE laps. -/
def rejW (i : Img) (code w q : Nat) : Rej :=
  ⟨code, rejAt 7 0 0 0 1 (128 * w), (q / qUnit : Nat), ((i.lap 0).map Sec.off).getD 0 + 32 * 128 * w⟩

def chkPeWindow (i : Img) : List Rej :=
  (List.range (i.peLap / 128)).flatMap (fun w =>
    failIf (decide (16000 * qUnit < absDiff (i.window w) (i.fabQ * qUnit))) (rejW i 0x8001 w (i.window w)))

def chkPeStep (i : Img) : List Rej :=
  let n := i.peLap / 128
  (List.range n).flatMap (fun w =>
    let d := absDiff (i.window w) (i.window ((w + n - 1) % n))
    failIf (decide (16000 * qUnit < d)) (rejW i 0x8002 w d))

def chkTeRun (i : Img) : List Rej :=
  (List.range 62500).flatMap (fun c =>
    let q := [4, 5].foldl (fun acc e =>
      let l := i.lapAll e
      acc + (lapCharge e 62500 c (min 62500 (c + 82)) (fun _ => false) l
        + lapCharge e 62500 0 (c + 82 - 62500) (fun _ => false) l)) 0
    failIf (decide (4000 * qUnit < absDiff q (i.teQ * qUnit)))
      ⟨0x8003, rejAt 7 0 0 0 1 c, (q / qUnit : Nat), ((i.lap 4).map Sec.off).getD 0⟩)

/-- FAB_Q / 163.84 ns + TE_Q / 164.0 ns is 900 mA or more; 0.1 pC / ns is 0.1 mA. -/
def chkVariable (i : Img) : List Rej :=
  failIf (decide (9000 * 16384 * 164 ≤ i.fabQ * 100 * 164 + i.teQ * 16384)) (rejImg 0x8004 0x1c)

/-- The largest charge that a variant of port `p` places in a slot (R37). -/
def Img.slotMax (i : Img) (p slot : Nat) : Nat :=
  (i.vctxs.filter (fun v => v.p == p)).foldl (fun acc v =>
    (i.code v.s).foldl (fun acc y => if y.slot = slot then max acc (y.charge p) else acc) acc) 0

def chkSlotCharge (i : Img) : List Rej :=
  (List.range 4).flatMap (fun p => (List.range 8).flatMap (fun slot =>
    failIf (i.slotQ p slot != i.slotMax p slot) ⟨0x8005, rejAt p 0 0 slot 0 0, i.slotMax p slot, portBlk p + 0x30 + 2 * slot⟩))

/-! ### The verification (R320) -/

/-- The bank's words that cannot be corrected (R325), as failures. -/
def chkEcc (i : Img) (ue : Tbl Bool) : List Rej :=
  ue.filterMap (fun e => if e.2 && i.b ≤ e.1 && e.1 < i.b + 1048576 then some (rejImg 0x1007 (e.1 - i.b)) else none)

/-- The first failure of a list of checks taken in order. -/
def firstOf : List (List Rej) → Option Rej
  | [] => none
  | l :: t => match lowest l with
    | some r => some r
    | none => firstOf t

/-- The verification: the checks of R320 in ascending order of reason code, in one code by ascending offset. `keyOk` and `sigOk` are the
results of R316, `minVer` the anti-rollback counter. -/
def verifyImage (i : Img) (ue : Tbl Bool) (keyOk sigOk : Bool) (minVer : Nat) : Option Rej :=
  match firstOf [chkMagic i, chkTarget i, chkLength i] with
  | some r => some r
  | none =>
    match firstOf [chkSections i, chkMissing i, chkFields i, chkEcc i ue,
        failIf (!keyOk) (rejImg 0x2001 (i.trailer + 8)), failIf (!sigOk) (rejImg 0x2002 (i.trailer + 105)),
        failIf (decide (i.secver < minVer)) (rejImg 0x2003 0x10)] with
    | some r => some r
    | none => firstOf [chkLapLength i, chkTeCount i, chkLife i, chkMalformed i, chkSpan i, chkResidue i, chkHole i, chkRxEarly i, chkEmit i,
        chkClaim i, chkDouble i, chkRotate i, chkReadFirst i, chkPartition i, chkKeyWindow i, chkRing i, chkDivu i, chkTeSpacing i,
        chkReadPhase i, chkSteerLate i, chkPeWindow i, chkPeStep i, chkTeRun i, chkVariable i, chkSlotCharge i]

/-- What the running image declares for port `p` (R312). -/
def Img.hdr (i : Img) (p : Nat) : PortHdr :=
  { modes := i.modes p, entry := i.entry p, f := i.f p, fp := i.fp p, share := i.share p,
    ii := (List.range 5).map (i.ii p), d := (List.range 5).map (i.d p) }

/-! ### Compatibility of a swap (R329) -/

/-- The offsets at which the variants of port `p` in mode `m` use an instance-indexed resource: rotating names, scratch and REL slots;
results where they land if `land`. -/
def indexedUses (i : Img) (p m : Nat) (land : Bool) : List Nat :=
  (i.vctxs.filter (fun v => v.p == p && v.m == m)).flatMap (fun v => (i.code v.s).flatMap (fun y =>
    let rd := (y.reads p).any (fun r => 32 ≤ r) || (y.preads p).any (fun q => 8 ≤ q) || y.x.op == 0x30 || y.x.op == 0x31
      || ((y.x.op == 0x27 || y.x.op == 0x28) && y.x.md == 1)
    let wr := (y.writes p).any (fun r => 32 ≤ r) || (y.pwrites p).any (fun q => 8 ≤ q)
    (if rd || wr then [y.n] else []) ++ (if land && wr then [y.n + y.lat p] else [])))

/-- The booked charge of window `w` after a swap: the new laps, each claimable slot at the larger slot charge (K5). -/
def swapWindow (old new : Img) (w : Nat) : Nat :=
  (List.range 4).foldl (fun acc e =>
    let q := fun (slot : Nat) => max (old.slotQ e slot) (new.slotQ e slot)
    acc + (List.range 8).foldl (fun acc slot => acc + 128 * q slot * qUnit) 0
      + lapCharge e new.peLap (128 * w) (128 * w + 128) (fun slot => q slot != 0) (new.lapAll e)) 0

/-- The lowest-numbered condition K1–K5 of R329 that fails for port `p` in a mode of both banks; 0 where all hold. -/
def compatMode (old new : Img) (p m : Nat) : Nat :=
  let g := max (old.ii p m) (new.ii p m)
  let dOld := dcyc (old.d p m)
  let newLap := match new.lap p with
    | some s => new.code s
    | none => []
  let k1 := newLap.all (fun y => !(y.n < dOld && (match old.resv p m y.slot with
    | some (_, mask) => mask.testBit (y.n % modeP m)
    | none => false)))
  let k2 := (List.range 8).all (fun slot => match old.resv p m slot, new.resv p m slot with
    | some (wo, _), some (wn, _) => decide (wo + old.ii p m ≤ wn + g)
    | _, _ => true)
  let us := indexedUses old p m true
  let vs := indexedUses new p m false
  let k3 := us.all (fun u => vs.all (fun v => decide (u < v + g)))
  let k4 := decide (old.d p m ≤ new.d p m)
  let k5 := (List.range ((dOld + 127) / 128)).all (fun w =>
    decide (absDiff (swapWindow old new (w % (new.peLap / 128))) (new.fabQ * qUnit) ≤ 16000 * qUnit))
  if !k1 then 1 else if !k2 then 2 else if !k3 then 3 else if !k4 then 4 else if !k5 then 5 else 0

/-- COMPAT of port `p` (R329): the lowest-numbered condition that fails in some mode of both banks. -/
def compat (old new : Img) (p : Nat) : Nat :=
  let fails := (((List.range 5).filter (fun m => (old.modes p).testBit m && (new.modes p).testBit m)).map (compatMode old new p)).filter (· != 0)
  fails.foldl (fun acc k => if acc = 0 then k else min acc k) 0

end Sys2Proof.Machine
end

