-- ==== Sys2Proof/Machine/Itin.lean ====
section
/-! DEFINITION. The itinerary store and its banks (R321–R340): loading, verification, swaps and their commit, the engines' change of bank,
scrubbing and cancellation. -/

namespace Sys2Proof.Machine

/-! ### Banks (R323, R340) -/

/-- The state of bank `b`: 0 EMPTY, 1 LOADED, 2 VERIFYING, 3 VERIFIED, 4 REJECTED, 5 RUNNING, 6 DRAINING. -/
def State.bank (s : State) (b : Nat) : Nat := s.fld ⟨Reg.ITIN_STATUS, 4 * b, 3⟩
def State.setBank (s : State) (b v : Nat) : State := s.setFld ⟨Reg.ITIN_STATUS, 4 * b, 3⟩ v

/-- The bank of the armed swap. -/
def State.armed (s : State) (b : Nat) : Bool := match s.itin.arm with
  | some a => a.bank == b
  | none => false

/-- The BANK_ registers read zero (R340). -/
def bankClear (b : Nat) (s : State) : State := forEach (List.range 7) (fun s k => s.setRv (Reg.BANK_SECVER b + 4 * k) 0) s

/-- The BANK_ registers show the image (R323, R340). -/
def bankFill (b : Nat) (s : State) : State :=
  let i := s.img b
  let l := [i.secver, i.build, i.selVer + 256 * i.dpllVer + 65536 * i.n 4 2, i.len, i.ration, i.fabMa % 8192 + 65536 * (i.teMa % 8192),
    i.modes 0 % 32 + 256 * (i.modes 1 % 32) + 65536 * (i.modes 2 % 32) + 2 ^ 24 * (i.modes 3 % 32)]
  forEach (l.zipIdx) (fun s x => s.setRv (Reg.BANK_SECVER b + 4 * x.2) x.1) s

/-- A rejection is recorded and sent (R321); VER_EVT counts, or SWAP_EVT for the codes of R44. -/
def rejectRec (b : Nat) (r : Rej) (s : State) : State :=
  let s1 := (((s.setRv Reg.REJ_CODE (r.code % 65536 + 65536 * b + 2 ^ 31)).setRv Reg.REJ_WHERE r.whr).setRv Reg.REJ_AUX (unsigned 32 r.aux)).setRv
    Reg.REJ_OFFSET (r.off % 2 ^ 20)
  let s2 := s1.sendFault srcVerifier kItineraryReject (r.code % 65536 + 65536 * b)
  s2.bump (if r.code = 0x9001 ∨ r.code = 0x9002 then Reg.SWAP_EVT else Reg.VER_EVT)

/-- Bank `b` becomes REJECTED. -/
def bankReject (b : Nat) (r : Rej) (s : State) : State := rejectRec b r (bankClear b (s.setBank b 4))

/-- A command is refused (R340). -/
def itinRefuse (s : State) : State := s.bump16 Reg.ITIN_CMD_REF

/-! ### Loading (R322) -/

/-- The words of the store that a write covers whole are good again. -/
def clearUe (ue : Tbl Bool) (a n : Nat) : Tbl Bool := ue.filter (fun e => !(decide (a ≤ e.1) && decide (e.1 + 4 ≤ a + n)))

/-- A DMA write of `l` lands at offset `o` of bank `b`, or is refused (R322, R323). -/
def storeWrite (b o : Nat) (l : List Byte) (s : State) : State :=
  if s.bank b = 2 ∨ s.bank b = 5 ∨ s.bank b = 6 ∨ s.armed b = true then
    (s.bumpSat Reg.STORE_REFUSED).sendFault srcVerifier kLockedWrite (o % 2 ^ 20 + b * 2 ^ 20)
  else
    let a := b * 1048576 + o % 2 ^ 20
    bankClear b ({ s with itin := { s.itin with store := s.itin.store.setBytes a l, ue := clearUe s.itin.ue a l.length } }.setBank b 1)

/-! ### Verification (R316, R317, R323) -/

/-- PUBKEY of the trailer, and the slot that KEY_IDX names (R316). -/
def Img.pubkey (i : Img) : List Nat := nats (i.bytes (i.trailer + 8) 97)
def Img.keyIdx (i : Img) : Nat := i.n (i.trailer + 4) 1

/-- The hash that OTP slot `k` holds: Obvokan's in slots 0 and 4 (R457). -/
def State.otpHash (s : State) (k : Nat) : List Nat :=
  nats (Tbl.get (fun k => if k = 0 ∨ k = 4 then octetsOf (toBe 48 (Config.obvokanKeyHash k)) else List.replicate 48 0) s.sec.hash k)

/-- OTP slot `k` is in force for a key (R316, R385, R457). -/
def State.keyInForce (s : State) (k : Nat) (pub : List Nat) : Bool := s.fld ⟨Reg.OTP_SLOT k, 0, 2⟩ == 1 && sha384 pub == s.otpHash k

/-- The signature of R316 over the octets before it. -/
def sigGood (m : Memory) (b len : Nat) (pub : List Nat) : Bool :=
  ecdsaVerify pub (sha384 (nats (m.bytes b (len - 151)))) (nats (m.bytes (b + len - 151) 96))

/-- The verification of bank `b` (R320). -/
def State.verdict (s : State) (b : Nat) : Option Rej :=
  let i := s.img b
  verifyImage i s.itin.ue (decide (i.keyIdx < 4) && s.keyInForce (4 + i.keyIdx) i.pubkey) (sigGood i.m i.b i.len i.pubkey) (s.ctr 1)

/-- The security block serves verification: its tests passed, no rerun failed (R466, R467). -/
def State.secServes (s : State) : Bool := s.flag F.SELFTEST_DONE && !s.sec.dead && s.fld F.SE_STATUS_STATE != 6

/-- VERIFY (R323, R340). -/
def itinVerify (b : Nat) (s : State) : State :=
  let st := s.bank b
  if st = 0 ∨ st = 2 ∨ st = 5 ∨ st = 6 ∨ s.armed b = true ∨ s.bank (1 - b) = 2 ∨ s.secServes = false then itinRefuse s
  else { (s.setBank b 2).setFlag F.ITIN_STATUS_BUSY true with itin := { s.itin with verAt := s.now } }

/-- Verification of the bank in VERIFYING ends; VER_TIME shows the µs since VERIFY landed, or the `us` it has taken, if more (R323, R324,
R340). -/
def verifyDone (us : Nat) (s : State) : State :=
  let go := fun (b : Nat) =>
    let s1 := (s.setFlag F.ITIN_STATUS_BUSY false).setRv Reg.VER_TIME (min (max us ((s.now - s.itin.verAt) / 1000000)) 0xffff)
    match s1.verdict b with
    | none => (bankFill b (s1.setBank b 3)).bump Reg.VER_EVT
    | some r => bankReject b r s1
  if s.bank 0 = 2 then go 0 else if s.bank 1 = 2 then go 1 else s

/-! ### Swaps (R44, R326, R333) -/

/-- The check of R44: none, or the reason code of the check that fails. Where no bank runs, the backfill draws in the place of the old
targets (R518). -/
def State.swapCheck (s : State) (b : Nat) : Option Nat :=
  let i := s.img b
  let old := s.fabDrawn s.itinRuns + s.fld F.RATION_TARGETS_TE
  let d : Int := (i.fabMa + i.teMa : Int) - old
  let t : Int := s.trim - d
  if t < 0 ∨ 1200 < t then some 0x9001
  else if i.ration < s.baseReserve + i.fabMa + i.teMa + s.alwSum then some 0x9002
  else none

/-- The armed swap is disarmed with SWAP_RESULT `k`. -/
def swapDisarm (k : Nat) (s : State) : State :=
  let s1 : State := { s with itin := { s.itin with arm := none, gap := 0 } }
  (s1.setFlag F.ITIN_STATUS_ARMED false).setFld F.SWAP_RESULT_CODE k

/-- The armed swap is cancelled with SWAP_RESULT `k` (R323, R333). -/
def swapCancel (k : Nat) (s : State) : State := (swapDisarm k s).bump Reg.SWAP_EVT

/-- The first multiple of `l` at or after `c`. -/
def nextMult (l c : Nat) : Nat := if l = 0 then c else (c + l - 1) / l * l

/-- SWAP (R326, R329, R332, R340, R508). -/
def itinSwap (b : Nat) (s : State) : State :=
  if s.bank b != 3 || s.itin.arm.isSome || s.bank (1 - b) == 6 then itinRefuse s
  else match s.swapCheck b with
    | some c => rejectRec b (rejImg c 0) (s.setFld F.SWAP_RESULT_CODE 6)
    | none =>
      let i := s.img b
      let l := if s.itinRuns then Nat.lcm (s.img s.runBank).peLap i.peLap else i.peLap
      let cs := nextMult l (s.cycle + 2048)
      let s1 : State := { s with itin := { s.itin with arm := some ⟨b, cs, false⟩, gap := 0 } }
      let s2 := (s1.setFlag F.ITIN_STATUS_ARMED true).setQuant Reg.SWAP_CYCLE 2 cs
      let s3 := (s2.setFld F.SWAP_RESULT_GAPS 0).setFld F.SWAP_RESULT_DARK 0
      forEach (List.range 4) (fun s4 p =>
        s4.setRv (Reg.COMPAT p) (if s.itinRuns && !s.wHeld 1 0 then compat (s.img s.runBank) i p else 0)) s3

/-- Fabric cycle `n` before the swap cycle of `a` has come (R326, R330). -/
def Arm.within (a : Arm) (n : Nat) (s : State) : Bool := decide (a.cs ≤ s.cycle + n)

/-- CANCEL (R333, R340). -/
def itinCancel (s : State) : State :=
  match s.itin.arm with
  | some a => if a.committed || a.within 1024 s then itinRefuse s else swapCancel 2 s
  | none => itinRefuse s

/-- CLEAR (R323, R340). -/
def itinClear (b : Nat) (s : State) : State :=
  let st := s.bank b
  if st = 2 ∨ st = 5 ∨ st = 6 ∨ s.armed b = true then itinRefuse s
  else bankClear b (s.setBank b 0)

/-- ITIN_CMD with value `v` (R340). -/
def landItinCmd (v : Nat) (s : State) : State :=
  let b := v / 256 % 2
  match v % 16 with
  | 1 => itinVerify b s
  | 2 => itinSwap b s
  | 3 => itinCancel s
  | 4 => itinClear b s
  | _ => itinRefuse s

/-- The commit point: the check of R44 again (R326, R333). -/
def commitPoint (s : State) : State :=
  match s.itin.arm with
  | none => s
  | some a =>
    if a.committed || !a.within 1024 s then s else
    match s.swapCheck a.bank with
    | some c => rejectRec a.bank (rejImg c 0) (swapDisarm 4 s)
    | none => { s with itin := { s.itin with arm := some { a with committed := true } } }

/-- The gap of an incompatible port opens, the reply-delay interval of the old bank in the port's resolved mode before the swap (R330). -/
def gapOpen (p : Nat) (s : State) : State :=
  let open_ := match s.itin.arm with
    | some a => a.committed && a.within (dcyc ((s.pe_ p).hdr.d.getD (s.modeIdx p) 0)) s
    | none => false
  if open_ && s.fld (F.COMPAT_COND p) != 0 && !s.itin.gap.testBit p then
    let s1 : State := { s with itin := { s.itin with gap := s.itin.gap + 2 ^ p } }
    (s1.setFlag (F.COMPAT_GAP p) true).setFld F.SWAP_RESULT_GAPS (s1.fld F.SWAP_RESULT_GAPS ||| 2 ^ p)
  else s

/-! ### An engine first runs a bank (R280, R315, R327, R328) -/

/-- The registers and predicates that the REGS section declares: on a PE g0–g31 and p1–p7, on a TE all (R280, R315). -/
def loadRegs (i : Img) (e : Nat) (g : EngPart) : EngPart :=
  match i.sec 5 e 0 with
  | none => g
  | some r =>
    let n := if e ≤ 3 then 32 else 64
    let pm := i.n (r.off + 8 * n) 2 % (if e ≤ 3 then 256 else 65536) / 2 * 2
    let g1 := (List.range n).foldl (fun g k => g.setReg k (BitVec.ofNat 64 (i.n (r.off + 8 * k) 8))) g
    { g1 with p := g1.p / (if e ≤ 3 then 256 else 65536) * (if e ≤ 3 then 256 else 65536) + pm }

/-- The data segment that the DATA section makes: INIT bytes, CARRY ranges of the old segment where `keep`, all other bytes zero (R315, R327). -/
def loadData (i : Img) (e : Nat) (keep : Bool) (old : Memory) : Memory :=
  match i.sec 4 e 0 with
  | none => []
  | some r =>
    let recs := (i.data r).getD []
    let carried := if keep then old.filter (fun c => recs.any (fun x => x.1 == 1 && decide (x.2.1 ≤ c.1) && decide (c.1 < x.2.1 + x.2.2.1))) else []
    recs.foldl (fun m x => if x.1 = 0 then m.setBytes x.2.1 (i.bytes x.2.2.2 x.2.2.1) else m) carried

/-- Engine `e` takes bank `b` (R280, R327, R328). -/
def engLoad (e b : Nat) (keep : Bool) (s : State) : State :=
  let i := s.img b
  let g := s.eng_ e
  s.setEng e { loadRegs i e g with data := loadData i e keep g.data }

/-- Port engine `p` takes bank `b`: its header, and what R331 needs of the old one. -/
def peTake (p b : Nat) (keep : Bool) (s : State) : State :=
  let e := s.pe_ p
  let h := (s.img b).hdr p
  let on := !s.wHeld 1 0
  let s1 := engLoad p b keep s
  let m := s.modeIdx p
  let s2 := s1.setPe p { e with
    runs := on, bank := b, lap := (s.img b).peLap, hdr := h, gapII := max e.gapII (h.ii.getD m 0), oldD := e.hdr.d }
  s2.setFlag (F.PE_STATUS_RUNNING p) on

/-- Port `p` is UP in a mode that its image does not serve (R331). -/
def showDark (p : Nat) (s : State) : State :=
  if s.portState p == 4 && !s.served p then
    (s.setFlag (F.COMPAT_MODE_DARK p) true).setFld F.SWAP_RESULT_DARK (s.fld F.SWAP_RESULT_DARK ||| 2 ^ p)
  else s

/-- The fabric target becomes that of the bank swapped in, in place of the old bank's or, at the first swap, of the backfill (R43, R518). -/
def fabTarget (ma : Nat) (ran : Bool) (s : State) : State :=
  let s1 := targetMove false ma ((ma : Int) - s.fabDrawn ran) s
  { s1 with rat := { s1.rat with backfillMa := 0, backfillTo := 0 } }

/-- The TE target becomes that of the bank swapped in (R43). -/
def teTarget (ma : Nat) (s : State) : State := targetMove true ma ((ma : Int) - s.fld F.RATION_TARGETS_TE) s

/-- The cycle by which every instance of the old bank has ended. -/
def State.lastStop (s : State) : Nat :=
  (List.range 4).foldl (fun acc p => (s.pe_ p).insts.foldl (fun acc i => max acc i.stop) acc) 0

/-- The swap cycle (R327, R332, R335). -/
def swapCycle (s : State) : State :=
  match s.itin.arm with
  | none => s
  | some a =>
    if !a.committed || !a.within 0 s then s else
    let ran := s.itinRuns
    let old := s.runBank
    let stop := s.lastStop
    let s1 : State := { s with itin := { s.itin with arm := none, gap := 0, teWait := 3, drainTo := stop } }
    let s2 := forEach (List.range 4) (fun s p => showDark p (peTake p a.bank true s)) s1
    let s3 := if ran then s2.setBank old 6 else s2
    let s4 := ((s3.setBank a.bank 5).setFld F.ITIN_STATUS_RUN_BANK a.bank).setFlag F.ITIN_STATUS_RUNNING true
    let s5 := ((s4.setFlag F.ITIN_STATUS_ARMED false).setFlag F.FAB_STATUS_ITIN_RUN true).setFld F.SWAP_RESULT_CODE 1
    let s6 := fabTarget (s.img a.bank).fabMa ran s5
    let s7 := if s.wHeld 1 0 then s6 else s6.setFlag F.RATION_STATUS_FABRIC_BACKFILL false
    (s7.bump Reg.SWAP_EVT).milestone 7

/-- Engine `t` swaps at its lap boundary: it makes the running bank its own, and takes its registers and segment unless whistled; at
TE0's swap the versions and the TE target change and the level ramps (R328, R337). -/
def teSwap (t : Nat) (s : State) : State :=
  if !s.itin.teWait.testBit t then s else
  let b := s.runBank
  let i := s.img b
  let s1 : State := { s with itin := { s.itin with
    teWait := s.itin.teWait - 2 ^ t, teBank := Tbl.set (fun _ => none) s.itin.teBank t (some b) } }
  let s2 := if s.wHeld 7 t then s1 else engLoad (4 + t) b true s1
  if t = 0 then
    let s3 := (s2.setRv Reg.SEL_VER i.selVer).setRv Reg.DPLL_VER i.dpllVer
    (teTarget i.teMa s3).rampTo i.ration s3.rat.backfillTo s3.rat.govTo
  else s2

/-- The drain of the old bank ends (R323, R472). -/
def drainEnd (s : State) : State :=
  let go := fun (b : Nat) =>
    if (s.img b).secver < s.ctr 1 then bankReject b (rejImg 0x2003 0x10) s else s.setBank b 3
  if s.itin.teWait = 0 ∧ s.itin.drainTo ≤ s.cycle then
    if s.bank 0 = 6 then go 0 else if s.bank 1 = 6 then go 1 else s
  else s

/-- Counter 1 has risen: verified banks below it are rejected (R472). -/
def bankRollback (s : State) : State :=
  forEach [0, 1] (fun s b =>
    if s.bank b = 3 ∧ s.rv (Reg.BANK_SECVER b) < s.ctr 1 then
      bankReject b (rejImg 0x2003 0x10) (if s.armed b then swapCancel 4 s else s)
    else s) s

/-- The verifier, which does this only when idle, scrubs both banks: `corr` words corrected, `bad` the store addresses of words that cannot be (R325). -/
def storeScrub (corr : Nat) (bad : List Nat) (s : State) : State :=
  if s.flag F.ITIN_STATUS_BUSY then s else
  let s1 := forEach (List.range (min corr 524288)) (fun s _ => s.bumpSat Reg.STORE_CORR) s
  forEach bad (fun s a =>
    let a := a % 2 ^ 21 / 4 * 4
    let b := a / 2 ^ 20
    let s2 : State := { s with itin := { s.itin with ue := Tbl.set (fun _ => false) s.itin.ue a true } }
    if s.bank b = 3 then bankReject b (rejImg 0x1007 (a % 2 ^ 20)) (if s.armed b then swapCancel 4 s2 else s2) else s2) s1

/-- The fabric leaves rung L0: a verification is abandoned and an armed swap cancelled (R323, R333). -/
def itinLeaveL0 (s : State) : State :=
  let s1 := forEach [0, 1] (fun s b => if s.bank b = 2 then (s.setBank b 1).setFlag F.ITIN_STATUS_BUSY false else s) s
  if s1.itin.arm.isSome then swapCancel 5 s1 else s1

/-- FCLK starts: a bank that runs restarts at fabric cycle 0 and replaces the backfill, and CARRY ranges are kept where the segments were
(R43, R332); where no bank runs the backfill draws the stock targets until the first swap (R518). -/
def itinRestart (keep : Bool) (s : State) : State :=
  if s.itinRuns then
    let b := s.runBank
    let s1 := forEach (List.range 4) (fun s p =>
      let s2 := peTake p b keep s
      showDark p (s2.setPe p { s2.pe_ p with gapII := 0, last := none, oldD := [] })) s
    let s2 : State := { s1 with rat := { s1.rat with backfillMa := 0, backfillTo := 0 } }
    (s2.setFlag F.FAB_STATUS_ITIN_RUN true).setFlag F.RATION_STATUS_FABRIC_BACKFILL (s.wHeld 1 0)
  else { s with rat := { s.rat with backfillMa := bootBackfill, backfillTo := bootBackfill } }

/-- The store is lost (R487): both banks EMPTY, no bank runs, no TE has one. -/
def itinLost (s : State) : State :=
  let s1 : State := { s with itin := { s.itin with store := [], ue := [], arm := none, gap := 0, teWait := 0, teBank := [] } }
  let s2 := bankClear 1 (bankClear 0 (s1.setRv Reg.ITIN_STATUS 0))
  (((s2.setRv Reg.SEL_VER 0).setRv Reg.DPLL_VER 0).setRv Reg.RATION_TARGETS 0).setFlag F.FAB_STATUS_ITIN_RUN false

/-! ### Commands -/

/-- STORE_WRITE (R322): a DMA write of the octets `l` at offset `o` of bank `b`. -/
def execStoreWrite (b : Fin 2) (o : Nat) (l : List Byte) (s : State) : Host.Outcome State Fault Refusal := fin (whenOn 9 (storeWrite b.val o l) s)

/-- VERIFY (R323). -/
def execVerify (b : Fin 2) (s : State) : Host.Outcome State Fault Refusal := fin (whenOn 9 (landItinCmd (1 + 256 * b.val)) s)

/-- VERIFY_DONE (R323). -/
def execVerifyDone (us : Nat) (s : State) : Host.Outcome State Fault Refusal := fin (whenOn 9 (verifyDone us) s)

/-- SWAP (R326). -/
def execSwap (b : Fin 2) (s : State) : Host.Outcome State Fault Refusal := fin (whenOn 9 (landItinCmd (2 + 256 * b.val)) s)

/-- CANCEL (R333). -/
def execCancel (s : State) : Host.Outcome State Fault Refusal := fin (whenOn 9 (landItinCmd 3) s)

/-- CLEAR (R323). -/
def execClear (b : Fin 2) (s : State) : Host.Outcome State Fault Refusal := fin (whenOn 9 (landItinCmd (4 + 256 * b.val)) s)

/-- SWAP_COMMIT_POINT (R326). -/
def execSwapCommitPoint (s : State) : Host.Outcome State Fault Refusal := fin (whenOn 9 commitPoint s)

/-- SWAP_GAP_OPEN (R330). -/
def execSwapGapOpen (p : Fin 4) (s : State) : Host.Outcome State Fault Refusal := fin (whenOn 9 (gapOpen p.val) s)

/-- SWAP_CYCLE (R327). -/
def execSwapCycle (s : State) : Host.Outcome State Fault Refusal := fin (whenOn 9 swapCycle s)

/-- TE_SWAP (R328). -/
def execTeSwap (t : Fin 2) (s : State) : Host.Outcome State Fault Refusal := fin (if s.tclkOn then teSwap t.val s else s)

/-- DRAIN_END (R323). -/
def execDrainEnd (s : State) : Host.Outcome State Fault Refusal := fin (whenOn 9 drainEnd s)

/-- STORE_SCRUB (R325). -/
def execStoreScrub (corr : Nat) (bad : List Nat) (s : State) : Host.Outcome State Fault Refusal := fin (whenOn 9 (storeScrub corr bad) s)

end Sys2Proof.Machine
end

