-- ==== Sys2Proof/Machine/Select.lean ====
section
/-! DEFINITION. The selection routine (R111, R124–R127, R146): the selector state machine, hitless switching, jump checks, and the tick. -/

namespace Sys2Proof.Machine

/-! ### Switching (R124, R125) -/

/-- A switch starts toward `c`: for a DPLL that follows a reference, its offset is measured from the present output phase and built out for
FREQ, slewed for PHASE and TIME (R125, R126); another DPLL has no phase to move, and its offset is measured when it leaves FREERUN or HOLDOVER. -/
def switchStart (d c : Nat) (s : State) : State :=
  let delta := s.refDelta 0 d c 0
  let follows := s.dpllState d == 1 || s.dpllState d == 2
  let s0 := if !follows then s.setDpll d { s.dpll_ d with slew := 0 }
    else if s.refKind c = 0 then detStart d c delta 0 (s.setDpll d { s.dpll_ d with slew := 0 })
    else detStart d c 0 delta (s.setDpll d { s.dpll_ d with slew := 8 * delta })
  let s1 := s0.showSlew d (s0.dpll_ d).slew
  (s1.setFld (F.SEL_STATUS_STATE d) 2).setFld (F.SEL_STATUS_TARGET d) c

/-- The selector goes to IDLE: SELECTED and TARGET none, remaining slew abandoned, SEL_EVT counted (R124, R128). -/
def selIdle (d : Nat) (s : State) : State :=
  if s.fld (F.SEL_STATUS_STATE d) = 0 then s else
  let s1 := (s.setDpll d { s.dpll_ d with slew := 0 }).showSlew d 0
  let s2 := (s1.setFld (F.SEL_STATUS_SELECTED d) 0x1f).setFld (F.SEL_STATUS_TARGET d) 0x1f
  ((s2.setFld (F.SEL_STATUS_STATE d) 0).setFlag (F.SEL_STATUS_PENDING d) false).bump (Reg.SEL_EVT d)

/-- A switch completes: SELECTED = TARGET, PENDING = 0, SEL_EVT (R124). -/
def switchDone (d : Nat) (s : State) : State :=
  let s1 := (s.setFld (F.SEL_STATUS_SELECTED d) (s.fld (F.SEL_STATUS_TARGET d))).setFld (F.SEL_STATUS_TARGET d) 0x1f
  ((s1.setFld (F.SEL_STATUS_STATE d) 1).setFlag (F.SEL_STATUS_PENDING d) false).bump (Reg.SEL_EVT d)

/-- One tick of the selector rows of R124 for the candidate `c`. -/
def selRow (d : Nat) (c : Option Nat) (s : State) : State :=
  if !s.flag (F.SEL_CFG_EN d) then selIdle d s
  else match s.fld (F.SEL_STATUS_STATE d), c with
    | 0, some i => (s.setFld (F.SEL_STATUS_STATE d) 1).setFld (F.SEL_STATUS_SELECTED d) i
    | 0, none => s
    | 1, some i => if i = s.fld (F.SEL_STATUS_SELECTED d) then s else switchStart d i s
    | 1, none => if s.refGone (s.fld (F.SEL_STATUS_SELECTED d)) then selIdle d s else s
    | _, some i =>
      let tgt := s.fld (F.SEL_STATUS_TARGET d)
      if s.refGone tgt then switchStart d i s
      else if (s.dpll_ d).slew = 0 then switchDone d s
      else s.setFlag (F.SEL_STATUS_PENDING d) (i != tgt)
    | _, none =>
      if s.refGone (s.fld (F.SEL_STATUS_TARGET d)) then selIdle d s
      else if (s.dpll_ d).slew = 0 then switchDone d s
      else s

/-- One tick of selector `d`: the force, the candidate and the rows. -/
def selTick (s : State) (d : Nat) : State :=
  let s1 := forceCheck d s
  let en := s1.flag (F.SEL_CFG_EN d)
  let c := s1.candidate d
  let s2 := (s1.setFlag (F.SEL_STATUS_FORCED d) (en && s1.selForced d)).setFlag (F.SEL_STATUS_NONE d) (en && c.isNone)
  selRow d c s2

/-- SEL_BY of reference `i` (R124). -/
def selBy (s : State) (i : Nat) : State :=
  s.setFld (F.REF_STATUS_SEL_BY i)
    ((List.range 8).foldl (fun acc d => if s.fld (F.SEL_STATUS_SELECTED d) = i then acc + 2 ^ d else acc) 0)

/-- Reference `i` passes all five tests. -/
def State.refPasses (s : State) (i : Nat) : Bool := !s.flag (F.REF_STATUS_ACT_FAIL i) && !s.otherFail i

/-- A DPLL in HOLDOVER or LOST looks for a jump in each PHASE or TIME reference that its selector ranks, at every tick at which the reference
is in FAILED with all tests passing or in WTR (R146). -/
def jumpCheck (s : State) (d : Nat) : State :=
  if s.dpllState d < 3 || s.rv Reg.DPLL_VER = 0 then s else
  (List.range 22).foldl (fun s i =>
    if s.flag (F.REF_CFG_EN i) && s.refKind i != 0 && s.selRank d i != 0 && ((s.refState i == 1 && s.refPasses i) || s.refState i == 2)
      && (s.refStamp 0 i).isSome
      && decide (s.fld (F.DPLL_JUMP_JUMP_THR d) * 1000 * teUnit + (s.dpll_ d).te < (s.refDelta 0 d i 0).natAbs * teUnit) then
      s.setFlag (F.REF_STATUS_JUMPED i) true
    else s) s

/-- The routine's work at a tick, on the register values in force (R111, R128): activity windows, measurements, tests, agreement, jump checks
before the reference rows (R146), references, selectors. Its result clears SEL_ABSENT of the DPLLs on TE1 (R143). -/
def selectionWork (pkt : List PktOut) (delta : List (Fin 4 × Int)) (s : State) : State :=
  let ids := List.range 22
  let s1 := ids.foldl (refMeasure pkt) (pktActivity pkt delta (windowsClose s))
  let s2 := (List.range 8).foldl jumpCheck (agreement (ids.foldl refTests s1))
  let s3 := (List.range 8).foldl selTick (ids.foldl refRow s2)
  let s4 := [4, 5, 6, 7].foldl (fun s d => s.setFlag (F.DPLL_STATUS_SEL_ABSENT d) false) (ids.foldl selBy s3)
  { s4 with tiu := { s4.tiu with selAt := (s4.tiu.count :: s4.tiu.selAt).take 2, selDone := true } }

/-- One lap of the selection routine (R111), once in a lap. Without the routine every selector reports NONE and nothing else changes. -/
def selectionTick (pkt : List PktOut) (delta : List (Fin 4 × Int)) (s : State) : State :=
  if s.rv Reg.SEL_VER = 0 then (List.range 8).foldl (fun s d => s.setFlag (F.SEL_STATUS_NONE d) true) s
  else if s.tiu.selDone then s
  else onHeld (selectionWork pkt delta) (stockReads 0 s)

/-! ### The commands -/

/-- The selection routine runs: TE0 issues its laps and the itinerary has the routine (R111). -/
def State.selRuns (s : State) : Bool := s.teRuns 0 && s.rv Reg.SEL_VER != 0

/-- SELECTION_TICK (R111): once per TE0 lap, with what the packet servos put out. -/
def execSelectionTick (pkt : List PktOut) (delta : List (Fin 4 × Int)) (s : State) : Host.Outcome State Fault Refusal :=
  fin (if s.teRuns 0 then selectionTick pkt delta s else s)

/-- ACTIVITY_WINDOW_CLOSE (R116): the windows of reference `i` that end at or before pin time `p`, which is that of tick k − 2. -/
def execActivityWindowClose (i : Fin 22) (p : Nat) (s : State) : Host.Outcome State Fault Refusal :=
  fin (if s.selRuns then activityClose i.val p s else s)

/-- HOLDOFF_EXPIRY (R120, R121): the timer expires at this tick, whose tests decide with it; restored activity wins. -/
def execHoldoffExpiry (i : Fin 22) (s : State) : Host.Outcome State Fault Refusal :=
  fin (if s.selRuns && s.refState i.val == 4 then onHeld (fun s => holdCheck i.val true (refTests s i.val)) s else s)

/-- WTR_EXPIRY (R120, R121): the timer expires at this tick; a test failure seen at it wins. -/
def execWtrExpiry (i : Fin 22) (s : State) : Host.Outcome State Fault Refusal :=
  fin (if s.selRuns && s.refState i.val == 2 then
    onHeld (fun s =>
      let s1 := refTests s i.val
      if s1.refPasses i.val then refQualify i.val s1 else s1.refTo i.val 1) s
  else s)

/-- SEL_FORCE_WRITE (R123); `tie` when the routine's own update falls in the same cycle. -/
def execSelForceWrite (d : Fin 8) (v : Word) (tie : Bool) (s : State) : Host.Outcome State Fault Refusal :=
  fin (whenOn 3 (fun s => landSelForce d.val v tie (if tie then s else holdOld (Reg.SEL_FORCE d.val) s)) s)

/-- SWITCH_COMPLETE (R124): the remaining switch phase has reached zero. -/
def execSwitchComplete (d : Fin 8) (s : State) : Host.Outcome State Fault Refusal :=
  fin (if s.selRuns && s.flag (F.SEL_CFG_EN d.val) && s.fld (F.SEL_STATUS_STATE d.val) == 2
      && !s.refGone (s.fld (F.SEL_STATUS_TARGET d.val)) && decide ((s.dpll_ d.val).slew = 0) then
    switchDone d.val s else s)

end Sys2Proof.Machine
end

