-- ==== Sys2Proof/Machine/Boundary.lean ====
section
/-! DEFINITION. The TE lap boundary as a whole (R282): what the boundary applies, the trigger events it delivers (R306), the swap to
another bank (R328) and the resumption after a whistle (R338). -/

namespace Sys2Proof.Machine

/-- The trigger events on their way to engine `t` reach it; a fifth waiting event of a trigger is dropped and counted (R306). -/
def teEvents (t : Nat) (s : State) : State :=
  let mine := s.tm.evGate.filter (fun e => e.1 == 4 + t)
  let s1 : State := { s with tm := { s.tm with evGate := s.tm.evGate.filter (fun e => e.1 != 4 + t) } }
  forEach mine (fun s e =>
    let key := (4 + t) * 16 + e.2.1
    let q := Tbl.get (fun _ => []) s.tm.evq key
    if 4 ≤ q.length then (s.bumpSat Reg.GATE_LATE_TRG).bump Reg.GATE_EVT
    else { s with tm := { s.tm with evq := Tbl.set (fun _ => []) s.tm.evq key (q ++ [e.2.2]) } }) s1

/-- An engine released from a whistle resumes from its current bank, as at a swap into that bank (R338). -/
def teResume (t : Nat) (s : State) : State :=
  if !s.flt.resume.testBit t || s.wHeld 7 t then s else
  let s1 : State := { s with flt := { s.flt with resume := s.flt.resume - 2 ^ t } }
  match Tbl.get (fun _ => none) s1.itin.teBank t with
  | some b => engLoad (4 + t) b true s1
  | none => s1

/-- The lap restarts at bundle 0: no LOOP is in progress. -/
def teRestart (t : Nat) (s : State) : State := s.setEng (4 + t) { s.eng_ (4 + t) with loops := [] }

/-- TMUX shows the boundary of TE `t`, and the tie pulse that the one of TE0 sends into a running fabric (R154, R543). -/
def lapEvents (t : Nat) (s : State) : State :=
  let s1 := tmuxEvent (0x50 + t) s
  if t = 0 && s.fclkOn then tmuxEvent 0x57 s1 else s1

/-- The boundary of engine `t`'s lap: the stamp reads that the stock lap makes are done, and the values written in the lap come into use. -/
def lapBoundary (t : Nat) (s : State) : State :=
  noLoops (lapEvents t <| heldRelease t (readsBegin t (teRestart t (teSwap t (teResume t (teEvents t (lapCore t (stockReads t s))))))))

/-- TE_LAP_BOUNDARY (R282): in L2 the boundaries of a TE0 that runs are those of its rest laps (R485). -/
def execTeLapBoundary (t : Fin 2) (s : State) : Host.Outcome State Fault Refusal :=
  fin (if s.tclkOn && !(s.rung == 2 && t.val == 0 && s.teRuns 0) then lapBoundary t.val s else s)

end Sys2Proof.Machine
end

