-- ==== Sys2Proof/Machine/Mailbox.lean ====
section
/-! DEFINITION. Mailbox channels (R389–R401, R407): bindings, the rights of a side, queue and block channels, engine windows, markers and
resets. A direction d of channel n is 0 for A to B and 1 for B to A; side d sends in direction d. -/

namespace Sys2Proof.Machine

/-! ### Registers of R407, at 0x10_0000 + the BAR 4 offset -/

abbrev Reg.MB_BIND (n : Nat) : Nat := 0x104000 + 4 * n
abbrev Reg.MB_FOREIGN : Nat := 0x104040
abbrev Reg.MB_SIDE_RESET : Nat := 0x104044
abbrev Reg.BIND_REF : Nat := 0x104048
abbrev Reg.MB_STATUS (n : Nat) : Nat := mbBase n + 0x100
abbrev Reg.MB_INT_EN (n : Nat) : Nat := mbBase n + 0x124
abbrev Reg.MB_OVERRUN (n : Nat) : Nat := mbBase n + 0x128
abbrev Reg.CROSSED_CNT (n : Nat) : Nat := mbBase n + 0x12c
abbrev Reg.OFF_CNT (n : Nat) : Nat := mbBase n + 0x130
/-- Register j of the block of direction d. -/
abbrev Reg.BLK (n d j : Nat) : Nat := mbBase n + 0x80 * d + 4 * j
/-- The control word of direction d. -/
abbrev Reg.CTL (n d : Nat) : Nat := mbBase n + 0x80 * d + 0x40
/-- The IN counter of the receiver of direction d: IN_B for A to B. -/
abbrev Reg.MB_IN (n d : Nat) : Nat := mbBase n + (if d = 0 then 0x114 else 0x104)
/-- The EMPTY counter of the sender of direction d: EMPTY_A for A to B. -/
abbrev Reg.MB_EMPTY (n d : Nat) : Nat := mbBase n + (if d = 0 then 0x10c else 0x11c)

abbrev F.MB_LAST_MARK (n d : Nat) : Fld := ⟨Reg.MB_STATUS n, 11 - d, 1⟩   -- of the side that pops direction d
abbrev F.MB_PEER_RESET (n d : Nat) : Fld := ⟨Reg.MB_STATUS n, 12 + d, 1⟩  -- of the side that sends direction d
abbrev F.MB_CROSSED (n : Nat) : Fld := ⟨Reg.MB_STATUS n, 14, 1⟩
abbrev F.MB_WHISTLED (n : Nat) : Fld := ⟨Reg.MB_STATUS n, 17, 1⟩

def State.mbDir (s : State) (n d : Nat) : MbDir := Tbl.get (fun _ => MbDir.reset) s.mb (2 * n + d)
def State.setMbDir (s : State) (n d : Nat) (v : MbDir) : State := { s with mb := Tbl.set (fun _ => MbDir.reset) s.mb (2 * n + d) v }

/-- A block channel: MB12–MB15 (R389). -/
def isBlockCh (n : Nat) : Bool := decide (12 ≤ n)

/-- GO of direction d of a block channel. -/
def State.mbGo (s : State) (n d : Nat) : Bool := (s.rv (Reg.CTL n d)).testBit 0

/-- Direction d holds unread content (R396). -/
def State.mbFull (s : State) (n d : Nat) : Bool := if isBlockCh n then s.mbGo n d else !(s.mbDir n d).q.isEmpty

/-- Words queued in direction d. -/
def State.mbLevel (s : State) (n d : Nat) : Nat := ((s.mbDir n d).q.filter (fun w => w.isSome)).length

/-! ### Bindings and rights (R390, R391, R400) -/

def State.mbBound (s : State) (n : Nat) : Bool := (s.rv (Reg.MB_BIND n)).testBit 31
/-- The master ID of side d. -/
def State.mbId (s : State) (n d : Nat) : Nat := s.rv (Reg.MB_BIND n) / 2 ^ (8 * d) % 256

/-- The side of channel `n` that master ID `m` is. -/
def State.mbSide (s : State) (n m : Nat) : Option Nat :=
  if !s.mbBound n then none else if s.mbId n 0 = m then some 0 else if s.mbId n 1 = m then some 1 else none

/-- The island of master ID `m` is powered and clocked (R399, R400). -/
def State.sideOn (s : State) (m : Nat) : Bool :=
  if m = 4 then s.blockOn 10 else if m = 5 ∨ m = 6 then s.tclkOn else if 7 ≤ m ∧ m ≤ 10 then s.fclkOn
  else if 16 ≤ m then s.hostOn && s.rung == 0 else s.hostOn

/-- What an access to a channel meets. -/
inductive MbAcc where
  | side (d : Nat)
  | foreign
  | off
  deriving DecidableEq, Repr

/-- The access of master ID `m` to channel `n`: refused to a non-side, where unbound and under a whistle (R391, R401); answered as off
while the other side's island is down (R400). -/
def State.mbAccess (s : State) (n m : Nat) : MbAcc :=
  match s.mbSide n m with
  | none => .foreign
  | some d => if s.wHeld 0xa n then .foreign else if s.sideOn (s.mbId n (1 - d)) then .side d else .off

/-- A refusal under R391. -/
def mbForeign (s : State) : State := s.bump16 Reg.MB_FOREIGN

/-- An access while the other side's island is down (R400). -/
def mbOff (n m : Nat) (s : State) : State := (s.bump16 (Reg.OFF_CNT n)).sendFault srcMailbox kMailboxDomainOff (n + 256 * m)

/-- A write by master `m`, carried out by `f` with its side. -/
def mbWrite (n : Nat) (m : Master) (f : Nat → State → State) (s : State) : State :=
  match s.mbAccess n m.id with
  | .side d => f d s
  | .foreign => mbForeign s
  | .off => mbOff n m.id s

/-- A read by master `m`, carried out by `f` with its side; errors are answered as R391 and R400 say. -/
def mbRead (n : Nat) (m : Master) (f : Nat → State → State) (s : State) : State :=
  match s.mbAccess n m.id with
  | .side d => f d s
  | .foreign => answerErr m .refused (mbForeign s)
  | .off => answerErr m .domainOff (mbOff n m.id s)

/-- An MB_BIND write is valid: A below B, IDs allowed for the channel kind, at most four channels naming one static engine (R390). -/
def State.bindOk (s : State) (n a b : Nat) : Bool :=
  let allowed := fun i => if isBlockCh n then decide ((1 ≤ i ∧ i ≤ 4) ∨ (16 ≤ i ∧ i ≤ 23)) else decide (1 ≤ i ∧ i ≤ 10)
  let named := fun i => decide (5 ≤ i ∧ i ≤ 10 → ((List.range 16).filter (fun k => s.mbBound k && (s.mbId k 0 == i || s.mbId k 1 == i))).length < 4)
  decide (a < b) && allowed a && allowed b && named a && named b

/-- Channel `n` is bound to the pair and its entry locks (R64, R390). -/
def mbBind (n a b : Nat) (s : State) : State :=
  let s1 := s.setRv (Reg.MB_BIND n) (a + 256 * b + 2 ^ 31)
  { s1 with bus := { s1.bus with locks := Tbl.set (fun _ => false) s1.bus.locks (Reg.MB_BIND n) true } }

/-- A write of MB_BIND[n] by master `m` (R390): a host's is ignored, a locked entry sends LOCKED_WRITE, an invalid value counts in BIND_REF. -/
def mbBindWrite (m : Master) (n v : Nat) (s : State) : State :=
  if m != .se then s
  else if s.mbBound n then decodeFault kLockedWrite (Reg.MB_BIND n) s
  else if s.bindOk n (v % 256) (v / 256 % 256) then mbBind n (v % 256) (v / 256 % 256) s
  else s.bump16 Reg.BIND_REF

/-- The device that the daisy peer on side `d` stands for. -/
def State.mbPeer (s : State) (n d : Nat) : Option Nat :=
  if isBlockCh n && s.mbBound n && decide (16 ≤ s.mbId n d) then some (s.mbId n d - 16) else none

/-- What a local side does on a tunnelled channel goes to the device of the peer on side `d` (R537). -/
def tunnelSend (n d : Nat) (m : State → DzMsg) (s : State) : State :=
  match s.mbPeer n d with
  | some k => if (s.mbPeer n (1 - d)).isNone then dzSend k (m s) s else s
  | none => s

/-- The sixteen registers of the block of direction `d` as octets. -/
def State.blkOctets (s : State) (n d : Nat) : List Byte := (List.range 16).flatMap (fun j => leBytes 4 (s.rv (Reg.BLK n d j)))

/-! ### Posting and taking (R392, R393, R396–R398) -/

/-- CROSSED clears when either direction empties (R396). -/
def mbUncross (n : Nat) (s : State) : State :=
  if s.mbFull n 0 && s.mbFull n 1 then s else s.setFlag (F.MB_CROSSED n) false

/-- Direction `d` with its queue `q`; content that comes to an empty direction is unread from now (R396). -/
def State.mbQueued (s : State) (n d : Nat) (q : List (Option Word)) : MbDir :=
  let r := s.mbDir n d
  { r with q := q, since := if r.q.isEmpty then s.now else r.since }

/-- Side d posts a word (R392). -/
def mbPost (n : Nat) (v : Word) (d : Nat) (s : State) : State :=
  if 8 ≤ s.mbLevel n d then s.bump16 (Reg.MB_OVERRUN n)
  else ((s.setMbDir n d (s.mbQueued n d ((s.mbDir n d).q ++ [some v]))).setFlag (F.MB_PEER_RESET n d) false).bump (Reg.MB_IN n d)

/-- The head of the queue of direction d is popped (R392): the entry, and the state after. -/
def mbPop (n d : Nat) (s : State) : Option (Option Word) × State :=
  let r := s.mbDir n d
  match r.q with
  | [] => (none, s)
  | w :: t =>
    let s1 := (s.setMbDir n d { r with q := t }).setFlag (F.MB_LAST_MARK n d) w.isNone
    (some w, mbUncross n (if t.isEmpty then s1.bump (Reg.MB_EMPTY n d) else s1))

/-- The side that receives direction d takes a word; a marker and an empty queue read as zero (R392). -/
def mbTake (n d : Nat) (s : State) : State :=
  match mbPop n d s with
  | (some (some w), s1) => answerWord w s1
  | (_, s1) => answerWord 0 s1

/-- Side d writes its control word; GO = 1 posts the block (R393). -/
def mbCtl (n : Nat) (v : Word) (d : Nat) (s : State) : State :=
  if s.mbGo n d then s.bump16 (Reg.MB_OVERRUN n)
  else
    let s1 := s.setReg (Reg.CTL n d) v
    if v.getLsbD 0 then
      tunnelSend n (1 - d) (fun s => .block n (s.blkOctets n d) v.toNat)
        (((s1.setMbDir n d { s1.mbDir n d with wp := 0, since := s1.now }).setFlag (F.MB_PEER_RESET n d) false).bump (Reg.MB_IN n d))
    else s1

/-- Side d writes register j of its block (R393). -/
def mbBlk (n j : Nat) (v : Word) (d : Nat) (s : State) : State :=
  if s.mbGo n d then s.bump16 (Reg.MB_OVERRUN n) else s.setReg (Reg.BLK n d j) v

/-- The next block of the firmware's answer is posted in direction d, once the one before it has been released (R403). -/
def fwNextBlk (n d : Nat) (s : State) : State :=
  match Tbl.get (fun _ => []) s.se.resp n with
  | [] => s
  | b :: t =>
    if s.mbGo n d || s.mbId n d != 4 then s else
    let s1 := { s with se := { s.se with resp := Tbl.set (fun _ => []) s.se.resp n t } }
    let s2 := (List.range 16).foldl (fun s j => mbBlk n j (BitVec.ofNat 32 (leVal ((b.octets.drop (4 * j)).take 4))) d s) s1
    mbCtl n (BitVec.ofNat 32 b.ctl) d s2

/-- The receiver of direction d releases: GO clears and the sender's EMPTY counts; with GO = 0 a visible marker clears (R393, R398). -/
def mbRelease (n d : Nat) (s : State) : State :=
  let r := s.mbDir n d
  if s.mbGo n d then
    fwNextBlk n d (tunnelSend n d (fun _ => .blockRelease n) <| mbUncross n (((s.setRv (Reg.CTL n d) (s.rv (Reg.CTL n d) / 2 * 2)).setMbDir n d { r with rp := 0 }).bump (Reg.MB_EMPTY n d)))
  else s.setMbDir n d { r with mark := false, rp := 0 }

/-- The receiver of direction d resets: what was addressed to it is discarded, and the sender sees PEER_RESET and EMPTY (R397). -/
def mbDiscard (n d : Nat) (s : State) : State :=
  let s1 := s.setMbDir n d .reset
  let s2 := if isBlockCh n then s1.setRv (Reg.CTL n d) (s1.rv (Reg.CTL n d) / 2 * 2) else s1
  tunnelSend n d (fun _ => .peerReset n) (mbUncross n ((s2.setFlag (F.MB_PEER_RESET n d) true).bump (Reg.MB_EMPTY n d)))

/-- The sender of direction d resets: one marker behind what it had posted (R398). -/
def mbMark (n d : Nat) (s : State) : State :=
  let r := s.mbDir n d
  if isBlockCh n then tunnelSend n (1 - d) (fun _ => .marker n) (s.setMbDir n d { r with mark := true, wp := 0 })
  else if r.q.any (fun w => w.isNone) then s else s.setMbDir n d (s.mbQueued n d (r.q ++ [none]))

/-- The side of master ID `m` resets on every channel bound to it (R397–R399); a channel under a whistle stays empty (R401, R505). -/
def mbSideReset (m : Nat) (s : State) : State :=
  forEach (List.range 16) (fun s n => match s.mbSide n m with
    | some d => if s.wHeld 0xa n then mbDiscard n (1 - d) s else mbMark n d (mbDiscard n (1 - d) s)
    | none => s) s

/-- Both directions of a channel are emptied, and each side sees PEER_RESET and EMPTY (R401). -/
def mbEmptyBoth (n : Nat) (s : State) : State :=
  mbDiscard n 1 (mbDiscard n 0 s)

/-- Every channel is cleared and every binding released (R399): power-on reset and RESET_N. -/
def mbClear (s : State) : State := { s with mb := [], regs := s.regs.filter (fun x => decide (x.1 < 0x100000)) }

/-- MB_STATUS of channel `n` (R407). -/
def State.mbStatus (s : State) (n : Nat) : Nat :=
  let lvl := fun d => if isBlockCh n then (if s.mbGo n d then 1 else 0) else s.mbLevel n d
  let mark := fun d => if isBlockCh n then (s.mbDir n d).mark && !s.mbGo n d else (s.mbDir n d).q.any (fun w => w.isNone)
  let off := fun d => s.mbBound n && !s.sideOn (s.mbId n d)
  s.rv (Reg.MB_STATUS n) + lvl 0 + 16 * lvl 1 + (if mark 0 then 2 ^ 8 else 0) + (if mark 1 then 2 ^ 9 else 0)
    + (if off 0 then 2 ^ 15 else 0) + (if off 1 then 2 ^ 16 else 0) + (if s.wHeld 0xa n then 2 ^ 17 else 0)

/-! ### Register access to a channel's window (R391, R407) -/

/-- What a write to a word of a channel's window is. -/
inductive MbReg where
  | post (d : Nat)
  | take (d : Nat)
  | blk (d j : Nat)
  | ctl (d : Nat)
  | release (d : Nat)
  | status
  | ctr (a : Nat)          -- a counter, read only
  | ack (a : Nat)
  | intEn
  | none
  deriving DecidableEq, Repr

/-- The register at offset `o` of the window of channel `n`. -/
def mbReg (n o : Nat) : MbReg :=
  let d := o / 0x80
  if o < 0x100 then
    if isBlockCh n then
      let k := o % 0x80
      if k < 0x40 then .blk d (k / 4) else if k = 0x40 then .ctl d else if k = 0x44 then .release d else .none
    else if o = 0 then .post 0 else if o = 4 then .take 0 else if o = 8 then .post 1 else if o = 0xc then .take 1 else .none
  else if o = 0x100 then .status
  else if o < 0x124 then (if o / 4 % 2 = 1 then .ctr (mbBase n + o) else .ack (mbBase n + o))
  else if o = 0x124 then .intEn
  else if o ≤ 0x130 then .ctr (mbBase n + o) else .none

/-- A write to offset `o` of channel `n`'s window by master `m`, but for an acknowledge copy's resend (R71). -/
def mbWinWrite (m : Master) (n o : Nat) (v : Word) (s : State) : State :=
  match mbReg n o with
  | .post d => mbWrite n m (fun e s => if e = d then mbPost n v d s else mbForeign s) s
  | .take d => mbWrite n m (fun e s => if e = 1 - d then s else mbForeign s) s
  | .blk d j => mbWrite n m (fun e s => if e = d then mbBlk n j v d s else s) s
  | .ctl d => mbWrite n m (fun e s => if e = d then mbCtl n v d s else s) s
  | .release d => mbWrite n m (fun e s => if e = 1 - d then mbRelease n d s else mbForeign s) s
  | .status | .ctr _ => mbWrite n m (fun _ s => s) s
  | .ack a => mbWrite n m (fun _ s => s.setReg a v) s
  | .intEn => mbWrite n m (fun _ s => s.setReg (Reg.MB_INT_EN n) (v &&& 0xf0f)) s
  | .none => s

/-- A read of offset `o` of channel `n`'s window by master `m`. MB_STATUS answers while the other side is off. -/
def mbWinRead (m : Master) (n o : Nat) (s : State) : State :=
  match mbReg n o with
  | .post d => mbRead n m (fun e s => if e = d then answerWord 0 s else answerErr m .refused (mbForeign s)) s
  | .take d => mbRead n m (fun e s => if e = 1 - d then mbTake n d s else answerErr m .refused (mbForeign s)) s
  | .blk d j => mbRead n m (fun _ s => answerWord (s.reg (Reg.BLK n d j)) s) s
  | .ctl d => mbRead n m (fun _ s => answerWord (s.reg (Reg.CTL n d)) s) s
  | .release d => mbRead n m (fun e s => if e = 1 - d then answerWord 0 s else answerErr m .refused (mbForeign s)) s
  | .status => match s.mbAccess n m.id with
    | .foreign => answerErr m .refused (mbForeign s)
    | _ => answerWord (BitVec.ofNat 32 (s.mbStatus n)) s
  | .ctr a | .ack a => mbRead n m (fun _ s => answerWord (s.reg a) s) s
  | .intEn => mbRead n m (fun _ s => answerWord (s.reg (Reg.MB_INT_EN n)) s) s
  | .none => answerWord 0 s

/-! ### The window of an engine (R394) -/

/-- LLD of offset `o` of the mailbox window by master ID `m`: the doubleword, whether the access met a side that is off, and the state. -/
def mbLld (m o : Nat) (s : State) : Nat × Bool × State :=
  let n := o / 16
  match s.mbSide n m with
  | none => (0, false, s)
  | some e =>
    match s.mbAccess n m with
      | .off => if o / 8 % 2 = 1 then (s.mbStatus n, false, s) else (0, true, mbOff n m s)
      | .foreign => (0, false, mbForeign s)
      | .side _ =>
        let d := 1 - e
        if o / 8 % 2 = 1 then (s.mbStatus n, false, s)
        else if isBlockCh n then
          let r := s.mbDir n d
          if !s.mbGo n d then (if r.mark then 2 ^ 33 else 0, false, s)
          else if r.rp < 17 then
            (s.rv (if r.rp < 16 then Reg.BLK n d r.rp else Reg.CTL n d) + 2 ^ 32, false, s.setMbDir n d { r with rp := r.rp + 1 })
          else (0, false, s)
        else match mbPop n d s with
          | (some (some w), s1) => (w.toNat + 2 ^ 32, false, s1)
          | (some none, s1) => (2 ^ 33, false, s1)
          | (none, s1) => (0, false, s1)

/-- LST of offset `o` of the mailbox window by master ID `m`: whether the access met a side that is off, and the state. -/
def mbLst (m o : Nat) (v : Word) (s : State) : Bool × State :=
  let n := o / 16
  match s.mbSide n m with
  | none => (false, s)
  | some e =>
    match s.mbAccess n m with
    | .off => (true, mbOff n m s)
    | .foreign => (false, mbForeign s)
    | .side _ =>
      if o / 8 % 2 = 0 then (false, if isBlockCh n then mbRelease n (1 - e) s else s)
      else if isBlockCh n then
        let r := s.mbDir n e
        if s.mbGo n e then (false, s.bump16 (Reg.MB_OVERRUN n))
        else if r.wp < 16 then (false, (mbBlk n r.wp v e s).setMbDir n e { r with wp := r.wp + 1 })
        else (false, mbCtl n v e (s.setMbDir n e { r with wp := 0 }))
      else (false, mbPost n v e s)

/-! ### Meanings -/

/-- MAILBOX_POST: master `m` posts on a queue channel. -/
def execMailboxPost (m : Master) (n : Fin 12) (v : Word) (s : State) : Host.Outcome State Fault Refusal :=
  fin (reach m 1 (fun s => mbWrite n.val m (mbPost n.val v) (guardEnd m s)) s)

/-- MAILBOX_TAKE: master `m` pops its inbound queue. -/
def execMailboxTake (m : Master) (n : Fin 12) (s : State) : Host.Outcome State Fault Refusal :=
  fin (reach m 2 (mbRead n.val m (fun e s => mbTake n.val (1 - e) s)) s)

/-- BLOCK_POST: master `m` writes the control word `v` of a block channel MB12 + c. -/
def execBlockPost (m : Master) (c : Fin 4) (v : Word) (s : State) : Host.Outcome State Fault Refusal :=
  fin (reach m 1 (fun s => mbWrite (12 + c.val) m (mbCtl (12 + c.val) v) (guardEnd m s)) s)

/-- BLOCK_RELEASE: master `m` releases its inbound block of channel MB12 + c. -/
def execBlockRelease (m : Master) (c : Fin 4) (s : State) : Host.Outcome State Fault Refusal :=
  fin (reach m 1 (fun s => mbWrite (12 + c.val) m (fun e s => mbRelease (12 + c.val) (1 - e) s) (guardEnd m s)) s)

/-- MB_BIND_WRITE. -/
def execMbBindWrite (m : Master) (n : Fin 16) (v : Word) (s : State) : Host.Outcome State Fault Refusal :=
  fin (reach m 1 (fun s => mbBindWrite m n.val v.toNat (guardEnd m s)) s)

/-- Both directions have held unread content for more than 1 ms without a break (R396). -/
def State.mbStuck (s : State) (n : Nat) : Bool :=
  s.mbFull n 0 && s.mbFull n 1 && decide (10 ^ 9 < s.now - max (s.mbDir n 0).since (s.mbDir n 1).since)

/-- MAILBOX_CROSSED (R396): a read or release that emptied a direction before it has won. -/
def execMailboxCrossed (n : Fin 16) (s : State) : Host.Outcome State Fault Refusal :=
  fin (if s.hostOn && s.mbStuck n.val && !s.flag (F.MB_CROSSED n.val) then
    ((s.setFlag (F.MB_CROSSED n.val) true).bump16 (Reg.CROSSED_CNT n.val)).sendFault srcMailbox kMailboxCrossed n.val
  else s)

end Sys2Proof.Machine
end

