-- ==== Sys2Proof/Machine/Testacc.lean ====
section
/-! DEFINITION. Test access (R542–R552): the test multiplexer's selections, switches and meter, what a pin shows, and the TAP. -/

namespace Sys2Proof.Machine

/-! ### The multiplexer (R543–R545) -/

/-- The nominal frequency in Hz of a clock code with one (R10, R543, R544): a recovered clock's is that of its port's resolved mode, and of
25G while the port is not UP; a divided VCO's that of its APLL's registers. -/
def State.tmuxHz (s : State) (sel : Nat) : Option Nat :=
  match sel with
  | 0x01 => some 50000000
  | 0x02 => some 500000000
  | 0x03 => some 400000000
  | 0x04 => some 781250000
  | 0x05 => some 250000000
  | 0x06 => some 40920000
  | 0x07 => some 32768
  | 0x08 | 0x09 | 0x0a | 0x0b =>
    let p := sel - 8
    if s.fld (F.PORT_STATUS_STATE p) = 4 then
      (match s.fld (F.PORT_STATUS_MODE_RES p) with | 1 => some 156250000 | 2 => some 125000000 | _ => some 390625000)
    else some 390625000
  | 0x0c | 0x0d => some 322265625
  | 0x0e | 0x0f | 0x10 | 0x11 =>
    let a := sel - 0x0e
    let x := Tbl.get ApllPart.dflt s.syn.apll a
    let u := if x.pfd = 1 then 4 else if x.pfd = 2 then 1 else 2
    some (u * x.nom * 25000000 / (2 ^ 48 * 64))
  | _ => none

/-- The LVCMOS limit of bank VDDIO_D in Hz (R199). -/
def tmuxLimit : Nat := if Config.vddioLow 3 then 200000000 else 250000000

/-- A TIU comparator's code. -/
def isComparator (sel : Nat) : Bool := decide (0x20 ≤ sel) && decide (sel ≤ 0x37)

/-- TOO_FAST of pin `k` (R544). -/
def State.tooFast (s : State) (k : Nat) : Bool :=
  let p := s.tmux k
  let sel := p.sel % 256
  s.flag F.SEC_STATUS_MAINT &&
    (if isComparator sel then p.metered == some false
     else match s.tmuxHz sel with
      | some f => decide (tmuxLimit * 2 ^ (p.sel / 256 % 16) < f)
      | none => false)

/-- Pin `k` is driven low in place of its selection (R542–R545). -/
def State.tmuxLow (s : State) (k : Nat) : Bool :=
  let p := s.tmux k
  let sel := p.sel % 256
  !s.flag F.SEC_STATUS_MAINT || s.inReset || p.phase == 2 || s.tooFast k
    || (isComparator sel && (p.metered == none || !s.tclkOn))

/-- TMUX_STATUS (R552). -/
def State.tmuxStatus (s : State) : Nat :=
  (if s.flag F.SEC_STATUS_MAINT then 1 else 0) + ((List.range 4).foldl (fun n k => if s.tooFast k then n + 2 ^ (4 + k) else n) 0)

/-- JTAG_STATUS (R552). -/
def State.jtagStatus (s : State) : Nat := s.jtagInst + (if s.jtagExt then 256 else 0)

/-- The level that a level code shows (R543). -/
def State.tmuxLevel (s : State) (sel : Nat) : Bool :=
  match sel with
  | 0x80 => s.flag F.TB_STATUS_TB_WARM
  | 0x81 | 0x82 | 0x83 | 0x84 => decide (3 ≤ s.fld (F.APLL_STATUS_STATE (sel - 0x81)))
  | 0x85 => s.fld (F.DPLL_STATUS_STATE 0) == 2
  | 0x86 => s.flag F.FLT_STATUS_ANY
  | 0x87 => s.flag F.ITIN_STATUS_RUNNING
  | 0x88 | 0x89 | 0x8a | 0x8b => s.fld (F.PORT_STATUS_STATE (sel - 0x88)) == 4
  | 0x8c | 0x8d | 0x8e | 0x8f => s.flag (F.PORT_STATUS_RXC_VALID (sel - 0x8c))
  | _ => false

/-- The codes of the class Event (R543). -/
def isEvent (sel : Nat) : Bool := (decide (0x40 ≤ sel) && decide (sel ≤ 0x5f))

/-- The codes of the class Level (R543). -/
def isLevel (sel : Nat) : Bool := sel == 0 || (decide (0x80 ≤ sel) && decide (sel ≤ 0x8f))

/-- The output ball with its data cell at `i` while EXTEST or CLAMP is in force (its cells) or HIGHZ (R550, R551). -/
def State.extBall (s : State) (i : Nat) : Pin := if s.jtagInst = 5 ∨ s.cell (i + 1) = false then .highZ else if s.cell i then .high else .low

/-- What TMUX pin `k` shows (R542–R544, R551): an event's pulses leave as they happen, between them the pin rests. -/
def State.tmuxPin (s : State) (k : Nat) : Pin :=
  let p := s.tmux k
  let sel := p.sel % 256
  let x : Option Pin := if isLevel sel then some (if s.tmuxLevel sel then .high else .low)
    else if isEvent sel then some .low
    else if isComparator sel || (s.tmuxHz sel).isSome then some (.clock false)
    else none
  if s.jtagExt then s.extBall (27 + 2 * k)
  else if s.tmuxLow k then .low
  else match x with
    | some w => if p.sel.testBit 12 then w.inv else w
    | none => .low

/-- What TRIG pin `k` shows (R167, R517, R551). -/
def State.trigPin (s : State) (k : Nat) : Pin :=
  if s.jtagExt then s.extBall (19 + 2 * k) else if !s.inReset && s.trigHigh k then .high else .low

/-- A TMUX_SEL write: stored, and while MAINT = 1 a change waits for the low phase of the old signal, takes effect at once where that is a
level, or restarts the hold (R542, R545). -/
def landTmuxSel (k v : Nat) (s : State) : State :=
  let s1 := s.setRv (Reg.TMUX_SEL k) (v % 2 ^ 13)
  let p := s1.tmux k
  if !s1.flag F.SEC_STATUS_MAINT then s1
  else if p.phase = 2 ∨ (p.sel ≠ v % 2 ^ 13 ∧ isLevel (p.sel % 256) = true) then s1.setTmux k ⟨v % 2 ^ 13, 2, none⟩
  else s1.setTmux k { p with phase := if p.sel = v % 2 ^ 13 then 0 else 1 }

/-- MAINT has become 1: the stored selections take effect (R542). -/
def tmuxOpen (s : State) : State :=
  forEach (List.range 4) (fun s k => landTmuxSel k (s.rv (Reg.TMUX_SEL k)) s) s

/-- The switch of pin `k` (R545): at the low phase the new selection takes effect and the pin is held low; 20 ns later it is shown. -/
def tmuxSwitch (k : Nat) (s : State) : State :=
  let p := s.tmux k
  if p.phase = 1 then s.setTmux k ⟨s.rv (Reg.TMUX_SEL k) % 2 ^ 13, 2, none⟩
  else if p.phase = 2 then s.setTmux k { p with phase := 0 }
  else s

/-- The meter (R544): `edges` of the divided signal in the last 10 µs. -/
def tmuxMeter (k edges : Nat) (s : State) : State :=
  let p := s.tmux k
  if s.tclkOn && s.flag F.SEC_STATUS_MAINT && isComparator (p.sel % 256) then
    s.setTmux k { p with metered := some (decide (edges * 100000 ≤ tmuxLimit)) }
  else s

/-! ### The TAP (R548–R551) -/

/-- The TAP loads an instruction; in reset it stays in Test-Logic-Reset. -/
def tapLoad (code dr : Nat) (s : State) : State := if s.inReset then s else { s with tst := { s.tst with inst := code, dr := dr } }

/-- A scan of the boundary register: it captures the cells and takes the word shifted in. -/
def boundScan (pins load : Nat) (s : State) : State := { s with tst := { s.tst with dr := pins % 2 ^ 56, bound := load % 2 ^ 56 } }

/-- An instruction that selects the boundary register, with a scan of it if there is one; while MAINT = 0 the scan passes bypass. -/
def tapBoundary (code : Nat) (scan : Option (BitVec 56 × BitVec 56)) (s : State) : State :=
  let s1 := tapLoad code 0 s
  if s1.jtagInst != code then s1
  else match scan with
    | some (pins, load) => boundScan pins.toNat load.toNat s1
    | none => s1

/-! ### Meanings -/

/-- TMUX_SEL_WRITE: `v` to TMUX_SEL[k] by master `m`. -/
def execTmuxSelWrite (m : Master) (k : Fin 4) (v : Word) (s : State) : Host.Outcome State Fault Refusal :=
  fin (writes m (landTmuxSel k.val v.toNat) s)

/-- TMUX_SWITCH. -/
def execTmuxSwitch (k : Fin 4) (s : State) : Host.Outcome State Fault Refusal := fin (tmuxSwitch k.val s)

/-- TMUX_METER. -/
def execTmuxMeter (k : Fin 4) (edges : Nat) (s : State) : Host.Outcome State Fault Refusal := fin (tmuxMeter k.val edges s)

/-- IDCODE. -/
def execIdcode (s : State) : Host.Outcome State Fault Refusal := fin (tapLoad 1 0x29240bc7 s)

/-- SAMPLE_PRELOAD: `scan` is the cells captured and the word shifted in. -/
def execSamplePreload (scan : Option (BitVec 56 × BitVec 56)) (s : State) : Host.Outcome State Fault Refusal := fin (tapBoundary 2 scan s)

/-- EXTEST. -/
def execExtest (scan : Option (BitVec 56 × BitVec 56)) (s : State) : Host.Outcome State Fault Refusal := fin (tapBoundary 3 scan s)

/-- CLAMP. -/
def execClamp (s : State) : Host.Outcome State Fault Refusal := fin (tapLoad 4 0 s)

/-- HIGHZ. -/
def execHighz (s : State) : Host.Outcome State Fault Refusal := fin (tapLoad 5 0 s)

/-- BYPASS. -/
def execBypass (s : State) : Host.Outcome State Fault Refusal := fin (tapLoad 0xff 0 s)

/-- TEST_LOGIC_RESET. -/
def execTestLogicReset (s : State) : Host.Outcome State Fault Refusal := fin { s with tst := { s.tst with inst := 1, dr := 0x29240bc7 } }

end Sys2Proof.Machine
end

