-- ==== Sys2Proof/Machine/Sec.lean ====
section
/-! DEFINITION. Security functions (R453–R478): roles and the Crypto Officer's session, self-tests, NTS master keys and the slots of the
AES pipelines, OTP key hashes, commits, zeroisation and the commands of SEC_CMD. -/

namespace Sys2Proof.Machine

/-! ### Result codes (R478) -/

abbrev rOk : Nat := 0x00
abbrev rDenied : Nat := 0x01
abbrev rBadArg : Nat := 0x02
abbrev rBusy : Nat := 0x03
abbrev rUnwrapFail : Nat := 0x04
abbrev rSlotInUse : Nat := 0x05
abbrev rDuplicateId : Nat := 0x06
abbrev rZeroised : Nat := 0x07
abbrev rOtpLast : Nat := 0x08
abbrev rOtpState : Nat := 0x09
abbrev rSwapArmed : Nat := 0x0a
abbrev rEsFail : Nat := 0x0b
abbrev rAuthFail : Nat := 0x0c
abbrev rPoolShort : Nat := 0x0d

/-! ### Secrets (R456, R461) -/

/-- S_CO: the stored CO secret, or the initial one (R456). -/
def State.sCo (s : State) : List Nat := match s.sec.secret with
  | some l => nats l
  | none => toBe 32 (Config.initialCoSecret % 2 ^ 256)

/-- The octets of an ASCII label. -/
def label (l : List Char) : List Nat := l.map Char.toNat

/-- K_AUTH and K_WRAP (R461). -/
def State.kAuth (s : State) : List Nat := hmac256 s.sCo (label ['J', 'Z', '9', '2', '4', '0', '-', 'C', 'O', '-', 'A', 'U', 'T', 'H'])
def State.kWrap (s : State) : List Nat := hmac256 s.sCo (label ['J', 'Z', '9', '2', '4', '0', '-', 'C', 'O', '-', 'W', 'R', 'A', 'P'])

/-- The response of R461: HMAC-SHA-256(K_AUTH, challenge ‖ SERIAL ‖ master ID ‖ channel). -/
def State.coResponse (s : State) (chal : List Byte) (m ch : Nat) : List Nat :=
  hmac256 s.kAuth (nats chal ++ toBe 8 (s.quant Reg.SERIAL 2) ++ [m, ch])

/-- The first `n` octets staged by master ID `m` (R478). -/
def State.staged (s : State) (m n : Nat) : List Byte :=
  ((List.range 24).flatMap (fun j => leBytes 4 (Tbl.get (fun _ => (0 : Word)) s.sec.stage (32 * m + j)).toNat)).take n

/-- A SEC_STAGE write of word `j` by master ID `m`. -/
def secStage (m j : Nat) (v : Word) (s : State) : State :=
  { s with sec := { s.sec with stage := Tbl.set (fun _ => (0 : Word)) s.sec.stage (32 * m + j) v } }

/-- `n` octets from the DRBG: an open value. -/
def drbg (n : Nat) (s : State) : List Byte × State := let d := s.draw; (beBytes n (d.1 % 2 ^ (8 * n)), d.2)

/-- The DRBG generates: no entropy failure (R465). -/
def State.drbgOk (s : State) : Bool := !s.flag F.SEC_STATUS_ES_FAIL

/-! ### Key slots of the pipelines (R300, R468–R470) -/

/-- Slot `slot` of pipeline `u` of PE `p` takes a 256-bit key. -/
def setAes (p u slot : Nat) (key : List Byte) (s : State) : State :=
  let g := s.eng_ p
  s.setEng p { g with aes := Tbl.set (fun _ => AesSlot.zero) g.aes (u * 128 + slot) ⟨key, true⟩ }

/-- The key derived from the device root key (R470). -/
def derivedOctets (u slot : Nat) : List Byte := beBytes 32 (Config.derivedKey u slot % 2 ^ 256)

/-- A master slot takes a DRBG key, or the derived one where the DRBG is in error (R470). -/
def fillSlot (p u slot : Nat) (s : State) : State :=
  if s.drbgOk then let d := drbg 32 s; setAes p u slot d.1 d.2 else setAes p u slot (derivedOctets u slot) s

/-- Test 0x09 passed on pipeline `u` of PE `p` (R466, R478). -/
def State.pipeOk (s : State) (p u : Nat) : Bool := (s.fld F.SELFTEST_T9).testBit (2 * p + u)

/-- The fabric island is powered, so that the slots hold what is written (R470). -/
def State.fabPowered (s : State) : Bool := s.hostOn && s.rung ≤ 1

def State.keyRec (s : State) (i : Nat) : Option (Nat × List Byte) := Tbl.get (fun _ => none) s.sec.keys i

/-- Every pipeline of every PE: (PE, pipeline). -/
def pipes : List (Nat × Nat) := (List.range 4).flatMap (fun p => [(p, 0), (p, 1)])

/-- A master key goes to slot `i`: its S2V half to pipeline 0 and its CTR half to pipeline 1 of each PE whose test passed (R468). -/
def writeMaster (i : Nat) (k : List Byte) (s : State) : State :=
  forEach pipes (fun s x => if s.pipeOk x.1 x.2 then setAes x.1 x.2 i ((k.drop (32 * x.2)).take 32) s else s) s

/-- SEC_KEYID and LOADED show the records (R468, R469). -/
def showKeys (s : State) : State :=
  forEach (List.range 16) (fun s i =>
    let r := s.keyRec i
    (s.setRv (Reg.SEC_KEYID i) ((r.map Prod.fst).getD 0)).setFlag ⟨Reg.SEC_KEYMAP, i, 1⟩ r.isSome) s

/-- FCLK has started after the fabric was off: every master slot holds a derived key until the fill ends (R470). -/
def keysLost (s : State) : State :=
  (forEach pipes (fun s x =>
    let g := s.eng_ x.1
    let t := forEach (List.range 16) (fun s i => setAes x.1 x.2 i (derivedOctets x.2 i) s) (s.setEng x.1 { g with aes := g.aes.filter (fun e => e.1 / 128 != x.2) })
    t) s).setFlag F.SEC_STATUS_KEYS_FILLING true

/-- The fill of the master slots (R470). -/
def keyFill (s : State) : State :=
  (forEach pipes (fun s x => forEach (List.range 16) (fun s i => match s.keyRec i with
    | some (_, k) => if s.pipeOk x.1 x.2 then setAes x.1 x.2 i ((k.drop (32 * x.2)).take 32) s else fillSlot x.1 x.2 i s
    | none => fillSlot x.1 x.2 i s) s) s).setFlag F.SEC_STATUS_KEYS_FILLING false

/-! ### Status (R475) -/

/-- APPROVED follows R475. -/
def showApproved (s : State) : State :=
  s.setFlag F.SEC_STATUS_APPROVED (s.sec.stOk && !s.flag F.SEC_STATUS_ES_FAIL && s.fld F.SELFTEST_T9 == 0xff && !s.flag F.SEC_STATUS_MAINT
    && !s.flag F.SEC_STATUS_TAMPER_HELD)

def secEvt (s : State) : State := s.bump Reg.SEC_EVT

/-- The CO session ends (R463); a change of role counts in SEC_EVT. -/
def coEnd (s : State) : State :=
  if s.flag F.SEC_STATUS_CO_ACTIVE then
    secEvt (((s.setFlag F.SEC_STATUS_CO_ACTIVE false).setFld F.CO_SESSION_CO_ID 0).setFld F.CO_SESSION_CH 0)
  else s

/-- The side of master ID `m` resets: its mailbox sides, its open NVS accesses and its CO session (R399, R438, R463); firmware drops
what it was receiving from or answering to that side (R404, R405). -/
def sideReset (m : Nat) (s : State) : State :=
  let s0 : State := { s with se := { s.se with
    msg := s.se.msg.filter (fun x => (s.mbSide x.1 m).isNone), resp := s.se.resp.filter (fun x => (s.mbSide x.1 m).isNone) } }
  let s1 := nvsCloseAll m (mbSideReset m s0)
  if s1.flag F.SEC_STATUS_CO_ACTIVE && s1.fld F.CO_SESSION_CO_ID == m then coEnd s1 else s1

/-! ### Zeroisation (R473) -/

/-- The key scratch of the SE's data SRAM, 0x3_F000–0x3_FFFF, is zeroed. -/
def scratchZero (s : State) : State :=
  let g := s.eng_ 6
  s.setEng 6 { g with data := g.data.filter (fun c => !(decide (0x3f000 ≤ c.1) && decide (c.1 < 0x40000))) }

/-- The secret challenge is shown in SEC_CHAL (R461). -/
def setChal (c : List Byte) (s : State) : State :=
  forEach (List.range 4) (fun s j => s.setRv (Reg.SEC_CHAL + 4 * j) (leVal ((c.drop (4 * j)).take 4))) s

/-- Zeroisation starts, and its steps 1–4 are done: session, block channels, slots, keys region, key scratch and working memory. The pool
is refilled by ZERO_DONE. -/
def zeroise (s : State) : State :=
  let s1 := forEach [12, 13, 14, 15] (fun s n => mbEmptyBoth n s) (coEnd s)
  let s2 := if s.fabPowered then
      forEach pipes (fun s x =>
        let g := s.eng_ x.1
        let s3 := s.setEng x.1 { g with aes := g.aes.filter (fun e => e.1 / 128 != x.2) }
        forEach (List.range 16) (fun s i => fillSlot x.1 x.2 i s) s3) s1
    else s1
  let s4 : State := { s2 with
    sec := { s2.sec with secret := none, keys := [], stage := [], chal := none }
    nvs := { s2.nvs with pw := [] }
    se := { s2.se with msg := [], resp := [] } }
  let s5 := scratchZero (setChal (List.replicate 16 0) (showKeys s4))
  (s5.setFlag F.SEC_STATUS_ZEROISING true).setFlag F.SEC_STATUS_POOL_FULL false

/-- The pool is full again: ZEROISING clears (R473). -/
def zeroDone (s : State) : State :=
  if s.flag F.SEC_STATUS_ZEROISING then
    secEvt ((s.setFlag F.SEC_STATUS_ZEROISING false).setFlag F.SEC_STATUS_POOL_FULL s.drbgOk)
  else s

/-! ### Commands (R460–R473, R478) -/

def secSelftest (s : State) : Nat × State := (rOk, s.setFlag F.SEC_STATUS_ST_RUNNING true)

/-- CHALLENGE (R461, R462, R465, R474). -/
def secChallenge (s : State) : Nat × State :=
  if s.flag F.CO_SESSION_AUTH_LOCK || s.flag F.SEC_STATUS_TAMPER_HELD || s.flag F.SEC_STATUS_MAINT then (rDenied, s)
  else if !s.drbgOk then (rEsFail, s)
  else
    let d := drbg 16 s
    (rOk, setChal d.1 { d.2 with sec := { d.2.sec with chal := some (d.1, d.2.now) } })

/-- No challenge is outstanding any more. -/
def chalGone (s : State) : State := setChal (List.replicate 16 0) { s with sec := { s.sec with chal := none } }

/-- A challenge may be used for 10 s (R462). -/
def State.chalLive (s : State) (t : Nat) : Bool := decide (s.now ≤ t + 10 ^ 13)

/-- VERIFY_CO (R461, R462): the challenge is used up; a match starts a session. -/
def secVerifyCo (issuer m ch : Nat) (s : State) : Nat × State :=
  match s.sec.chal with
  | none => (rDenied, s)
  | some (c, t) =>
    let s1 := chalGone s
    if !s.chalLive t then (rDenied, s1)
    else if nats (s.staged issuer 32) = s.coResponse c m ch then
      let s2 := (coEnd s1).setFld F.CO_SESSION_FAILS 0
      (rOk, secEvt (((s2.setFlag F.SEC_STATUS_CO_ACTIVE true).setFld F.CO_SESSION_CO_ID m).setFld F.CO_SESSION_CH (ch - 12)))
    else
      let n := min 8 (s1.fld F.CO_SESSION_FAILS + 1)
      let s2 := s1.setFld F.CO_SESSION_FAILS n
      (rAuthFail, if n = 8 then s2.setFlag F.CO_SESSION_AUTH_LOCK true else s2)

/-- KEY_LOAD: the message of 76 octets for slot `i` (R468). -/
def secKeyLoad (issuer i : Nat) (s : State) : Nat × State :=
  let msg := s.staged issuer 76
  let id := beVal (msg.take 4)
  if s.flag F.SEC_STATUS_ZEROISING then (rZeroised, s)
  else if !s.flag F.SEC_STATUS_CO_ACTIVE || s.flag F.SEC_STATUS_MAINT || s.flag F.SEC_STATUS_TAMPER_HELD then (rDenied, s)
  else if !s.flag F.SEC_STATUS_POOL_FULL then (rPoolShort, s)
  else if 16 ≤ i ∨ id = 0 then (rBadArg, s)
  else if (s.keyRec i).isSome then (rSlotInUse, s)
  else if (List.range 16).any (fun k => (s.keyRec k).map Prod.fst == some id) then (rDuplicateId, s)
  else match kwUnwrap s.kWrap (nats (msg.drop 4)) with
    | none => (rUnwrapFail, s)
    | some k =>
      let key := octetsOf k
      let s1 := if s.fabPowered then writeMaster i key s else s
      (rOk, showKeys { s1 with sec := { s1.sec with keys := Tbl.set (fun _ => none) s1.sec.keys i (some (id, key)) } })

/-- KEY_RETIRE of slot `i` (R469). -/
def secKeyRetire (i : Nat) (s : State) : Nat × State :=
  if s.flag F.SEC_STATUS_ZEROISING then (rZeroised, s)
  else if !s.flag F.SEC_STATUS_CO_ACTIVE || s.flag F.SEC_STATUS_MAINT then (rDenied, s)
  else if 16 ≤ i then (rBadArg, s)
  else
    let s1 := if s.fabPowered then forEach pipes (fun s x => fillSlot x.1 x.2 i s) s else s
    (rOk, showKeys { s1 with sec := { s1.sec with keys := Tbl.set (fun _ => none) s1.sec.keys i none } })

/-- CO_SET (R456, R478): the new secret wrapped under K_WRAP; the session ends (R463). -/
def secCoSet (issuer : Nat) (s : State) : Nat × State :=
  match kwUnwrap s.kWrap (nats (s.staged issuer 40)) with
  | none => (rUnwrapFail, s)
  | some k => (rOk, coEnd { s with sec := { s.sec with secret := some (octetsOf k) } })

/-- The state of OTP slot `k` (R457, R478). -/
def State.otp (s : State) (k : Nat) : Nat := s.fld ⟨Reg.OTP_SLOT k, 0, 2⟩

/-- OTP_PROG (R457). -/
def secOtpProg (issuer k : Nat) (s : State) : Nat × State :=
  if 8 ≤ k then (rBadArg, s)
  else if s.otp k != 0 then (rOtpState, s)
  else
    let s1 := s.setFld ⟨Reg.OTP_SLOT k, 0, 2⟩ 1
    (rOk, { s1 with sec := { s1.sec with hash := Tbl.set (fun _ => []) s1.sec.hash k (s.staged issuer 48), otpAt := some (k, s.now) } })

/-- OTP_REVOKE (R457). -/
def secOtpRevoke (k : Nat) (s : State) : Nat × State :=
  if 8 ≤ k then (rBadArg, s)
  else if s.otp k != 1 then (rOtpState, s)
  else if ((List.range 4).filter (fun j => s.otp (k / 4 * 4 + j) == 1)).length ≤ 1 then (rOtpLast, s)
  else
    let s1 := s.setFld ⟨Reg.OTP_SLOT k, 0, 2⟩ 2
    (rOk, { s1 with sec := { s1.sec with otpAt := some (k, s.now) } })

/-- While a commit is pending the SE increments its counter until it equals the target, one increment at a time (R471). -/
def commitGo (s : State) : State :=
  match s.sec.commit with
  | some (c, t) => if s.ctr c < t ∧ s.fld F.SE_STATUS_STATE = 4 ∧ s.nvs.jobs.contains c = false then ctrIncrement 4 c s else s
  | none => s

/-- A commit of counter `c` to `target` (R471). -/
def secCommit (c target : Nat) (s : State) : Nat × State :=
  if target ≤ s.ctr c then (rOk, s)
  else if 65536 < target - s.ctr c then (rBadArg, s)
  else (rOk, commitGo ({ s with sec := { s.sec with commit := some (c, target) } }.setFlag F.SEC_STATUS_COMMIT_PEND true))

/-- COMMIT_FW and COMMIT_ITIN (R471). -/
def secCommitFw (s : State) : Nat × State := secCommit 0 (s.rv Reg.FW_SECVER) s
def secCommitItin (s : State) : Nat × State :=
  if s.itin.arm.isSome then (rSwapArmed, s)
  else secCommit 1 (if s.itinRuns then s.rv (Reg.BANK_SECVER s.runBank) else 0) s

/-- ENTER_MAINT (R477); it opens the TMUX pins (R542). -/
def secEnterMaint (s : State) : Nat × State := (rOk, secEvt (showApproved (tmuxOpen ((zeroise s).setFlag F.SEC_STATUS_MAINT true))))

/-- Who may issue a code (R478): 0 any host or the SE, 1 the CO master, 2 the SE; none where the code is reserved. -/
def secIssuer (code : Nat) : Option Nat :=
  if code = 1 ∨ code = 2 then some 0 else if 3 ≤ code ∧ code ≤ 9 then some 1 else if 0x10 ≤ code ∧ code ≤ 0x13 then some 2 else none

/-- What the command does once the checks common to all have passed. -/
def secDo (m code arg arg2 : Nat) (s : State) : Nat × State :=
  match code with
  | 0x01 => (rOk, zeroise s)
  | 0x02 => secSelftest s
  | 0x03 => (rOk, coEnd s)
  | 0x04 => secEnterMaint s
  | 0x05 => secCoSet m s
  | 0x06 => secOtpProg m arg s
  | 0x07 => secOtpRevoke arg s
  | 0x08 => secCommitFw s
  | 0x09 => secCommitItin s
  | 0x10 => secChallenge s
  | 0x11 => secVerifyCo m arg arg2 s
  | 0x12 => secKeyLoad m arg s
  | 0x13 => secKeyRetire arg s
  | _ => (rBadArg, s)

/-- The result of a command and the state after it: reserved codes, tests running (R464, R467), failed tests, then the issuer (R460). After a
failed rerun the services of the CO are refused, and those of the User go on (R460, R467). -/
def secResult (m code arg arg2 : Nat) (s : State) : Nat × State :=
  match secIssuer code with
  | none => (rBadArg, s)
  | some who =>
    if s.flag F.SEC_STATUS_ST_RUNNING then (rBusy, s)
    else if s.fld F.SE_STATUS_STATE = 6 ∧ s.flag F.SEC_STATUS_ST_FAIL = true then (rDenied, s)
    else if who = 2 ∧ m ≠ 4 then (rDenied, s)
    else if who = 1 ∧ (s.sec.dead = true ∨ s.flag F.SEC_STATUS_MAINT = true ∨ s.flag F.SEC_STATUS_CO_ACTIVE = false ∨ s.fld F.CO_SESSION_CO_ID ≠ m) then (rDenied, s)
    else if s.sec.dead = true ∧ 0x12 ≤ code then (rDenied, s)
    else secDo m code arg arg2 s

/-- A SEC_CMD of master ID `m` (R478): SEC_RESULT names the result, the code and the issuer; any result but OK counts. -/
def secCmd (m code arg arg2 : Nat) (s : State) : State :=
  let r := secResult m code arg arg2 s
  let s1 := r.2.setRv Reg.SEC_RESULT (r.1 + 256 * (code % 256) + 65536 * (m % 256))
  if r.1 = rOk then s1 else s1.bump16 Reg.SEC_CMD_REF

/-! ### Self-tests and entropy (R464–R467) -/

/-- ES_FAIL rises (R465). -/
def esFail (s : State) : State :=
  let s1 := if s.flag F.SEC_STATUS_ES_FAIL then s else secEvt (s.setFlag F.SEC_STATUS_ES_FAIL true)
  showApproved (s1.sendFault srcSec kSelftestFail 0x01)

/-- The first failing test of a mask whose bit k is test k + 1; 0 where all pass. -/
def firstFail (fails : Nat) : Nat := (((List.range 8).find? (fun k => fails.testBit k)).map (· + 1)).getD 0

/-- The tests end with the failures `fails`: SELFTEST and ST_ flags, and the test completion in SEC_EVT. -/
def testsShown (fails : Nat) (s : State) : State :=
  let f := firstFail fails
  let s1 := ((s.setFlag F.SELFTEST_DONE true).setFlag F.SELFTEST_PASS (f == 0)).setFld F.SELFTEST_FIRST f
  secEvt ((s1.setFlag F.SEC_STATUS_ST_RUNNING false).setFlag F.SEC_STATUS_ST_FAIL (f != 0))

/-- The entropy tests 0x01 and 0x02 have run: both passed clears ES_FAIL, else it rises (R465, R467). -/
def entropyTested (fails : Nat) (s : State) : State :=
  if fails % 4 = 0 then s.setFlag F.SEC_STATUS_ES_FAIL false else esFail s

/-- A rerun of the tests ends (R467). -/
def selftestDone (fails : Nat) (s : State) : State :=
  if !s.flag F.SEC_STATUS_ST_RUNNING then s else
  let s1 := entropyTested fails (testsShown fails s)
  let bad := fails / 4 % 64 != 0
  showApproved { s1 with sec := { s1.sec with stOk := s1.sec.stOk && fails % 256 == 0, dead := s1.sec.dead || bad } }

/-- Test 0x09 ends, counted in SEC_EVT: bit 2p + u of `pass` for pipeline u of PE p; each failing pipeline sends SELFTEST_FAIL (R464, R466). -/
def test9 (pass : Nat) (s : State) : State :=
  let s1 := secEvt (s.setFld F.SELFTEST_T9 pass)
  showApproved (forEach (List.range 8) (fun s k => if pass.testBit k then s else s.sendFault srcSec kSelftestFail (9 + 256 * k)) s1)

/-! ### TAMPER_N (R474) -/

/-- A latched assertion while the security block runs: counted, sent, held, and zeroisation starts. -/
def tamperNow (rung : Nat) (s : State) : State :=
  let s1 := (s.bump Reg.TAMPER_EVT).sendFault srcSec kTamper rung
  zeroise (showApproved (s1.setFlag F.SEC_STATUS_TAMPER_HELD true))

/-! ### Commits (R471, R472) -/

/-- The counter that just rose: COMMIT_PEND clears when the shadow reaches the target; counter 1 rejects lower banks. -/
def afterCounter (s : State) : State :=
  let s1 := match s.sec.commit with
    | some (c, t) => if t ≤ s.ctr c then ({ s with sec := { s.sec with commit := none } }.setFlag F.SEC_STATUS_COMMIT_PEND false) else s
    | none => s
  commitGo (bankRollback s1)

/-! ### Meanings -/

/-- COUNTER_INCREMENT_DONE (R446, R471, R472). -/
def execCounterIncrementDone (s : State) : Host.Outcome State Fault Refusal :=
  fin (if s.blockOn 12 && !s.nvs.jobs.isEmpty then afterCounter (ctrDone s) else s)

/-- RECALL_DONE (R441); a TAMPER latched in L3 or L4 then zeroises (R474). -/
def execRecallDone (s : State) : Host.Outcome State Fault Refusal :=
  let s1 := recallDone s
  fin (if s1.sec.tamperOwed && s1.flag F.NVS_STATUS_READY then
    showApproved ((zeroise { s1 with sec := { s1.sec with tamperOwed := false } }))
  else s1)

/-- MB_SIDE_RESET: master `m` writes 1 (R399). -/
def execMbSideReset (m : Master) (s : State) : Host.Outcome State Fault Refusal := fin (reach m 1 (fun s => sideReset m.id (guardEnd m s)) s)

/-- ZEROISE. -/
def execZeroise (m : Master) (s : State) : Host.Outcome State Fault Refusal := fin (if onBus m then whenOn 13 (secCmd m.id 0x01 0 0) s else s)

/-- ZERO_DONE. -/
def execZeroDone (s : State) : Host.Outcome State Fault Refusal := fin (whenOn 13 zeroDone s)

/-- SELFTEST. -/
def execSelftest (m : Master) (s : State) : Host.Outcome State Fault Refusal := fin (if onBus m then whenOn 13 (secCmd m.id 0x02 0 0) s else s)

/-- SELFTEST_DONE: bit k of `fails` for a failure of test k + 1. -/
def execSelftestDone (fails : BitVec 8) (s : State) : Host.Outcome State Fault Refusal := fin (whenOn 13 (selftestDone fails.toNat) s)

/-- CO_LOGOUT. -/
def execCoLogout (m : Master) (s : State) : Host.Outcome State Fault Refusal := fin (whenOn 13 (secCmd m.id 0x03 0 0) s)

/-- ENTER_MAINT. -/
def execEnterMaint (m : Master) (s : State) : Host.Outcome State Fault Refusal := fin (whenOn 13 (secCmd m.id 0x04 0 0) s)

/-- CO_SET. -/
def execCoSet (m : Master) (s : State) : Host.Outcome State Fault Refusal := fin (whenOn 13 (secCmd m.id 0x05 0 0) s)

/-- OTP_PROG. -/
def execOtpProg (m : Master) (arg : BitVec 8) (s : State) : Host.Outcome State Fault Refusal := fin (whenOn 13 (secCmd m.id 0x06 arg.toNat 0) s)

/-- OTP_REVOKE. -/
def execOtpRevoke (m : Master) (arg : BitVec 8) (s : State) : Host.Outcome State Fault Refusal := fin (whenOn 13 (secCmd m.id 0x07 arg.toNat 0) s)

/-- COMMIT_FW. -/
def execCommitFw (m : Master) (s : State) : Host.Outcome State Fault Refusal := fin (whenOn 13 (secCmd m.id 0x08 0 0) s)

/-- COMMIT_ITIN. -/
def execCommitItin (m : Master) (s : State) : Host.Outcome State Fault Refusal := fin (whenOn 13 (secCmd m.id 0x09 0 0) s)

/-- CHALLENGE. -/
def execChallenge (m : Master) (s : State) : Host.Outcome State Fault Refusal := fin (whenOn 13 (secCmd m.id 0x10 0 0) s)

/-- VERIFY_CO: ARG is the master ID and ARG2 the channel. -/
def execVerifyCo (m : Master) (arg arg2 : BitVec 8) (s : State) : Host.Outcome State Fault Refusal :=
  fin (whenOn 13 (secCmd m.id 0x11 arg.toNat arg2.toNat) s)

/-- CHALLENGE_EXPIRY: after its 10 s the outstanding challenge is unusable; a VERIFY_CO of that cycle has been taken before (R26, R462). -/
def execChallengeExpiry (s : State) : Host.Outcome State Fault Refusal :=
  fin (whenOn 13 (fun s => match s.sec.chal with
    | some (_, t) => if t + 10 ^ 13 ≤ s.now then chalGone s else s
    | none => s) s)

/-- SEC_KEY_LOAD. -/
def execSecKeyLoad (m : Master) (arg : BitVec 8) (s : State) : Host.Outcome State Fault Refusal := fin (whenOn 13 (secCmd m.id 0x12 arg.toNat 0) s)

/-- SEC_KEY_RETIRE. -/
def execSecKeyRetire (m : Master) (arg : BitVec 8) (s : State) : Host.Outcome State Fault Refusal := fin (whenOn 13 (secCmd m.id 0x13 arg.toNat 0) s)

/-- ES_FAIL: a continuous test fails, the repetition count or, with `prop`, the adaptive proportion (R465, R478). -/
def execEsFail (prop : Bool) (s : State) : Host.Outcome State Fault Refusal :=
  fin (whenOn 13 (fun s => esFail (s.bumpFld (if prop then F.ES_HEALTH_PROP else F.ES_HEALTH_REP))) s)

/-- TAMPER_RELEASE: the pin has been high for 1 s (R474). -/
def execTamperRelease (s : State) : Host.Outcome State Fault Refusal :=
  let s1 : State := { s with sec := { s.sec with tamperLow := false } }
  fin (showApproved (s1.setFlag F.SEC_STATUS_TAMPER_HELD false))

/-- KEY_FILL_DONE (R470). -/
def execKeyFillDone (s : State) : Host.Outcome State Fault Refusal :=
  fin (whenOn 13 (fun s => if s.flag F.SEC_STATUS_KEYS_FILLING && s.fabPowered then fabricReady (keyFill s) else s) s)

end Sys2Proof.Machine
end

