-- ==== Sys2Proof/Machine/Supv.lean ====
section
/-! DEFINITION. The supervisor engine's states, its boot and its firmware image (R379–R386), traps and halts (R308, R309). -/

namespace Sys2Proof.Machine

/-- The state of the SE: 1 ROM_TEST, 2 LOADING, 3 VERIFYING, 4 RUNNING, 5 HALTED, 6 FAILED (R406). -/
def State.seState (s : State) : Nat := s.fld F.SE_STATUS_STATE

/-- A change of state, counted in SE_EVT (R382). -/
def seTo (st : Nat) (s : State) : State := if s.seState = st then s else (s.setFld F.SE_STATUS_STATE st).bump Reg.SE_EVT

def seRefuse (s : State) : State := s.bump16 Reg.SE_CMD_REF

/-- Issue stops: HALTED, with SE_PC and SE_TRAP_REC latched (R382). -/
def seHalt (s : State) : State :=
  seTo 5 ((s.setRv Reg.SE_PC (s.se.pc % 4096)).setQuant Reg.SE_TRAP_REC 2 ((s.eng_ 6).reg 63).toNat)

/-- Entry to ROM_TEST: the SE side resets on every channel bound to it, and the CO session ends (R382, R399, R463). -/
def seRomTest (s : State) : State :=
  let s1 := coEnd (sideReset 4 s)
  let s2 := ((s1.setFlag F.SE_STATUS_TRAP_ACTIVE false).setFlag F.SE_STATUS_DOUBLE_TRAP false).setFld F.SE_STATUS_HALT_CAUSE 0
  let s3 := s2.setEng 6 { s2.eng_ 6 with hold := [] }
  seTo 1 { s3 with se := { s3.se with stack := [], msg := [], resp := [] } }

/-- RESTART (R382): refused while the SE is whistled. -/
def seRestart (s : State) : State :=
  if s.wHeld 6 0 then seRefuse s
  else if s.seState = 4 ∨ s.seState = 5 ∨ s.seState = 2 ∨ s.seState = 6 then seRomTest s
  else s

/-- BOOT by master ID `m` (R382, R386): refused outside LOADING. -/
def seBoot (m : Nat) (s : State) : State :=
  if s.seState = 2 then seTo 3 ({ s with se := { s.se with booter := m } }.setRv Reg.FW_REJ 0) else seRefuse s

/-- SE_CMD (R406). -/
def landSeCmd (m v : Nat) (s : State) : State :=
  if v % 16 = 1 then seBoot m s else if v % 16 = 2 then seRestart s else seRefuse s

/-- The staging area, data SRAM 0x1_0000–0x3_FFFF, is cleared (R382). -/
def stageClear (s : State) : State :=
  let g := s.eng_ 6
  s.setEng 6 { g with data := g.data.filter (fun c => decide (c.1 < 0x10000)) }

/-- Recall and self-tests have finished: the results are recorded where the tests ran with this power-up, and the SE in ROM_TEST moves on
(R382, R464–R466). -/
def romTestDone (fails : Nat) (s : State) : State :=
  if !s.flag F.NVS_STATUS_READY then s else
  let s1 :=
    if s.flag F.SEC_STATUS_ST_RUNNING && !s.flag F.SELFTEST_DONE then
      let s2 := testsShown fails s
      let s3 := if fails.testBit 0 then esFail s2 else s2.setFlag F.SEC_STATUS_ES_FAIL false
      let f := firstFail (fails / 2 * 2)
      let s4 := if f = 0 then s3 else s3.sendFault srcSec kSelftestFail f
      showApproved ({ s4 with sec := { s4.sec with stOk := fails % 256 == 0, dead := false } }.setFlag F.SEC_STATUS_POOL_FULL (!fails.testBit 0))
    else s
  if s1.seState != 1 then s1
  else if s1.flag F.SELFTEST_PASS then (seTo 2 (stageClear s1)).milestone 1
  else seTo 6 s1

/-! ### The firmware image (R383–R385) -/

/-- The `n`-byte field of the staged image at offset `o`. -/
def State.fw (s : State) (o n : Nat) : Nat := (s.eng_ 6).data.le (0x10000 + o) n

/-- The reason code of the first check that fails (R385); none where the image is accepted. `ue`: the staging area holds a word that
cannot be corrected. -/
def State.fwCheck (s : State) (ue : Bool) : Option Nat :=
  let len := s.fw 0x08 4
  let codeOff := s.fw 0x18 4
  let codeLen := s.fw 0x1c 4
  let dataOff := s.fw 0x20 4
  let dataLen := s.fw 0x24 4
  let entry := s.fw 0x28 4
  let tr := len - 256
  let m := (s.eng_ 6).data
  let pub := nats (m.bytes (0x10000 + tr + 8) 97)
  let idx := s.fw (tr + 4) 1
  let inside := fun o n => n = 0 || (decide (0x40 ≤ o) && decide (o + n ≤ tr))
  if s.fw 0 4 ≠ 0x57465a4a ∨ s.fw 4 2 ≠ 1 ∨ s.fw 6 2 ≠ 0x40 ∨ s.fw tr 4 ≠ 0x47535a4a then some 0x01
  else if s.fw 0x0c 4 ≠ 0x00b09240 then some 0x02
  else if len % 32 ≠ 0 ∨ len < 1024 ∨ 196608 < len ∨ codeLen % 32 ≠ 0 ∨ 131072 < codeLen ∨ dataLen % 8 ≠ 0 ∨ 65536 < dataLen then some 0x03
  else if codeOff % 32 ≠ 0 ∨ dataOff % 8 ≠ 0 ∨ inside codeOff codeLen = false ∨ inside dataOff dataLen = false
      ∨ (codeOff < dataOff + dataLen ∧ dataOff < codeOff + codeLen) ∨ entry < 28 ∨ codeLen / 32 ≤ entry
      ∨ s.fw 0x2c 20 ≠ 0 ∨ s.fw (tr + 5) 3 ≠ 0 ∨ s.fw (tr + 201) 55 ≠ 0 then some 0x04
  else if 4 ≤ idx ∨ s.keyInForce idx pub = false then some 0x05
  else if sigGood m 0x10000 len pub = false then some 0x06
  else if s.fw 0x10 4 < s.ctr 0 then some 0x07
  else if ue then some 0x08
  else none

/-- MB0 is bound to the SE and the master that wrote BOOT, at the first entry to RUNNING after a reset (R386). -/
def bindMb0 (s : State) : State :=
  if s.mbBound 0 then s
  else let m := s.se.booter; if m < 4 then mbBind 0 m 4 s else s

/-! ### Vendor calibration (R47, R231, R531) -/

/-- A word of the NVS vendor region; one that is zero holds no constant. -/
def State.vendorWord (s : State) (o : Nat) : Nat := s.nvs.mem.le (o % 0x8000 / 4 * 4) 4

/-- Firmware writes the constants of the ports, once the fabric runs (R49, R231). -/
def vendorPorts (s : State) : State :=
  if s.fclkOn && s.seState == 4 then
    forEach [false, true] (fun s tx => forEach (List.range 4) (fun s p => forEach (List.range 5) (fun s m =>
      let v := s.vendorWord (Config.calAt tx p m)
      if v = 0 then s else landCal tx p m (BitVec.ofNat 32 v) s) s) s) s
  else s

/-- Firmware writes the other constants at boot: those of the daisy lane, and BASE_RESERVE, which locks (R47, R64, R531). -/
def vendorBoot (s : State) : State :=
  let s1 := forEach [false, true] (fun s tx =>
    let v := s.vendorWord (Config.dzCalAt tx) % 2 ^ 16
    if v = 0 then s else s.setRv (if tx then Reg.DZ_CAL_TX else Reg.DZ_CAL_RX) v) s
  let v := s1.vendorWord Config.baseReserveAt % 2 ^ 13
  if v = 0 ∨ Tbl.get (fun _ => false) s1.bus.locks Reg.BASE_RESERVE = true then s1 else (s1.setRv Reg.BASE_RESERVE v).lock Reg.BASE_RESERVE

/-- Firmware binds MB1–MB15 as its configuration in NVS says (R387). -/
def vendorBinds (s : State) : State :=
  forEach ((List.range 15).map (· + 1)) (fun s n =>
    let v := s.vendorWord (Config.bindAt n)
    if v = 0 ∨ s.mbBound n = true then s else mbBindWrite .se n v s) s

/-- The accepted image is copied, the rest of both SRAMs zeroed, and issue starts at ENTRY (R382, R383, R386). It reports its versions, that of
stock firmware's receiver with them (R4, R204). -/
def fwStart (s : State) : State :=
  let g := s.eng_ 6
  let m := g.data
  let code := m.bytes (0x10000 + s.fw 0x18 4) (s.fw 0x1c 4)
  let dat := m.bytes (0x10000 + s.fw 0x20 4) (s.fw 0x24 4)
  let s1 := ((s.setRv Reg.FW_VERSION (s.fw 0x14 4)).setRv Reg.FW_SECVER (s.fw 0x10 4))
  let s2 := s1.setEng 6 { g with data := Memory.setBytes [] 0 dat }
  let s3 : State := { s2 with se := { s2.se with pc := s.fw 0x28 4, stack := [], code := Memory.setBytes [] 0 code, cut := 0, badCmd := 0, msg := [], resp := [], ptp := [], cur := 0 } }
  vendorPorts (vendorBinds (vendorBoot (((seTo 4 (bindMb0 s3)).milestone 2).setFld ⟨Reg.GNSS_VER, 0, 8⟩ 1)))

/-- The ROM's checks end (R385). -/
def fwVerifyDone (ue : Bool) (s : State) : State :=
  if s.seState != 3 then s else
  match s.fwCheck ue with
  | none => fwStart s
  | some c => seTo 2 (s.setRv Reg.FW_REJ (c + 2 ^ 31))

/-- The address that FW_WIN_ADDR names; values outside the staging area act as 0x1_0000 (R406). -/
def State.fwWin (s : State) : Nat :=
  let a := s.rv Reg.FW_WIN_ADDR % 2 ^ 18 / 4 * 4
  if a < 0x10000 then 0x10000 else a

/-- Octets written to the staging area land in LOADING; in any other state they are discarded with LOCKED_WRITE (R384). -/
def stageWrite (a : Nat) (l : List Byte) (s : State) : State :=
  if s.seState = 2 then
    let g := s.eng_ 6
    s.setEng 6 { g with data := g.data.setBytes a l }
  else s.sendFault srcSe kLockedWrite a

/-- A write of FW_WIN_DATA (R384, R406): FW_WIN_ADDR advances after each, a discarded one too. -/
def fwWinData (v : Word) (s : State) : State :=
  let a := s.fwWin
  (stageWrite a (leBytes 4 v.toNat) s).setRv Reg.FW_WIN_ADDR ((a + 4) % 2 ^ 18)

/-! ### Traps (R308, R309) -/

/-- The SE takes a trap before any result of its bundle takes effect: g62 and g63, TRAP_ACTIVE, and the vector; while TRAP_ACTIVE it is a double trap and the SE stops. `ret` is the
bundle that g62 takes. -/
def seTrap (cause code addr ret : Nat) (s : State) : State :=
  let rec_ := cause + 256 * (code % 256) + 2 ^ 32 * (addr % 2 ^ 32)
  let s : State := { s.setEng 6 { s.eng_ 6 with hold := [] } with se := { s.se with mem := none } }
  if s.flag F.SE_STATUS_TRAP_ACTIVE then
    (seHalt s).setFlag F.SE_STATUS_DOUBLE_TRAP true |>.setFld F.SE_STATUS_HALT_CAUSE cause
  else
    let g := s.eng_ 6
    let s1 := s.setEng 6 ((g.setReg 62 (BitVec.ofNat 64 ret)).setReg 63 (BitVec.ofNat 64 rec_))
    { s1.setFlag F.SE_STATUS_TRAP_ACTIVE true with se := { s1.se with pc := 4 * cause } }

/-! ### Meanings -/

/-- BOOT (R382). -/
def execBoot (m : Master) (s : State) : Host.Outcome State Fault Refusal := fin (whenOn 10 (landSeCmd m.id 1) s)

/-- SE_RESTART (R382). -/
def execSeRestart (m : Master) (s : State) : Host.Outcome State Fault Refusal := fin (whenOn 10 (landSeCmd m.id 2) s)

/-- ROM_TEST_DONE: bit k of `fails` for a failure of test k + 1. -/
def execRomTestDone (fails : BitVec 8) (s : State) : Host.Outcome State Fault Refusal := fin (whenOn 10 (romTestDone fails.toNat) s)

/-- FIRMWARE_VERIFY_DONE. -/
def execFirmwareVerifyDone (ue : Bool) (s : State) : Host.Outcome State Fault Refusal := fin (whenOn 10 (fwVerifyDone ue) s)

/-- FW_WIN_DATA_WRITE. -/
def execFwWinDataWrite (v : Word) (s : State) : Host.Outcome State Fault Refusal := fin (whenOn 10 (fwWinData v) s)

end Sys2Proof.Machine
end

