-- ==== Sys2Proof/Machine/Dma.lean ====
section
/-! DEFINITION. The DMA channels (R414–R429): programming, the list and its checks, bursts by priority, ends of transfers, and halts. -/

namespace Sys2Proof.Machine

def State.dmaCh (s : State) (c : Nat) : DmaCh := Tbl.get (fun _ => DmaCh.reset) s.dma.ch c
def State.setDmaCh (s : State) (c : Nat) (v : DmaCh) : State :=
  { s with dma := { s.dma with ch := Tbl.set (fun _ => DmaCh.reset) s.dma.ch c v } }

/-- STATE of a channel: 0 IDLE, 1 FETCHING, 2 MOVING. -/
def State.dmaState (s : State) (c : Nat) : Nat := s.fld (F.DMA_STATUS_STATE c)

def dmaRefuse (s : State) : State := s.bump16 Reg.DMA_CMD_REF

abbrev dDone : Nat := 1
abbrev dMisalign : Nat := 2
abbrev dOverlap : Nat := 3
abbrev dDomainOff : Nat := 4
abbrev dDenied : Nat := 5
abbrev dNoLink : Nat := 6
abbrev dAborted : Nat := 7
abbrev dHalted : Nat := 8
abbrev dDevError : Nat := 9
abbrev dWhistled : Nat := 10

/-- A transfer ends with a RESULT; every end but DONE counts in DONE_EVT, DONE where INT_FULL asks for it (R420). -/
def dmaEnd (c result : Nat) (s : State) : State :=
  let s1 := (s.setFld (F.DMA_STATUS_STATE c) 0).setFld (F.DMA_STATUS_RESULT c) result
  if result != dDone || s.flag (F.DMA_CFG_INT_FULL c) then s1.bump (Reg.DONE_EVT c) else s1

/-! ### Doorbells and programming (R415, R419, R425) -/

/-- START (R419). -/
def dmaStart (c : Nat) (s : State) : State :=
  if s.dmaState c != 0 || s.flag F.DMA_HALT_HALTED || s.wHeld 5 c then dmaRefuse s
  else if !s.irq.linkL0 then ((dmaRefuse s).setFld (F.DMA_STATUS_RESULT c) dNoLink).bump (Reg.DONE_EVT c)
  else
    let s1 := (((s.setRv (Reg.DMA_PROGRESS c) 0).setFld (F.DMA_STATUS_RESULT c) 0).setFld (F.DMA_STATUS_ENTRY c) 0).setFld (F.DMA_STATUS_CAUSE c) 0
    (s1.setDmaCh c .reset).setFld (F.DMA_STATUS_STATE c) 1

/-- ABORT (R420, R425). -/
def dmaAbort (c : Nat) (s : State) : State := if s.dmaState c = 0 then s else dmaEnd c dAborted s

/-- A doorbell write: START and ABORT together act as ABORT (R425). -/
def landDoorbellDma (c : Nat) (v : Word) (s : State) : State :=
  if v.getLsbD 1 then dmaAbort c s else if v.getLsbD 0 then dmaStart c s else s

/-- DMA_OWNER (R415): written by the SE while the channel is IDLE. -/
def landDmaOwner (m c : Nat) (v : Word) (s : State) : State :=
  if m != 4 then s else if s.dmaState c != 0 then dmaRefuse s else s.setReg (Reg.DMA_OWNER c) (v &&& 0xff)

/-- Master ID `m` may write channel `c`'s registers; another's write counts in DMA_FOREIGN (R415). -/
def dmaOwned (m c : Nat) (f : State → State) (s : State) : State :=
  if s.rv (Reg.DMA_OWNER c) = m then f s else s.bump16 Reg.DMA_FOREIGN

/-- A write of a programming register, ignored and counted while the channel is not IDLE (R425). -/
def landDmaReg (c a : Nat) (v mask : Word) (s : State) : State := if s.dmaState c = 0 then s.setReg a (v &&& mask) else dmaRefuse s

/-- A write of DMA_LIST_ADDR, both words (R65, R425). -/
def landDmaList (c v : Nat) (s : State) : State := if s.dmaState c = 0 then s.setQuant (Reg.DMA_LIST_ADDR c) 2 v else dmaRefuse s

/-! ### The list (R416–R418) -/

/-- The size of a device space (R414). -/
def dmaSize : Nat → Nat
  | 0 => 0x1000000
  | 1 => 0x40000
  | 2 => 0x40000
  | _ => 0x100000

/-- The device space is reachable in the present rung (R414). -/
def State.dmaReach (s : State) (sp : Nat) : Bool :=
  match sp with
  | 0 => s.blockOn 9
  | 1 => s.blockOn 10
  | 2 => s.blockOn 12
  | _ => s.blockOn 9

/-- The transfer writes device memory. -/
def State.dmaWrites (s : State) (c : Nat) : Bool := s.fld (F.DMA_CFG_DIR c) == 0

def State.dmaSpace (s : State) (c : Nat) : Nat := s.fld (F.DMA_CFG_SPACE c)

/-- The store bank refuses writes (R322). -/
def State.bankRefuses (s : State) (b : Nat) : Bool := s.bank b == 2 || s.bank b == 5 || s.bank b == 6 || s.armed b

/-- Two ranges given by start and length meet. -/
def rangesMeet (a n b m : Nat) : Bool := decide (a < b + m) && decide (b < a + n)

/-- A failed check: its RESULT, cause, entry, and whether it concerns the transfer as a whole. -/
structure DmaFail where
  result : Nat
  cause : Nat
  entry : Nat
  whole : Bool

/-- What an entry of the list as read holds: address, length, reserved word. -/
abbrev DmaEntry := Nat × Nat × Nat

/-- MISALIGN (R418): alignment and count of the transfer, then the entries in order, then the sum, the space and the range. -/
def dmaMisalign (c : Nat) (l : List DmaEntry) (s : State) : Option DmaFail :=
  let dev := s.rv (Reg.DMA_DEV_ADDR c)
  let total := s.rv (Reg.DMA_TOTAL c)
  let list := s.quant (Reg.DMA_LIST_ADDR c) 2
  let cnt := s.rv (Reg.DMA_LIST_CNT c)
  let sp := s.dmaSpace c
  let whole := fun (k : Nat) => some (DmaFail.mk dMisalign k 0 true)
  let bad := l.zipIdx.findSome? (fun e =>
    let k := if e.1.1 % 8 != 0 || e.1.2.1 % 8 != 0 then 1 else if e.1.2.1 = 0 then 2 else if e.1.2.2 != 0 then 7 else 0
    if k = 0 then none else some (DmaFail.mk dMisalign k e.2 false))
  if dev % 8 != 0 || total % 8 != 0 || list % 16 != 0 then whole 1
  else if cnt = 0 ∨ 64 < cnt then whole 4
  else if bad.isSome then bad
  else if (l.map (fun e => e.2.1)).sum != total then whole 3
  else if 4 ≤ sp then whole 6
  else if dmaSize sp < dev + total then whole 5
  else none

/-- OVERLAP (R418), with the addresses at which the system placed BAR 0, BAR 2 and BAR 4. -/
def dmaOverlap (c : Nat) (l : List DmaEntry) (bar0 bar2 bar4 : Nat) (s : State) : Option DmaFail :=
  let toHost := !s.dmaWrites c
  let bars := [(bar0, 0x100000), (bar2, 0x1000000), (bar4, 0x10000)]
  let list := (s.quant (Reg.DMA_LIST_ADDR c) 2, 16 * s.rv (Reg.DMA_LIST_CNT c))
  let ent := l.zipIdx.findSome? (fun e =>
    let hit := fun (r : Nat × Nat) => rangesMeet e.1.1 e.1.2.1 r.1 r.2
    let k := if bars.any hit then 1 else if toHost && hit list then 2
      else if toHost && (l.take e.2).any (fun o => hit (o.1, o.2.1)) then 3 else 0
    if k = 0 then none else some (DmaFail.mk dOverlap k e.2 false))
  let other := (List.range 8).any (fun o =>
    o != c && s.dmaState o != 0 && s.dmaSpace o == s.dmaSpace c && (s.dmaWrites c || s.dmaWrites o)
      && rangesMeet (s.rv (Reg.DMA_DEV_ADDR c)) (s.rv (Reg.DMA_TOTAL c)) (s.rv (Reg.DMA_DEV_ADDR o)) (s.rv (Reg.DMA_TOTAL o)))
  if ent.isSome then ent else if other then some ⟨dOverlap, 4, 0, true⟩ else none

/-- The transfer is one that R416 or R322 denies, or that meets the key scratch, which no DMA reaches outside Maintenance but as part of the
staging area (R416, R476). -/
def State.dmaDenied (s : State) (c bank : Nat) : Bool :=
  let dev := s.rv (Reg.DMA_DEV_ADDR c)
  (s.dmaSpace c == 1 && s.rv (Reg.DMA_OWNER c) != 4 && (s.seState != 2 || dev < 0x10000))
    || (s.dmaSpace c == 1 && s.seState != 2 && !s.flag F.SEC_STATUS_MAINT && decide (0x3f000 < dev + s.rv (Reg.DMA_TOTAL c)))
    || (s.dmaSpace c == 3 && s.dmaWrites c && s.bankRefuses bank)

/-- The first check of R418 that fails. -/
def dmaCheck (c bank : Nat) (l : List DmaEntry) (bar0 bar2 bar4 : Nat) (s : State) : Option DmaFail :=
  match dmaMisalign c l s with
  | some f => some f
  | none =>
    match dmaOverlap c l bar0 bar2 bar4 s with
    | some f => some f
    | none =>
      if !s.dmaReach (s.dmaSpace c) then some ⟨dDomainOff, 0, 0, true⟩
      else if s.dmaDenied c bank then some ⟨dDenied, 0, 0, true⟩ else none

/-- The fault of a failed check (R416, R418). -/
def dmaFault (c : Nat) (f : DmaFail) (s : State) : State :=
  let a := c + f.cause * 2 ^ 4 + f.entry * 2 ^ 8 + (if f.whole then 2 ^ 14 else 0)
  if f.result = dMisalign then s.sendFault srcDma kDmaMisalign a
  else if f.result = dOverlap then s.sendFault srcDma kDmaOverlap a
  else if f.result = dDenied ∧ s.dmaWrites c = true then
    s.sendFault srcDma kLockedWrite (if s.dmaSpace c = 1 then s.rv (Reg.DMA_DEV_ADDR c) else a)
  else s

/-- The list has been read (R418): the channel moves, or the transfer ends. -/
def dmaListCheck (c : Nat) (l : List DmaEntry) (bar0 bar2 bar4 : Nat) (s : State) : State :=
  if s.dmaState c != 1 then s else
  let bank := if s.dmaWrites c then s.fld F.ITIN_CTRL_LOAD_BANK else s.fld (F.DMA_CFG_BANK c)
  match dmaCheck c bank l bar0 bar2 bar4 s with
  | some f => dmaEnd c f.result (dmaFault c f ((s.setFld (F.DMA_STATUS_ENTRY c) f.entry).setFld (F.DMA_STATUS_CAUSE c) f.cause))
  | none => (s.setDmaCh c ⟨l.map (fun e => (e.1, e.2.1)), 0, 0, bank, false⟩).setFld (F.DMA_STATUS_STATE c) 2

/-! ### Bursts (R420–R423, R437) -/

/-- Bytes are written to a device space: how many were accepted, and the state. -/
def dmaPut (c a : Nat) (l : List Byte) (s : State) : Nat × State :=
  let own := s.rv (Reg.DMA_OWNER c)
  match s.dmaSpace c with
  | 0 => (l.length, { s with fab := { s.fab with mem := s.fab.mem.setBytes a l } })
  | 1 =>
    if own = 4 then
      let g := s.eng_ 6
      (l.length, s.setEng 6 { g with data := g.data.setBytes a l })
    else if s.seState = 2 then (l.length, stageWrite a l s) else (0, stageWrite a l s)
  | 2 =>
    let start := s.rv (Reg.DMA_DEV_ADDR c)
    let r := l.foldl (fun (r : Nat × Bool × State) b =>
      if r.2.1 then r else match r.2.2.nvsDmaWrite own start (a + r.1) b with
      | some s1 => (r.1 + 1, false, s1)
      | none => (r.1, true, r.2.2)) (0, false, s)
    (r.1, r.2.2)
  | _ =>
    let b := (s.dmaCh c).bank
    if s.bankRefuses b then (0, storeWrite b a l s) else (l.length, storeWrite b a l s)

/-- Bytes of a device space, as many as it gives. -/
def dmaGet (c a n : Nat) (s : State) : List Byte :=
  let own := s.rv (Reg.DMA_OWNER c)
  match s.dmaSpace c with
  | 0 => s.fab.mem.bytes a n
  | 1 => if own = 4 ∨ s.seState = 2 then (s.eng_ 6).data.bytes a n else []
  | 2 => ((List.range n).map (fun k => s.nvsDmaRead own (s.rv (Reg.DMA_DEV_ADDR c)) (a + k))).takeWhile Option.isSome |>.filterMap id
  | _ => s.itin.store.bytes ((s.dmaCh c).bank * 1048576 + a) n

/-- The NVS refuses byte `a` of a transfer (R437): at the end of its region NVS_REGION_END is sent, elsewhere the refusal is counted, and a
write that R431 forbids sends LOCKED_WRITE. -/
def dmaNvsEnd (c a : Nat) (s : State) : State :=
  let e := nvsEnd (nvsRegion (s.rv (Reg.DMA_DEV_ADDR c)))
  if s.dmaSpace c != 2 then s
  else if a = e then nvsRegionEnd 11 e s
  else if s.nvsUp && s.dmaWrites c then nvsRefuseWrite a s
  else nvsRefuse s

/-- A channel that can accept its next burst (R409, R420). -/
def State.dmaReady (s : State) (c : Nat) : Bool :=
  s.dmaState c == 2 && !(s.dmaSpace c == 0 && s.flag F.HAMPER_STATUS_INIT && s.blockOn 9)

/-- The arbiter's choice: the highest PRIO, and among equals the next after the one last served (R422). -/
def State.dmaPick (s : State) : Option Nat :=
  let l := (List.range 8).filter s.dmaReady
  let top := l.foldl (fun acc c => max acc (s.fld (F.DMA_CFG_PRIO c))) 0
  let l := l.filter (fun c => s.fld (F.DMA_CFG_PRIO c) == top)
  match l.find? (fun c => decide (s.dma.last < c)) with
  | some c => some c
  | none => l.head?

/-- PROGRESS and HALF_EVT after `k` more bytes (R420, R423). -/
def dmaProgress (c k : Nat) (s : State) : State :=
  let p := s.rv (Reg.DMA_PROGRESS c) + k
  let v := s.dmaCh c
  let s1 := s.setRv (Reg.DMA_PROGRESS c) p
  if s.flag (F.DMA_CFG_INT_HALF c) && !v.half && decide (s.rv (Reg.DMA_TOTAL c) ≤ 2 * p) then
    (s1.setDmaCh c { v with half := true }).bump (Reg.HALF_EVT c)
  else s1

/-- The channel's place after a whole burst of `n` bytes. -/
def dmaMoveOn (c n : Nat) (s : State) : State :=
  let v := s.dmaCh c
  let len := ((v.entries[v.ent]?).map Prod.snd).getD 0
  let v1 := if v.off + n = len then { v with ent := v.ent + 1, off := 0 } else { v with off := v.off + n }
  let s1 := s.setDmaCh c v1
  if v.entries.length ≤ v1.ent then dmaEnd c dDone s1 else s1.setFld (F.DMA_STATUS_ENTRY c) v1.ent

/-- The TLPs of a burst of channel `c`: a memory write, or a read request and its completion (R410). -/
def State.burstTlps (s : State) (c : Nat) : Nat := if s.dmaWrites c then 2 else 1

/-- One burst of channel `c`, which its governor grants as one operation of 9.6 nC (R421); `data` is what host memory gives. -/
def dmaBurst (c : Nat) (data : List Byte) (s : State) : State :=
  let v := s.dmaCh c
  match v.entries[v.ent]? with
  | none => s
  | some (host, len) =>
    let h := host + v.off
    let n := min (len - v.off) (256 - h % 256)
    let dev := s.rv (Reg.DMA_DEV_ADDR c) + s.rv (Reg.DMA_PROGRESS c)
    if !s.dmaReach (s.dmaSpace c) then dmaEnd c dDevError s
    else if !s.govGrants 2 (s.burstTlps c * tlpCharge) then govStall 2 s
    else metered 1 9600000 (fun s =>
      let s0 := ({ govTake 2 (s.burstTlps c * tlpCharge) s with dma := { s.dma with last := c } }).bump48 Reg.DMA_BURSTS 1
      if s.dmaWrites c then
        let r := dmaPut c dev (data.take n ++ List.replicate (n - data.length) 0) s0
        let s1 := dmaProgress c r.1 r.2
        if r.1 = n then dmaMoveOn c n s1 else dmaEnd c dDevError (dmaNvsEnd c (dev + r.1) s1)
      else
        let l := dmaGet c dev n s0
        if l.length = n then dmaMoveOn c n (dmaProgress c n (s0.emit (.hostWrite h l (s.flag (F.DMA_CFG_NOSNOOP c)))))
        else dmaEnd c dDevError (dmaNvsEnd c (dev + l.length) s0)) s

/-! ### Ends from outside (R420, R424, R484) -/

/-- Every channel that is not IDLE ends with `result`. -/
def dmaEndAll (result : Nat) (s : State) : State :=
  forEach (List.range 8) (fun s c => if s.dmaState c = 0 then s else dmaEnd c result s) s

/-- A halt (R424): cause 1 UR, 2 CA, 3 poisoned, 4 malformed, 5 timeout, 6 link down; `tags` read tags stay outstanding. -/
def dmaHalt (cause tag addr tags : Nat) (s : State) : State :=
  let s1 := (((s.setFlag F.DMA_HALT_HALTED true).setFld F.DMA_HALT_TAGS (min 15 tags)).bump Reg.HALT_EVT).setQuant Reg.DMA_HALT_ADDR 2 addr
  let s2 := s1.sendFault srcDma kDmaBusError (tag % 256 + cause * 256)
  dmaEndAll dHalted { s2 with dma := { s2.dma with haltAt := s2.now } }

/-- Read tags outstanding: all are free 10 ms after a halt (R424). -/
def State.dmaTags (s : State) : Nat := if s.dma.haltAt + 10 ^ 10 ≤ s.now then 0 else s.fld F.DMA_HALT_TAGS

/-- DMA_HALT_CLR (R424). -/
def landHaltClr (v : Word) (s : State) : State :=
  if !v.getLsbD 0 then s
  else if s.dmaTags != 0 then dmaRefuse s else (s.setFlag F.DMA_HALT_HALTED false).setFld F.DMA_HALT_TAGS 0

/-- Channels MOVING on a space that has become unreachable end with DEV_ERROR (R420, R484). -/
def dmaOff (s : State) : State :=
  forEach (List.range 8) (fun s c => if s.dmaState c = 2 ∧ s.dmaReach (s.dmaSpace c) = false then dmaEnd c dDevError s else s) s

/-- A whistle lands on channel `c` (R420). -/
def dmaWhistle (c : Nat) (s : State) : State := if s.dmaState c = 0 then s else dmaEnd c dWhistled s

/-- The link goes down, or the endpoint resets: a channel that is FETCHING or MOVING halts them all (R424). -/
def dmaLinkDown (s : State) : State :=
  match (List.range 8).find? (fun c => s.dmaState c != 0) with
  | some c =>
    let v := s.dmaCh c
    dmaHalt 6 0 (match v.entries[v.ent]? with
      | some e => e.1 + v.off
      | none => s.quant (Reg.DMA_LIST_ADDR c) 2) 0 s
  | none => s

/-! ### Meanings -/

/-- DMA_START (R418, R419): master `m` writes START. -/
def execDmaStart (m : Master) (c : Fin 8) (s : State) : Host.Outcome State Fault Refusal :=
  fin (reach m 1 (fun s => dmaOwned m.id c.val (dmaStart c.val) (guardEnd m s)) s)

/-- DMA_ABORT (R420). -/
def execDmaAbort (m : Master) (c : Fin 8) (s : State) : Host.Outcome State Fault Refusal :=
  fin (reach m 1 (fun s => dmaOwned m.id c.val (dmaAbort c.val) (guardEnd m s)) s)

/-- DMA_LIST_CHECK (R418): the list as host memory holds it, and where the system placed the BARs. -/
def execDmaListCheck (c : Fin 8) (l : List (Nat × Nat × Nat)) (bar0 bar2 bar4 : Nat) (s : State) : Host.Outcome State Fault Refusal :=
  fin (if s.hostOn then dmaListCheck c.val (l.take (s.rv (Reg.DMA_LIST_CNT c.val))) bar0 bar2 bar4 s else s)

/-- DMA_BURST (R421, R422): the arbiter's next burst completes; `data` is what host memory holds there. -/
def execDmaBurst (data : List Byte) (s : State) : Host.Outcome State Fault Refusal :=
  fin (if s.hostOn then (match s.dmaPick with
    | some c => dmaBurst c data s
    | none => s) else s)

/-- DMA_HALT (R424): causes 1–4, or a write that the link refuses (as cause 1). -/
def execDmaHalt (cause : Fin 7) (tag : BitVec 8) (addr : DWord) (tags : Fin 17) (s : State) : Host.Outcome State Fault Refusal :=
  fin (if s.hostOn then dmaHalt cause.val tag.toNat addr.toNat tags.val s else s)

/-- COMPLETION_TIMEOUT (R424). -/
def execCompletionTimeout (tag : BitVec 8) (addr : DWord) (tags : Fin 17) (s : State) : Host.Outcome State Fault Refusal :=
  fin (if s.hostOn then dmaHalt 5 tag.toNat addr.toNat tags.val s else s)

/-- DMA_HALT_CLR (R424): the guarded CLEAR. -/
def execDmaHaltClr (s : State) : Host.Outcome State Fault Refusal := fin (if s.hostOn then landHaltClr 1 s else s)

/-- DMA_OWNER_WRITE (R415). -/
def execDmaOwnerWrite (m : Master) (c : Fin 8) (v : Word) (s : State) : Host.Outcome State Fault Refusal :=
  fin (reach m 1 (fun s => landDmaOwner m.id c.val v (guardEnd m s)) s)

end Sys2Proof.Machine
end

