-- ==== Sys2Proof/Machine/Gnss.lean ====
section
/-! DEFINITION. The GNSS receiver (R204–R219): front-end clock, GSCLK monitor, channels, receiver states, PPS and solution. -/

namespace Sys2Proof.Machine

/-- STATE of the receiver (R220): 0 OFF, 1 ACQUIRE, 2 NAV, 3 SURVEY, 4 HOLD. -/
def State.rxState (s : State) : Nat := s.fld F.RX_STATUS_STATE

def State.setGnss (s : State) (g : GnssPart) : State := { s with gnss := g }

def State.setGch (s : State) (c : Nat) (v : GnssChan) : State :=
  s.setGnss { s.gnss with chan := Tbl.set (fun _ => GnssChan.reset) s.gnss.chan c v }

/-- The baseband runs: enabled, GSCLK present, powered and not whistled (R212, R218, R219). -/
def State.bbOn (s : State) : Bool :=
  s.tclkOn && s.flag F.GNSS_CTRL_BB_EN && s.flag F.GSCLK_MON_ACTIVE && !s.wHeld 8 0

/-- A change of receiver state counts GNSS_EVT (R220). -/
def rxTo (st : Nat) (s : State) : State :=
  if s.rxState = st then s else (s.setFld F.RX_STATUS_STATE st).bump Reg.GNSS_EVT

/-- State of channel `c`: 0 IDLE, 1 PULL_IN, 2 TRACK, 3 COAST (R220). -/
def State.gch (s : State) (c : Nat) : Nat := s.fld ⟨Reg.GNSS_CH_STATUS c, 0, 2⟩

/-- The number of channels tracking is shown (R220). -/
def showTracking (s : State) : State :=
  s.setFld F.RX_STATUS_CHANS (((List.range 48).filter (fun c => s.gch c == 2)).length)

/-- Every channel goes to IDLE. -/
def gchIdleAll (s : State) : State := showTracking (forEach (List.range 48) (fun s c => s.setRv (Reg.GNSS_CH_STATUS c) 0) s)

/-- The receiver is OFF: channels IDLE, no PPS, no solution (R212). -/
def rxOff (s : State) : State :=
  let s1 := rxTo 0 (gchIdleAll s)
  (s1.setFlag F.RX_STATUS_BURST false).setGnss { s1.gnss with
    cmd := 0, chan := [], sol := none, edge := none, stamp := none, weak := [], fix := false, used := 0, nexcl := 0 }

/-- What a constellation is served with (R208, R211): its code period, coherent integration and the capture of a search in ms, the seconds
from its time system to TAI, and the FFT points, the Doppler step in 0.5 Hz and the non-coherent sums of a search. -/
structure Constellation where
  codeMs : Nat
  cohMs : Nat
  capMs : Nat
  toTai : Nat
  points : Nat
  step : Nat
  sums : Nat

/-- GPS L1 C/A, Galileo E1-C and BeiDou B1C (R208, R211). -/
def constellation (k : Nat) : Constellation :=
  match k with
  | 0 => ⟨1, 20, 4, 19, 4096, 500, 4⟩
  | 1 => ⟨4, 100, 8, 19, 16384, 125, 2⟩
  | _ => ⟨10, 180, 10, 33, 65536, 50, 1⟩

/-- A constellation is enabled (R208): 0 GPS, 1 Galileo, 2 BeiDou. -/
def State.constOn (s : State) (k : Nat) : Bool := k < 3 && s.flag ⟨Reg.GNSS_CTRL, 8 + k, 1⟩

/-- A write to GFE_CTRL: DIV, EDGE and FMT are stored, and taken at a rising transition of EN (R205). -/
def landGfeCtrl (v : Word) (s : State) : State :=
  let rise := v.getLsbD 0 && !s.flag F.GFE_CTRL_EN
  let s1 := s.setReg Reg.GFE_CTRL (v &&& 0x1f)
  if rise then s1.setGnss { s1.gnss with gfe := v.toNat / 2 % 16 } else s1

/-- GFE_CLK as a divisor of TBCLK, or held low: in L3 and L4, while EN = 0 and in reset (R205). -/
def State.gfeDiv (s : State) : Option Nat :=
  if s.inReset || 3 ≤ s.rung || !s.flag F.GFE_CTRL_EN then none
  else some (match s.gnss.gfe % 4 with
    | 0 => 1
    | 1 => 2
    | _ => 5)

/-- The level that a 3-bit sample code stands for, in two's complement where `fmt` holds and else in sign and magnitude (R206). -/
def sampleLevel (fmt : Bool) (code : Nat) : Int :=
  let c := code % 8
  if c < 4 then 2 * (c : Int) + 1 else if fmt then 2 * (c : Int) - 15 else 7 - 2 * (c : Int)

/-- The complex sample that an edge of GSCLK captures from GSMP_I and GSMP_Q: on the selected edge alone (R206). -/
def State.capture (s : State) (rising : Bool) (i q : Nat) : Option (Int × Int) :=
  let fmt := s.gnss.gfe.testBit 3
  if rising = s.gnss.gfe.testBit 2 then none else some (sampleLevel fmt i, sampleLevel fmt q)

/-- What the baseband and its levelling bank draw from VDD_CORE in L0 and L1, in mA, from the least to the most (R210). -/
def State.bbMa (s : State) : Nat × Nat :=
  if 2 ≤ s.rung then (0, 0) else if s.flag F.GSCLK_MON_ACTIVE && !s.wHeld 8 0 then (85, 85) else (80, 90)

/-- A write to GNSS_CTRL: the fall of BB_EN applies at once (R212). -/
def landGnssCtrl (v : Word) (s : State) : State :=
  let s1 := s.setReg Reg.GNSS_CTRL (v &&& 0x703)
  if !s1.flag F.GNSS_CTRL_BB_EN then rxOff s1 else s1

/-- A POS_CMD: refused in OFF and with a reserved code, else taken at the next epoch (R212). -/
def landPosCmd (code : Nat) (s : State) : State :=
  if s.rxState = 0 || (code != 1 && code != 2) then s.bump16 Reg.POS_CMD_REF
  else s.setGnss { s.gnss with cmd := code }

/-- A channel is lost: IDLE, counted in GNSS_EVT (R220). -/
def gchLost (c : Nat) (s : State) : State := (s.setRv (Reg.GNSS_CH_STATUS c) 0).bump Reg.GNSS_EVT

/-- Channels of a constellation disabled while in use are released (R208). -/
def constRelease (s : State) : State :=
  forEach (List.range 48) (fun s c =>
    if s.gch c != 0 && !s.constOn (s.fld ⟨Reg.GNSS_CH_STATUS c, 2, 2⟩) then s.setRv (Reg.GNSS_CH_STATUS c) 0 else s) s

/-- The surveyed time in minutes is shown, saturated (R220). -/
def showMinutes (s : State) : State := s.setFld F.RX_STATUS_MINUTES (min 0xffff (s.gnss.survS / 60))

/-! ### The solution at an epoch (R209, R212) -/

/-- The residual that departs most from the others. -/
def worstResid (l : List (Nat × Int)) : Option (Nat × Int) :=
  let n : Int := (l.length : Nat)
  let s := (l.map (·.2)).sum
  l.foldl (fun b x => match b with
    | some y => if (n * y.2 - s).natAbs < (n * x.2 - s).natAbs then some x else b
    | none => some x) none

/-- `x` departs from the mean of the others by more than four times their rms (R212). -/
def strays (x : Nat × Int) (l : List (Nat × Int)) : Bool :=
  let o := l.erase x
  let n : Int := (o.length : Nat)
  let d := n * x.2 - (o.map (·.2)).sum
  decide (16 * n * (o.map (fun y => y.2 * y.2)).sum < d * d)

/-- The residuals left when up to `k` satellites are excluded, the worst first (R212). -/
def excludeResid : Nat → List (Nat × Int) → List (Nat × Int)
  | 0, l => l
  | k + 1, l => match worstResid l with
    | some x => if strays x l then excludeResid k (l.erase x) else l
    | none => l

/-- Firmware solves the epoch: exclusion in HOLD, of at most one satellite in three, the channels USED, the last fix and the last satellite
used, and the solution that the PPS is predicted from (R209, R212, R214). -/
def solveEpoch (e : GnssEpoch) (s : State) : State :=
  let all := (e.resid.map (fun x => (x.1.val, x.2))).filter (fun x => s.gch x.1 != 0)
  let kept := if s.rxState = 4 then excludeResid (all.length / 3) all else all
  let has := e.fix || (s.rxState == 4 && kept.length != 0)
  let s1 := forEach (List.range 48) (fun s c => s.setFlag (F.GNSS_CH_STATUS_USED c) (kept.any (fun x => x.1 == c))) s
  let g := s1.gnss
  s1.setGnss { g with
    fix := e.fix, used := kept.length, nexcl := all.length - kept.length
    lastFix := if e.fix then s.tiu.count else g.lastFix
    lastSat := if kept.length = 0 then g.lastSat else s.tiu.count
    sol := if has then some (e.top, e.drift) else g.sol }

/-! ### Receiver states (R212) -/

/-- Ten seconds have passed since the TIU count `a`. -/
def State.tenSecs (s : State) (a : Nat) : Bool := 5000000000 ≤ s.since a

/-- The survey has a mean to take: its time reached, its 3D standard deviation within SURVEY_ACC, where 0 acts as 1 (R212, R220). -/
def State.surveyed (s : State) : Bool :=
  let g := s.gnss
  let n := g.survS
  let acc := max 1 (s.rv Reg.SURVEY_ACC)
  s.rv Reg.SURVEY_CFG ≤ n && decide ((n * g.sumSq : Nat) - (g.sum.1 ^ 2 + g.sum.2.1 ^ 2 + g.sum.2.2 ^ 2) ≤ ((acc * n) ^ 2 : Nat))

/-- A surveyed second with the fix of `e` (R212). -/
def surveyAdd (e : GnssEpoch) (s : State) : State :=
  let g := s.gnss
  showMinutes (s.setGnss { g with
    survS := g.survS + 1, sum := (g.sum.1 + e.x, g.sum.2.1 + e.y, g.sum.2.2 + e.z)
    sumSq := g.sumSq + e.x.natAbs ^ 2 + e.y.natAbs ^ 2 + e.z.natAbs ^ 2 })

/-- The survey is abandoned, or starts anew (R212). -/
def surveyClear (s : State) : State := showMinutes (s.setGnss { s.gnss with survS := 0, sum := (0, 0, 0), sumSq := 0 })

/-- HOLD is entered: the ten seconds without a satellite run from then. -/
def toHold (s : State) : State := rxTo 4 (s.setGnss { s.gnss with lastSat := s.tiu.count })

/-- HOLD with the survey's mean written to POS_X–POS_Z (R212). -/
def surveyDone (tie : Bool) (s : State) : State :=
  let g := s.gnss
  let cm := fun (x : Int) => unsigned 32 (roundDiv x (10 * g.survS))
  let s1 := ((s.setRv Reg.POS_X (cm g.sum.1)).setRv Reg.POS_Y (cm g.sum.2.1)).setRv Reg.POS_Z (cm g.sum.2.2)
  let s2 := if tie then s1.bump16 (lostWrites 7) else s1
  toHold (s2.setGnss { s2.gnss with stored := true })

/-- ACQUIRE is entered and searches start (R211, R212). -/
def toAcquire (s : State) : State := rxTo 1 (s.setGnss { s.gnss with acqFrom := s.tiu.count })

/-- The rows of R212 at an epoch, for a receiver whose baseband runs. -/
def rxRows (e : GnssEpoch) (tie : Bool) (s : State) : State :=
  let g := s.gnss
  let s0 := s.setGnss { g with cmd := 0 }
  match s.rxState, g.cmd with
  | 0, _ => toAcquire s0
  | _, 1 => toHold (surveyClear (s0.setGnss { s0.gnss with stored := true }))
  | _, 2 => toAcquire (surveyClear (s0.setGnss { s0.gnss with stored := false }))
  | 1, _ =>
    if g.stored && 1 ≤ e.eph then toHold s0
    else if e.fix then rxTo (if s.rv Reg.SURVEY_CFG = 0 then 2 else 3) s0
    else s0
  | 4, _ => if s.tenSecs g.lastSat then toAcquire s0 else s0
  | st, _ =>
    let s1 := if st = 3 && e.fix then surveyAdd e s0 else s0
    if st = 3 && s1.surveyed then surveyDone tie s1
    else if s.tenSecs g.lastFix then toAcquire s1
    else s1

/-- QL_RANK of a solution's quality (R117, R213). -/
def gnssRank (qual : Nat) : Nat :=
  match qual with
  | 1 => 4
  | 2 => 3
  | 3 => 2
  | 4 => 1
  | _ => 15

/-- ps in stamp units of 30.52 fs, to the nearest (R215). -/
def psToStamp (ps : Int) : Int := roundDiv (ps * 4096) 125

/-- PPS_PATH in ps (R214). -/
def State.ppsPath (s : State) : Nat := s.rv Reg.GNSS_VER / 2 ^ 16 % 2 ^ 15

/-- The quality code of a solution (R213). -/
def State.solQual (s : State) (pdop : Nat) : Nat :=
  let u := s.gnss.used
  match s.rxState with
  | 2 => if s.gnss.fix then 1 else 0
  | 3 => if s.gnss.fix then 2 else 0
  | 4 => if u = 0 then 0 else if u < 4 then 5 else if 8 ≤ u && pdop ≤ 30 then 4 else 3
  | _ => 0

/-- SOL_PPS_CORR in ps: the top of second of the last solution, with ANT_DELAY removed, less the GSCLK edge of the pulse (R214). Open where
there is no solution or no pulse. -/
def solCorr (s : State) : Nat × State :=
  match s.gnss.sol, s.gnss.edge with
  | some p, some t => (unsigned 32 (roundDiv (tdiff p.1 t * 125) 4096 - s.srv Reg.ANT_DELAY), s)
  | _, _ => let d := s.draw; (d.1 % 2 ^ 32, d.2)

/-- SOL_DRIFT, open where there is no solution (R216). -/
def solDrift (s : State) : Nat × State :=
  match s.gnss.sol with
  | some p => (unsigned 64 p.2, s)
  | none => let d := s.draw; (d.1 % 2 ^ 64, d.2)

/-- A servo tick of 125 µs in TCLK cycles. -/
abbrev servoTick : Nat := 62500

/-- The stamp pairs with the record that takes SOL_SEQ one on from its value at the stamp, published before the servo tick in which 900 ms
had passed has ended (R26, R215). -/
def State.ppsPairs (s : State) (p : PpsStamp) : Bool :=
  p.seq == s.rv Reg.SOL_SEQ && (match p.due with
    | some k => k == s.tiu.count / servoTick
    | none => true)

/-- The record meets its stamp: together they give the top of second and keep GNS active (R112, R215). -/
def solPair (corr : Nat) (s : State) : State :=
  match s.gnss.stamp with
  | some p =>
    if s.ppsPairs p then
      let top := unsigned 72 ((p.t : Int) - psToStamp s.ppsPath + psToStamp (signed 32 corr))
      refEdge 16 p.t (s.setGnss { s.gnss with stamp := none, top := some top })
    else s
  | none => s

/-- The solution record is published (R213–R216); stock firmware writes QL_RANK of reference 16 from its quality (R117). -/
def solPublish (r : GnssSol) (s : State) : State :=
  let c := solCorr s
  let d := solDrift c.2
  let q := s.solQual r.pdop
  let s1 := solPair c.1 ((d.2.setQuant Reg.SOL_TAI 2 (r.sec + (constellation r.k.val).toTai)).setRv Reg.SOL_PPS_CORR c.1)
  let s2 := (s1.setQuant Reg.SOL_DRIFT 2 d.1).setRv Reg.SOL_QUAL
    (q + min 255 s.gnss.used * 2 ^ 8 + min 255 r.pdop * 2 ^ 16 + min 255 s.gnss.nexcl * 2 ^ 24)
  let s3 := (s2.setRv Reg.SOL_TERR (min (2 ^ 32 - 1) r.terr)).setRv Reg.SOL_UTC
    (unsigned 16 r.utcOff + (if r.leapAnn then 2 ^ 16 else 0) + (if r.leapDir then 2 ^ 17 else 0))
  let s4 := ((s3.setQuant Reg.SOL_LEAP_AT 2 r.leapAt).bump Reg.SOL_SEQ).setFld (F.REF_QL_QL_RANK 16) (gnssRank q)
  (s4.setRefp 16 { s4.refp 16 with pub := s4.tiu.count }).setGnss { s4.gnss with edge := none }

/-! ### The pulse (R214) -/

/-- The edge of GSCLK at `t` is the one nearest a top of second predicted from the last solution (R214). -/
def State.ppsAt (s : State) (t : Nat) : Bool :=
  match s.gnss.sol with
  | some p =>
    let sec := 32768 * 10 ^ 9 * ((2 ^ 48 : Nat) + p.2) / (2 ^ 48 : Nat)
    let d := tdiff t p.1
    let k := roundDiv d sec.toNat
    decide (1 ≤ k ∧ (d - k * sec).natAbs * 81840000 ≤ 500000000 * 65536)
  | none => false

/-! ### The acquisition engine (R211) -/

/-- A reference that is not the timebase itself is usable and has found the timebase within 0.5 ppm. -/
def State.tbConfirmed (s : State) : Bool :=
  (List.range 22).any (fun i => s.refFit i && !s.refIsTimebase i && decide ((s.refY i).natAbs * 2000000 ≤ 2 ^ 48))

/-- The search window to each side, in Hz (R211). -/
def State.acqWindow (s : State) : Nat :=
  if !s.flag F.TB_STATUS_TB_WARM || (s.tbExt && !s.tbConfirmed) then 37000 else 5000

/-- The Doppler bins of a search of constellation `k` in a window of `w` Hz to each side (R211). -/
def acqBins (k w : Nat) : Nat := 4 * w / (constellation k).step + 1

/-- The time of a search of `b` bins in TCLK cycles: the capture, and one FFT point per cycle of GSCLK (R211). -/
def acqTime (k b : Nat) : Nat :=
  let c := constellation k
  c.capMs * 500000 + (b * c.sums * c.points * 50000 + 4091) / 4092

/-- A search of constellation `k` can end now: the engine is on and not halted, and the bins it takes have been searched. A window that
firmware has narrowed takes at least one bin (R207, R211, R218). -/
def State.acqEnds (s : State) (k : Nat) (aided : Bool) : Bool :=
  s.bbOn && s.rung ≤ 1 && s.rxState != 0 && !s.flag F.GSCLK_MON_FREQ_ERR && s.constOn k &&
    decide (acqTime k (if aided then 1 else acqBins k s.acqWindow) ≤ s.since s.gnss.acqFrom)

/-- Firmware hands the strongest cell, if it lies in the window, to the idle channel `c`, which pulls in from it (R211). -/
def acqHand (c k sat : Nat) (cell : AcqCell) (s : State) : State :=
  if s.gch c = 0 && decide (2 * cell.bin.natAbs < acqBins k s.acqWindow) && cell.phase < (constellation k).points then
    let s1 := s.setRv (Reg.GNSS_CH_STATUS c) (1 + k * 4 + sat * 256)
    s1.setGch c ⟨cell.bin * (constellation k).step, cell.phase, Vector.replicate 7 (0, 0)⟩
  else s

/-! ### Tracking (R209, R217) -/

/-- Channel `c`'s loops, after a coherent integration: the correlators' outputs, and the NCOs that the loops set from them. -/
def loopsRun (c : Nat) (taps : Taps) (s : State) : State :=
  let v := Tbl.get (fun _ => GnssChan.reset) s.gnss.chan c
  s.setGch c ⟨Config.carrierLoop v.carr taps.toList, Config.codeLoop v.code taps.toList, taps⟩

/-- A channel in track goes on down to 24 dB-Hz in L0 and L1 (R217); else it is lost, pulls in or tracks as its loops say. -/
def trackTo (c : Nat) (lock : Option Bool) (cn0 : Nat) (s : State) : State :=
  let st := fun (t : Nat) => (s.setFld ⟨Reg.GNSS_CH_STATUS c, 0, 2⟩ t).setFld ⟨Reg.GNSS_CH_STATUS c, 16, 8⟩ cn0
  match lock with
  | some false => st 1
  | some true => st 2
  | none => if s.gch c == 2 && s.rung ≤ 1 && 24 ≤ cn0 then st 2 else gchLost c s

/-! ### Rung L2 (R218) -/

/-- Channel `a` is kept before channel `b`: one used before one that is not, then the stronger. -/
def State.stronger (s : State) (a b : Nat) : Bool :=
  let k := fun c => (if s.flag (F.GNSS_CH_STATUS_USED c) then 256 else 0) + s.fld ⟨Reg.GNSS_CH_STATUS c, 16, 8⟩
  k b < k a || (k a == k b && a < b)

/-- Entering L2: the channels that are not among the 12 kept lose power, and the rest coast to the first window. -/
def gnssRest (s : State) : State :=
  let on := (List.range 48).filter (fun c => s.gch c != 0)
  let keep := fun c => (on.filter (fun b => s.stronger b c)).length < 12
  showTracking (forEach on (fun s' c => if keep c then s'.setFld ⟨Reg.GNSS_CH_STATUS c, 0, 2⟩ 3 else s'.setRv (Reg.GNSS_CH_STATUS c) 0) s)

/-- Back in L1: the channels that coast pull in, and the search for the missing satellites goes on. -/
def gnssWork (s : State) : State :=
  let s1 := forEach (List.range 48) (fun s c => if s.gch c = 3 then s.setFld ⟨Reg.GNSS_CH_STATUS c, 0, 2⟩ 1 else s) s
  (s1.setFlag F.RX_STATUS_BURST false).setGnss { s1.gnss with weak := [], acqFrom := s1.tiu.count }

/-! ### The commands -/

/-- GFE_CTRL_WRITE (R205). -/
def execGfeCtrlWrite (v : Word) (s : State) : Host.Outcome State Fault Refusal := fin (if s.hostOn then landGfeCtrl v s else s)

/-- GNSS_CTRL_WRITE (R212). -/
def execGnssCtrlWrite (v : Word) (s : State) : Host.Outcome State Fault Refusal := fin (whenOn 7 (landGnssCtrl v) s)

/-- GSCLK_FREQ_CHECK (R207): the number of GSCLK edges counted over one second of TCLK. -/
def execGsclkFreqCheck (edges : Nat) (s : State) : Host.Outcome State Fault Refusal :=
  fin (if s.tclkOn then
    let d : Int := (edges : Int) - 40920000
    let bad := decide (40920000 < d.natAbs * 10 ^ 6)
    let s1 := s.setFld F.GSCLK_MON_OFFSET (unsigned 16 (clampS 16 (roundDiv (d * 10 ^ 8) 40920000)))
    if s.flag F.GSCLK_MON_FREQ_ERR = bad then s1
    else (((s1.setFlag F.GSCLK_MON_FREQ_ERR bad).bump Reg.GNSS_EVT).setGnss { s.gnss with acqFrom := s.tiu.count })
  else s)

/-- GSCLK_LOST (R207, R212): 500 TCLK cycles have passed; an edge in the last of them counts as activity (R26). -/
def execGsclkLost (s : State) : Host.Outcome State Fault Refusal :=
  fin (if s.tclkOn && s.flag F.GSCLK_MON_ACTIVE then rxOff ((s.setFlag F.GSCLK_MON_ACTIVE false).bump Reg.GNSS_EVT) else s)

/-- GSCLK_RETURN (R207). -/
def execGsclkReturn (s : State) : Host.Outcome State Fault Refusal :=
  fin (if s.tclkOn && !s.flag F.GSCLK_MON_ACTIVE then (s.setFlag F.GSCLK_MON_ACTIVE true).bump Reg.GNSS_EVT else s)

/-- TRACKING_LOOP_UPDATE (R209): channel `c`'s loops update with the outputs `taps` of its correlators; `lock` none loses the satellite,
some false pulls in, some true tracks. -/
def execTrackingLoopUpdate (c : Fin 48) (lock : Option Bool) (cn0 : Fin 256) (taps : Taps) (s : State) : Host.Outcome State Fault Refusal :=
  fin (if s.bbOn && (s.gch c.val == 1 || s.gch c.val == 2) then
    showTracking (trackTo c.val lock cn0.val (loopsRun c.val taps s)) else s)

/-- ACQUISITION_DONE (R211): the search of satellite `sat` of constellation `k` ends with its strongest cell; the next search begins. -/
def execAcquisitionDone (c : Fin 48) (k : Fin 3) (sat : Fin 256) (found : AcqFound) (s : State) : Host.Outcome State Fault Refusal :=
  fin (if s.acqEnds k.val found.aided then
    let s1 := s.setGnss { s.gnss with acqFrom := s.tiu.count }
    match found.cell with
    | some x => acqHand c.val k.val sat.val x s1
    | none => s1
  else s)

/-- SOLUTION_EPOCH (R212): the 1 Hz epoch; `tie` when a host write to POS_X–POS_Z falls in the cycle of the survey's write (R69). -/
def execSolutionEpoch (e : GnssEpoch) (tie : Bool) (s : State) : Host.Outcome State Fault Refusal :=
  fin (if s.bbOn then showTracking (constRelease (rxRows e tie (solveEpoch e s))) else s)

/-- FIX_TIMEOUT (R212): no 3D fix for 10 s. -/
def execFixTimeout (s : State) : Host.Outcome State Fault Refusal :=
  fin (if s.bbOn && (s.rxState == 2 || s.rxState == 3) && s.tenSecs s.gnss.lastFix then toAcquire s else s)

/-- NO_SATELLITE_TIMEOUT (R212): no satellite used for 10 s. -/
def execNoSatelliteTimeout (s : State) : Host.Outcome State Fault Refusal :=
  fin (if s.bbOn && s.rxState == 4 && s.tenSecs s.gnss.lastSat then toAcquire s else s)

/-- HOLD_FIXED (R212). -/
def execHoldFixed (s : State) : Host.Outcome State Fault Refusal := fin (whenOn 7 (landPosCmd 1) s)

/-- RESURVEY (R212). -/
def execResurvey (s : State) : Host.Outcome State Fault Refusal := fin (whenOn 7 (landPosCmd 2) s)

/-- PPS (R214): the pulse leaves on the GSCLK edge at `t`, nearest the predicted top of second, and PPS_PATH later CH22 takes it. -/
def execPps (t : Nat) (s : State) : Host.Outcome State Fault Refusal :=
  fin (if s.bbOn && s.flag F.GNSS_CTRL_PPS_EN && s.ppsAt t then
    comparatorEdge 22 true (unsigned 72 ((t : Int) + psToStamp s.ppsPath)) (s.setGnss { s.gnss with edge := some t }) else s)

/-- SOLUTION_PUBLISH (R216). -/
def execSolutionPublish (r : GnssSol) (s : State) : Host.Outcome State Fault Refusal :=
  fin (if s.bbOn && s.rxState != 0 then solPublish r s else s)

/-- RECORD_DEADLINE (R215): 900 ms have passed since the stamp; the pulse is left unused when the servo tick has passed too (R26). -/
def execRecordDeadline (s : State) : Host.Outcome State Fault Refusal :=
  fin (match s.gnss.stamp with
    | some p =>
      if 450000000 ≤ s.since (p.t / 65536) && p.due.isNone then
        s.setGnss { s.gnss with stamp := some { p with due := some (s.tiu.count / servoTick) } }
      else s
    | none => s)

/-- BURST_WINDOW_OPEN (R218): channels leave COAST and pull in. -/
def execBurstWindowOpen (s : State) : Host.Outcome State Fault Refusal :=
  fin (if s.bbOn && s.rung == 2 then
    forEach (List.range 48) (fun s c => if s.gch c = 3 then s.setFld ⟨Reg.GNSS_CH_STATUS c, 0, 2⟩ 1 else s) (s.setFlag F.RX_STATUS_BURST true) else s)

/-- BURST_WINDOW_CLOSE (R218): channels go to COAST; the third successive window below 28 dB-Hz sends one to IDLE. -/
def execBurstWindowClose (s : State) : Host.Outcome State Fault Refusal :=
  fin (if s.bbOn && s.rung == 2 then
    showTracking (forEach (List.range 48) (fun s c =>
      if s.gch c = 0 then s else
      let n := if s.fld ⟨Reg.GNSS_CH_STATUS c, 16, 8⟩ < 28 then Tbl.get (fun _ => 0) s.gnss.weak c + 1 else 0
      let s1 := s.setGnss { s.gnss with weak := Tbl.set (fun _ => 0) s.gnss.weak c (if 3 ≤ n then 0 else n) }
      if 3 ≤ n then gchLost c s1 else s1.setFld ⟨Reg.GNSS_CH_STATUS c, 0, 2⟩ 3) s)
  else s)

end Sys2Proof.Machine
end

