-- ==== Sys2Proof/Machine/TimeConv.lean ====
section
/-! DEFINITION. The wire formats of time (R290) and the departure of originated frames with insertion (R375–R377). -/

namespace Sys2Proof.Machine

/-! ### Wire formats (R290) -/

/-- The NTP timestamp and era of a timescale time given as SEC, NS and FRAC, with a UTC offset. -/
def ntpOf (sec ns frac : Nat) (utcOff : Int) : Nat × Int :=
  let u : Int := (sec : Int) - utcOff + 2208988800
  let num := (ns * 2 ^ 32 + frac) * 2
  let f := (num + 10 ^ 9) / (2 * 10 ^ 9)
  let u1 := if f = 2 ^ 32 then u + 1 else u
  let f1 := if f = 2 ^ 32 then 0 else f
  ((u1 % (2 ^ 32 : Nat)).toNat * 2 ^ 32 + f1, u1 / (2 ^ 32 : Nat))

/-- A duration in 2⁻¹⁶ ns in the NTP short format, rounded up (R290). -/
def ntpShort (d : Int) : Nat := if d < 0 then 0 else min (2 ^ 32 - 1) ((d.toNat + 10 ^ 9 - 1) / 10 ^ 9)

/-- UTC_OFF in force of timescale `t`, signed. -/
def State.utcOff (s : State) (t : Nat) : Int := signed 16 (s.fld (F.TS_UTC_UTC_OFF t))

/-! ### Insertion (R375, R376) -/

/-- The frame with its departure `tp` inserted as its descriptor asks. -/
def insertStamp (d : Desc) (tp : Nat) (l : List Byte) (s : State) : List Byte :=
  let acc := (mToTs 0 tp s).getD 0
  let on := (mToTs 0 tp s).isSome
  let sec := tsSecOf acc
  let ns := tsNsOf acc
  let frac := tsFracOf acc
  let ptp := beBytes 6 (sec % 2 ^ 48) ++ beBytes 4 ns
  match d.insFmt with
  | 0 => insertAdjusted l d.insOff ptp
  | 1 => insertAdjusted l d.insOff (beBytes 8 (if on then (ntpOf sec ns frac (s.utcOff 0)).1 else 0))
  | 2 => insertAdjusted l d.insOff (beBytes 8 (tp / 2 ^ 40 % 2 ^ 64))
  | _ =>
    let l1 := insertAdjusted l d.insOff ptp
    let corr := (be l (d.insOff - 26) 8 + (frac + 2 ^ 15) / 2 ^ 16) % 2 ^ 64
    insertAdjusted l1 (d.insOff - 26) (beBytes 8 corr)

/-- The basket record of a departure (R377). -/
def basketOf (p : Nat) (r : Resv) (supp : Bool) (s : State) : BasketRec :=
  { tag := r.d.tag, unsync := !supp && !s.flag (F.PC_TRACK_SYNC p), uncal := !supp && !s.calValid p, suppressed := supp, lateStart := false,
    stamp := if supp then 0 else r.tp }

/-- The first reserved frame is sent, or withheld in its place (R227, R259, R375, R377). -/
def origLeave (p : Nat) (s : State) : State :=
  let e := s.pe_ p
  match e.resv with
  | [] => s
  | r :: t =>
    let s1 := showOrig p (s.setPe p { e with resv := t })
    let rec_ := fun (supp : Bool) (s : State) => if r.d.mode = 1 then basketPut p (basketOf p r supp s) s else s
    if s.txOff p then rec_ true (portErr p (Reg.TX_SUPPRESSED p) s1)
    else
      let body := e.orig.bytes r.d.off (r.d.len - 4)
      let body := if r.d.mode = 2 then insertStamp r.d r.tp body s else body
      rec_ false ((txFrame p r.tp (body ++ fcsOf body) s1).bump48 (Reg.TX_ORIGINATED p) 1)

/-- ORIG_DEPARTURE (R259). -/
def execOrigDeparture (p : Fin 4) (s : State) : Host.Outcome State Fault Refusal := fin (if s.fclkOn then origLeave p.val s else s)

end Sys2Proof.Machine
end

