-- ==== Sys2Proof/Machine/Isa.lean ====
section
/-! DEFINITION. The Jindozu Schedule Architecture (R269–R309): how a syllable issues on a port engine, a timekeeping engine or the supervisor
engine, its operands and results, and what its operations compute. -/

namespace Sys2Proof.Machine


/-! ### Issue (R270–R283) -/

def sylKind (y : Syl) : EngKind := match y.e with
  | .pe _ => .pe
  | .te _ => .te
  | .se => .se

/-- The number of a timekeeping engine; 0 for the others. -/
def sylTe (y : Syl) : Nat := match y.e with
  | .te t => t.val
  | _ => 0

/-- The payload of LIMM and LOOP, syllable bits [25:0] (R270). -/
def sylPayload (y : Syl) : Nat :=
  y.pred.val * 2 ^ 22 + (if y.sense then 2 ^ 21 else 0) + y.dst.val * 2 ^ 15 + y.a.val * 2 ^ 9 + y.b.val * 2 ^ 3 + y.md.val

/-- The signed bundle offset of BR and CALL, syllable bits [20:3] (R270). -/
def sylOffset (y : Syl) : Int := signed 18 (y.dst.val * 2 ^ 12 + y.a.val * 2 ^ 6 + y.b.val)

/-- The stream of a syllable: 0 the lap (or the engine's only stream), k + 1 instance k (R281). -/
def sylStream (y : Syl) : Nat := match y.inst with
  | none => 0
  | some k => k + 1

/-- The syllable can issue: its engine runs, and its instance is live (R246, R282, R283). -/
def State.issues (s : State) (y : Syl) : Bool :=
  match y.e with
  | .pe p => s.fclkOn && (s.pe_ p.val).runs && (match y.inst with
    | none => true
    | some k => (s.inst? p.val k).isSome)
  | .te t => s.teRuns t.val && y.inst.isNone
  | .se => s.blockOn 10 && s.seState == 4 && y.inst.isNone

/-- The syllable is well formed in its slot for opcode `op` with modifier `md` (R272). -/
def sylGood (y : Syl) (op md : Nat) : Bool :=
  match form (sylKind y) op md with
  | none => false
  | some f => (f.unit == 0 || f.unit == slotUnit y.slot.val) && fieldsOk (sylKind y) (sylTe y) y.inst.isSome f op y.dst.val y.a.val y.b.val md

/-- The physical register that name `n` reads: rotated for an instance (R278, R279). -/
def State.physG (s : State) (y : Syl) (n : Nat) : Nat :=
  match y.e, y.inst with
  | .pe p, some k => if n < 32 then n else
    match s.inst? p.val k with
    | some i => 32 + ((n - 32) + i.f * k) % 32
    | none => n
  | _, _ => n

/-- The physical predicate that name `q` reads (R278, R279). -/
def State.physP (s : State) (y : Syl) (q : Nat) : Nat :=
  match y.e, y.inst with
  | .pe p, some k => if q < 8 then q else
    match s.inst? p.val k with
    | some i => 8 + ((q - 8) + i.fp * k) % 8
    | none => q
  | _, _ => q

/-- A PE's lap writes g0–g31 and its instances g32–g63; the other engines write every register (R278). -/
def sylMayG (y : Syl) (n : Nat) : Bool :=
  match y.e, y.inst with
  | .pe _, none => decide (n < 32)
  | .pe _, some _ => decide (32 ≤ n)
  | _, _ => true

def sylMayP (y : Syl) (q : Nat) : Bool :=
  match y.e, y.inst with
  | .pe _, none => decide (q < 8)
  | .pe _, some _ => decide (8 ≤ q)
  | _, _ => true

/-- The value of register `n` to the syllable. -/
def State.rg (s : State) (y : Syl) (n : Nat) : DWord := (s.eng_ y.e.num).reg (s.physG y n)

/-- The value of predicate `q` to the syllable. -/
def State.rp (s : State) (y : Syl) (q : Nat) : Bool := (s.eng_ y.e.num).pr (s.physP y q)

/-- A source register of an ALU, TIME, MEM or XU syllable: 63 reads the stream's long immediate where its bundle has one (R281). -/
def State.src (s : State) (y : Syl) (n : Nat) : DWord :=
  if n = 63 ∧ y.limm = true then Tbl.get (fun _ => (0 : DWord)) (s.eng_ y.e.num).limm (sylStream y) else s.rg y n

/-- A pair, even register low (R275). -/
def State.pairV (s : State) (y : Syl) (n : Nat) : Nat := (s.rg y n).toNat + 2 ^ 64 * (s.rg y (n + 1)).toNat

/-- The predicate test of the syllable (R273). -/
def State.predOn (s : State) (y : Syl) : Bool := s.rp y y.pred.val != y.sense

/-- The registers and the predicate that a result writes. -/
def EngPart.take (e : EngPart) (f : Flight) : EngPart :=
  let e1 := f.regs.foldl (fun g r => EngPart.setReg g r.1 r.2) e
  match f.pred with
  | some (q, b) => e1.setPr q b
  | none => e1

/-- The time of engine `e`'s clock: the fabric cycle of a port engine, the TIU count of a timekeeping engine (R276). -/
def State.engTime (s : State) (e : Nat) : Nat := if e < 4 then s.cycle else s.tiu.count

/-- Register and predicate writes of a result: at the end of its bundle for a latency of 1 and on the SE, which stalls for its results
(R277); otherwise they are in flight until their delivery (R276). -/
def result (y : Syl) (lat : Nat) (regs : List (Nat × Nat)) (pred : Option (Nat × Bool)) (s : State) : State :=
  let e := s.eng_ y.e.num
  let rs := (regs.filter (fun r => sylMayG y r.1)).map (fun r => (s.physG y r.1, BitVec.ofNat 64 r.2))
  let p := pred.bind (fun q => if sylMayP y q.1 then some (s.physP y q.1, q.2) else none)
  if lat ≤ 1 || y.e = .se then s.setEng y.e.num { e with hold := e.hold ++ [⟨y.inst, rs, p, false, 0⟩] }
  else s.setEng y.e.num { e with fly := e.fly ++ [⟨y.inst, rs, p, false, s.engTime y.e.num + lat⟩] }

/-- The result in the destination register. -/
def resReg (y : Syl) (lat v : Nat) (s : State) : State := result y lat [(y.dst.val, v)] none s

/-- The result in the destination pair, `v` of 128 bits. -/
def resPair (y : Syl) (lat v : Nat) (s : State) : State := result y lat [(y.dst.val, v % 2 ^ 64), (y.dst.val + 1, v / 2 ^ 64)] none s

/-- The result in the destination predicate. -/
def resPred (y : Syl) (lat : Nat) (b : Bool) (s : State) : State := result y lat [] (some (y.dst.val, b)) s

/-- The SE goes on at bundle `a`, within its 4,096 bundles (R307). -/
def seGo (a : Int) (s : State) : State := { s with se := { s.se with pc := (a % 4096).toNat } }

/-- The last syllable of a bundle takes the SE to its next bundle; the static engines issue by schedule (R282). -/
def pcNext (y : Syl) (s : State) : State := if y.e = .se ∧ y.last = true then seGo (s.se.pc + 1) s else s

/-- At the end of a bundle the results of its syllables take effect (R276). -/
def bundleEnd (y : Syl) (s : State) : State :=
  if !y.last then s
  else
    let e := s.eng_ y.e.num
    let mine := e.hold.filter (fun f => f.inst = y.inst)
    s.setEng y.e.num (mine.foldl EngPart.take { e with hold := e.hold.filter (fun f => f.inst ≠ y.inst) })

/-- A malformed syllable: trap ILLEGAL on the SE; a static engine never issues one (R272, R308). -/
def malformed (y : Syl) (s : State) : State :=
  if y.e = .se then seTrap 0 y.slot.val 0 s.se.pc { s with se := { s.se with book := 0 } } else bundleEnd y s

/-- What a syllable's form charges above an idle slot's 0.6 pC, in 0.1 pC; a NOP of modifier m charges 0.6 + 4.0 × m pC (R283, R304). -/
def sylCharge (y : Syl) (op md : Nat) : Nat :=
  if op = 0 then 40 * md else ((form (sylKind y) op md).map Form.charge).getD 6 - 6

/-- The charge of the SE's bundle that `y` ends: its eight slots and its syllables, fC (R39, R283). -/
def State.seCharge (s : State) (y : Syl) (op md : Nat) : Nat := 100 * (48 + s.se.book + sylCharge y op md)

/-- The governor of the SE grants the issue of the bundle that `y` ends (R39, R40). -/
def State.seGrants (s : State) (y : Syl) (op md : Nat) : Bool := y.e != .se || !y.last || s.govGrants 0 (s.seCharge y op md)

/-- The SE books a syllable, and draws its bundle's charge with the last one (R283). -/
def seBook (op md : Nat) (y : Syl) (s : State) : State :=
  if y.e ≠ .se then s
  else if y.last then govTake 0 (s.seCharge y op md) { s with se := { s.se with book := 0 } }
  else { s with se := { s.se with book := s.se.book + sylCharge y op md } }

/-- The two cycles of a taken branch, call, return or jump book 4.8 pC each, of what is left (R283). -/
def bubbles (s : State) : State := govTake 0 9600 s

/-- The registers and the predicate that a form writes. -/
def destOf (y : Syl) (op md : Nat) : List Nat × Option Nat :=
  match (form (sylKind y) op md).map Form.dst with
  | some .reg => ([y.dst.val], none)
  | some .pair => ([y.dst.val, y.dst.val + 1], none)
  | some .pred => ([], some y.dst.val)
  | _ => ([], none)

/-- An earlier syllable of the SE's bundle writes the same destination (R277). -/
def State.sameDest (s : State) (y : Syl) (op md : Nat) : Bool :=
  let d := destOf y op md
  y.e = .se && (s.eng_ 6).hold.any (fun f =>
    f.regs.any (fun r => d.1.contains r.1) || (match f.pred, d.2 with
      | some q, some p => q.1 == p && p != 0
      | _, _ => false))

/-- The syllable is well formed and writes no destination of its bundle again. -/
def State.fits (s : State) (y : Syl) (op md : Nat) : Bool := sylGood y op md && !s.sameDest y op md

/-! ### ALU (R285) -/

/-- Operand B: a register, or the SRCB field as a 6-bit immediate where MOD[0] is 1. -/
def State.opB (s : State) (y : Syl) : Nat := if y.md.val % 2 = 1 then y.b.val else (s.src y y.b.val).toNat

def State.opA (s : State) (y : Syl) : Nat := (s.src y y.a.val).toNat

/-- The position and width of an EXTR or INSR field, cut at bit 63. -/
def fieldOf (b : Nat) : Nat × Nat := (b % 64, min (b / 64 % 64 + 1) (64 - b % 64))

/-- EXTR. -/
def extr (sgn : Bool) (a b : Nat) : Nat :=
  let f := fieldOf b
  let v := a / 2 ^ f.1 % 2 ^ f.2
  if sgn then unsigned 64 (signed f.2 v) else v

/-- INSR into `d`. -/
def insr (d a b : Nat) : Nat :=
  let f := fieldOf b
  d - d / 2 ^ f.1 % 2 ^ f.2 * 2 ^ f.1 + a % 2 ^ f.2 * 2 ^ f.1

/-- The bytes of each group of `n` of a 64-bit value reversed. -/
def bswap (n a : Nat) : Nat :=
  (List.range 8).foldl (fun acc k => acc + a / 2 ^ (8 * k) % 256 * 2 ^ (8 * (k / n * n + (n - 1 - k % n)))) 0

/-- CSUM16: the one's-complement sum of ga[15:0] and the selected 16-bit words of gb. -/
def csum16 (m a b : Nat) : Nat :=
  let w := fun k => b / 2 ^ (16 * k) % 2 ^ 16
  let sum := a % 2 ^ 16 + (match m with
    | 0 => w 0 + w 1 + w 2 + w 3
    | 1 => w 2 + w 3
    | 2 => w 0 + w 1
    | _ => 0)
  foldSum sum

/-! ### TIME (R284–R290) -/

/-- The 72-bit era and stamp of a T pair. -/
def tVal (v : Nat) : Nat := v % 2 ^ 72

/-- An S pair as a time in 2⁻³² ns. -/
def sVal (v : Nat) : Int := (v / 2 ^ 64 : Nat) * (10 ^ 9 * 2 ^ 32) + (v / 2 ^ 32 % 2 ^ 30 * 2 ^ 32 + v % 2 ^ 32 : Nat)

/-- The S pair of a time in 2⁻³² ns; SEC wraps modulo 2⁶⁴. -/
def sPair (t : Int) : Nat :=
  let t := (t % (2 ^ 64 * (10 ^ 9 * 2 ^ 32) : Nat)).toNat
  let r := t % (10 ^ 9 * 2 ^ 32)
  r % 2 ^ 32 + r / 2 ^ 32 * 2 ^ 32 + t / (10 ^ 9 * 2 ^ 32) * 2 ^ 64

/-- TADD of the duration `d` in format `f` (R287). -/
def tadd (f v : Nat) (d : Int) : Nat :=
  match f with
  | 1 => sPair (sVal v + d * 65536)
  | 2 => unsigned 72 (tVal v + (d + 1) / 2)
  | _ => unsigned 120 ((v % 2 ^ 120 : Nat) + d * 2 ^ 24)

/-- TSUB as a duration, rounded to the nearest, ties upwards, and saturated (R286, R287). -/
def tsub (f a b : Nat) : Int :=
  let d : Int := match f with
    | 1 => (sVal a - sVal b + 2 ^ 15) / 2 ^ 16
    | 2 => 2 * signed 72 (unsigned 72 ((tVal a : Int) - tVal b))
    | _ => (((a % 2 ^ 120 : Nat) : Int) - (b % 2 ^ 120 : Nat) + 2 ^ 23) / 2 ^ 24
  max (-(2 ^ 63 - 1)) (min (2 ^ 63 - 1) d)

/-- TCMP compares whole values (R286). -/
def tcmp (f a b : Nat) : Int × Int :=
  match f with
  | 1 => (sVal a, sVal b)
  | 2 => (tVal a, tVal b)
  | _ => ((a % 2 ^ 120 : Nat), (b % 2 ^ 120 : Nat))

/-- TCONV (R288): 0 T to M, 1 M to S, 2 S to M. -/
def tconv (md v t : Nat) (s : State) : Nat :=
  match md with
  | 0 =>
    let r := stampToM (tVal v) s
    unsigned 120 r.1 + (if r.2.1 then 2 ^ 120 else 0) + (if r.2.2 then 2 ^ 121 else 0)
  | 1 => match mToTs t (v % 2 ^ 120) s with
    | some a => tsWords a
    | none => 0
  | _ => (tsToM t (tsWrap (tsOfWords v (v / 2 ^ 64 : Nat))) s).getD 0

/-- TSCALE to NTP and PTP (R290). -/
def tscale (md v t : Nat) (s : State) : Nat :=
  if md = 0 then
    let r := ntpOf (v / 2 ^ 64) (v / 2 ^ 32 % 2 ^ 30) (v % 2 ^ 32) (s.utcOff t)
    r.1 + 2 ^ 64 * unsigned 64 r.2
  else v / 2 ^ 64 % 2 ^ 48 + 2 ^ 64 * (v / 2 ^ 32 % 2 ^ 30)

/-- TREAD of a pair (R286). -/
def tread (y : Syl) (t : Nat) (s : State) : Nat :=
  match y.md.val with
  | 0 => match y.e with
    | .pe p => (s.pcp p.val).val
    | _ => s.tm.mtc
  | 1 => if (s.tsp t).run then tsWords (s.tsp t).acc else 0
  | _ => s.tsUtc t + 2 ^ 64 * s.tsErr t

/-! ### PARSE and EMIT (R291–R294) -/

/-- `f` on the syllable's port and instance. -/
def onInst (y : Syl) (f : Nat → Inst → State → State) (s : State) : State :=
  match y.e, y.inst with
  | .pe p, some k => (match s.inst? p.val k with
    | some i => f p.val i s
    | none => s)
  | _, _ => s

/-- COMPLETE: every beat of the frame has been released (R292). -/
def Inst.whole (i : Inst) : Bool := !i.late && decide (beatsOf i.frame.octets ≤ i.rel)

/-- The status word of RXSTAT (R292). -/
def rxStatus (i : Inst) : Nat :=
  let c := i.whole
  let b := fun (x : Bool) (k : Nat) => if x then 2 ^ k else 0
  b c 0 + b (c && i.frame.good) 1 + b i.frame.unsync 2 + b i.frame.uncal 3 + b (c && i.frame.cut) 4 + b i.late 5 + b (c && i.frame.tooLong) 6
    + b (c && i.frame.runt) 7 + (if c then i.frame.octets.length * 2 ^ 16 else 0)

/-- OK of RXSTAT (R292). -/
def rxOk (i : Inst) : Bool := i.whole && i.frame.good && !(i.frame.cut || i.late || i.frame.tooLong || i.frame.runt)

/-- A device time with its UNSYNC and UNCAL flags (R284). -/
def mFlags (v : Nat) (unsync uncal : Bool) : Nat := v % 2 ^ 120 + (if unsync then 2 ^ 122 else 0) + (if uncal then 2 ^ 123 else 0)

/-- Reply beat `j` of an instance. -/
def Inst.beat (i : Inst) (j : Nat) : Nat := (Tbl.get (fun _ => (0 : DWord)) i.reply j).toNat

/-- The instance's reply beat `j` holds `v`, in a reply already committed too: the transmitter picks its beats up later (R255, R256). -/
def setBeat (p k j v : Nat) (s : State) : State :=
  let s1 := s.modInst p k (fun i => { i with reply := Tbl.set (fun _ => (0 : DWord)) i.reply j (BitVec.ofNat 64 v) })
  match s1.inst? p k with
  | some i =>
    let e := s1.pe_ p
    s1.setPe p { e with commits := e.commits.map (fun c => if c.k = k then { c with octets := (replyFrame i c.len).1 } else c) }
  | none => s1

/-- TXB with its octet mask (R291). -/
def txb (m old v : Nat) : Nat :=
  match m with
  | 0 => v
  | 1 => v / 2 ^ 32 * 2 ^ 32 + old % 2 ^ 32
  | 2 => old / 2 ^ 32 * 2 ^ 32 + v % 2 ^ 32
  | _ => old ||| v

/-- TXCSUM into octets 2m and 2m + 1, with the UDP rule (R291). -/
def txcsum (m : Nat) (udp : Bool) (old v : Nat) : Nat :=
  let c := 0xffff - v % 2 ^ 16
  let c := if udp && c == 0 then 0xffff else c
  let sh := 2 ^ (48 - 16 * m)
  old - old / sh % 2 ^ 16 * sh + c * sh

/-- A TE's steering word: ports 4–8 are 48-bit increments, the others signed (R294). -/
def steerWord (n v : Nat) : Int := if 4 ≤ n ∧ n ≤ 8 then (v % 2 ^ 48 : Nat) else signed 64 v

/-- A DPLL whose port is `n` has had a steering word written in this lap (R137, R294). -/
def markSteered (t n : Nat) (s : State) : State :=
  forEach ((List.range 8).filter (fun d => dpllTe d == t && s.dpllPort d == some n))
    (fun s d => s.setDpll d { s.dpll_ d with wrote := true }) s

/-- TE_TXGO: a step asked for; of two engines' steps of one target in a lap, TE0's stands (R294). -/
def stepAsk (t n : Nat) (d : Int) (s : State) : State :=
  let others := s.tm.stepReq.filter (fun e => e.2.1 == n && e.1 != t)
  if t = 1 && !others.isEmpty then s
  else { s with tm := { s.tm with stepReq := s.tm.stepReq.filter (fun e => e.2.1 != n) ++ [(t, n, d)] } }

/-! ### MEM (R295–R298) -/

/-- A hamper operation: on a PE at the ring of MOD[1:0], its result after 36 cycles; on a TE through its gate (R295). -/
def hamSyl (kind : Nat) (y : Syl) (ecc : Ecc) (s : State) : State :=
  let a := (s.src y y.a.val).toNat
  let v := (s.src y y.b.val).toNat
  match y.e with
  | .pe _ =>
    let r := hamOp kind (a % 2 ^ 22 + y.md.val % 4 * 2 ^ 22) v ecc s
    if kind = 1 then r.2 else resReg y 36 r.1 r.2
  | .te t =>
    let g := s.eng_ (4 + t.val)
    s.setEng (4 + t.val) { g with teOps := g.teOps ++ [⟨kind, a % 2 ^ 24, BitVec.ofNat 64 v, if kind = 1 then none else some y.dst.val, s.tiu.count⟩] }
  | .se => s

/-! ### XU (R299–R303) -/

def rotl64 (x n : Nat) : Nat := x * 2 ^ n % 2 ^ 64 ||| x / 2 ^ (64 - n)

/-- The mixing function of HASH (R302). -/
def hashMix (seed a b : Nat) : Nat :=
  let x := a ^^^ rotl64 b 29 ^^^ seed
  let x := (x ^^^ x / 2 ^ 33) * 0xff51afd7ed558ccd % 2 ^ 64
  let x := (x ^^^ x / 2 ^ 33) * 0xc4ceb9fe1a85ec53 % 2 ^ 64
  x ^^^ x / 2 ^ 33

def State.seed (s : State) (e l : Nat) : DWord := Tbl.get (fun _ => (0 : DWord)) (s.eng_ e).seeds l

/-- The key slot a control word names (R300): a relative slot within the instance's four, and 80–127 folded into the working slots. -/
def aesIndex (y : Syl) (c : Nat) : Nat :=
  let n := c % 128
  match y.inst with
  | some k => if c / 128 % 2 = 1 then 16 + 4 * (k % 16) + n % 4 else if 80 ≤ n then 16 + n % 64 else n
  | none => if 80 ≤ n then 16 + n % 64 else n

/-- AES of a pair under a slot of pipeline `u`; a whistled pipeline delivers zero (R301, R505). -/
def aesb (y : Syl) (s : State) : Nat :=
  if s.wHeld 3 y.e.num then 0 else
  let u := y.md.val % 2
  let sl := Tbl.get (fun _ => AesSlot.zero) (s.eng_ y.e.num).aes (u * 128 + aesIndex y (s.src y y.b.val).toNat)
  let key := nats (if sl.long then sl.key else sl.key.take 16)
  let blk := toBe 16 ((s.rg y y.a.val).toNat * 2 ^ 64 + (s.rg y (y.a.val + 1)).toNat)
  let c := ofBe (aesEnc key blk)
  c / 2 ^ 64 + c % 2 ^ 64 * 2 ^ 64

/-- The result of an AES block in the destination pair, in flight as a block of its pipeline. -/
def resAes (y : Syl) (v : Nat) (s : State) : State :=
  let n := (s.eng_ y.e.num).fly.length
  let s1 := resPair y 16 v s
  let g := s1.eng_ y.e.num
  s1.setEng y.e.num { g with fly := g.fly.mapIdx (fun k f => if k = n then { f with aes := true } else f) }

/-- AESK writes half a working slot; a master slot is left alone and sends LOCKED_WRITE (R300). -/
def aesk (y : Syl) (s : State) : State :=
  if s.wHeld 3 y.e.num then s else
  let u := y.md.val % 2
  let sl := aesIndex y (s.src y y.b.val).toNat
  if sl < 16 then s.sendFault (srcPe y.e.num) kLockedWrite (y.e.num * 2 ^ 16 + u * 128 + sl)
  else
    let g := s.eng_ y.e.num
    let old := Tbl.get (fun _ => AesSlot.zero) g.aes (u * 128 + sl)
    let half := beBytes 8 (s.rg y y.a.val).toNat ++ beBytes 8 (s.rg y (y.a.val + 1)).toNat
    let key := if y.md.val / 2 % 2 = 1 then old.key.take 16 ++ half else half ++ old.key.drop 16
    s.setEng y.e.num { g with aes := Tbl.set (fun _ => AesSlot.zero) g.aes (u * 128 + sl) ⟨key, 4 ≤ y.md.val⟩ }

/-- DIVU (R299). -/
def divu (rem : Bool) (a b : Nat) : Nat := if b = 0 then (if rem then a else 2 ^ 64 - 1) else if rem then a % b else a / b

/-! ### CTRL (R304–R309) -/

/-- The events that wait at engine `e` for trigger `i`. -/
def State.evq (s : State) (e i : Nat) : List Nat := Tbl.get (fun _ => []) s.tm.evq (e * 16 + i)

/-- Event source `n` of the syllable's engine is pending (R306). -/
def State.evPending (s : State) (y : Syl) (n : Nat) : Bool :=
  match y.e with
  | .se => n < 32 && (s.conds 8).getLsbD n && s.toSe n
  | _ => if n < 16 then !(s.evq y.e.num n).isEmpty else n == 16 && (s.eng_ y.e.num).ev16

/-- The take form: the oldest event of a trigger, in S format, is consumed; source 16 clears; an SE source is left to its block (R306). -/
def evTake (y : Syl) (n : Nat) (s : State) : State :=
  match y.e with
  | .se => resPair y 1 0 s
  | _ =>
    if n < 16 then
      match s.evq y.e.num n with
      | t :: rest => resPair y 1 (tsWords t)
          { s with tm := { s.tm with evq := Tbl.set (fun _ => []) s.tm.evq (y.e.num * 16 + n) rest } }
      | [] => resPair y 1 0 s
    else if n = 16 then
      let s1 := s.setEng y.e.num { s.eng_ y.e.num with ev16 := false }
      resPair y 1 0 s1
    else resPair y 1 0 s

/-- The fault source of an engine (R493). -/
def engSrc : Eng → Nat
  | .pe p => srcPe p.val
  | .te t => srcTe t.val
  | .se => srcSe

/-- PAND and POR with their inversions (R304). -/
def predPair (y : Syl) (s : State) : Bool × Bool :=
  (s.rp y y.a.val != decide (y.md.val % 2 = 1), s.rp y y.b.val != decide (y.md.val / 2 % 2 = 1))

/-- An uncorrectable word fetched for issue: on a static engine the syllable issues as NOP with modifier 7 (R325); on the SE trap FETCH
(R308, R380). The offset is in the bank, or in the instruction SRAM. -/
def badFetch (y : Syl) (o : Nat) (s : State) : State :=
  match y.e with
  | .se => seTrap 5 0 (o % 2 ^ 18) s.se.pc (s.sendFault srcSe kEccUncorrectable (o % 2 ^ 18))
  | _ => (s.bumpSat Reg.STORE_UNCORR).sendFault srcVerifier kEccUncorrectable
      (o % 2 ^ 20 + 2 ^ 20 * (match y.e with
        | .pe p => (s.pe_ p.val).bank
        | _ => (Tbl.get (fun _ => none) s.itin.teBank (sylTe y)).getD 0))

end Sys2Proof.Machine
end

