-- ==== Sys2Proof/Machine/Faults.lean ====
section
/-! DEFINITION. The fault collector with FAULT_N (R492–R501) and the whistle with its targets, flags, completion records and pin
(R502–R510). -/

namespace Sys2Proof.Machine

/-- CASC_ID of this device (R525). -/
def State.casc (s : State) : Nat := s.fld F.DZ_STATUS_ID

/-- The cascade master, or a standalone device (R525). -/
def State.dzMaster (s : State) : Bool := s.flag F.DZ_STATUS_MASTER

/-! ### The collector (R496–R500) -/

/-- Word 1 of the record of source `c`. -/
abbrev Reg.FLT_REC1 (c : Nat) : Nat := Reg.FLT_REC c + 4
abbrev F.FLT_KIND (c : Nat) : Fld := ⟨Reg.FLT_REC1 c, 0, 6⟩
abbrev F.FLT_VALID (c : Nat) : Fld := ⟨Reg.FLT_REC1 c, 8, 1⟩
abbrev F.FLT_OVERFLOW (c : Nat) : Fld := ⟨Reg.FLT_REC1 c, 9, 1⟩
abbrev F.FLT_COUNT (c : Nat) : Fld := ⟨Reg.FLT_REC1 c, 16, 16⟩
/-- The sticky bit of source `c`. -/
abbrev F.FLT_STICKY (c : Nat) : Fld := ⟨Reg.FLT_STICKY (c / 32), c % 32, 1⟩

/-- The sticky bit of source `c` and what FLT_STATUS shows of it (R498). -/
def setSticky (c : Nat) (b : Bool) (s : State) : State :=
  if s.flag (F.FLT_STICKY c) = b then s else
  let n := if b then s.fld F.FLT_STATUS_NSET + 1 else s.fld F.FLT_STATUS_NSET - 1
  ((s.setFlag (F.FLT_STICKY c) b).setFld F.FLT_STATUS_NSET n).setFlag F.FLT_STATUS_ANY (n != 0)

/-- FAULT_N is driven low (R498, R500), or as the TAP says (R551). -/
def State.faultN (s : State) : Bool := if s.jtagExt then s.extLow 39 else s.flag F.FLT_STATUS_ANY && !s.inReset

/-- The collector accepts a message of source code `c` (R497); a record that becomes VALID is logged (R500). -/
def fltAccept (c kind addr : Nat) (loss : Bool) (s : State) : State :=
  let first := !s.flag (F.FLT_VALID c)
  let s1 := if first then ((s.setRv (Reg.FLT_REC c) addr).setFld (F.FLT_KIND c) kind).setFlag (F.FLT_VALID c) true
    else s.setFlag (F.FLT_OVERFLOW c) true
  let s2 := setSticky c true ((if loss then s1.setFlag (F.FLT_OVERFLOW c) true else s1).bumpFld (F.FLT_COUNT c))
  let s3 := ((s2.setRv Reg.FLT_LAST addr).setRv (Reg.FLT_LAST + 4) (kind + 256 * c)).bump Reg.FLT_EVT
  if first then fwLog s3 else s3

/-- The oldest message of local source `c` reaches the collector; a member sends it on to the master (R496, R501, R538). -/
def fltDeliver (c : Nat) (s : State) : State :=
  match (s.fbuf c).q with
  | [] => s
  | m :: t =>
    let s1 : State := { s with flt := { s.flt with buf := Tbl.set (fun _ => FaultBuf.reset) s.flt.buf c { s.fbuf c with q := t } } }
    let s2 := fltAccept (32 * s.casc + c) m.kind m.addr m.afterLoss s1
    if s.dzMaster then s2 else dzSend 0 (.fault (32 * s.casc + c) m.kind m.addr m.afterLoss false) s2

/-- The record of source `c` is cleared (R499). -/
def fltClear (c : Nat) (s : State) : State := setSticky c false ((s.setRv (Reg.FLT_REC c) 0).setRv (Reg.FLT_REC1 c) 0)

def fltClearAll (s : State) : State := forEach (List.range 256) (fun s c => fltClear c s) s

/-- FLT_CLEAR (R511). -/
def landFltClear (v : Nat) (s : State) : State := if v.testBit 8 then fltClearAll s else fltClear (v % 256) s

/-! ### Targets (R505) -/

/-- The number of indices of target `t`; 0 for a reserved code. -/
def wCount (t : Nat) : Nat := ([0, 1, 4, 4, 24, 8, 1, 2, 1, 4, 16, 1] : List Nat).getD t 0

/-- The indices that INDEX `i` names: 31 every one of AES and DMA (R505, R506). -/
def wNames (t i : Nat) : List Nat :=
  if i < wCount t then [i] else if i = 31 ∧ (t = 3 ∨ t = 5) then List.range (wCount t) else []

/-- The island of index `i` of target `t` runs (R490). -/
def State.wOn (s : State) (t i : Nat) : Bool :=
  match t with
  | 1 | 2 | 3 | 9 => s.fclkOn
  | 4 => s.tclkOn && s.chPowered i
  | 6 => s.blockOn 10
  | 7 => s.tclkOn
  | 8 => s.blockOn 7
  | 11 => s.blockOn 12
  | _ => s.hostOn

def State.wHold (s : State) (t i : Nat) : WhistleHold := Tbl.get (fun _ => WhistleHold.reset) s.flt.hold (32 * t + i)
def State.setHold (s : State) (t i : Nat) (h : WhistleHold) : State :=
  { s with flt := { s.flt with hold := Tbl.set (fun _ => WhistleHold.reset) s.flt.hold (32 * t + i) h } }

/-- The blocks of PE `p`'s pipelines in flight deliver zero (R505). -/
def aesZero (p : Nat) (s : State) : State :=
  let g := s.eng_ p
  s.setEng p { g with fly := g.fly.map (fun f => if f.aes then { f with regs := f.regs.map (fun r => (r.1, 0)) } else f) }

/-- A whistle to port `p` (R505, R377): DISABLED; committed replies, reserved and queued frames are discarded and counted, and those of
MODE 0b01 leave a suppressed record. -/
def portWhistle (p : Nat) (s : State) : State :=
  let e := s.pe_ p
  let s1 := portDisable p s
  let s2 := showOrig p (s1.setPe p { s1.pe_ p with commits := [], resv := [], queue := [] })
  let s3 := forEach e.commits (fun s _ => portErr p (Reg.TX_SUPPRESSED p) s) s2
  forEach (e.resv ++ e.queue.map (fun d => ⟨d, 0⟩)) (fun s r =>
    let s := portErr p (Reg.TX_SUPPRESSED p) s
    if r.d.mode = 1 then basketPut p (basketOf p r true s) s else s) s3

/-- A whistle to engine TEt (R337): what its interrupted lap has already asked for is discarded. -/
def teWhistle (t : Nat) (s : State) : State :=
  let s1 := forEach allPorts (fun s k => match (s.port k).pend with
    | some (e, _) => if e = t then s.setPort k { s.port k with pend := none } else s
    | none => s) s
  let s2 : State := { s1 with tm := { s1.tm with stepReq := s1.tm.stepReq.filter (fun r => r.1 != t) } }
  forEach (teDplls t) (fun s d => s.setDpll d { s.dpll_ d with wrote := false }) s2

/-- What a whistle does as it lands on index `i` of target `t` (R219, R333, R334, R336, R337, R382, R401, R420, R450, R505). -/
def wLand (t i : Nat) (s : State) : State :=
  match t with
  | 1 =>
    let s1 := match s.itin.arm with
      | some a => if a.committed || a.within 1024 s then s else swapCancel 3 s
      | none => s
    s1.setFlag F.FAB_STATUS_DRAINING true
  | 3 => aesZero i s
  | 5 => dmaWhistle i s
  | 6 => if 1 ≤ s.seState ∧ s.seState ≤ 4 then seHalt s else s
  | 7 => teWhistle i s
  | 8 => rxOff s
  | 9 => portWhistle i s
  | 10 => mbEmptyBoth i s
  | 11 => nvsWhistle s
  | _ => s

/-- Index `i` of target `t` has drained: every PE stopped and its instances ended, or the port's instances ended (R334, R336). -/
def State.wDrained (s : State) (t i : Nat) : Bool :=
  if !s.wOn t i then true
  else match t with
    | 1 => (List.range 4).all (fun p => !(s.pe_ p).runs && (s.pe_ p).insts.isEmpty)
    | 2 => (s.pe_ i).insts.isEmpty
    | _ => true

/-- What completion leaves behind (R334, R337, R505): results still in flight are discarded; a channel's records and measurements too. -/
def wLeave (t i : Nat) (s : State) : State :=
  match t with
  | 1 => (forEach (List.range 4) (fun s p => s.setEng p { s.eng_ p with fly := [] }) s).setFlag F.FAB_STATUS_DRAINING false
  | 4 => if s.wOn 4 i then chDiscard i s else s
  | 7 => s.setEng (4 + i) { s.eng_ (4 + i) with fly := [] }
  | _ => s

/-- What a release does as it takes effect (R86, R219, R225, R338, R382, R505). -/
def wFree (t i : Nat) (s : State) : State :=
  match t with
  | 4 => if s.wOn 4 i && s.flag (F.CH_CFG_EN i) then chRestart i s else s
  | 7 => { s with flt := { s.flt with resume := s.flt.resume ||| 2 ^ i } }
  | 9 => portEnable i s
  | 11 => fwLogPay (s.setFlag F.NVS_STATUS_WHISTLED false)
  | _ => s

/-! ### Flags and records (R506, R507) -/

/-- An idle state reached or a release taking effect is recorded, with its duration from `from_`; the device that issued the command
gets a report (R506, R539). -/
def wRecord (cmd from_ : Nat) (issuer : Option Nat) (s : State) : State :=
  let ns := min 0xffff ((s.now - from_ + 999) / 1000)
  let s1 := ((s.bump Reg.WHISTLE_EVT).setRv Reg.WHISTLE_LAST cmd).setRv Reg.WHISTLE_TIME ns
  match issuer with
  | some k => dzSend k (.report cmd ns) s1
  | none => s1

def wSet (r : Nat → Nat) (t : Nat) (l : List Nat) (b : Bool) (s : State) : State := forEach l (fun s i => s.setFlag ⟨r t, i, 1⟩ b) s

/-- The release `r` of the indices `l` takes effect. -/
def wReleaseNow (t : Nat) (l : List Nat) (r : Nat × Nat × Option Nat) (s : State) : State :=
  let s1 := wSet Reg.WHISTLE_IDLE t l false (wSet Reg.WHISTLE_HELD t l false s)
  let s2 := forEach l (fun s i => wFree t i (s.setHold t i .reset)) s1
  wRecord r.2.1 r.1 r.2.2 s2

/-- The indices `l` reach their idle state: a record, a log record, and then the releases that waited (R500, R506, R507). -/
def wComplete (t : Nat) (l : List Nat) (s : State) : State :=
  match l with
  | [] => s
  | i :: _ =>
    let h := s.wHold t i
    let s1 := wSet Reg.WHISTLE_IDLE t l true (forEach l (fun s j => wLeave t j s) s)
    let s2 := fwLog (wRecord h.cmd h.accepted h.issuer s1)
    match h.rel with
    | some r => wReleaseNow t (l.filter (fun j => (s.wHold t j).rel.isSome)) r s2
    | none => s2

/-- A WHISTLE is accepted (R503, R505): indices that already hold one are left; a target whose island is off, and an SE with no code to
stop, are idle at once (R490, R509). -/
def wAccept (t : Nat) (l : List Nat) (cmd : Nat) (issuer : Option Nat) (s : State) : State :=
  let l := l.filter (fun i => !s.wHeld t i)
  let s1 := forEach l (fun s i => s.setHold t i ⟨s.now, cmd, issuer, none⟩) (wSet Reg.WHISTLE_HELD t l true s)
  let done := l.filter (fun i => !s.wOn t i || (t == 6 && (s.seState == 5 || s.seState == 6)))
  let s2 := forEach l (fun s i => if s.wOn t i then wLand t i s else s) s1
  wComplete t done s2

/-- A RELEASE is accepted (R507): it takes effect at once on idle indices, and after the drain on the others. -/
def wRelease (t : Nat) (l : List Nat) (cmd : Nat) (issuer : Option Nat) (s : State) : State :=
  let held := l.filter (fun i => s.wHeld t i)
  let r := (s.now, cmd, issuer)
  let idle := held.filter (fun i => s.wIdle t i)
  let s1 := forEach (held.filter (fun i => !s.wIdle t i)) (fun s i => s.setHold t i { s.wHold t i with rel := some r }) s
  if idle.isEmpty then s1 else wReleaseNow t idle r s1

/-- A refused command counts (R503). -/
def wRefuse (s : State) : State := s.bump16 Reg.WHISTLE_REF

/-- The command word of R511. -/
def wWord (t i cmd : Nat) (peer : Option Nat) : Nat :=
  t + 16 * i + 2 ^ 12 * cmd + (match peer with
    | some k => 2 ^ 16 * k + 2 ^ 19
    | none => 0)

/-- A whistle or release on this device (R503): `se` for one that the SE wrote, `issuer` for one that came over the daisy link. -/
def wLocal (v : Nat) (se : Bool) (issuer : Option Nat) (s : State) : State :=
  let t := v % 16
  let l := wNames t (v / 16 % 32)
  match v / 2 ^ 12 % 4 with
  | 1 => if l.isEmpty || (se && t == 6) then wRefuse s else wAccept t l v issuer s
  | 2 =>
    if !l.any (fun i => s.wHeld t i) || (t == 6 && s.flt.pinLow) then wRefuse s else wRelease t l v issuer s
  | _ => wRefuse s

/-- A write of the WHISTLE pair by master ID `m` (R502, R503, R539): a remote command goes out while the link is READY and the ring has
that device. -/
def landWhistle (m w : Nat) (s : State) : State :=
  let v := w &&& 0xf31ff     -- reserved bits read 0 (R8)
  let k := v / 2 ^ 16 % 8
  if !v.testBit 19 then wLocal v (m == 4) none s
  else
    let c := v / 2 ^ 12 % 4
    let ok := (c == 1 || c == 2) && !(wNames (v % 16) (v / 16 % 32)).isEmpty && s.dzReady && decide (k < s.fld F.DZ_STATUS_SIZE)
      && !(c == 1 && m == 4 && v % 16 == 6 && k == s.casc)
    if ok then dzSend k (.whistle v) { s with dz := { s.dz with cmds := s.dz.cmds ++ [v] } } else wRefuse s

/-! ### The WHISTLE_N pin (R509) -/


/-- The pin has been low for 100 ns: latched, and the SE whistled. In reset only the level shows. -/
def pinWhistle (s : State) : State :=
  let s1 := s.setFlag F.WHISTLE_PIN_LEVEL false
  if s.inReset then s1
  else
    let s2 : State := { s1.setFlag F.WHISTLE_PIN_HOLDING true with flt := { s1.flt with pinLow := true } }
    wAccept 6 [0] (wWord 6 0 1 none) none s2

/-- The pin returns high: HOLDING clears; the SE stays whistled. -/
def pinHigh (s : State) : State :=
  let s1 := (s.setFlag F.WHISTLE_PIN_LEVEL true).setFlag F.WHISTLE_PIN_HOLDING false
  { s1 with flt := { s1.flt with pinLow := false } }

/-! ### Meanings -/

/-- A command of master `m` in the FAULT block's registers. -/
def faultCmd (m : Master) (f : State → State) (s : State) : Host.Outcome State Fault Refusal :=
  fin (writes m f s)

/-- FAULT_MESSAGE: the collector accepts the oldest message of local source `c`. -/
def execFaultMessage (c : Fin 32) (s : State) : Host.Outcome State Fault Refusal := fin (if s.hostOn then fltDeliver c.val s else s)

/-- FLT_CLEAR. -/
def execFltClear (m : Master) (c : Fin 256) (s : State) : Host.Outcome State Fault Refusal := faultCmd m (landFltClear c.val) s

/-- FLT_CLEAR_ALL. -/
def execFltClearAll (m : Master) (s : State) : Host.Outcome State Fault Refusal := faultCmd m (landFltClear 256) s

/-- The whistle of master `m` to INDEX `i` of target `t`, on this device or on the device `peer`. -/
def whistle (m : Master) (t i : Nat) (peer : Option (Fin 8)) (s : State) : Host.Outcome State Fault Refusal :=
  faultCmd m (landWhistle m.id (wWord t i 1 (peer.map Fin.val))) s

/-- WHISTLE_FABRIC. -/
def execWhistleFabric (m : Master) (peer : Option (Fin 8)) (s : State) : Host.Outcome State Fault Refusal := whistle m 1 0 peer s

/-- WHISTLE_TEMPLATES: of port `p`. -/
def execWhistleTemplates (m : Master) (p : Fin 4) (peer : Option (Fin 8)) (s : State) : Host.Outcome State Fault Refusal :=
  whistle m 2 p.val peer s

/-- WHISTLE_AES: of PE `p`, or of all. -/
def execWhistleAes (m : Master) (p : Option (Fin 4)) (peer : Option (Fin 8)) (s : State) : Host.Outcome State Fault Refusal :=
  whistle m 3 ((p.map Fin.val).getD 31) peer s

/-- WHISTLE_TIU_CHANNEL. -/
def execWhistleTiuChannel (m : Master) (n : Fin 24) (peer : Option (Fin 8)) (s : State) : Host.Outcome State Fault Refusal :=
  whistle m 4 n.val peer s

/-- WHISTLE_DMA: of channel `c`, or of all. -/
def execWhistleDma (m : Master) (c : Option (Fin 8)) (peer : Option (Fin 8)) (s : State) : Host.Outcome State Fault Refusal :=
  whistle m 5 ((c.map Fin.val).getD 31) peer s

/-- WHISTLE_SE. -/
def execWhistleSe (m : Master) (peer : Option (Fin 8)) (s : State) : Host.Outcome State Fault Refusal := whistle m 6 0 peer s

/-- WHISTLE_TE. -/
def execWhistleTe (m : Master) (t : Fin 2) (peer : Option (Fin 8)) (s : State) : Host.Outcome State Fault Refusal :=
  whistle m 7 t.val peer s

/-- WHISTLE_GNSS. -/
def execWhistleGnss (m : Master) (peer : Option (Fin 8)) (s : State) : Host.Outcome State Fault Refusal := whistle m 8 0 peer s

/-- WHISTLE_PORT. -/
def execWhistlePort (m : Master) (p : Fin 4) (peer : Option (Fin 8)) (s : State) : Host.Outcome State Fault Refusal :=
  whistle m 9 p.val peer s

/-- WHISTLE_MAILBOX. -/
def execWhistleMailbox (m : Master) (n : Fin 16) (peer : Option (Fin 8)) (s : State) : Host.Outcome State Fault Refusal :=
  whistle m 10 n.val peer s

/-- WHISTLE_NVS. -/
def execWhistleNvs (m : Master) (peer : Option (Fin 8)) (s : State) : Host.Outcome State Fault Refusal := whistle m 11 0 peer s

/-- RELEASE: of INDEX `i` of target `t`. -/
def execRelease (m : Master) (t : Fin 16) (i : Fin 32) (peer : Option (Fin 8)) (s : State) : Host.Outcome State Fault Refusal :=
  faultCmd m (landWhistle m.id (wWord t.val i.val 2 (peer.map Fin.val))) s

/-- WHISTLE_COMPLETE (R506): what INDEX `i` of target `t` names has drained. -/
def execWhistleComplete (t : Fin 16) (i : Fin 32) (s : State) : Host.Outcome State Fault Refusal :=
  let l := (wNames t.val i.val).filter (fun j => s.wHeld t.val j && !s.wIdle t.val j)
  fin (if l.all (fun j => s.wDrained t.val j) then wComplete t.val l s else s)

/-- WHISTLE_N (R509). -/
def execWhistleN (s : State) : Host.Outcome State Fault Refusal := fin (pinWhistle s)

/-- WHISTLE_N_RETURN_HIGH (R509). -/
def execWhistleNReturnHigh (s : State) : Host.Outcome State Fault Refusal := fin (pinHigh s)

end Sys2Proof.Machine
end

