-- ==== Sys2Proof/Machine/Daisy.lean ====
section
/-! DEFINITION. The daisy cascade (R525–R541): training, the transfer of time, tunnelled mailboxes, remote faults and remote whistles. -/

namespace Sys2Proof.Machine

abbrev dzOffSt : Nat := 0
abbrev dzSignal : Nat := 1
abbrev dzBitlock : Nat := 2
abbrev dzWordlock : Nat := 3
abbrev dzTrain : Nat := 4
abbrev dzCal : Nat := 5
abbrev dzRdy : Nat := 6

/-- The destination of a message that every device passes on. -/
abbrev toAll : Nat := 8

def State.dzState (s : State) : Nat := s.fld F.DZ_STATUS_STATE
def State.setDz (s : State) (d : DaisyPart) : State := { s with dz := d }

/-- The ring size; 0 before the ring first closes. -/
def State.ringSize (s : State) : Nat := s.fld F.DZ_STATUS_SIZE

/-- The hop into this device (R526); none while the master does not know the ring's size. -/
def State.hopIn (s : State) : Option Nat :=
  if 0 < s.casc then some (s.casc - 1) else if s.ringSize = 0 then none else some (s.ringSize - 1)

/-- What this device declares of itself. -/
def State.dzSelf (s : State) : DzDev := ⟨s.rv Reg.DZ_CAL_TX % 2 ^ 16, s.rv Reg.DZ_BOARD % 2 ^ 16, s.rv Reg.DZ_CAL_RX % 2 ^ 16⟩

/-- A change of state (R529): CAL takes what the device declares as it begins (R541); leaving READY resets the daisy-peer sides (R399) and
what follows the marks. -/
def dzTo (st : Nat) (s : State) : State :=
  let old := s.dzState
  if old = st then s else
  let s0 := (s.setFld F.DZ_STATUS_STATE st).bump Reg.DZ_EVT
  let s1 := s0.setDz { s0.dz with since := s.now, self := if st = dzCal then s.dzSelf else s0.dz.self }
  if old = dzRdy then
    forEach (List.range 8) (fun s k => sideReset (16 + k) s) (s1.setDz { s1.dz with eps := [], sent := none, mark := none })
  else s1

abbrev dzTimeoutC : Nat := 1
abbrev dzOrderC : Nat := 2
abbrev dzLostC : Nat := 3
abbrev dzResidC : Nat := 4
abbrev dzDriftC : Nat := 5
abbrev dzSizeC : Nat := 6
abbrev dzStrapC : Nat := 7

/-- DAISY_LINK with its cause, the state at the time and the hop concerned (R541); where no one hop is concerned the field is open. -/
def dzFault (cause : Nat) (hop : Option Nat) (s : State) : State :=
  let r := match hop with
    | some h => (h, s)
    | none => s.draw
  (r.2.bump Reg.DZ_ERR_EVT).sendFault srcDaisy kDaisyLink (cause + 16 * s.dzState + 256 * (r.1 % 8))

/-- The ring breaks: `lost` of the remote commands not yet delivered are lost and counted (R539). -/
def dzBreak (lost : Nat) (s : State) : State :=
  let n := min lost s.dz.cmds.length
  let s1 := forEach (List.range n) (fun s _ => wRefuse (s.bump16 Reg.DZ_CMD_LOST)) s
  (s1.setFlag F.DZ_STATUS_RING_CLOSED false).setDz { s1.dz with cmds := [] }

/-- The lane restarts from SIGNAL. -/
def dzToSignal (s : State) : State := dzTo dzSignal (s.setDz { s.dz with locked := false })

/-- OFF: DZ_OUT electrically idle (R529). -/
def dzOff (lost : Nat) (s : State) : State :=
  if s.dzState = dzOffSt then s else dzTo dzOffSt (dzBreak lost (s.setDz { s.dz with locked := false }))

/-- OFF to SIGNAL: EN = 1 in L0 with APLL0 LOCKED (R525, R529). -/
def dzUp (s : State) : State :=
  if s.dzState = dzOffSt && s.flag F.DZ_CTRL_EN && !s.flag F.DZ_STATUS_STRAP_ERR && s.blockOn 15 && decide (3 ≤ s.apllState 0) then
    dzTo dzSignal s else s

/-- DZ_CTRL (R541). -/
def landDzCtrl (v : Word) (lost : Nat) (s : State) : State :=
  let s1 := s.setReg Reg.DZ_CTRL (v &&& 0x1f)
  if v.getLsbD 0 then dzUp s1 else dzOff lost s1

/-- A word-locked master sends DISCOVER with a count of 1 (R529). -/
def dzLocked (s : State) : State :=
  if s.dzState = dzWordlock then
    let s1 := s.setDz { s.dz with locked := true }
    if s.dzMaster then dzEmit toAll (.discover 1) s1 else s1
  else s

/-- The ring has closed with `n` devices: on to CAL where every device keeps its coefficients, else to TRAIN (R529). -/
def dzClose (n : Nat) (coef : Bool) (s : State) : State :=
  let s1 := (s.setFld F.DZ_STATUS_SIZE n).setFlag F.DZ_STATUS_RING_CLOSED true
  dzTo (if coef && s.flag F.DZ_COEF_VALID then dzCal else dzTrain) s1

/-- A DISCOVER word arrives (R529); on a member `size` is the size of the ring if it then closes. -/
def dzDiscover (count size : Nat) (coef : Bool) (s : State) : State :=
  if s.dzState != dzWordlock || !s.dz.locked then s
  else if s.dzMaster then
    let e := s.fld F.DZ_CTRL_EXPECT
    if e ≠ 0 ∧ count ≠ e then dzToSignal (dzFault dzSizeC none s) else dzClose count coef s
  else if count ≠ s.casc then dzToSignal (dzFault dzOrderC s.hopIn s)
  else
    let s1 := dzEmit toAll (.discover (count + 1)) s
    if size = 0 then s1 else dzClose size coef s1

/-! ### Calibration (R531, R532) -/

/-- The declared delay of each hop. -/
def declared (devs : List DzDev) : List Int :=
  let n := devs.length
  let dev := fun h => devs.getD h ⟨0, 0, 0⟩
  (List.range n).map (fun h => (((dev h).tx + (dev h).board + (dev ((h + 1) % n)).rx : Nat) : Int))

/-- ε of a round trip: what the hops took beyond their declared sum. -/
def roundEps (devs : List DzDev) (trip : Int) (res : List Int) : Int :=
  trip - res.foldl (· + ·) 0 - (declared devs).foldl (· + ·) 0

/-- The hop delays: ε shared in proportion to the board delays, or equally where every one is zero. -/
def hopDelays (devs : List DzDev) (eps : Int) : List Int :=
  let n := devs.length
  let sum := devs.foldl (fun acc d => acc + d.board) 0
  (List.range n).map (fun h =>
    (declared devs).getD h 0 +
      (if sum = 0 then roundDiv eps (max 1 n) else roundDiv (eps * ((devs.getD h ⟨0, 0, 0⟩).board : Int)) sum))

def State.residMax (s : State) : Nat := s.rv Reg.DZ_RESID_MAX % 2 ^ 16
def setHopIn (v : Int) (s : State) : State := s.setFld ⟨Reg.DZ_HOP_IN, 0, 24⟩ (unsigned 24 v)

/-- Every VALID local record of a member is sent to the master again (R538). -/
def resync (s : State) : State :=
  forEach (List.range 32) (fun s k =>
    let c := 32 * s.casc + k
    if s.flag (F.FLT_VALID c) then dzSend 0 (.fault c (s.fld (F.FLT_KIND c)) (s.rv (Reg.FLT_REC c)) false true) s else s) s

/-- CAL ends (R531): the master shares ε, sends each hop delay to its device, and takes its own; a member takes the `hop` it was sent. -/
def dzCalEnd (trip : Int) (res : List Int) (members : List DzDev) (hop : Nat) (s : State) : State :=
  if s.dzState != dzCal then s
  else if s.dzMaster then
    let devs := s.dz.self :: members
    let eps := roundEps devs trip res
    let hops := hopDelays devs eps
    let n := devs.length
    let high := decide (s.residMax < eps.natAbs)
    let s1 := s.setDz { s.dz with devs := devs, hops := hops, calHops := hops, eps := [], target := (hops.getD (n - 1) 0).toNat }
    let s2 := (s1.setRv Reg.DZ_EPS (unsigned 32 eps)).setFlag F.DZ_STATUS_EPS_HIGH high
    let s3 := setHopIn (hops.getD (n - 1) 0) (if high then dzFault dzResidC none s2 else s2)
    let s4 := forEach (List.range (n - 1)) (fun s h => dzEmit (h + 1) (.hop h (hops.getD h 0).toNat) s) s3
    dzTo dzRdy s4
  else
    let s1 := setHopIn hop ((s.setRv Reg.DZ_EPS 0).setDz { s.dz with target := hop })
    resync (dzTo dzRdy s1)

/-- DZ_HOP_IN moves towards its target by at most 1 ps, once per second (R532). -/
def hopMove (s : State) : State :=
  let v := s.fld ⟨Reg.DZ_HOP_IN, 0, 24⟩
  let w := if v < s.dz.target then v + 1 else if s.dz.target < v then v - 1 else v
  if w = v then s else s.setFld ⟨Reg.DZ_HOP_IN, 0, 24⟩ w

/-- A hop delay from the mean ε that differs from the one in force by more than 2 ps is sent; leaving the value of CAL by more than
DZ_RESID_MAX sends DRIFT (R532). -/
def hopUpdate (new : List Int) (s : State) (h : Nat) : State :=
  let v := new.getD h 0
  let old := s.dz.hops.getD h 0
  let cal := s.dz.calHops.getD h 0
  if (v - old).natAbs ≤ 2 then s else
  let n := s.dz.devs.length
  let s1 := s.setDz { s.dz with hops := s.dz.hops.set h v, target := if h + 1 = n then v.toNat else s.dz.target }
  let s2 := if h + 1 = n then s1 else dzSend (h + 1) (.hop h v.toNat) s1
  if s.residMax < (v - cal).natAbs ∧ (old - cal).natAbs ≤ s.residMax then dzFault dzDriftC (some h) s2 else s2

/-- The mark returns to the master (R532): ε over the last 16 marks. -/
def markReturn (t : Nat) (trip : Int) (res : List Int) (s : State) : State :=
  if !s.dzReady || !s.dzMaster then s else
  let s0 := if s.chRuns 23 then selectedEdge 23 false t s else s
  let l := (roundEps s.dz.devs trip res :: s.dz.eps).take 16
  let s1 := s0.setDz { s0.dz with eps := l }
  let s2 := if l.length < 16 then s1 else
    let mean := roundDiv (l.foldl (· + ·) 0) 16
    (List.range s1.dz.devs.length).foldl (hopUpdate (hopDelays s1.dz.devs mean)) (s1.setRv Reg.DZ_EPS (unsigned 32 mean))
  hopMove s2

/-! ### Time transfer (R533, R534) -/

/-- One 66-bit block of the lane, 6.4 ns, in 2⁻³² ns, rounded up (R527). -/
abbrev dzBlock : Nat := 27487790695

/-- The master sends the second mark; `ofs` is its departure after the top of the TS0 second, less than one lane block, 2⁻³² ns (R533). -/
def secondMark (ofs : Nat) (s : State) : State :=
  if !s.dzReady || !s.dzMaster || !(s.tsp 0).run then s else
  let at_ := tsSecOf (s.tsp 0).acc * 2 ^ 64 + ofs % dzBlock
  dzSend toAll .mark (s.setDz { s.dz with sent := some (s.dz.seq, at_), seq := (s.dz.seq + 1) % 2 ^ 16 })

/-- Octet 2 of the time block (R533). -/
def State.dzQuality (s : State) : Nat :=
  let st := s.dpllState 0
  let ql := match s.dpllRef 0 with
    | some i => if st = 0 ∨ st = 4 then 15 else s.fld (F.REF_QL_QL_RANK i)
    | none => 15
  ql + 16 * st + (if s.tsTraceable 0 then 128 else 0)

/-- The time block for the mark `seq` that left at `at_` (R533). -/
def timeBlock (seq at_ : Nat) (s : State) : List Byte :=
  let u := s.tsUtc 0
  let leap := u / 2 ^ 16 % 8
  leBytes 2 seq ++ leBytes 1 s.dzQuality ++ leBytes 1 leap ++ leBytes 2 (u % 2 ^ 16) ++ leBytes 2 0 ++ leBytes 8 (at_ / 2 ^ 64)
    ++ leBytes 4 (at_ / 2 ^ 32) ++ leBytes 4 at_ ++ leBytes 8 0 ++ leBytes 4 (s.tsErr 0)
    ++ leBytes 8 (if leap % 2 = 1 then s.quant (Reg.TS_LEAP_AT 0) 2 else 0) ++ leBytes 4 0

/-- The master sends the time block of its last mark. -/
def timeBlockSend (s : State) : State :=
  match s.dz.sent with
  | some (seq, at_) =>
    if s.dzReady && s.dzMaster then
      (dzSend toAll (.time (timeBlock seq at_ s)) (s.setDz { s.dz with sent := none })).setRv Reg.DZ_SEQ seq
    else s
  | none => s

/-- A member receives the mark: stamped on CH23 at `t`, forwarded, its residence `res` in 2⁻¹⁶ ns known as it leaves. -/
def markArrival (t res : Nat) (s : State) : State :=
  if !s.dzReady || s.dzMaster then s else
  let on := s.chRuns 23
  let s1 := if on then selectedEdge 23 false t s else s
  dzSend toAll .mark (s1.setDz { s1.dz with mark := some (if on then some t else none, res) })

/-- Stock firmware on a time block (R534): DSY's rank, TS0 from the first block after a reset, and the UTC offset and leap. -/
def fwTime (b : List Byte) (s : State) : State :=
  if s.seState != 4 then s else
  let le := fun (o n : Nat) => leVal ((b.drop o).take n)
  let s1 := s.setFld (F.REF_QL_QL_RANK 21) (le 2 1 % 16)
  let s2 := if s1.dz.timeSet then s1 else
    landTsCmd 0 1 ((s1.setDz { s1.dz with timeSet := true }).setQuant (Reg.TS_ARG 0) 4 (le 20 4 + 2 ^ 32 * le 16 4 + 2 ^ 64 * le 8 8))
  let s3 := landTsUtcCfg 0 (BitVec.ofNat 32 (le 4 2)) s2
  if le 3 1 % 2 = 1 then
    ((s3.setQuant (Reg.TS_LEAP_AT 0) 2 (le 36 8)).setFlag (F.TS_LEAP_CFG_DIR 0) (le 3 1 / 2 % 2 = 1)).setFlag (F.TS_LEAP_CFG_ARMED 0) true
  else s3

/-- A member takes a time block: it adds its incoming hop and its residence to PATH, forwards it and pairs it with the mark's stamp; the
lane meter's last gate gave `freq`, and `hop` is a hop delay received since (R532–R534). -/
def timeBlockIn (b : List Byte) (freq : Int) (hop : Option Nat) (s : State) : State :=
  match s.dz.mark with
  | none => s
  | some (stamp, res) =>
    if !s.dzReady || s.dzMaster then s else
    let le := fun (o n : Nat) => leVal ((b.drop o).take n)
    let s1 := hopMove (match hop with
      | some h => s.setDz { s.dz with target := h }
      | none => s)
    let h : Int := s1.fld ⟨Reg.DZ_HOP_IN, 0, 24⟩
    let path := signed 64 (le 24 8)
    let out := path + roundDiv (h * 65536) 1000 + res
    let fwd := b.take 24 ++ leBytes 8 (unsigned 64 out) ++ b.drop 32
    let masterT : Int := le 8 8 * (10 ^ 9 * 2 ^ 32) + le 16 4 * 2 ^ 32 + le 20 4 + path * 65536 + roundDiv (h * 2 ^ 32) 1000
    let pair := match stamp with
      | some t => some (t, masterT)
      | none => s1.dz.pair
    let s2 := dzSend toAll (.time fwd) (s1.setDz { s1.dz with mark := none, pair := pair })
    let s2 := s2.setRefp 21 { s2.refp 21 with pub := s2.tiu.count }
    let s3 := (s2.setRv Reg.DZ_PATH (unsigned 32 (roundDiv (path * 1000) 65536 + h))).setQuant Reg.DZ_FREQ 2 (unsigned 64 freq)
    fwTime b ((s3.setRv Reg.DZ_MASTER (le 2 4 &&& 0xffff07ff)).setRv Reg.DZ_SEQ (le 0 2))

/-! ### Tunnels (R537) -/

/-- A block, or a SENDER_RESET marker, arrives on channel `n` from device `x`. -/
def tunnelIn (x n : Nat) (marker : Bool) (octets : List Byte) (ctl : Nat) (s : State) : State :=
  match s.mbAccess n (16 + x) with
  | .side d =>
    if marker then mbMark n d s
    else
      let s1 := (List.range 16).foldl (fun s j => mbBlk n j (BitVec.ofNat 32 (leVal ((octets.drop (4 * j)).take 4))) d s) s
      mbCtl n (BitVec.ofNat 32 (ctl / 2 * 2 + 1)) d s1
  | .foreign => dzSend x (.peerReset n) s
  | .off => dzSend x (.peerReset n) (mbOff n (16 + x) s)

/-- A release of channel `n` returns from device `x`, or word that it was discarded or its receiver reset. -/
def tunnelBack (x n : Nat) (reset : Bool) (s : State) : State :=
  match s.mbSide n (16 + x) with
  | some d =>
    let e := 1 - d
    if reset then mbDiscard n e s else if s.mbGo n e then mbRelease n e s else s
  | none => s

/-! ### Remote faults and clears (R538) -/

/-- A member's message of source code `c` reaches the master. -/
def remoteFault (c kind addr : Nat) (loss again : Bool) (s : State) : State :=
  if !s.dzMaster || c < 32 then s
  else if again && s.flag (F.FLT_VALID c) then s
  else fltAccept c kind addr loss s

/-- The records that a clear names: one, or every one of its device. -/
def clearNamed (v : Nat) (s : State) : State :=
  if v.testBit 8 then forEach (List.range 32) (fun s k => fltClear (v % 256 / 32 * 32 + k) s) s else fltClear (v % 256) s

/-- DZ_FLT_CLEAR: refused on a member and while the ring is not READY; `lost` where the ring breaks before it arrives. -/
def landDzFltClear (v : Nat) (lost : Bool) (s : State) : State :=
  if !s.dzMaster || !s.dzReady then s.bump16 Reg.DZ_CMD_REF
  else if lost then s.bump16 Reg.DZ_CMD_LOST
  else
    let k := v % 256 / 32
    clearNamed v (if k = 0 then s else dzSend k (.fltClear (v % 256) (v.testBit 8)) s)

/-! ### Commands of DZ_CMD (R541) -/

/-- RESTART: refused outside L0. -/
def dzRestart_ (lost : Nat) (s : State) : State :=
  if s.rung ≠ 0 then s.bump16 Reg.DZ_CMD_REF
  else if s.dzState = dzOffSt then s
  else dzToSignal (dzBreak lost (dzEmit toAll .ringBroken (s.setFlag F.DZ_COEF_VALID false)))

/-- RECAL: refused on a member and outside READY; `ring` for the master's word arriving on a member. -/
def dzRecal_ (ring : Bool) (s : State) : State :=
  if ring then (if s.dzReady && !s.dzMaster then dzTo dzCal s else s)
  else if !s.dzMaster || !s.dzReady then s.bump16 Reg.DZ_CMD_REF
  else dzTo dzCal (dzEmit toAll .recal s)

/-- DZ_CMD; `lost` as in DZ_RESTART. -/
def landDzCmd (v lost : Nat) (s : State) : State := if v % 16 = 1 then dzRestart_ lost s else if v % 16 = 2 then dzRecal_ false s else s

/-! ### Meanings -/

/-- DZ_CTRL_WRITE: `v` lands; `lost` remote commands had not been delivered when the ring broke. -/
def execDzCtrlWrite (v : Word) (lost : Nat) (s : State) : Host.Outcome State Fault Refusal := fin (whenOn 15 (landDzCtrl v lost) s)

/-- DZ_SIGNAL_PRESENT. -/
def execDzSignalPresent (s : State) : Host.Outcome State Fault Refusal := fin (if s.dzState = dzSignal then dzTo dzBitlock s else s)

/-- DZ_BITLOCK. -/
def execDzBitlock (s : State) : Host.Outcome State Fault Refusal := fin (if s.dzState = dzBitlock then dzTo dzWordlock s else s)

/-- DZ_WORDLOCK. -/
def execDzWordlock (s : State) : Host.Outcome State Fault Refusal := fin (dzLocked s)

/-- DISCOVER. -/
def execDiscover (count : BitVec 8) (size : Fin 9) (coef : Bool) (s : State) : Host.Outcome State Fault Refusal :=
  fin (dzDiscover count.toNat size.val coef s)

/-- The limit of a state, in ps: 5 ms in BITLOCK and to block lock in WORDLOCK, N × 150 ms in TRAIN, 100 ms + N × 40 ms in CAL (R529). -/
def State.dzLimit (s : State) : Nat :=
  if s.dzState = dzTrain then s.ringSize * 150000000000
  else if s.dzState = dzCal then 100000000000 + s.ringSize * 40000000000
  else 5000000000

/-- DZ_TRAIN_DONE: the coefficients agreed for this device's transmitter. -/
def execDzTrainDone (pre main post : BitVec 6) (s : State) : Host.Outcome State Fault Refusal :=
  fin (if s.dzState = dzTrain then
    dzTo dzCal (s.setRv Reg.DZ_COEF (pre.toNat + 2 ^ 8 * main.toNat + 2 ^ 16 * post.toNat + 2 ^ 24))
  else s)

/-- DZ_CAL_DONE: on the master the mean round trip, the mean residences and what the members declare; on a member the hop delay sent. -/
def execDzCalDone (trip : Int) (res : List Int) (members : List (Nat × Nat × Nat)) (hop : Nat) (s : State) : Host.Outcome State Fault Refusal :=
  fin (dzCalEnd trip res (members.map (fun d => ⟨d.1, d.2.1, d.2.2⟩)) hop s)

/-- RING_BROKEN: a word-locked device passes it on; TRAIN, CAL and READY return to WORDLOCK (R527, R529). -/
def execRingBroken (lost : Nat) (s : State) : Host.Outcome State Fault Refusal :=
  fin (if dzTrain ≤ s.dzState ∧ s.dzState ≤ dzRdy then dzTo dzWordlock (dzBreak lost (dzEmit toAll .ringBroken s))
  else if s.dzState = dzWordlock && s.dz.locked then dzEmit toAll .ringBroken s else s)

/-- DZ_LOCK_LOST. -/
def execDzLockLost (lost : Nat) (s : State) : Host.Outcome State Fault Refusal :=
  fin (if s.dzState = dzRdy then dzToSignal (dzBreak lost (dzEmit toAll .ringBroken (dzFault dzLostC s.hopIn s))) else s)

/-- DZ_STATE_TIMEOUT: the limit of state `st`, counted from its entry, expires; in WORDLOCK it is that to block lock. -/
def execDzStateTimeout (st : Fin 8) (s : State) : Host.Outcome State Fault Refusal :=
  fin (if s.dzState = st.val && decide (dzBitlock ≤ st.val) && decide (st.val ≤ dzCal) && !(st.val = dzWordlock && s.dz.locked)
      && decide (s.dz.since + s.dzLimit ≤ s.now) then
    dzToSignal (dzBreak 0 ((dzFault dzTimeoutC s.hopIn s).bump16 Reg.DZ_RETRY))
  else s)

/-- DZ_RESTART. -/
def execDzRestart (m : Master) (lost : Nat) (s : State) : Host.Outcome State Fault Refusal :=
  fin (writes m (dzRestart_ lost) s)

/-- DZ_RECAL. -/
def execDzRecal (ring : Bool) (s : State) : Host.Outcome State Fault Refusal := fin (whenOn 15 (dzRecal_ ring) s)

/-- SECOND_MARK. -/
def execSecondMark (ofs : Nat) (s : State) : Host.Outcome State Fault Refusal := fin (secondMark ofs s)

/-- SECOND_MARK_ARRIVAL. -/
def execSecondMarkArrival (t res : Nat) (s : State) : Host.Outcome State Fault Refusal := fin (markArrival t res s)

/-- MARK_RETURN. -/
def execMarkReturn (t : Nat) (trip : Int) (res : List Int) (s : State) : Host.Outcome State Fault Refusal := fin (markReturn t trip res s)

/-- TIME_BLOCK_SEND. -/
def execTimeBlockSend (s : State) : Host.Outcome State Fault Refusal := fin (timeBlockSend s)

/-- TIME_BLOCK. -/
def execTimeBlock (b : List Byte) (freq : Int) (hop : Option Nat) (s : State) : Host.Outcome State Fault Refusal :=
  fin (timeBlockIn b freq hop s)

/-- The 900 ms within which the time block of a mark stamped at `t` counts, in TCLK counts (R534), are over. -/
def State.dsyOver (s : State) (t : Nat) : Bool := decide (450000000 ≤ s.since (t / 65536))

/-- DSY_DEADLINE: 900 ms after its stamp the mark is unused (R534). -/
def execDsyDeadline (s : State) : Host.Outcome State Fault Refusal :=
  fin (s.setDz { s.dz with mark := s.dz.mark.map (fun m => (m.1.filter (fun t => !s.dsyOver t), m.2)) })

/-- TUNNEL_BLOCK_ARRIVAL: on MB12 + `c`, from device `x`. -/
def execTunnelBlockArrival (x : Fin 8) (c : Fin 4) (marker : Bool) (octets : List Byte) (ctl : Word) (s : State) : Host.Outcome State Fault Refusal :=
  fin (if s.dzReady then tunnelIn x.val (12 + c.val) marker octets ctl.toNat s else s)

/-- TUNNEL_RELEASE_ARRIVAL. -/
def execTunnelReleaseArrival (x : Fin 8) (c : Fin 4) (reset : Bool) (s : State) : Host.Outcome State Fault Refusal :=
  fin (if s.dzReady then tunnelBack x.val (12 + c.val) reset s else s)

/-- REMOTE_FAULT_ARRIVAL. -/
def execRemoteFaultArrival (c : Fin 256) (kind : BitVec 6) (addr : BitVec 24) (loss again : Bool) (s : State) : Host.Outcome State Fault Refusal :=
  fin (if s.hostOn then remoteFault c.val kind.toNat addr.toNat loss again s else s)

/-- DZ_FLT_CLEAR. -/
def execDzFltClear (c : Fin 256) (allPeer lost : Bool) (s : State) : Host.Outcome State Fault Refusal :=
  fin (whenOn 15 (landDzFltClear (c.val + (if allPeer then 256 else 0)) lost) s)

/-- REMOTE_COMMAND_ARRIVAL: the WHISTLE word that device `x` issued or, with `clear`, the master's DZ_FLT_CLEAR word (R538, R539). -/
def execRemoteCommandArrival (x : Fin 8) (v : Word) (clear : Bool) (s : State) : Host.Outcome State Fault Refusal :=
  fin (if s.dzReady then (if clear then clearNamed v.toNat s else wLocal v.toNat false (some x.val) s) else s)

/-- REMOTE_COMPLETION_REPORT: of the command `v`, with its duration (R539). -/
def execRemoteCompletionReport (v : Word) (ns : BitVec 16) (s : State) : Host.Outcome State Fault Refusal :=
  fin (if s.dzReady then
    let s1 := s.setDz { s.dz with cmds := s.dz.cmds.erase v.toNat }
    ((s1.bump Reg.WHISTLE_EVT).setReg Reg.WHISTLE_LAST v).setRv Reg.WHISTLE_TIME ns.toNat
  else s)

end Sys2Proof.Machine
end

