-- ==== Sys2Proof/Machine/Pcie.lean ====
section
/-! DEFINITION. The PCIe endpoint (R13, R71, R408, R514, R519): resets, link down and up, D3hot, and the masks of its MSI-X vectors. -/

namespace Sys2Proof.Machine

/-- The identity that the endpoint presents at offset `o` of its configuration space (R2, R408): vendor and device ID, class code and
revision ID, the types of BAR 0, BAR 2 and BAR 4 (64-bit memory, not prefetchable), the subsystem's IDs; no interrupt pin. -/
def pcieIdentity (o : Nat) : Word :=
  match o with
  | 0x00 => 0x92401f0b
  | 0x08 => 0x118000b0
  | 0x10 => 0x4
  | 0x18 => 0x4
  | 0x20 => 0x4
  | 0x2c => 0x92401f0b
  | _ => 0

/-- The endpoint's own reset: MSI-X disabled, its table and pending bits cleared, D0 (R71, R514). -/
def endpointReset (s : State) : State :=
  { s with irq := { s.irq with mask := 0xffffffff, pend := 0, fresh := 0xffffffff, enabled := false, d3hot := false, table := [] } }

/-- A reset of the endpoint or link down: the HOST_PCIE side of every mailbox resets and a moving DMA channel halts (R399, R424, R514). -/
def endpointDown (linkStays perst : Bool) (s : State) : State :=
  let s1 := sideReset 1 (dmaLinkDown s)
  let s2 := endpointReset s1
  { s2 with irq := { s2.irq with linkL0 := linkStays && s2.irq.linkL0, perstLow := perst } }

/-- Sending is possible: the pending bit of each vector whose condition has fallen clears, and each unmasked vector that waits sends (R71). -/
def sendAll (s : State) : State :=
  if s.canSend then State.flushPend { s with irq := { s.irq with pend := s.irq.pend &&& s.hostConds } } (List.range 32) else s

/-- The endpoint can send again: link in L0, function in D0, MSI-X enabled; what waits is sent or cleared (R71). -/
def sendResume (s : State) : State :=
  if !s.hostOn || 2 < s.rung || s.irq.perstLow then s else
  sendAll { s with irq := { s.irq with linkL0 := true, d3hot := false, enabled := true } }

/-- PCIE_RESET (R514): 0 fundamental (PCIE_PERST_N low), 1 hot reset, 2 function-level reset. -/
def execPcieReset (kind : Fin 3) (s : State) : Host.Outcome State Fault Refusal :=
  fin (if s.hostOn then endpointDown (decide (kind.val = 2)) (if kind.val = 0 then true else s.irq.perstLow) s else s)

/-- PCIE_LINK_DOWN (R399, R424, R514). -/
def execPcieLinkDown (s : State) : Host.Outcome State Fault Refusal := fin (if s.hostOn then endpointDown false s.irq.perstLow s else s)

/-- PCIE_LINK_UP (R519): PCIE_PERST_N is high and the link has trained; the endpoint answers configuration. -/
def execPcieLinkUp (s : State) : Host.Outcome State Fault Refusal :=
  fin (if s.hostOn && s.rung ≤ 2 then sendAll { s with irq := { s.irq with linkL0 := true, perstLow := false } } else s)

/-- HOST_CLOCK_FAILOVER (R13): the host island goes on at TBCLK × 5 and the endpoint follows its link-down rules. -/
def execHostClockFailover (s : State) : Host.Outcome State Fault Refusal :=
  fin (if s.hostOn && s.irq.refClk then endpointDown false s.irq.perstLow { s with irq := { s.irq with refClk := false } } else s)

/-- MSIX_MASK (R71): vector `v` is masked, or MSI-X is disabled where `v` is none. -/
def execMsixMask (v : Option (Fin 32)) (s : State) : Host.Outcome State Fault Refusal :=
  fin (if s.hostOn then { s with irq := match v with
    | some v => { s.irq with mask := s.irq.mask ||| BitVec.ofNat 32 (2 ^ v.val) }
    | none => { s.irq with enabled := false } } else s)

/-- Vector `v` is unmasked (R71). -/
def msixUnmask (v : Nat) (s : State) : State :=
  State.flushPend { s with irq := { s.irq with mask := s.irq.mask &&& ~~~(BitVec.ofNat 32 (2 ^ v)) } } [v]

/-- MSIX_UNMASK (R71). -/
def execMsixUnmask (v : Fin 32) (s : State) : Host.Outcome State Fault Refusal := fin (if s.hostOn then msixUnmask v.val s else s)

/-- MSIX_SEND_RESUME (R71). -/
def execMsixSendResume (s : State) : Host.Outcome State Fault Refusal := fin (sendResume s)

/-- D3HOT_ENTRY (R71, R408). -/
def execD3hotEntry (s : State) : Host.Outcome State Fault Refusal := fin (if s.hostOn then { s with irq := { s.irq with d3hot := true } } else s)

end Sys2Proof.Machine
end

