-- ==== Sys2Proof/Machine/Rung.lean ====
section
/-! DEFINITION. The power ladder (R479–R491): requests and wakes, each step down and up with what survives it, the rest cadence and the
heater in L3; with the lock of APLL0, which starts the fabric (R266, R332, R464, R470). -/

namespace Sys2Proof.Machine

/-! ### Starting FCLK -/

/-- Each port measures the phase of its start opportunities at the lock of its transmit PLL: a phase that the spec leaves to the part
(R234). -/
def txPhases (s : State) : State :=
  forEach (List.range 4) (fun s p =>
    let d := s.draw
    (d.2.setRv (Reg.PORT_TX_PHASE p) (d.1 % 2 ^ 16)).setPrt p { s.prt_ p with turn := none }) s

/-- A lock is declared; where it starts FCLK after the fabric was off, test 0x09 runs with the passes `t9` and the master slots wait for
their fill; firmware writes the ports' constants, a running bank restarts, and the daisy link may start (R266, R332, R464, R470, R529). -/
def lockStarts (a band t9 : Nat) (s : State) : State :=
  let kept := s.fab.keep
  let starts := a == 0 && !s.fclkOn
  let s1 := lockDeclared a band s
  if starts && s1.fclkOn then
    let s2 := txPhases (if kept then s1 else keysLost (test9 t9 s1))
    dzUp (itinRestart kept (vendorPorts s2))
  else if a = 0 then dzUp s1 else s1

/-- LOCK_DECLARED (R175): 2.0 ms after the search last started; `band` is the band it chose, and bit 2p + u of `t9` says that pipeline u of
PE p passes test 0x09. -/
def execLockDeclared (a : Fin 4) (band : Fin 64) (t9 : BitVec 8) (s : State) : Host.Outcome State Fault Refusal :=
  fin (if s.apllState a.val == 2 && s.apllAllowed a.val then lockStarts a.val band.val t9.toNat s else s)

/-! ### Moves (R481, R482, R491) -/

def State.target (s : State) : Nat := s.fld F.RUNG_STATUS_TARGET
def State.moving (s : State) : Bool := s.flag F.RUNG_STATUS_MOVING
def setStep (o : Option Nat) (s : State) : State := { s with lad := { s.lad with step := o } }

/-- A move to rung `r` for `cause`: it starts, or retargets the move in progress (R482). -/
def moveTo (r cause : Nat) (s : State) : State :=
  let s1 := if s.moving then s else { s with lad := { s.lad with moveAt := s.now } }
  let s2 := ((s1.setFld F.RUNG_STATUS_TARGET r).setFld F.RUNG_STATUS_CAUSE cause).setFlag F.RUNG_STATUS_WARM_WAIT false
  s2.setFlag F.RUNG_STATUS_MOVING (s.lad.step.isSome || r != s.rung)

/-- The supervisor island is needed: a zeroisation, a commit or a held tamper (R481). -/
def State.supvNeeded (s : State) : Bool :=
  s.flag F.SEC_STATUS_ZEROISING || s.flag F.SEC_STATUS_COMMIT_PEND || s.flag F.SEC_STATUS_TAMPER_HELD

/-- RUNG_REQ (R481, R482); `tie`: a wake event lands in the same always-on cycle. -/
def rungReq (r : Nat) (tie : Bool) (s : State) : State :=
  if 5 ≤ r ∨ (3 ≤ r ∧ s.supvNeeded = true) ∨ (tie = true ∧ s.rung < r) then s.bump16 Reg.RUNG_REF
  else if r = s.rung ∧ s.moving = false then s
  else moveTo r 0 s

/-- The step from rung `a` to rung `b` may start: a move beyond `b` or to it is in progress and no step is. -/
def State.mayStep (s : State) (a b : Nat) : Bool :=
  !s.inReset && s.lad.step.isNone && s.moving && s.rung == a && decide (if a < b then b ≤ s.target else s.target ≤ b)

/-- A step ends in rung `b`; at the target the move ends, and counts (R482, R491). -/
def arrive (b : Nat) (s : State) : State :=
  let s1 := setStep none (s.setFld F.RUNG_STATUS_RUNG b)
  if s1.target = b then
    ((s1.setFlag F.RUNG_STATUS_MOVING false).bump Reg.RUNG_EVT).setRv Reg.RUNG_TIME (min (2 ^ 32 - 1) ((s.now - s.lad.moveAt) / 10 ^ 6))
  else s1

/-- The ration level stands at its target (R43). -/
def State.levelled (s : State) : Bool := s.fld F.RATION_LEVEL_LEVEL_MA == s.fld F.RATION_LEVEL_TARGET_MA

/-! ### Wakes (R488) -/

/-- WAKE_RUNG, with 4–7 acting as 0. -/
def State.wakeRung (s : State) : Nat := let r := s.fld F.WAKE_CFG_WAKE_RUNG; if 4 ≤ r then 0 else r

/-- A wake to rung `r`: never downwards. -/
def wake (r cause : Nat) (s : State) : State :=
  if s.rung < r || (r == s.rung && !s.moving) then s else moveTo r cause s

/-- The wake timer is due (R488). -/
def State.timerDue (s : State) : Bool :=
  s.flag F.WAKE_CFG_TIMER_EN && decide (signed 32 (s.rv Reg.WAKE_AT + 2 ^ 32 - s.now / 10 ^ 12 % 2 ^ 32) ≤ 0)

/-- A timer that is already due when the device arrives in L3 or L4 wakes it at once (R488). -/
def wakeAtOnce (s : State) : State := if s.timerDue then wake s.wakeRung 1 s else s

/-! ### Down (R484, R487) -/

/-- PE `p` drains as for a fabric whistle (R334): what it has committed and reserved leaves, and its instances end. -/
def peDrain (p : Nat) (s : State) : State :=
  let e := s.pe_ p
  let s1 := forEach (List.range e.commits.length) (fun s _ => replyLeave p s) s
  let s2 := forEach (List.range e.resv.length) (fun s _ => origLeave p s) s1
  let s3 := s2.setPe p { s2.pe_ p with runs := false, insts := [], cur := none }
  showLive p ((s3.setEng p { s3.eng_ p with fly := [] }).setFlag (F.PE_STATUS_RUNNING p) false)

/-- Outputs on the way to L1 (R201): those not kept stop; a kept one on APLL0 is handed over where its policy says so, else it stops. -/
def outsToL1 (s : State) : State :=
  let kept := s.keptOuts
  forEach (List.range 16) (fun s o =>
    if !kept.contains o then outStop o s
    else if (s.outp o).grp = 0 && !s.flag (F.OUT_STATUS_HANDED_OVER o) then
      if s.flag (F.OUT_CFG_POLICY o) then
        let h := s.fld (F.OUT_HO_HO_APLL o)
        if h = 0 ∨ s.apllState h < 3 then hoFail o s else s.setOut o { s.outp o with hoPend := true }
      else outStop o s
    else s) s

/-- FCLK and APLL0 stop. -/
def fclkStop (s : State) : State :=
  hoOrphans 0 (((s.setFld (F.APLL_STATUS_STATE 0) 0).setFlag F.FAB_STATUS_FCLK_RUN false).setFlag F.FAB_STATUS_ITIN_RUN false)

/-- The backfill stands in for the fabric and its clock trees as FCLK stops, and the ramp to the level of L1 starts: the trim ramps out
first, then the allowances' cells, then the backfill, which carries what those two leave of the change (R43). -/
def rampDown (s : State) : State :=
  let fall := s.fld F.RATION_LEVEL_LEVEL_MA - s.l1Level
  let fill := max (s.fabDrawn s.itinRuns) (fall - s.trim - s.alwSum)
  let s1 : State := { s with rat := { s.rat with backfillMa := fill, downMa := fill, govMa := s.alwSum } }
  (s1.setFlag F.RATION_STATUS_FABRIC_BACKFILL true).rampTo s.l1Level 0 0

/-- L0 to L1 starts (R484): everything up to the ramp. -/
def down01 (s : State) : State :=
  let s1 := forEach (List.range 4) (fun s p => portDisable p (peDrain p s)) (itinLeaveL0 s)
  let s2 := forEach (List.range 4) (fun s p => sideReset (7 + p) s) (s1.setFlag F.FAB_STATUS_DRAINING false)
  let s3 := if s2.dzReady then dzOff 0 s2 else forEach (List.range 8) (fun s k => sideReset (16 + k) s) (dzOff 0 s2)
  let s4 := dmaOff (fclkStop (outsToL1 s3))
  let s5 : State := { s4 with fab := { s4.fab with keep := true, gateQ := [] } }
  rampDown s5

/-- The fabric island loses power but for the store (R487). -/
def fabricLost (s : State) : State :=
  let s1 := forEach (List.range 4) (fun s p => showOrig p (showLive p ((s.setEng p .reset).setPe p .reset))) s
  let s2 : State := { s1 with
    fab := { s1.fab with mem := [], gateQ := [], smpWay := [], keep := false }, svc := []
    tm := { s1.tm with evGate := s1.tm.evGate.filter (fun e => decide (4 ≤ e.1)), evq := s1.tm.evq.filter (fun e => decide (64 ≤ e.1)) } }
  ((s2.setFlag F.HAMPER_STATUS_READY false).setFlag F.HAMPER_STATUS_INIT false).setFlag F.HAMPER_STATUS_RETAINED false

/-- L1 to L2 (R484). -/
def down12 (s : State) : State :=
  let s1 := fabricLost (apllOff 3 (apllOff 2 (apllOff 1 s)))
  let s2 := arrive 2 (((sideReset 6 s1).setFld F.SE_CLK_SE 25).setFlag F.RATION_STATUS_SUSPENDED true)
  dmaOff (forEach (List.range 24) (fun s n => if s.chPowered n then s else chDiscard n s) (gnssRest s2))

/-- Every posted write still pending is discarded (R25, R484). -/
def discardAll (s : State) : State :=
  forEach (List.range 16) (fun s b =>
    if (Tbl.get (fun _ => none) s.bus.posted b).isSome then
      { s with bus := { s.bus with
        posted := Tbl.set (fun _ => none) s.bus.posted b none
        discarded := Tbl.set (fun _ => false) s.bus.discarded b true } }
    else s) s

/-- The NVS drains before its island powers down: buffer, increments and append (R484). -/
def nvsSettle (s : State) : State :=
  let s0 := forEach (List.range s.nvs.buf.length) (fun s _ => nvsDrain s) s
  let s1 := forEach (List.range s0.nvs.jobs.length) (fun s _ => ctrDone s) (logDone s0)
  showNvs s1

/-- The supervisor island powers down (R487): the SE's memories and firmware, and what the security block holds between commands. -/
def supvLost (s : State) : State :=
  let s1 := chalGone (coEnd (sideReset 4 s))
  { s1.setEng 6 .reset with se := .reset, sec := { s1.sec with stage := [], stOk := false } }

/-- The engines' registers, their store and the loops go (R487): both banks EMPTY, every DPLL in FREERUN. -/
def teLost (s : State) : State :=
  let s1 := itinLost ((s.setEng 4 .reset).setEng 5 .reset)
  let s2 := forEach allPorts (fun s k => if (s.port k).pend.isSome then s.setPort k { s.port k with pend := none } else s) s1
  let s3 := forEach (List.range 8) (fun s d => freerun d false s) s2
  { s3 with tm := { s3.tm with stepReq := [], evGate := [], evq := [] }, flt := { s3.flt with resume := 0 } }

/-- L2 to L3 (R484): the host island goes to TBCLK; back in L2 its clock comes from the housekeeping PLL until the next reset (DEDUCED, log
235). -/
def down23 (s : State) : State :=
  let s1 := rxOff (supvLost (nvsSettle s))
  let s2 := endpointDown false s1.irq.perstLow (sideReset 5 (teLost (discardAll s1)))
  let s3 : State := { s2 with irq := { s2.irq with refClk := false } }
  wakeAtOnce (arrive 3 (s3.setFlag F.MTC_STATUS_SLOW true))

/-- Crystal ticks of AO_TIME: 32,768 per second since VDD_AO first rose (R488). -/
def State.aoTicks (s : State) : Nat := s.now * 32768 / 10 ^ 12

/-- What the channels hold is lost with the host island; bindings, counters and acknowledge copies stay (R487). -/
def mbLost (s : State) : State :=
  forEach (List.range 16) (fun s n =>
    let s1 := s.setRv (Reg.MB_STATUS n) 0
    if isBlockCh n then forEach [0, 1] (fun s d => forEach (List.range 17) (fun s j => s.setRv (Reg.BLK n d j) 0) s) s1 else s1)
    { s with mb := [] }

/-- L3 to L4 ends (R163, R484, R487): AO_TIME is latched and the host island goes. -/
def down34 (s : State) : State :=
  let s1 := mbLost s
  wakeAtOnce (arrive 4 { s1 with
    lad := { s1.lad with aoTicks := s1.aoTicks }
    tm := { s1.tm with pin := [] }
    bus := { s1.bus with guard := [], snap := [], stage := [], posted := [] } })

/-! ### Up (R489) -/

/-- A trigger after the rebuilt time (R163, R165). -/
def trgCatch (s : State) (i : Nat) : State :=
  let v := s.trg i
  if !s.flag (F.TRG_STATUS_ARMED i) then s
  else if v.per then
    let need := ((s.tsp v.ts).acc : Int) + s.tsAdvance v.ts 100
    let k := periodsFor (need - v.f) v.period
    if k = 0 then s else
    let s1 := (s.setFlag (F.TRG_STATUS_LATE i) true).setFld (F.TRG_STATUS_MISSED i) (min 0xffff (s.fld (F.TRG_STATUS_MISSED i) + k))
    showNext i (s1.setTrg i { v with f := v.f + k * v.period })
  else if v.f < (s.tsp v.ts).acc then trgAfter i ((trgFire i s).setFlag (F.TRG_STATUS_LATE i) true)
  else s

/-- The MTC and the timescales resume with the time that the crystal counted, at its frequency last measured on CH21; the rung term grows
by 5 ppm of the time and 31 µs (R30, R163). -/
def timeRebuild (s : State) : State :=
  let ticks := s.aoTicks - s.lad.aoTicks
  -- a tick lasts 1 / 32,768 s times 1 + y; in 2⁻⁴⁰ ns
  let el : Nat := (ticks * 10 ^ 9 * ((2 ^ 48 : Nat) + s.tiu.xtalY)).toNat * 2 ^ 40 / (32768 * 2 ^ 48)
  let s1 := s.setMtc (s.tm.mtc + el)
  let s2 := forEach (List.range 16) (fun s t =>
    let v := s.tsp t
    if v.run then s.setTs t { v with acc := tsWrap ((v.acc + el * 2 ^ 48 : Nat) : Int) } else s) s1
  let ps := ticks * 10 ^ 12 / 32768
  let s3 := forEach (List.range 8) (fun s d => s.setDpll d { s.dpll_ d with rung := (s.dpll_ d).rung + 5 * ps + 31 * 10 ^ 12 }) s2
  (List.range 16).foldl trgCatch (s3.setFlag F.MTC_STATUS_RESTORED true)

/-- L4 to L3 (R486, R489): the warm-up starts again. -/
def up43 (s : State) : State :=
  let s1 := arrive 3 ((s.tbFlag F.TB_STATUS_TB_WARM false).setFlag F.TB_STATUS_AT_SETPOINT false)
  timeRebuild s1

/-- The supervisor island powers up: ROM_TEST with the recall and the self-tests (R382, R441, R464); under a whistle that still holds the SE
is HALTED and they run on (R490, R509). -/
def supvUp (s : State) : State :=
  let s0 := (((nvsPowerUp s).setFlag F.SE_STATUS_TRAP_ACTIVE false).setFlag F.SE_STATUS_DOUBLE_TRAP false).setFld F.SE_STATUS_HALT_CAUSE 0
  let s1 := seTo 1 s0
  let s2 := (((s1.setFlag F.SEC_STATUS_ST_RUNNING true).setFlag F.SELFTEST_DONE false).setFlag F.SELFTEST_PASS false)
  let s3 := showApproved ({ s2 with sec := { s2.sec with stOk := false, dead := false } })
  if s3.wHeld 6 0 then seHalt s3 else s3

/-- L3 to L2 starts (R105, R489): the islands and TCLK run at once; the step lasts until ROM_TEST has ended. -/
def up32 (s : State) : State :=
  let s1 := setStep (some 2) (s.setFld F.RUNG_STATUS_RUNG 2)
  supvUp (tclkRestart ((s1.setFlag F.MTC_STATUS_SLOW false).setFld F.SE_CLK_SE 25))

/-- L2 to L1 (R486, R489). -/
def up21 (s : State) : State :=
  let s1 := (s.setFlag F.RUNG_STATUS_WARM_WAIT false).setFld F.SE_CLK_SE 400
  let s2 := arrive 1 (gnssWork (rationResume s1))
  apllWake 3 (apllWake 2 (apllWake 1 s2))

/-- The level of the running image, or that of reset where none runs (R43). -/
def State.l0Level (s : State) : Nat := if s.itinRuns then (s.img s.runBank).ration else (F.RATION_LEVEL_LEVEL_MA).of (regReset Reg.RATION_LEVEL).toNat

/-- L1 to L0 starts (R43, R489): the level ramps, with the backfill ramping in to what it ramped out on the way down, the allowances' cells
to the allowances, and the trim carrying the rest. -/
def up10 (s : State) : State :=
  ((setStep (some 0) s).setFlag F.RATION_STATUS_FABRIC_BACKFILL true).rampTo s.l0Level s.rat.downMa s.alwSum

/-- Every condition of R483 holds. -/
def State.hikeReady (s : State) : Bool :=
  s.levelled && decide (3 ≤ s.apllState 0) && s.fclkOn && s.flag F.HAMPER_STATUS_READY && !s.flag F.SEC_STATUS_KEYS_FILLING
    && (List.range 4).all (fun p => s.flag (F.PC_TRACK_SYNC p))

/-- L1 to L0 goes on: APLL0 is searched once the level stands; the ports and the daisy link start when every condition holds. -/
def up10Go (s : State) : State :=
  if s.hikeReady then dzUp (forEach (List.range 4) (fun s p => portReturn p s) (arrive 0 s))
  else if s.levelled then apllWake 0 { s with syn := { s.syn with back := s.syn.back || s.apllState 0 == 0 } } else s

/-! ### Tamper (R474, R488) -/

/-- TAMPER_N is latched (R474, R488): zeroisation in L0–L2, else a wake to L2 and a zeroisation after the recall. -/
def tamper (s : State) : State :=
  let s1 : State := { s with sec := { s.sec with tamperLow := true } }
  if s.inReset then { s1 with sec := { s1.sec with tamperOwed := true } }
  else if s.rung ≤ 2 then tamperNow s.rung s1
  else
    let s2 := (s1.bump Reg.TAMPER_EVT).sendFault srcSec kTamper s.rung
    let s3 := showApproved (s2.setFlag F.SEC_STATUS_TAMPER_HELD true)
    moveTo 2 3 { s3 with sec := { s3.sec with tamperOwed := true } }

/-! ### The rest cadence (R485) -/

/-- TE0's rest lap: selection, DPLL0, and what the boundary applies; the other loops of TE0 keep their words. -/
def restLap (pkt : List PktOut) (delta : List (Fin 4 × Int)) (s : State) : State :=
  let s1 := selectionTick pkt delta (readsBegin 0 (s.setDpll 0 { s.dpll_ 0 with ticked := false }))
  let s2 := if s1.dpllRuns 0 then dpllTick 0 s1 else s1
  lapBoundary 0 (forEach [1, 2, 3] (fun s d => s.setDpll d { s.dpll_ d with wrote := true }) s2)

/-! ### Meanings -/

/-- RUNG_REQ: by master `m`; `tie` with a wake event in the same always-on cycle. -/
def execRungReq (m : Master) (r : Fin 8) (tie : Bool) (s : State) : Host.Outcome State Fault Refusal :=
  fin (writes m (rungReq r.val tie) s)

/-- STEP_L0_TO_L1. -/
def execStepL0ToL1 (s : State) : Host.Outcome State Fault Refusal :=
  let s1 := if s.mayStep 0 1 then setStep (some 1) (down01 s) else s
  fin (if s1.lad.step = some 1 ∧ s1.rung = 0 ∧ s1.levelled = true then arrive 1 s1 else s1)

/-- STEP_L1_TO_L2. -/
def execStepL1ToL2 (s : State) : Host.Outcome State Fault Refusal := fin (if s.mayStep 1 2 then down12 s else s)

/-- STEP_L2_TO_L3. -/
def execStepL2ToL3 (s : State) : Host.Outcome State Fault Refusal :=
  fin (if s.mayStep 2 3 && !s.supvNeeded then down23 s else s)

/-- STEP_L3_TO_L4: it ends only when the heater current is zero (R486). -/
def execStepL3ToL4 (s : State) : Host.Outcome State Fault Refusal :=
  let s1 := if s.mayStep 3 4 then ovenOff (setStep (some 4) s) else s
  fin (if s1.lad.step = some 4 ∧ s1.rung = 3 ∧ s1.rat.htrPa = 0 then down34 s1 else s1)

/-- STEP_L4_TO_L3. -/
def execStepL4ToL3 (s : State) : Host.Outcome State Fault Refusal := fin (if s.mayStep 4 3 then up43 s else s)

/-- STEP_L3_TO_L2. -/
def execStepL3ToL2 (s : State) : Host.Outcome State Fault Refusal :=
  let s1 := if s.mayStep 3 2 then up32 s else s
  fin (if s1.lad.step = some 2 ∧ s1.rung = 2 ∧ s1.seState ≠ 1 ∧ s1.flag F.SELFTEST_DONE = true then arrive 2 s1 else s1)

/-- STEP_L2_TO_L1: the ascent waits for TB_WARM (R486). -/
def execStepL2ToL1 (s : State) : Host.Outcome State Fault Refusal :=
  fin (if s.mayStep 2 1 then (if s.flag F.TB_STATUS_TB_WARM then up21 s else s.setFlag F.RUNG_STATUS_WARM_WAIT true) else s)

/-- STEP_L1_TO_L0. -/
def execStepL1ToL0 (s : State) : Host.Outcome State Fault Refusal :=
  let s1 := if s.mayStep 1 0 then up10 s else s
  fin (if s1.lad.step = some 0 ∧ s1.rung = 1 then up10Go s1 else s1)

/-- WAKE_TIMER. -/
def execWakeTimer (s : State) : Host.Outcome State Fault Refusal :=
  fin (if !s.inReset && decide (3 ≤ s.rung) && s.timerDue then wake s.wakeRung 1 s else s)

/-- I2C_WAKE. -/
def execI2cWake (s : State) : Host.Outcome State Fault Refusal :=
  fin (if !s.inReset && s.rung == 4 && s.flag F.WAKE_CFG_I2C_EN && !s.jtagExt then wake s.wakeRung 2 s else s)

/-- REST_LAP: `m` is the engine whose lap it is, which is TE0. -/
def execRestLap (pkt : List PktOut) (delta : List (Fin 4 × Int)) (m : Fin 2) (s : State) : Host.Outcome State Fault Refusal :=
  fin (if m = 0 ∧ s.rung = 2 ∧ s.teRuns 0 = true then restLap pkt delta s else s)

/-- HEATER_GOVERNOR_UPDATE: with VDD_HTR at `mv` mV; on the way to L4 the heater ramps to zero (R484, R486). -/
def execHeaterGovernorUpdate (mv : Nat) (s : State) : Host.Outcome State Fault Refusal :=
  fin (if !s.inReset && s.rung == 3 then
    heaterStepBy 160000 mv (if s.lad.step = some 4 then ovenOff s else s)
  else s)

/-- TAMPER. -/
def execTamper (s : State) : Host.Outcome State Fault Refusal := fin (tamper s)

end Sys2Proof.Machine
end

