-- ==== Sys2Proof/Machine/Boot.lean ====
section
/-! DEFINITION. Resets and the way to service (R512–R524): what each reset clears and keeps, the release sequence, and COLD_GO. -/

namespace Sys2Proof.Machine

/-! ### Resets (R514–R516) -/

/-- The register words that RESET_N and a rail reset keep in `s` (R64, R457, R488, R514): the wake configuration and RST_COUNT of the always-on
island, and the OTP slots. -/
def keptRegs : List Nat := [Reg.RST_COUNT, Reg.WAKE_CFG, Reg.WAKE_AT] ++ (List.range 8).map Reg.OTP_SLOT

/-- What a reset leaves (R514, R516): everything at its reset value but the store, OTP and the two watched pins; `por` clears the always-on
island as well. -/
def resetTo (por : Bool) (s : State) : State :=
  let b := State.reset
  let b1 : State := { b with
    pending := s.pending, now := if por then 0 else s.now, free := s.free, out := s.out
    irq := { b.irq with perstLow := s.irq.perstLow }
    nvs := { b.nvs with mem := s.nvs.mem, pw := s.nvs.pw, fails := if por then [] else s.nvs.fails, locked := if por then [] else s.nvs.locked }
    sec := { b.sec with
      secret := s.sec.secret, keys := s.sec.keys, hash := s.sec.hash, tamperLow := s.sec.tamperLow
      tamperOwed := !por && s.sec.tamperOwed } }
  let b2 := forEach (if por then (List.range 8).map Reg.OTP_SLOT else keptRegs) (fun b a => b.setReg a (s.reg a)) b1
  let b3 := (b2.setFlag F.WHISTLE_PIN_LEVEL (s.flag F.WHISTLE_PIN_LEVEL)).setFlag F.SEC_STATUS_TAMPER_HELD s.sec.tamperLow
  if por then b3
  else (b3.setFld F.CO_SESSION_FAILS (s.fld F.CO_SESSION_FAILS)).setFlag F.CO_SESSION_AUTH_LOCK (s.flag F.CO_SESSION_AUTH_LOCK)

/-- RESET_N or a rail reset, with the word that RST_CAUSE takes (R514, R524); it reaches the store as a power failure does (R516). -/
def warmReset (cause : Nat) (s : State) : State :=
  if s.inReset then s else ((resetTo false (supplyFails s)).setRv Reg.RST_CAUSE cause).bump16 Reg.RST_COUNT

/-! ### Release (R13, R515, R518, R519, R525) -/

/-- The straps are sampled; a strap error is reported (R525). -/
def straps (master : Bool) (id : Nat) (s : State) : State :=
  let s1 := (s.setFlag F.DZ_STATUS_MASTER master).setFld F.DZ_STATUS_ID id
  if master = (id == 0) then s1 else dzFault dzStrapC none (s1.setFlag F.DZ_STATUS_STRAP_ERR true)

/-- The base that the power-up ramp starts from, mA (R518). -/
abbrev baseMa : Nat := 2950

/-- Step 3 of the release sequence (R43, R518): the level ramps from the base to the reset level, 20 mA in each of 93 windows of 82 TCLK:
the backfill ramps in first, then the allowances' levelling cells, then the trim. The governors' windows run from then on. -/
def currentUp (s : State) : State :=
  let lv := s.fld F.RATION_LEVEL_LEVEL_MA
  let s1 := (s.setFld F.RATION_LEVEL_LEVEL_MA baseMa).setFlag F.RATION_STATUS_FABRIC_BACKFILL true
  let s2 := forEach (List.range 93) (fun s _ => rampStep s) (s1.rampTo lv bootBackfill s1.alwSum)
  rationResume (s2.setFlag F.RATION_STATUS_RAMPING false)

/-- APLL0 is enabled from reset and waits to be searched (R520). -/
def apll0Wait (s : State) : State := (s.setFld (F.APLL_STATUS_STATE 0) 1).setFlag F.BOOT_STATUS_GATED true

/-- Reset release: the register space answers, with the straps `master` and `id`, PCIE_REFCLK present or not and PCIE_PERST_N high or low;
a WHISTLE_N that is still low is latched again (R509). -/
def release (master : Bool) (id : Nat) (refClk perstHigh : Bool) (s : State) : State :=
  let s1 : State := { s with inReset := false, relAt := s.now, irq := { s.irq with perstLow := !perstHigh, refClk := refClk && perstHigh } }
  let s2 := apll0Wait (currentUp (straps master id (supvUp (showKeys s1))))
  if s2.flag F.WHISTLE_PIN_LEVEL then s2 else pinWhistle s2

/-! ### COLD_GO (R521) -/

/-- A BOOT_CMD command lands. -/
def landBootCmd (v : Nat) (s : State) : State :=
  if v % 16 = 1 ∧ s.tbLocked = true ∧ s.flag F.BOOT_STATUS_FCLK_RUN = false then s.setFlag F.BOOT_STATUS_COLD true
  else s.bump16 Reg.BOOT_REF

/-! ### Meanings -/

/-- The OTP slot whose programming the power failure interrupted is DAMAGED (R457): a programming takes at most 1 ms. -/
def otpCut (s : State) : State :=
  match s.sec.otpAt with
  | some (k, t) => if s.now ≤ t + 10 ^ 9 then s.setFld ⟨Reg.OTP_SLOT k, 0, 2⟩ 3 else s
  | none => s

/-- POWER_ON_RESET; `cut`: the power failed before a programming of OTP in the last 1 ms had ended. -/
def execPowerOnReset (cut : Bool) (s : State) : Host.Outcome State Fault Refusal := fin (resetTo true (if cut then otpCut s else s))

/-- RESET_N: RAIL_ID stays that of the last rail reset. -/
def execResetN (s : State) : Host.Outcome State Fault Refusal := fin (warmReset (4 + 256 * s.fld F.RST_CAUSE_RAIL_ID) s)

/-- RAIL_RESET: `rails` are the rails of RAIL_ID below their thresholds. -/
def execRailReset (rails : BitVec 5) (s : State) : Host.Outcome State Fault Refusal :=
  fin (warmReset (2 + 256 * rails.toNat) s)

/-- RESET_RELEASE. -/
def execResetRelease (master : Bool) (id : Fin 8) (refClk perstHigh : Bool) (s : State) : Host.Outcome State Fault Refusal :=
  fin (if s.inReset then release master id.val refClk perstHigh s else s)

/-- COLD_GO, by master `m`. -/
def execColdGo (m : Master) (s : State) : Host.Outcome State Fault Refusal := fin (writes m (landBootCmd 1) s)

end Sys2Proof.Machine
end

