-- ==== Sys2Proof/Machine/Clock.lean ====
section
/-! DEFINITION. One clock edge: what happens to the free-running counters when no command waits (R91, R151, R154, R155, R163, R258, R268). -/

namespace Sys2Proof.Machine

/-- FCLK advances 25 cycles in 16 TCLK: the cycles of this edge, and the sixteenths carried over. -/
def fabEdge (s : State) : State :=
  if s.fclkOn then
    let x := s.fab.frac + 25
    let s1 := { s with fab := { s.fab with frac := x % 16 } }
    pcTick (x / 16) (fabTick (x / 16) s1)
  else s

/-- In L3 each DPLL's rung term grows by 0.3 ppb of the 20 ns that pass (R163). -/
def rungEdge (s : State) : State := forEach (List.range 8) (fun s d => s.setDpll d { s.dpll_ d with rung := (s.dpll_ d).rung + 6 }) s

/-- One edge: of TCLK (2 ns) in rungs L0–L2, of TBCLK (20 ns) in L3; in L4 and under reset 20 ns pass with every counter stopped. -/
def clockEdge (s : State) : State :=
  if s.inReset ∨ 4 ≤ s.rung then { s with now := s.now + 20000 }
  else if s.rung = 3 then settle (rungEdge (timeTick 10 { s with now := s.now + 20000 }))
  else settle (fabEdge (forEach (List.range 4) (fun s a => dcoStep a 2000 s) (tiuTick (timeTick 1 { s with now := s.now + 2000 }))))

end Sys2Proof.Machine
end

