-- ==== Sys2Proof/Machine/Land.lean ====
section
/-! DEFINITION. What a register write does where it takes effect (R51, R64–R66, R68, R71): the quantities of the map, the write-once locks,
the acknowledge copies, HWIN, and the effect of each register that has one. -/

namespace Sys2Proof.Machine

/-! ### Quantities (R65, R66) -/

/-- The words of a row are one quantity: all but the octet arrays SEC_STAGE and LOG_BUF. -/
def Row.quantity (r : Row) : Bool := decide (1 < r.words) && r.base != Reg.LOG_BUF && r.base != 0xd0010

/-- The quantity that the word at BAR 0 address `a` belongs to, as the address of its lowest word and its number of words; the set that
reading TS_TIME latches reaches TS_ERR (R161), COARSE_LO latches COARSE_HI (R107), the lowest word of REG_Y, STAT_MEAN and SOL_TAI latches
the whole set of results (R101, R104, R220), and the words of a common snapshot are read without latching (R161). -/
def quantAt (a : Nat) : Option (Nat × Nat) :=
  if a = Reg.COARSE_LO ∨ a = Reg.COARSE_HI then some (Reg.COARSE_LO, 2)
  else if Reg.TS_TIME 0 ≤ a ∧ a < 0x50c00 ∧ (a - Reg.TS_TIME 0) % 0x80 < 24 then some (a - (a - Reg.TS_TIME 0) % 0x80, 6)
  else if Reg.REG_Y 0 ≤ a ∧ a < Reg.REG_Y 24 ∧ (a - Reg.REG_Y 0) % 0x40 < 32 then some (a - (a - Reg.REG_Y 0) % 0x40, 8)
  else if Reg.STAT_MEAN 0 ≤ a ∧ a < Reg.STAT_MEAN 8 ∧ (a - Reg.STAT_MEAN 0) % 0x40 < 36 then some (a - (a - Reg.STAT_MEAN 0) % 0x40, 9)
  else if Reg.SOL_TAI ≤ a ∧ a ≤ Reg.SOL_SEQ then some (Reg.SOL_TAI, 16)
  else if a = Reg.SOL_LEAP_AT ∨ a = Reg.SOL_LEAP_AT + 4 then some (Reg.SOL_TAI, 16)
  else if (Reg.SNAP_MTC ≤ a ∧ a < Reg.SNAP_MTC + 16) ∨ (Reg.SNAP_TS 0 ≤ a ∧ a < Reg.SNAP_TS 16) then none
  else match rowAt a with
    | some (r, _, w) => if r.quantity then some (a - 4 * w, r.words) else none
    | none => none

/-! ### Acknowledge copies (R68, R71) -/

/-- The vector driven by the enabled source whose acknowledge copy is at `a`. -/
def State.ackVector (s : State) (a : Nat) : Option Nat :=
  if a < 0x100000 then
    let en := s.rv (blkIntEn (a / 0x10000))
    ((blockSrcs (a / 0x10000)).find? (fun r => r.ctrs.any (fun c => c + 4 == a) && en.testBit r.n)).map (fun r => r.vec)
  else
    let n := (a - 0x100000) / 0x400
    let en := s.rv (Reg.MB_INT_EN n)
    if (mbCtrs n).any (fun c => c.2 + 4 == a && en.testBit c.1) then some (mbVector n) else none

/-- After an acknowledge write the source's vector sends again, if its condition was and is 1 (R71). -/
def ackDone (a : Nat) (s : State) : State :=
  match s.ackVector a with
  | some v => if s.irq.hc.getLsbD v && s.hostConds.getLsbD v then s.raise v else s
  | none => s

/-! ### HWIN (R57) -/

/-- The word at HWIN_ADDR is asked for at the host hamper gate; an earlier prefetch is dropped. -/
def hwinFetch (s : State) : State :=
  let s1 := (s.setFlag F.HWIN_STATUS_VALID false).setFlag F.HWIN_STATUS_ECC false
  let q := s1.fab.gateQ.filter (fun r => !r.hwin)
  { s1 with fab := { s1.fab with gateQ := if s1.fclkOn then q ++ [⟨s1.rv Reg.HWIN_ADDR, none, .good, false, true⟩] else q } }

/-- A write to HWIN_ADDR. -/
def hwinAddr (v : Word) (s : State) : State := hwinFetch (s.setReg Reg.HWIN_ADDR (v &&& 0xfffffc))

/-- HWIN_ADDR advances by 4. -/
def hwinNext (s : State) : State := s.setRv Reg.HWIN_ADDR ((s.rv Reg.HWIN_ADDR + 4) % 2 ^ 24)

/-- A write to HWIN_DATA: queued at the gate; while the fabric is unclocked it is discarded as an access to a block that is off. -/
def hwinWrite (m : Nat) (v : Word) (s : State) : State :=
  if s.fclkOn then hwinNext { s with fab := { s.fab with gateQ := s.fab.gateQ ++ [⟨s.rv Reg.HWIN_ADDR, some v, .good, false, false⟩] } }
  else if m = 1 then offAccess s else answer .domainOff [] (offAccess s)

/-- The prefetch in the queue, if no earlier request waits for its ring. -/
def hwinTake : List HamReq → Nat → Option (HamReq × List HamReq)
  | [], _ => none
  | r :: t, used =>
    let k := r.addr / 2 ^ 22 % 4
    if r.hwin then (if used.testBit k then none else some (r, t))
    else (hwinTake t (used ||| 2 ^ k)).map (fun x => (x.1, r :: x.2))

/-- The prefetch completes. -/
def hwinDone (ecc : Ecc) (s : State) : State :=
  if s.hamDark then s else
  match hwinTake s.fab.gateQ 0 with
  | none => s
  | some (r, q) =>
    let w := hamWord r.addr ecc { s with fab := { s.fab with gateQ := q } }
    let s1 := ({ w.2 with bus := { w.2.bus with hwinData := BitVec.ofNat 32 w.1 } }.setFlag F.HWIN_STATUS_VALID true)
    s1.setFlag F.HWIN_STATUS_ECC (ecc == .bad)

/-! ### Plain registers -/

/-- The words are stored from address `a`, each with its writable bits. -/
def storeWords (a : Nat) : List (Word × Nat) → State → State
  | [], s => s
  | (v, m) :: t, s => storeWords (a + 4) t (s.setReg a (v &&& BitVec.ofNat 32 m))

/-- A register without an effect of its own takes its value; a write-once register locks (R64); an acknowledge copy may resend (R71). -/
def landPlain (r : Row) (a : Nat) (ws : List Word) (s : State) : State :=
  match r.acc with
  | .rw | .rw0 | .se => ackDone a (storeWords a (ws.zip r.mask) s)
  | .w1 => (storeWords a (ws.zip r.mask) s).lock a
  | .gd => storeWords a (ws.zip r.mask) s
  | _ => s

/-! ### Registers with an effect, by block -/

/-- Registers of the GLOBAL, RATION, DMA and FAULT blocks; `none` for one without an effect of its own. `i` is the instance, `m` the
master ID, `v` the value. -/
def landNear (r : Row) (i m : Nat) (v : Word) (a q : Nat) (ws : List Word) (s : State) : Option State :=
  let n := v.toNat
  match r.base with
  | 0x20 => some (hwinAddr v s)
  | 0x24 => some (hwinWrite m v s)
  | 0x100 => some (rungReq (n % 8) false (landPlain r a ws s))
  | 0x20c => some (landBootCmd n (landPlain r a ws s))
  | 0x300 => some (landTmuxSel i n s)
  | 0x10020 | 0x10024 | 0x10028 | 0x1002c => some (landAllowance a v s)
  | 0xb0000 | 0xb0004 | 0xb0010 | 0xb0014 =>
    some (dmaOwned m i (landDmaReg i a v (BitVec.ofNat 32 (r.mask.headD 0))) s)
  | 0xb0008 => some (dmaOwned m i (landDmaList i q) s)
  | 0xb0018 => some (dmaOwned m i (landDoorbellDma i v) s)
  | 0xb0028 | 0xb0030 => some (dmaOwned m i (landPlain r a ws) s)
  | 0xb0034 => some (landDmaOwner m i v s)
  | 0xb0414 => some (landHaltClr v (landPlain r a ws s))
  | 0xe000c => some (landFltClear (n % 512) (landPlain r a ws s))
  | 0xe1000 => some (landWhistle m n (landPlain r a ws s))
  | _ => none

/-- Registers of the timekeeping blocks. -/
def landTime (r : Row) (i m : Nat) (v : Word) (a q : Nat) (ws : List Word) (s : State) : Option State :=
  let n := v.toNat
  let mv := v &&& BitVec.ofNat 32 (r.mask.headD 0)
  match r.base with
  | 0x20000 => some (landTbCtrl v s)
  | 0x20008 => some (landTbOven v s)
  | 0x20048 => some (landL2Ch v s)
  | 0x20100 | 0x20104 | 0x2011c => some (landChan a i mv s)
  | 0x20400 | 0x20404 | 0x20408 => some (landGroup a i mv s)
  | 0x20600 => some (landRegCfg i v s)
  | 0x20604 => some (landNomPeriod i q s)
  | 0x20c00 => some (landStatCfg i v s)
  | 0x20c04 => some (landStatN i v s)
  | 0x20c08 => some (landStatAnchor i q s)
  | 0x30000 => some (landRefCfg i v s)
  | 0x30018 => some (landRefQl i (m == 4) v s)
  | 0x30810 => some (landSelForce i v false s)
  | 0x40000 => some (landDpllCfg i v s)
  | 0x4001c => some (landDpllCmd i (n % 16) (landPlain r a ws s))
  | 0x50040 => some (landTimeSnap v s)
  | 0x50400 => some (landTsCfg i v s)
  | 0x50434 => some (landTsCmd i v (landPlain r a ws s))
  | 0x50444 => some (landTsUtcCfg i v s)
  | 0x51020 => some (landTrgCmd i v (landPlain r a ws s))
  | 0x51800 => some (landTrigPin i v s)
  | 0x60000 => some (landApllCfg i v s)
  | 0x60004 => some (landApllFreq i q s)
  | 0x60018 => some (landApllCmd i v (landPlain r a ws s))
  | 0x60400 => some (landOutCfg i v s)
  | 0x6040c => some (landOutPhase i v s)
  | _ => none

/-- A write to the NVS block where it lands: refused while the store refuses accesses (R442, R443, R450). -/
def landNvs (r : Row) (m : Nat) (v : Word) (a q : Nat) (ws : List Word) (s : State) : State :=
  let n := v.toNat
  if !s.nvsUp then nvsRefuse s else
  match r.base with
  | 0xc0004 => landNvsAddr m n s
  | 0xc0008 => s.setNvsBank m { s.nvsBank m with be := n % 16 }
  | 0xc0014 => s.setNvsBank m { s.nvsBank m with pw := q % 2 ^ 64 }
  | 0xc001c => landNvsPwCmd m n (landPlain r a ws s)
  | 0xc0028 => ctrIncrement m (n % 256) (landPlain r a ws s)
  | 0xc0030 => s.setNvsBank m { s.nvsBank m with ctrSel := n % 256 }
  | 0xc0138 => logAppend s
  | _ => landPlain r a ws s

/-- Registers of the GNSS, PORT, FABRIC, SUPV, NVS, SEC and DAISY blocks. -/
def landFar (r : Row) (i m : Nat) (v : Word) (a q : Nat) (ws : List Word) (s : State) : Option State :=
  let n := v.toNat
  match r.base with
  | 0x70000 => some (landGfeCtrl v s)
  | 0x70008 => some (landGnssCtrl v s)
  | 0x70024 => some (landPosCmd (n % 16) (landPlain r a ws s))
  | 0x80000 => some (landPortCfg i v s)
  | 0x80008 => some (landPortCmd i (n % 16) (landPlain r a ws s))
  | 0x80020 => some (landCal false i (a % 0x1000 / 4 - 8) v s)
  | 0x80040 => some (landCal true i (a % 0x1000 / 4 - 16) v s)
  | 0x94008 => some (landItinCmd n (landPlain r a ws s))
  | 0x94100 => some (landDoorbell i v s)
  | 0xa0004 => some (landSeCmd m n (landPlain r a ws s))
  | 0xa0010 => some (fwWinData v s)
  | 0xd0004 => some (secCmd m (n % 256) (n / 256 % 256) (n / 65536 % 256) (landPlain r a ws s))
  | 0xd0010 => some (secStage m ((a - 0xd0010) / 4) v s)
  | 0xf0000 => let d := s.draw; some (landDzCtrl v d.1 d.2)
  | 0xf0008 => let d := (landPlain r a ws s).draw; some (landDzCmd n d.1 d.2)
  | 0xf0054 => let d := (landPlain r a ws s).draw; some (landDzFltClear n (d.1 % 2 == 1) d.2)
  | _ => if r.base / 0x10000 = 12 then some (landNvs r m v a q ws s) else none

/-- A write of the words `ws` from address `a` takes effect, by master ID `m`. A register written by the SE only ignores other masters
(R128, R220, R231), and instance 0 of a register marked so is fixed (R203). -/
def land (m a : Nat) (ws : List Word) (s : State) : State :=
  match rowAt a with
  | none => s
  | some (r, i, _) =>
    let v := ws.headD 0
    let q := ws.foldr (fun w acc => w.toNat + 2 ^ 32 * acc) 0
    if r.acc = .ro ∨ r.acc = .rob ∨ (r.acc = .se ∧ m ≠ 4) ∨ (r.acc = .rw0 ∧ i = 0) then s
    else
      let s := if (r.base / 0x10000 = 3 ∨ r.base / 0x10000 = 4) ∧ r.acc ≠ .gd then
          (List.range ws.length).foldl (fun s k => holdOld (a + 4 * k) s) s
        else s
      let e := match r.base / 0x10000 with
        | 0 | 1 | 11 | 14 => landNear r i m v a q ws s
        | 2 | 3 | 4 | 5 | 6 => landTime r i m v a q ws s
        | _ => landFar r i m v a q ws s
      e.getD (landPlain r a ws s)

/-! ### Posted writes (R25, R59) -/

def State.postedAt (s : State) (b : Nat) : Option Posted := Tbl.get (fun _ => none) s.bus.posted b
def State.setPosted (s : State) (b : Nat) (p : Option Posted) : State :=
  { s with bus := { s.bus with posted := Tbl.set (fun _ => none) s.bus.posted b p } }
def State.setDiscarded (s : State) (b : Nat) (d : Bool) : State :=
  { s with bus := { s.bus with discarded := Tbl.set (fun _ => false) s.bus.discarded b d } }

/-- Event source 16 of the TEs: a posted write has landed in a timekeeping block (R306). -/
def teTold (b : Nat) (s : State) : State :=
  if 2 ≤ b ∧ b ≤ 6 then forEach [4, 5] (fun s e => s.setEng e { s.eng_ e with ev16 := true }) s else s

/-- The posted write of block `b` lands, takes effect and clears BUSY; DISCARDED returns to 0 (R58, R59). -/
def postedLand (b : Nat) (s : State) : State :=
  match s.postedAt b with
  | none => s
  | some p => teTold b (land p.master.id p.addr p.words ((s.setPosted b none).setDiscarded b false))

/-- The posted write of block `b` is discarded (R25). -/
def postedDiscard (b : Nat) (s : State) : State :=
  if (s.postedAt b).isSome then (s.setPosted b none).setDiscarded b true else s

end Sys2Proof.Machine
end

