-- ==== Sys2Proof/Machine/Live.lean ====
section
/-! DEFINITION. What each register word reads as (R7, R51, R58, R65): live values computed from the state, copies banked by master, and the
stored words. -/

namespace Sys2Proof.Machine

/-- The registers common to every block (R58): BLK_INT_PEND, BLK_INT_EN, LOST_WRITES, BLK_STATUS. -/
def State.common (s : State) (a : Nat) : Word :=
  let b := a / 0x10000
  match a % 0x10000 with
  | 0xfff0 => bitsOf ((blockSrcs b).filterMap (fun r => if s.srcPending r then some r.n else none))
  | 0xfffc =>
    if b = 0 ∨ b = 1 ∨ b = 11 ∨ b = 14 then 0
    else BitVec.ofNat 32 ((if (s.postedAt b).isSome then 1 else 0) + (if s.blockOn b then 0 else 2)
      + (if Tbl.get (fun _ => false) s.bus.discarded b then 4 else 0) + 2 ^ 16 * Tbl.get (fun _ => 0) s.bus.pendOff b)
  | _ => s.reg a

/-- Word `w` of a quantity. -/
def wordOf (q w : Nat) : Word := BitVec.ofNat 32 (q / 2 ^ (32 * w))

/-- The seconds and crystal ticks of AO_TIME (R488, R491). -/
def State.aoTime (s : State) : Nat := s.aoTicks % 32768 + 2 ^ 32 * (s.aoTicks / 32768)

/-- D in force on port `p`, ps; 0 while no itinerary runs (R242). -/
def State.portD (s : State) (p : Nat) : Nat := if s.itinRuns then (s.pe_ p).hdr.d.getD (s.modeIdx p) 0 else 0

/-- The shape in force of port `p` (R268): II and L, and SHARE with REPLY_LEAD (R255). -/
def State.shapeNow (s : State) (p : Nat) : Nat :=
  if s.itinRuns then (s.pe_ p).hdr.ii.getD (s.modeIdx p) 0 % 2 ^ 12 + 2 ^ 16 * ((s.pe_ p).lap % 2 ^ 13) else 0
def State.shareNow (s : State) (p : Nat) : Nat :=
  if s.itinRuns then (s.pe_ p).hdr.share % 2 ^ 10 + 2 ^ 16 * (replyLead (s.portD p) (s.modeIdx p) % 2 ^ 12) else 0

/-- A bit of a stored word that is live. -/
def withBit (w k : Nat) (b : Bool) : Nat := w - (w / 2 ^ k % 2) * 2 ^ k + (if b then 2 ^ k else 0)

/-- The live value of word `w` of instance `i` of the row with base `b`, to master ID `m`; none for a stored word. -/
def State.liveWord (s : State) (m b i w a : Nat) : Option Word :=
  let n := fun (x : Nat) => some (BitVec.ofNat 32 x)
  match b with
  | 0x10 => some (s.conds 0 ||| s.conds 8)
  | 0x120 => some (wordOf s.aoTime w)
  | 0x310 => n s.tmuxStatus
  | 0x314 => n s.jtagStatus
  | 0x20040 => some (wordOf s.tiu.count 0)
  | 0x20044 => some (wordOf s.tiu.count 1)
  | 0x20108 => n (s.chStatus i)
  | 0x2040c => n (s.rv a / 2 ^ 7 * 2 ^ 7 + (s.group i).fifo.length)
  | 0x20410 => some ((GRes.words (s.group i).fifo.head?).getD w 0)
  | 0x20e00 => some ((TiuRec.words s.tiu.hcap.head?).getD w 0)
  | 0x20e10 => n (s.rv a / 2 ^ 9 * 2 ^ 9 + s.tiu.hcap.length)
  | 0x30000 => if 16 ≤ i then n ((F.REF_CFG_KIND i).put (s.rv a) 2) else none
  | 0x50000 => some (wordOf s.tm.mtc w)
  | 0x50010 => some (wordOf (unsigned 48 s.mtcInc) w)
  | 0x50040 => n (s.rv a)
  | 0x50404 | 0x50414 | 0x50418 => some ((s.tsSet i).getD ((a - 0x50404) % 0x80 / 4) 0)
  | 0x5041c => some (wordOf (if (s.tsp i).run then unsigned 64 (s.tsRate i) else 0) w)
  | 0x60420 => n (withBit (s.rv a) 4 (s.l1Dropped i))
  | 0x80068 => n (s.portD i)
  | 0x90100 => n (withBit (s.rv a) 1 (s.wHeld 2 i))
  | 0x90104 => n (s.shapeNow i)
  | 0x90108 => n (s.shareNow i)
  | 0x9010c => n ((s.pe_ i).credit / 25600)
  | 0xa0000 => n (withBit (s.rv a) 5 (s.wHeld 6 0))
  | 0xb001c => n (withBit (s.rv a) 2 (s.wHeld 5 i))
  | 0xb0400 => n (F.DMA_HALT_TAGS.put (s.rv a) s.dmaTags)
  | 0xc0000 => n (s.nvsStatus m)
  | 0xc0004 => n (s.nvsBank m).addr
  | 0xc0008 => n (s.nvsBank m).be
  | 0xc0030 => n (s.nvsBank m).ctrSel
  | 0xc0034 => some (wordOf (s.ctr (s.nvsBank m).ctrSel) w)
  | 0xc003c => n (s.ctrStatus (s.nvsBank m).ctrSel)
  | 0xd0078 => if m = 4 then none else some 0
  | _ => none

/-- What the word at BAR 0 address `a` reads as to master ID `m`, without the effects of a read. Reserved addresses and write-only commands
read zero (R8, R51); the complement address of a guarded register reads its complement (R62). -/
def State.live (s : State) (m a : Nat) : Word :=
  if 0xfff0 ≤ a % 0x10000 then s.common a
  else match rowAt a with
    | none => match rowAt (a - 4) with
      | some (r, _, _) => if r.acc = .gd then ~~~(s.reg (a - 4)) else 0
      | none => 0
    | some (r, i, w) =>
      (s.liveWord m r.base i w a).getD (if r.acc = .wo ∨ r.acc = .wob then 0 else s.reg a)

/-- The words of the quantity from `a`, at one instant. -/
def State.liveWords (s : State) (m a : Nat) : Nat → List Word
  | 0 => []
  | n + 1 => s.live m a :: s.liveWords m (a + 4) n

end Sys2Proof.Machine
end

