-- ==== Sys2Proof/Machine/Bus.lean ====
section
/-! DEFINITION. The register interface (R49–R72): how a master's access to BAR 0, BAR 4 and BAR 2 is decoded, answered, staged, guarded,
posted and refused, and the commands that are such accesses. -/

namespace Sys2Proof.Machine

/-- The guarded row at `a`. -/
def isGd (a : Nat) : Bool :=
  match rowAt a with
  | some (r, _, _) => r.acc == .gd
  | none => false

/-! ### Writes (R50, R51, R58, R59, R61, R64, R66) -/

/-- The staged word of master `m` at `a`, zero if none (R66). -/
def State.stagedWord (s : State) (m : Master) (a : Nat) : Word := Tbl.get (fun _ => (0 : Word)) s.bus.stage (m.id * 2 ^ 24 + a)

/-- A word of a quantity is staged. -/
def stageWord (m : Master) (a : Nat) (v : Word) (s : State) : State :=
  { s with bus := { s.bus with stage := Tbl.set (fun _ => (0 : Word)) s.bus.stage (m.id * 2 ^ 24 + a) v } }

/-- The write of `ws` from `base`, made at `a`: at once in the host island; otherwise posted, or dropped with BUSY_WRITE (R59). -/
def putWords (m : Master) (base a : Nat) (ws : List Word) (s : State) : State :=
  let b := a / 0x10000
  if nearReg a then land m.id base ws s
  else if (s.postedAt b).isSome then decodeFault kBusyWrite a s
  else
    let s1 := s.setPosted b (some ⟨base, ws, a, m⟩)
    { s1 with bus := { s1.bus with pendOff := Tbl.set (fun _ => 0) s1.bus.pendOff b (a % 0x10000) } }

/-- BLK_INT_EN and LOST_WRITES, which takes any value written (DESIGN CHOICE, log 230); the other common registers are read only (R58). -/
def putCommon (a : Nat) (v : Word) (s : State) : State :=
  match a % 0x10000 with
  | 0xfff4 => s.setReg a v      -- DESIGN CHOICE (log 229): all 32 bits are stored, those of sources the block lacks too
  | 0xfff8 => s.setReg a (v &&& 0xffff)
  | _ => s

/-- A write to a mapped word: locked, staged or put. A word that is only staged is not posted, so a BUSY block takes it (DEDUCED, log 231). -/
def rowWrite (m : Master) (r : Row) (w a : Nat) (v : Word) (s : State) : State :=
  if r.acc = .w1 && Tbl.get (fun _ => false) s.bus.locks a then decodeFault kLockedWrite a s
  else if r.quantity then
    if w + 1 < r.words then stageWord m a v s
    else
      let base := a - 4 * w
      putWords m base a ((List.range w).map (fun k => s.stagedWord m (base + 4 * k)) ++ [v]) s
  else putWords m a a [v] s

/-- The store refuses an access to `a` (R442): every register of the NVS block but NVS_STATUS and the common ones. -/
def State.nvsShut (s : State) (a : Nat) : Bool := a / 0x10000 == 12 && !nearReg a && a != Reg.NVS_STATUS && !s.nvsUp

/-- A write to a block that is off: discarded and counted, without a fault (R61). -/
def offWrite (m : Master) (s : State) : State := answerWr m .domainOff (offAccess s)

/-- A write of BAR 0 by master `m` that no guard concerns. -/
def wordWrite (m : Master) (a : Nat) (v : Word) (s : State) : State :=
  if !nearReg a && !s.blockOn (a / 0x10000) then offWrite m s
  else if a = Reg.NVS_WDATA then
    let s1 := nvsWdata m v s
    if s.nvsUp then s1 else answerWr m .refused s1
  else if s.nvsShut a then answerWr m .refused (nvsRefuse s)
  else if 0xfff0 ≤ a % 0x10000 then putCommon a v s
  else match rowAt a with
    | some (r, _, w) => if r.acc = .gd then s.setGuard m (some ⟨a, v, s.now⟩) else rowWrite m r w a v s
    | none => if isGd (a - 4) then guardFail m (a - 4) s else putWords m a a [v] s

/-- A write of BAR 0 by master `m`: the complement of its armed value, a second write to the value's address, or another write (R62). The
pair of a block that has stopped since is an access to a block that is off (R61). -/
def bar0Write (m : Master) (a : Nat) (v : Word) (s : State) : State :=
  let s1 := guardLate m s
  match s1.guardOf m with
  | none => wordWrite m a v s1
  | some g =>
    if (a = g.addr ∨ a = g.addr + 4) && !nearReg a && !s1.blockOn (a / 0x10000) then offWrite m (s1.setGuard m none)
    else if a = g.addr + 4 then
      if v = ~~~g.val then putWords m g.addr g.addr [g.val] (s1.setGuard m none) else guardFail m g.addr s1
    else if a = g.addr then guardEnd m s1
    else wordWrite m a v (guardEnd m s1)

/-! ### BAR 4 (R53, R70, R407) -/

/-- The status of an access to channel `n`'s window (R391, R400). -/
def State.mbReply (s : State) (n : Nat) (m : Master) : LinkStatus :=
  match s.mbAccess n m.id with
  | .side _ => .ok
  | .foreign => .refused
  | .off => .domainOff

/-- Word `k` of the MSI-X table: the vector control holds the mask (R70, R71). -/
def msixWrite (k : Nat) (v : Word) (s : State) : State :=
  if k % 4 = 3 then
    (if v.getLsbD 0 then { s with irq := { s.irq with mask := s.irq.mask ||| BitVec.ofNat 32 (2 ^ (k / 4)) } } else msixUnmask (k / 4) s)
  else { s with irq := { s.irq with table := Tbl.set (fun _ => (0 : Word)) s.irq.table k v } }

def State.msixRead (s : State) (k : Nat) : Word :=
  if k % 4 = 3 then (if s.irq.mask.getLsbD (k / 4) then 1 else 0) else Tbl.get (fun _ => (0 : Word)) s.irq.table k

/-- A write of channel `n`'s window by master `m`, answered as R391 and R400 say. -/
def mbAnswered (m : Master) (n : Nat) (s : State) (f : State → State) : State :=
  let s1 := f s
  if s.mbReply n m = .ok then answer .ok [] s1 else answerWr m (s.mbReply n m) s1

/-- A write of BAR 4 at offset `o`. -/
def bar4Write (m : Master) (o : Nat) (v : Word) (s : State) : State :=
  if o < 0x4000 then
    let n := o / 0x400
    match mbReg n (o % 0x400) with
    | .none => s
    | .ack a => mbAnswered m n s (fun s => let s1 := mbWinWrite m n (o % 0x400) v s; if s.mbReply n m = .ok then ackDone a s1 else s1)
    | _ => mbAnswered m n s (mbWinWrite m n (o % 0x400) v)
  else if o < 0x4040 then mbBindWrite m ((o - 0x4000) / 4) v.toNat s
  else if o = 0x4044 then (if v.getLsbD 0 then sideReset m.id s else s)
  else if 0xe000 ≤ o ∧ o < 0xe200 ∧ m = .hostPcie then msixWrite ((o - 0xe000) / 4) v s
  else s

/-- A read of BAR 4 at offset `o`; the MSI-X table and pending bits read zero to the other links (R53). -/
def bar4Read (m : Master) (o : Nat) (s : State) : State :=
  if o < 0x4000 then mbWinRead m (o / 0x400) (o % 0x400) s
  else if o = 0x4044 then answerWord 0 s
  else if o < 0xe000 then answerWord (s.reg (0x100000 + o)) s
  else if m ≠ .hostPcie then answerWord 0 s
  else if o < 0xe200 then answerWord (s.msixRead ((o - 0xe000) / 4)) s
  else if o = 0xf000 then answerWord s.irq.pend s
  else answerWord 0 s

/-! ### Accesses -/

/-- A single-word write by master `m` at address `a`: BAR 0, or BAR 4 from 0x10_0000. A write that no rule answers otherwise is OK. -/
def busWrite (m : Master) (a : Nat) (v : Word) (s : State) : State :=
  if !(onBus m && s.masterOn m) then s
  else
    let s1 := answer .ok [] s
    if a < 0x100000 then bar0Write m a v s1
    else if a < 0x110000 then bar4Write m (a - 0x100000) v (guardEnd m s1)
    else s1

def State.snapOf (s : State) (m : Master) (b : Nat) : Option Snap := Tbl.get (fun _ => none) s.bus.snap (m.id * 32 + b)

/-- A result of group `g` is popped into the snapshot buffer (R99). -/
def grpPop (m : Master) (g : Nat) (s : State) : State :=
  let f := (s.group g).fifo
  latch m (Reg.GRP_RES g) (GRes.words f.head?) (s.setGroup g { s.group g with fifo := f.drop 1 })

/-- A record is popped from the host capture FIFO into the snapshot buffer (R85). -/
def hcapPop (m : Master) (s : State) : State :=
  latch m Reg.HCAP_REC (TiuRec.words s.tiu.hcap.head?) { s with tiu := { s.tiu with hcap := s.tiu.hcap.drop 1 } }

/-- A read of HWIN_DATA (R57): before the prefetch has completed it gives zero and NOT_READY. -/
def hwinRead (s : State) : State :=
  if s.flag F.HWIN_STATUS_VALID then answerWord s.bus.hwinData (hwinFetch (hwinNext s)) else answer .notReady [0] s

/-- A read of a word of BAR 0 that is reachable (R65). -/
def wordRead (m : Master) (a : Nat) (s : State) : State :=
  if a = Reg.HWIN_DATA then hwinRead s
  else if a = Reg.NVS_RDATA then nvsRdata m s
  else match quantAt a with
    | none => answerWord (s.live m.id a) s
    | some (base, n) =>
      if a = base then
        if Reg.GRP_RES 0 ≤ a ∧ a < Reg.GRP_RES 8 then grpPop m ((a - Reg.GRP_RES 0) / 0x20) s
        else if a = Reg.HCAP_REC then hcapPop m s
        else if a / 0x10000 = 8 ∧ a = Reg.BASKET_REC (a / 0x1000 % 16) then basketRead m (a / 0x1000 % 16) s
        else latch m a (s.liveWords m.id a n) s
      else match s.snapOf m (a / 0x10000) with
        | some x => if x.addr = base then answerWord (x.words.getD ((a - base) / 4) 0) s else answerWord (s.live m.id a) s
        | none => answerWord (s.live m.id a) s

/-- A single-word read by master `m` at address `a`; it waits for a pending write to its block to take effect (R59, R61). -/
def busRead (m : Master) (a : Nat) (s : State) : State :=
  if !(onBus m && s.masterOn m) then s
  else if 0x100000 ≤ a then bar4Read m (a - 0x100000) s
  else if nearReg a then wordRead m a s
  else
    let b := a / 0x10000
    if !s.blockOn b then answerErr m .domainOff (offAccess s)
    else
      let s1 := postedLand b s
      if s1.nvsShut a then answerErr m .refused (nvsRefuse s1) else wordRead m a s1

/-- A malformed write, and a malformed read (R50). -/
def badWrite (s : State) : State := badAccess s
def badRead (s : State) : State := answer .completerAbort [] (badAccess s)

/-- A write request of the words `ws` at `a`, `whole` when it is aligned and every byte enable is set: one word, or the pair of a guarded
register (R50). -/
def requestWrite (m : Master) (a : Nat) (ws : List Word) (whole : Bool) (s : State) : State :=
  if !whole || a % 4 != 0 then badWrite s
  else match ws with
    | [v] => busWrite m a v s
    | [v, c] => if isGd a then busWrite m (a + 4) c (busWrite m a v s) else badWrite s
    | _ => badWrite s

/-- A single-word write, and a single-word read, that is a request of its own. -/
def oneWrite (m : Master) (a : Nat) (v : Word) (s : State) : State := access m (busWrite m a v) s
def oneRead (m : Master) (a : Nat) (s : State) : State := reads m (busRead m a) s

/-! ### Meanings -/

/-- REGISTER_WRITE: a request of the words `ws` at `a`, from 0x10_0000 in BAR 4; `whole`: aligned, with every byte enable. -/
def execRegisterWrite (m : Master) (a : BitVec 21) (ws : List Word) (whole : Bool) (s : State) : Host.Outcome State Fault Refusal :=
  fin (access m (requestWrite m a.toNat ws whole) s)

/-- REGISTER_READ. -/
def execRegisterRead (m : Master) (a : BitVec 21) (whole : Bool) (s : State) : Host.Outcome State Fault Refusal :=
  fin (reads m (if whole && a.toNat % 4 == 0 then busRead m a.toNat else badRead) s)

/-- POSTED_WRITE_TAKES_EFFECT in block `b`; `late`: it waited beyond its phase at the fabric or the timekeeping
control gate (R20, R21). -/
def execPostedWriteTakesEffect (b : Fin 16) (late : Bool) (s : State) : Host.Outcome State Fault Refusal :=
  fin (if s.blockOn b.val && (s.postedAt b.val).isSome then
    let s1 := postedLand b.val s
    if late && (b.val == 8 || b.val == 9) then (s1.bumpSat Reg.GATE_LATE_CTRL).bump Reg.GATE_EVT
    else if late && decide (2 ≤ b.val) && decide (b.val ≤ 6) then s1.gateLate 0 else s1
  else s)

/-- POSTED_WRITE_DISCARD: 4 µs after the island of block `b` stopped. -/
def execPostedWriteDiscard (b : Fin 16) (s : State) : Host.Outcome State Fault Refusal :=
  fin (if s.blockOn b.val then s else postedDiscard b.val s)

/-- STAGED_WORD_WRITE. -/
def execStagedWordWrite (m : Master) (a : BitVec 20) (v : Word) (s : State) : Host.Outcome State Fault Refusal :=
  fin (match rowAt (a.toNat / 4 * 4) with
    | some (r, _, _) => if r.quantity then oneWrite m (a.toNat / 4 * 4) v s else s
    | none => s)

/-- SNAPSHOT_READ: of the lowest word of the quantity at `a`. -/
def execSnapshotRead (m : Master) (a : BitVec 20) (s : State) : Host.Outcome State Fault Refusal :=
  fin (match quantAt (a.toNat / 4 * 4) with
    | some (base, _) => oneRead m base s
    | none => s)

/-- GUARD_VALUE_WRITE. -/
def execGuardValueWrite (m : Master) (a : BitVec 20) (v : Word) (s : State) : Host.Outcome State Fault Refusal :=
  fin (if isGd (a.toNat / 4 * 4) then oneWrite m (a.toNat / 4 * 4) v s else s)

/-- GUARD_WINDOW_EXPIRY: once the 64 cycles of master `m`'s armed value have passed. -/
def execGuardWindowExpiry (m : Master) (s : State) : Host.Outcome State Fault Refusal :=
  fin (match s.guardOf m with
    | some g => if s.hostOn && decide (g.time + s.guardWindow ≤ s.now) then guardEnd m s else s
    | none => s)

/-- ACKNOWLEDGE_WRITE: of the copy at `a`. -/
def execAcknowledgeWrite (m : Master) (a : BitVec 21) (v : Word) (s : State) : Host.Outcome State Fault Refusal :=
  fin (let x := a.toNat / 4 * 4
    let isAck := if x < 0x100000 then (blockSrcs (x / 0x10000)).any (fun r => r.ctrs.any (fun c => c + 4 == x))
      else decide (x < 0x104000) && (match mbReg ((x - 0x100000) / 0x400) (x % 0x400) with | .ack _ => true | _ => false)
    if isAck then oneWrite m x v s else s)

/-- INT_ROUTE_WRITE: `hi` for INT_ROUTE_HI. -/
def execIntRouteWrite (m : Master) (hi : Bool) (v : Word) (s : State) : Host.Outcome State Fault Refusal :=
  fin (oneWrite m (if hi then Reg.INT_ROUTE_HI else Reg.INT_ROUTE_LO) v s)

/-- HWIN_ADDR_WRITE. -/
def execHwinAddrWrite (m : Master) (v : Word) (s : State) : Host.Outcome State Fault Refusal := fin (oneWrite m Reg.HWIN_ADDR v s)

/-- HWIN_PREFETCH_DONE. -/
def execHwinPrefetchDone (ecc : Ecc) (s : State) : Host.Outcome State Fault Refusal := fin (hwinDone ecc s)

/-- HWIN_DATA_READ. -/
def execHwinDataRead (m : Master) (s : State) : Host.Outcome State Fault Refusal := fin (oneRead m Reg.HWIN_DATA s)

/-- HWIN_DATA_WRITE. -/
def execHwinDataWrite (m : Master) (v : Word) (s : State) : Host.Outcome State Fault Refusal := fin (oneWrite m Reg.HWIN_DATA v s)

/-- GRP_RES_POP. -/
def execGrpResPop (m : Master) (g : Fin 8) (s : State) : Host.Outcome State Fault Refusal := fin (oneRead m (Reg.GRP_RES g.val) s)

/-- HCAP_REC_POP. -/
def execHcapRecPop (m : Master) (s : State) : Host.Outcome State Fault Refusal := fin (oneRead m Reg.HCAP_REC s)

/-- A BAR 2 request by the PCIe host (R409): answered as a block that is off while the fabric is unclocked, else queued at the gate. -/
def bar2 (r : HamReq) (s : State) : State :=
  if !s.fclkOn then (if r.wr.isNone then answerErr .hostPcie .domainOff (offAccess s) else offWrite .hostPcie s)
  else { s with fab := { s.fab with gateQ := s.fab.gateQ ++ [r] } }

/-- BAR2_READ: `ecc` is what the word's check bits will say. -/
def execBar2Read (a : BitVec 24) (whole : Bool) (ecc : Ecc) (s : State) : Host.Outcome State Fault Refusal :=
  fin (reads .hostPcie (if whole && a.toNat % 4 == 0 then bar2 ⟨a.toNat, none, ecc, false, false⟩ else badRead) s)

/-- BAR2_WRITE. -/
def execBar2Write (a : BitVec 24) (v : Word) (whole : Bool) (s : State) : Host.Outcome State Fault Refusal :=
  fin (writes .hostPcie (if whole && a.toNat % 4 == 0 then bar2 ⟨a.toNat, some v, .good, false, false⟩ else badWrite) s)

end Sys2Proof.Machine
end

