-- ==== Sys2Proof/Machine/Services.lean ====
section
/-! DEFINITION. The services of the stock itinerary (R341–R374): classification of a received frame, NTP and NTS replies with rate
limiting, PTP responses and slave samples, exceptions, and what the lap does at its boundary. A port serves them while its running
bank's entry names a stock template. -/

namespace Sys2Proof.Machine

def State.svc_ (s : State) (p : Nat) : SvcPart := Tbl.get (fun _ => SvcPart.reset) s.svc p
def State.setSvc (s : State) (p : Nat) (v : SvcPart) : State := { s with svc := Tbl.set (fun _ => SvcPart.reset) s.svc p v }

/-- The stock template that bank `b` names for port `p` (R343): false NTPPTP, true NTSFULL. -/
def State.stock (s : State) (p b : Nat) : Option Bool :=
  let i := s.img b
  let o := 0x180 + 0x10 * i.entry p
  if i.n (o + 8) 2 != 1 then none
  else
    let n := nats (i.bytes o 8)
    if n == [0x4e, 0x54, 0x50, 0x50, 0x54, 0x50, 0, 0] then some false
    else if n == [0x4e, 0x54, 0x53, 0x46, 0x55, 0x4c, 0x4c, 0] then some true
    else none

/-! ### The configuration block and the counters (R346, R347, R349) -/

def cfgBase (p : Nat) : Nat := 0x4000 * p
def ctrBase (p : Nat) : Nat := 0x10000 + 0x400 * p

/-- A network-order field of a configuration. -/
def cfgN (c : Memory) (o n : Nat) : Nat := beVal (c.bytes o n)

/-- SERVICES of a configuration. -/
def cfgSvc (c : Memory) (k : Nat) : Bool := (c.le 0x10 4).testBit k
def cfgProfile (c : Memory) : Nat := c.le 0x10 4 / 16 % 4
def cfgTs (c : Memory) : Nat := c.le 0x10 4 / 2 ^ 12 % 16

/-- A 64-bit counter of the lap advances and wraps (R349). -/
def svcCount (p o : Nat) (s : State) : State := setHam (ctrBase p + o) 8 (s.fab.mem.le (ctrBase p + o) 8 + 1) s

/-- An index field of the lap (R349). -/
def State.svcIdx (s : State) (p o : Nat) : Nat := s.fab.mem.le (ctrBase p + o) 4

/-! ### Parsing (R344) -/

/-- A frame's headers: the offset of the EtherType, the type, whether it is IPv6, the offset of the payload above UDP (or of the PTP
message), and the UDP ports; `udp` says the frame is unfragmented UDP. -/
structure Hdrs where
  t : Nat
  ety : Nat
  v6 : Bool
  udp : Bool
  proto : Nat
  u : Nat
  sport : Nat
  dport : Nat
  deriving DecidableEq, Repr

def hdrs (l : List Byte) : Hdrs :=
  let t := typeOff l
  let ety := be l t 2
  let h := t + 2
  let v6 := ety == 0x86dd
  let u := if v6 then h + 40 else h + 20
  let ok4 := ety == 0x0800 && be l h 1 == 0x45 && be l (h + 6) 2 % 0x4000 == 0 && be l (h + 9) 1 == 17
  let ok6 := v6 && be l h 1 / 16 == 6 && be l (h + 6) 1 == 17
  { t := t, ety := ety, v6 := v6, udp := ok4 || ok6, proto := if v6 then be l (h + 6) 1 else be l (h + 9) 1, u := u, sport := be l u 2,
    dport := be l (u + 2) 2 }

/-- The destination IP address is one of the port's (R344). -/
def oursIp (c : Memory) (l : List Byte) (x : Hdrs) : Bool :=
  let h := x.t + 2
  (List.range 8).any (fun i =>
    if x.v6 then cfgN c (0x40 + 16 * i) 16 != 0 && be l (h + 24) 16 == cfgN c (0x40 + 16 * i) 16
    else x.ety == 0x0800 && cfgN c (0x20 + 4 * i) 4 != 0 && be l (h + 16) 4 == cfgN c (0x20 + 4 * i) 4)

def oursMac (c : Memory) (l : List Byte) : Bool := be l 0 6 == cfgN c 8 6

/-- The offset of a PTP message in the frame, where it is one (R344). -/
def ptpOff (c : Memory) (l : List Byte) (x : Hdrs) : Option Nat :=
  let o := if x.ety = 0x88f7 then some (x.t + 2) else if x.udp && (x.dport == 319 || x.dport == 320) then some (x.u + 8) else none
  match o with
  | some o => if be l (o + 1) 1 % 16 = 2 ∧ be l o 1 / 16 = c.le 0x10b 1 % 16 then some o else none
  | none => none

/-- An extension field: its type, its offset and its length with its header (RFC 8915). -/
def extFields (l : List Byte) (stop : Nat) : Nat → Nat → List (Nat × Nat × Nat)
  | 0, _ => []
  | n + 1, o =>
    let len := be l (o + 2) 2
    if o + 4 ≤ stop ∧ 4 ≤ len ∧ o + len ≤ stop then (be l o 2, o, len) :: extFields l stop n (o + len)
    else if o < stop then [(0, o, 0)] else []

/-- The Unique Identifier, cookie and authenticator fields of an NTS request (R356). -/
def ntsFields (l : List Byte) (n stop : Nat) : Option (Nat × Nat × Nat × Nat) :=
  if 512 < l.length then none else
  match extFields l stop 64 (n + 48) with
  | (0x0104, uo, ul) :: (0x0204, co, 104) :: rest =>
    let ok := decide (36 ≤ ul ∧ ul ≤ 68 ∧ ul % 4 = 0)
    match rest.reverse with
    | (0x0404, ao, 40) :: ph =>
      if ok && ph.all (fun f => f.1 == 0x0304) && be l (ao + 4) 2 == 16 && be l (ao + 6) 2 == 16 then some (uo, ul, co, ao) else none
    | _ => none
  | _ => none

/-! ### Writing replies (R350–R353) -/

/-- The IPv4 header checksum or UDP checksum of octets. -/
def sum16 (l : List Byte) : Nat := 0xffff - foldSum (foldSum (sumWords false l))

/-- The frame with its IPv4 header checksum and its UDP checksum computed (R352); `x` locates the headers. -/
def checksums (x : Hdrs) (l : List Byte) : List Byte :=
  let h := x.t + 2
  let l1 := if x.v6 then l else
    let z := putAt l (h + 10) [0, 0]
    putAt z (h + 10) (beBytes 2 (sum16 ((z.drop h).take 20)))
  let n := be l1 (x.u + 4) 2
  let z := putAt l1 (x.u + 6) [0, 0]
  let addrs := if x.v6 then (z.drop (h + 8)).take 32 else (z.drop (h + 12)).take 8
  let c := sum16 (addrs ++ [0, 17] ++ beBytes 2 n ++ (z.drop x.u).take n)
  putAt z (x.u + 6) (beBytes 2 (if c = 0 then 0xffff else c))

/-- The request's headers turned round for a reply with `pay` octets above UDP and the given ports (R350). -/
def turn (c : Memory) (l : List Byte) (x : Hdrs) (sport dport pay : Nat) : List Byte :=
  let h := x.t + 2
  let mac := (l.drop 6).take 6 ++ c.bytes 8 6
  let dscp := c.le 0x18 1 % 64 * 4
  let hops := c.le 0x19 1
  let ip := if x.v6 then
      beBytes 4 (6 * 2 ^ 28 + dscp * 2 ^ 20 + be l h 4 % 2 ^ 20) ++ beBytes 2 (pay + 8) ++ beBytes 2 (17 * 256 + hops)
        ++ (l.drop (h + 24)).take 16 ++ (l.drop (h + 8)).take 16
    else
      beBytes 2 (0x4500 + dscp) ++ beBytes 2 (pay + 28) ++ beBytes 4 0x00004000 ++ beBytes 2 (hops * 256 + 17) ++ [0, 0]
        ++ (l.drop (h + 16)).take 4 ++ (l.drop (h + 12)).take 4
  mac ++ (l.drop 12).take (x.t - 10) ++ ip ++ beBytes 2 sport ++ beBytes 2 dport ++ beBytes 2 (pay + 8) ++ [0, 0]

/-- A device time on timescale `t`, as SEC, NS and FRAC; zeros where it is disabled (R288). -/
def onTs (t m : Nat) (s : State) : Nat × Nat × Nat :=
  match mToTs t m s with
  | some a => (tsSecOf a, tsNsOf a, tsFracOf a)
  | none => (0, 0, 0)

/-- A device time as an NTP timestamp on timescale `t` (R350). -/
def ntpStamp (t m : Nat) (s : State) : List Byte :=
  let v := onTs t m s
  beBytes 8 (ntpOf v.1 v.2.1 v.2.2 (s.utcOff t)).1

/-- LI of a reply (R351). -/
def ntpLi (t : Nat) (bad : Bool) (s : State) : Nat :=
  let g := s.tsGov t
  if s.tsErr t = 2 ^ 32 - 1 ∨ bad = true ∨ (g < 8 ∧ (s.dpllState g = 0 ∨ s.dpllState g = 4)) then 3
  else if s.flag (F.TS_UTC_LEAP_PEND t) then (if s.flag (F.TS_UTC_LEAP_DIR t) then 2 else 1) else 0

/-- The kinds of NTP answer. -/
inductive NtpKind where
  | plain
  | rate
  | nak
  deriving DecidableEq, Repr

/-- The 48 octets of an NTP answer (R350, R351, R355, R360). -/
def ntpHeader (c : Memory) (q : List Byte) (k : NtpKind) (rx tx : Nat) (bad : Bool) (s : State) : List Byte :=
  let t := cfgTs c
  let li := if k = .plain then ntpLi t bad s else 3
  let strat := if k = .plain then (if li = 3 then 16 else c.le 0xc0 1) else 0
  let poll := if k = .rate then max (be q 2 1) (c.le 0xe6 1) else be q 2 1
  let disp := min (2 ^ 32 - 1) (cfgN c 0xc8 4 + ntpShort (s.tsErr t * 65536 : Nat))
  let xmt := (q.drop 40).take 8
  let ref := match k with
    | .plain => c.bytes 0xcc 4
    | .rate => beBytes 4 0x52415445
    | .nak => beBytes 4 0x4e54534e
  let stamps := match k with
    | .plain => xmt ++ ntpStamp t rx s ++ ntpStamp t tx s
    | .rate => xmt ++ xmt ++ xmt
    | .nak => xmt ++ List.replicate 16 0
  beBytes 4 ((li * 64 + be q 0 1 / 8 % 8 * 8 + 4) * 2 ^ 24 + strat * 2 ^ 16 + poll * 2 ^ 8 + c.le 0xc1 1) ++ c.bytes 0xc4 4 ++ beBytes 4 disp
    ++ ref ++ c.bytes 0xd0 8 ++ stamps

/-- The instance's claim for a departure D after its stamp (R236, R350). -/
def claimReply (p k : Nat) (i : Inst) (s : State) : Nat × State :=
  let s1 := txClaim p k ((i.frame.stamp : Int) + psM (s.dNow p)) s
  (((s1.inst? p k).bind (·.claim)).elim 0 Claim.tp, s1)

/-- The reply's octets, without the FCS, are written to its slot. -/
def writeReply (p k : Nat) (l : List Byte) (s : State) : State :=
  (List.range (beatsOf l)).foldl (fun s j => setBeat p k j (frameBeat l j).toNat s) s

/-- A reply is written and committed, and counted at offset `o` (R293, R349). -/
def sendReply (p k o : Nat) (l : List Byte) (s : State) : State := svcCount p o (txGo p k (l.length + 4) (writeReply p k l s))

/-- An NTP answer in the request's length; `ctr` counts it (R350, R355). -/
def answerNtp (p k : Nat) (i : Inst) (c : Memory) (x : Hdrs) (kind : NtpKind) (bad : Bool) (ctr : Nat) (s : State) : State :=
  let l := i.frame.octets
  let q := (l.drop (x.u + 8)).take 48
  let r := claimReply p k i s
  let body := turn c l x 123 x.sport 48 ++ ntpHeader c q kind i.frame.stamp r.1 bad r.2
  sendReply p k ctr (checksums x (body ++ (l.drop body.length).take (l.length - 4 - body.length))) r.2

/-! ### Rate limiting (R354) -/

/-- Whether the request passes, and the state with its bucket updated. -/
def rateCheck (p : Nat) (c : Memory) (l : List Byte) (x : Hdrs) (s : State) : Bool × State :=
  if !cfgSvc c 6 then (true, s) else
  let h := x.t + 2
  let bits := max 1 (min 64 (c.le 0xe7 1))
  let addr := if x.v6 then be l (h + 8) 8 / 2 ^ (64 - bits) * 2 ^ (64 - bits) else be l (h + 12) 4
  let key := hashMix (s.seed p 0).toNat addr 0
  let now := (s.pcp p).val / 2 ^ 40 / 2 ^ 20 % 2 ^ 24
  let ctl := now * 2 ^ 40 + c.le 0xe0 1 % 32 * 2 ^ 32 + c.le 0xe2 2 * 2 ^ 16 + c.le 0xe4 2
  let r := hamOp 2 (0x400000 + 8 * (key % 2 ^ 19)) ctl .good s
  (r.1.testBit 63, r.2)

/-! ### NTS (R356–R361) -/

/-- A master key half on a port engine: `u` = 0 the S2V half, 1 the CTR half (R357). -/
def State.masterKey (s : State) (p u i : Nat) : List Nat :=
  nats (Tbl.get (fun _ => AesSlot.zero) (s.eng_ p).aes (u * 128 + i)).key

/-- Opens a cookie: the C2S and S2C keys (R357). -/
def openCookie (p : Nat) (c : Memory) (ck : List Nat) (s : State) : Option (List Nat × List Nat) :=
  let id := ofBe (ck.take 4)
  match (List.range 16).find? (fun i => c.le (0x300 + 4 * i) 4 == id) with
  | some i =>
    if id = 0 ∨ s.wHeld 3 p = true then none else
    match sivOpen (s.masterKey p 0 i) (s.masterKey p 1 i) [ck.take 4, (ck.drop 4).take 16] (ck.drop 20) with
    | some pt => some (pt.take 32, pt.drop 32)
    | none => none
  | none => none

/-- A template nonce (R358): `kind` 1 for a cookie, 2 for a response. -/
def tmplNonce (p kind : Nat) (c : Memory) (i : Inst) (s : State) : List Nat :=
  let ns := (s.pcp p).val / 2 ^ 40 % 2 ^ 64
  aesEnc (s.masterKey p 1 (c.le 0x340 1 % 16)) ([kind, p] ++ toBe 4 (i.k % 2 ^ 32) ++ toBe 8 ns ++ [0, 0])

/-- A cookie under CUR_SLOT for the two client keys and a nonce (R357, R358). -/
def mintCookie (id : Nat) (k1 k2 nonce c2s s2c : List Nat) : List Nat :=
  toBe 4 id ++ nonce ++ sivSeal k1 k2 [toBe 4 id, nonce] (c2s ++ s2c)

/-- An NTS request after the rate check (R359, R360). -/
def answerNts (p k : Nat) (i : Inst) (c : Memory) (x : Hdrs) (f : Nat × Nat × Nat × Nat) (bad : Bool) (s : State) : State :=
  let l := i.frame.octets
  let n := x.u + 8
  let q := (l.drop n).take 48
  let uid := (l.drop f.1).take f.2.1
  match openCookie p c (nats ((l.drop (f.2.2.1 + 4)).take 100)) s with
  | none =>
    let r := claimReply p k i s
    let body := turn c l x 123 x.sport (48 + uid.length) ++ ntpHeader c q .nak 0 0 bad r.2 ++ uid
    sendReply p k 0x20 (checksums x body) r.2
  | some (c2s, s2c) =>
    let au := f.2.2.2
    let ad := nats ((l.drop n).take (au - n))
    let nonce := nats ((l.drop (au + 8)).take 16)
    if sivOpen (c2s.take 16) (c2s.drop 16) [ad, nonce] (nats ((l.drop (au + 24)).take 16)) != some [] then svcCount p 0x28 s
    else
      let r := claimReply p k i s
      let cur := c.le 0x340 1 % 16
      let ck := mintCookie (c.le (0x300 + 4 * cur) 4) (r.2.masterKey p 0 cur) (r.2.masterKey p 1 cur) (tmplNonce p 1 c i r.2) c2s s2c
      let hd := ntpHeader c q .plain i.frame.stamp r.1 bad r.2 ++ uid
      let rn := tmplNonce p 2 c i r.2
      let ct := sivSeal (s2c.take 16) (s2c.drop 16) [nats hd, rn] (toBe 2 0x0204 ++ toBe 2 104 ++ ck)
      let auth := toBe 2 0x0404 ++ toBe 2 144 ++ toBe 2 16 ++ toBe 2 120 ++ rn ++ ct
      let body := turn c l x 123 x.sport (hd.length + 144) ++ hd ++ octetsOf auth
      sendReply p k 0x18 (checksums x body) r.2

/-! ### PTP (R364–R372) -/

/-- A correctionField as a signed number. -/
def ptpCorr (l : List Byte) (o : Nat) : Int := signed 64 (be l (o + 8) 8)

/-- The headers that carry a PTP message of `pay` octets back to its sender: Ethernet keeps the destination, UDP goes to `port`. -/
def turnPtp (c : Memory) (l : List Byte) (x : Hdrs) (port pay : Nat) : List Byte :=
  if x.ety = 0x88f7 then l.take 6 ++ c.bytes 8 6 ++ (l.drop 12).take (x.t - 10) else turn c l x port port pay

/-- The frame as it is sent: checksums for UDP. -/
def ptpSums (x : Hdrs) (l : List Byte) : List Byte := if x.ety = 0x88f7 then l else checksums x l

/-- The frame of a Delay_Resp (R365) or a Pdelay_Resp (R366) to the message at `o` of the frame `l`, received at `t2`, without padding; `t3`
is the departure. -/
def ptpRespFrame (l : List Byte) (c : Memory) (x : Hdrs) (o : Nat) (peer : Bool) (t2 t3 : Nat) (s : State) : List Byte :=
  let t4 := onTs 0 t2 s
  let corr := if peer then ptpCorr l o + ((t3 : Int) - t2 + 2 ^ 23) / 2 ^ 24 else ptpCorr l o - ((t4.2.2 + 2 ^ 15) / 2 ^ 16 : Nat)
  let stamp := if peer then List.replicate 10 0 else beBytes 6 (t4.1 % 2 ^ 48) ++ beBytes 4 t4.2.1
  let m := beBytes 2 ((c.le 0x10b 1 % 16 * 16 + if peer then 3 else 9) * 256 + 0x12) ++ beBytes 2 54 ++ (l.drop (o + 4)).take 1 ++ [0]
    ++ beBytes 2 (be l (o + 6) 2 / 0x400 % 2 * 0x400) ++ beBytes 8 (unsigned 64 corr) ++ beBytes 4 0 ++ c.bytes 0x100 10
    ++ (l.drop (o + 30)).take 2 ++ (if peer then [0x05, 0x7f] else [0x03] ++ c.bytes 0x10c 1) ++ stamp ++ (l.drop (o + 20)).take 10
  ptpSums x (turnPtp c l x 320 54 ++ m)

/-- Delay_Resp (R365) and Pdelay_Resp (R366) to the message at `o`. -/
def ptpResp (p k : Nat) (i : Inst) (c : Memory) (x : Hdrs) (o : Nat) (peer : Bool) (s : State) : State :=
  let l := i.frame.octets
  let r := claimReply p k i s
  let body := ptpRespFrame l c x o peer i.frame.stamp r.1 r.2
  let pad := if peer then (l.drop body.length).take (l.length - 4 - body.length) else []
  sendReply p k (if peer then 0x40 else 0x38) (body ++ pad) r.2

/-- A time on TS0 as a sample carries it, in 2⁻¹⁶ ns (R371). -/
def sampleTime (v : Nat × Nat × Nat) : Int := ((v.1 * 10 ^ 9 + v.2.1) % 2 ^ 32 * 2 ^ 16 + v.2.2 / 2 ^ 16 : Nat)

/-- A sample goes to the port's stream (R371). -/
def putSample (p kind seq : Nat) (t : Int) (s : State) : State :=
  { s with fab := { s.fab with smpWay := s.fab.smpWay ++ [(p, BitVec.ofNat 64 (kind * 2 ^ 62 + seq % 2 ^ 14 * 2 ^ 48 + unsigned 48 t))] } }

/-- The PTP timestamp at offset `o` of a frame. -/
def ptpTime (l : List Byte) (o : Nat) : Nat × Nat × Nat := (be l o 6, be l (o + 6) 4, 0)

/-- ASYM of a configuration (R372). -/
def cfgAsym (c : Memory) : Int := signed 64 (c.le 0xe8 8)

/-- A slave's Delay_Req in a Sync's mirrored span, and its KIND 2 sample (R371). -/
def slaveReq (p k : Nat) (i : Inst) (c : Memory) (x : Hdrs) (o seq : Nat) (s : State) : State :=
  let l := i.frame.octets
  let r := claimReply p k i s
  let uni := x.ety != 0x88f7
  let m := beBytes 2 ((c.le 0x10b 1 % 16 * 16 + 1) * 256 + 0x12) ++ beBytes 2 44 ++ (l.drop (o + 4)).take 1 ++ [0]
    ++ beBytes 2 (if uni then 0x400 else 0) ++ List.replicate 12 0 ++ c.bytes 0x100 10 ++ beBytes 2 seq ++ [0x01, 0x7f] ++ List.replicate 10 0
  let hd := turnPtp c l x 319 44
  let h := x.t + 2
  let hd := if uni then
      let hd := c.bytes 0x11a 6 ++ hd.drop 6
      if x.v6 then putAt hd (h + 24) (c.bytes 0x120 16) else putAt hd (h + 16) (c.bytes 0x12c 4)
    else hd
  let s1 := sendReply p k 0x58 (ptpSums x (hd ++ m)) r.2
  putSample p 2 seq (sampleTime (onTs 0 r.1 r.2)) s1

/-- Sync, Follow_Up or Delay_Resp of the parent (R371, R372). -/
def slaveMsg (p k : Nat) (i : Inst) (c : Memory) (x : Hdrs) (o ty : Nat) (s : State) : State :=
  let l := i.frame.octets
  let seq := be l (o + 30) 2
  let corr := ptpCorr l o
  if ty = 0 then
    let s1 := putSample p 0 seq (sampleTime (onTs 0 i.frame.stamp s)) s
    let two := be l (o + 6) 1 / 2 % 2 == 1
    let s2 := if two then s1.setSvc p { s1.svc_ p with sync := some (seq, corr) }
      else putSample p 1 seq (sampleTime (ptpTime l (o + 34)) - corr + cfgAsym c) s1
    if seq % 2 ^ (c.le 0x10d 1 % 32) = 0 then slaveReq p k i c x o seq s2 else s2
  else if ty = 8 then
    match (s.svc_ p).sync with
    | some (q, sc) => if q = seq then putSample p 1 seq (sampleTime (ptpTime l (o + 34)) - corr - sc + cfgAsym c) s else s
    | none => s
  else putSample p 3 seq (sampleTime (ptpTime l (o + 34)) - corr + cfgAsym c) s

/-! ### Exceptions (R373) -/

/-- A frame is captured into the SE's ring or the host's. -/
def capture (p : Nat) (host : Bool) (i : Inst) (s : State) : State :=
  let v := s.svc_ p
  let now := i.start
  let soon := match v.lastExc with
    | some c => decide (now < c + 64 * s.iiNow p)
    | none => false
  let po := if host then 0x118 else 0x108
  let prod := s.svcIdx p po
  if soon || (prod + 2 ^ 32 - s.svcIdx p (po + 8)) % 2 ^ 32 == 128 then svcCount p 0x78 s
  else
    let l := i.frame.octets
    let m := mFlags i.frame.stamp i.frame.unsync i.frame.uncal
    let fl := (if 192 < l.length then 1 else 0) + (if i.frame.unsync then 2 else 0) + (if i.frame.uncal then 4 else 0)
    let rec_ := leBytes 2 l.length ++ leBytes 6 fl ++ leBytes 16 m ++ List.replicate 8 0 ++ l.take 192 ++ List.replicate (192 - l.length) 0
    let a := 0xa0000 + 0x10000 * p + 256 * (prod % 128 + if host then 128 else 0)
    let s1 := { s with fab := { s.fab with mem := s.fab.mem.setBytes a rec_ } }.setSvc p { v with lastExc := some now }
    let s2 := setHam (ctrBase p + po) 4 (prod + 1) s1
    let sideIs := fun (id : Nat) => if host then decide (1 ≤ id ∧ id ≤ 3) else id == 4
    let ch := (List.range 12).find? (fun n => s2.mbBound n &&
      ((s2.mbId n 0 == 7 + p && sideIs (s2.mbId n 1)) || (s2.mbId n 1 == 7 + p && sideIs (s2.mbId n 0))))
    match ch with
    | some n => mbWrite n (.pe (Fin.ofNat 4 p)) (mbPost n (BitVec.ofNat 32 (prod + 1))) s2
    | none => s2

/-! ### Classification (R344, R345) -/

/-- An NTP or NTS request to the port, or a frame that breaks its form (R344, R354–R356, R360). -/
def serveNtp (p k : Nat) (i : Inst) (c : Memory) (x : Hdrs) (full : Bool) (s : State) : State :=
  let l := i.frame.octets
  let n := x.u + 8
  let pay := be l (x.u + 4) 2 - 8
  let bad := i.frame.unsync || i.frame.uncal
  let refused := bad && !cfgSvc c 8
  if pay = 48 then
    if refused then svcCount p 0x60 s
    else
      let r := if full then rateCheck p c l x s else (true, s)
      if r.1 then answerNtp p k i c x .plain bad 0x00 r.2
      else if cfgSvc c 7 then answerNtp p k i c x .rate bad 0x08 r.2
      else svcCount p 0x10 r.2
  else if full && cfgSvc c 1 then
    match ntsFields l n (n + pay) with
    | none => svcCount p 0x30 s
    | some f =>
      if refused then svcCount p 0x60 s
      else
        let r := rateCheck p c l x s
        if r.1 then answerNts p k i c x f bad r.2 else svcCount p 0x10 r.2
  else svcCount p 0x68 s

/-- A PTP message at offset `o` (R344, R345). -/
def servePtp (p k : Nat) (i : Inst) (c : Memory) (x : Hdrs) (o : Nat) (s : State) : State :=
  let l := i.frame.octets
  let ty := be l o 1 % 16
  let dom := be l (o + 4) 1 == c.le 0x10a 1
  let bad := i.frame.unsync || i.frame.uncal
  let parent := cfgSvc c 3 && (ty == 0 || ty == 8 || ty == 9) && be l (o + 20) 10 == cfgN c 0x110 10
  let vouch := fun (f : State → State) => if bad then svcCount p 0x60 s else f s
  let dom := dom && (s.svc_ p).taken
  if ty = 1 ∧ dom = true ∧ cfgSvc c 2 = true ∧ cfgProfile c ≠ 3 then
    if o + 58 ≤ l.length then vouch (ptpResp p k i c x o false) else capture p false i s
  else if ty = 2 ∧ dom = true ∧ cfgProfile c ≠ 3 then vouch (ptpResp p k i c x o true)
  else if parent then vouch (slaveMsg p k i c x o ty)
  else capture p false i s

/-- The template's work on a whole frame, first matching row first (R344). -/
def serve (p k : Nat) (full : Bool) (s : State) : State :=
  match s.inst? p k with
  | none => s
  | some i =>
    if !i.whole || !rxOk i then s else
    let c := (s.svc_ p).cfg
    let l := i.frame.octets
    let x := hdrs l
    let ours := oursMac c l && oursIp c l x
    if !oursMac c l && be l 0 1 % 2 == 0 then svcCount p 0x70 s
    else if x.udp && ours && x.dport == 123 && cfgSvc c 0 && be l (x.u + 8) 1 % 8 == 3 && (1 ≤ be l (x.u + 8) 1 / 8 % 8 && be l (x.u + 8) 1 / 8 % 8 ≤ 4)
        && decide (56 ≤ be l (x.u + 4) 2) && decide (x.u + be l (x.u + 4) 2 + 4 ≤ l.length) then
      serveNtp p k i c x full s
    else match ptpOff c l x with
      | some o => servePtp p k i c x o s
      | none =>
        if x.ety = 0x8809 ∧ be l (x.t + 2) 1 = 0x0a then capture p false i s
        else if x.ety = 0x0806 ∨ (x.ety = 0x0800 ∧ x.proto = 1) ∨ (x.v6 = true ∧ x.proto = 58) ∨ ours = true then capture p true i s
        else svcCount p 0x68 s

/-- The service of an instance whose frame has just become whole, where its bank's template is a stock one. -/
def serveWhole (p k grid : Nat) (s : State) : State :=
  match s.inst? p k with
  | some i => if i.whole then (match s.stock p i.bank with
    | some full => serve p k full (s.turnAt p grid)
    | none => s) else s
  | none => s

/-! ### The lap (R348, R367–R374) -/

/-- CFG_SEQ and CFG_APPLIED (R348): a copy made at one boundary is applied at the next. -/
def cfgLap (p : Nat) (s : State) : State :=
  let b := cfgBase p
  let v := s.svc_ p
  let s1 := match v.pend with
    | some (q, m) => setHam (b + 4) 4 q (s.setSvc p { v with cfg := m, pend := none, taken := true })
    | none => s
  let q := s1.fab.mem.le b 4
  if q = s1.fab.mem.le (b + 4) 4 then s1
  else s1.setSvc p { s1.svc_ p with pend := some (q, Memory.setBytes [] 0 (s1.fab.mem.bytes b 0x400)) }

/-- A writer of the configuration block asks for the update: CFG_SEQ moves on to a value other than CFG_APPLIED (R348). -/
def cfgAsk (p : Nat) (s : State) : State :=
  let b := cfgBase p
  let q := (s.fab.mem.le b 4 + 1) % 2 ^ 32
  setHam b 4 (if q = s.fab.mem.le (b + 4) 4 then q + 1 else q) s

/-- A frame enters the originated buffer at the lap's next place, and its descriptor queues; `w` is the descriptor without OFFSET (R257). -/
def lapQueue (p w : Nat) (l : List Byte) (s : State) : State :=
  let v := s.svc_ p
  let n := (l.length + 7) / 8 * 8
  let at_ := if v.bufAt + n ≤ 16384 then v.bufAt else 0
  let e := s.pe_ p
  origQueue p (w / 2 ^ 14 * 2 ^ 14 + at_) ((s.setPe p { e with orig := e.orig.setBytes at_ l }).setSvc p { v with bufAt := at_ + n })

/-- A descriptor word for insert mode. -/
def insDesc (len off fmt : Nat) : Nat := len * 2 ^ 14 + 2 * 2 ^ 28 + off * 2 ^ 38 + fmt * 2 ^ 52

/-- The headers of a message of `pay` octets to a session's peer, and the offset at which the message starts (R367, R369). -/
def sessHeaders (c e : Memory) (port pay : Nat) : List Byte × Hdrs :=
  let d := e.le 0 8
  let eth := d.testBit 2
  let v6 := d.testBit 1
  let tag := if d.testBit 48 then beBytes 4 (0x8100 * 2 ^ 16 + d / 2 ^ 32 % 2 ^ 16)
    else if (c.le 0x14 4).testBit 16 then beBytes 4 (0x8100 * 2 ^ 16 + c.le 0x14 2) else []
  let mac := e.bytes 8 6 ++ c.bytes 8 6 ++ tag
  let t := mac.length
  let dscp := c.le 0x18 1 % 64 * 4
  let hops := c.le 0x19 1
  let udp := beBytes 2 port ++ beBytes 2 port ++ beBytes 2 (pay + 8) ++ [0, 0]
  let x : Hdrs := { t := t, ety := if eth then 0x88f7 else if v6 then 0x86dd else 0x0800, v6 := v6, udp := !eth, proto := 17,
                    u := t + 2 + if v6 then 40 else 20, sport := port, dport := port }
  if eth then (mac ++ beBytes 2 0x88f7, x)
  else if v6 then
    (mac ++ beBytes 2 0x86dd ++ beBytes 4 (6 * 2 ^ 28 + dscp * 2 ^ 20) ++ beBytes 2 (pay + 8) ++ beBytes 2 (17 * 256 + hops) ++ c.bytes 0x40 16
      ++ e.bytes 16 16 ++ udp, x)
  else
    (mac ++ beBytes 2 0x0800 ++ beBytes 2 (0x4500 + dscp) ++ beBytes 2 (pay + 28) ++ beBytes 4 0x4000 ++ beBytes 2 (hops * 256 + 17) ++ [0, 0]
      ++ c.bytes 0x20 4 ++ e.bytes 28 4 ++ udp, x)

/-- A message queued as an originated frame in insert mode at its originTimestamp (R369). -/
def sessSend (p port fmt : Nat) (c e : Memory) (m : List Byte) (s : State) : State :=
  let h := sessHeaders c e port m.length
  let body := ptpSums h.2 (h.1 ++ m)
  let body := body ++ List.replicate (60 - body.length) 0
  lapQueue p (insDesc (body.length + 4) (h.1.length + 34) fmt) body s

/-- A session's Sync (R369). -/
def syncMsg (c e : Memory) (seq : Nat) : List Byte :=
  let d := e.le 0 8
  beBytes 2 (c.le 0x10b 1 % 16 * 4096 + 0x12) ++ beBytes 2 44 ++ beBytes 2 (d / 256 % 256 * 256) ++ beBytes 2 (if d.testBit 2 then 0 else 0x400)
    ++ List.replicate 12 0 ++ c.bytes 0x100 8 ++ beBytes 2 (e.le 0x28 2) ++ beBytes 2 seq ++ [0x00] ++ leBytes 1 (d / 2 ^ 16)
    ++ List.replicate 10 0

/-- A session's Announce with the fields that the lap overwrites (R369). -/
def annMsg (c : Memory) (seq : Nat) (s : State) : List Byte :=
  let m := c.bytes 0x200 (min 128 (max 64 (cfgN c 0x202 2)))
  let pend := s.flag (F.TS_UTC_LEAP_PEND 0)
  let dir := s.flag (F.TS_UTC_LEAP_DIR 0)
  let g := s.tsGov 0
  let b := fun (x : Bool) (v : Nat) => if x then v else 0
  let fl := b (pend && !dir) 1 + b (pend && dir) 2 + b (s.tsErr 0 != 2 ^ 32 - 1) 4 + be m 7 1 / 8 % 2 * 8 + b (s.tsTraceable 0) 16
    + b (g < 8 && s.dpllState g == 2) 32 + be m 7 1 / 64 * 64
  putAt (putAt (putAt m 7 (beBytes 1 fl)) 44 (beBytes 2 (unsigned 16 (s.utcOff 0)))) 30 (beBytes 2 seq)

/-- The present TS0 time in 2⁻¹⁶ s modulo 2³² (R367). -/
def State.ts0Due (s : State) : Nat :=
  let a := if (s.tsp 0).run then (s.tsp 0).acc else 0
  (tsSecOf a * 65536 + tsNsOf a * 65536 / 10 ^ 9) % 2 ^ 32

/-- Whether a message is due, and its next due time (R368). -/
def dueNext (now due li : Nat) : Bool × Nat :=
  let past : Int := signed 32 (unsigned 32 ((now : Int) - due))
  let step : Nat := 2 ^ (16 + clampS 5 (signed 8 li)).toNat
  (decide (0 ≤ past), if (step : Int) < past then (now + step) % 2 ^ 32 else (due + step) % 2 ^ 32)

/-- A visit to session entry `n` of the port (R368). -/
def visit (p n : Nat) (s : State) : State :=
  let c := (s.svc_ p).cfg
  let a := 0xc00000 + 64 * (16384 * p + n)
  let e := fun (s : State) => Memory.setBytes [] 0 (s.fab.mem.bytes a 64)
  let d := (e s).le 0 8
  let first := cfgProfile c == 1 || n == 0
  if !(d.testBit 0 && cfgSvc c 2 && cfgProfile c != 3 && first) then s else
  let sec : Nat := (if (s.tsp 0).run then tsSecOf (s.tsp 0).acc else 0) % 2 ^ 32
  let granted := fun (g : Nat) => decide (0 < signed 32 (unsigned 32 ((g : Int) - sec)))
  let now := s.ts0Due
  let s1 :=
    let x := dueNext now ((e s).le 0x38 4) (d / 2 ^ 16 % 256)
    if d.testBit 3 && granted ((e s).le 0x20 4) && x.1 then
      let q := (e s).le 0x30 2
      setHam (a + 0x38) 4 x.2 (setHam (a + 0x30) 2 (q + 1) (svcCount p 0x48 (sessSend p 319 3 c (e s) (syncMsg c (e s) q) s)))
    else s
  let x := dueNext now ((e s1).le 0x3c 4) (d / 2 ^ 24 % 256)
  if d.testBit 4 && granted ((e s1).le 0x24 4) && x.1 then
    let q := (e s1).le 0x32 2
    setHam (a + 0x3c) 4 x.2 (setHam (a + 0x32) 2 (q + 1) (svcCount p 0x50 (sessSend p 320 0 c (e s1) (annMsg c q s1) s1)))
  else s1

/-- The lap's nine visits (R368). -/
def sessLap (p : Nat) (s : State) : State :=
  let v := s.svc_ p
  (List.range 9).foldl (fun s k => visit p ((v.visit + k) % 16384) s) (s.setSvc p { v with visit := (v.visit + 9) % 16384 })

/-- Slot `k` of port `p`'s injection slots is at this address (R346). -/
def slotAt (p k : Nat) : Nat := 0x20000 + 0x20000 * p + 0x800 * (k % 64)

/-- The lap consumes slot `k`: its frame queues, unless its LENGTH is too large (R374). -/
def injectSlot (p : Nat) (s : State) (k : Nat) : State :=
  let a := slotAt p k
  let d := s.fab.mem.le a 8
  let len := d / 2 ^ 14 % 2 ^ 14
  let s1 := setHam (ctrBase p + 0x100) 4 (s.svcIdx p 0x100 + 1) s
  if 2032 < len then svcCount p 0x80 s1 else lapQueue p d (s1.fab.mem.bytes (a + 16) len) s1

/-- A doorbell's slots are copied and queued (R374). -/
def injectLap (p : Nat) (s : State) : State :=
  if !s.flag ⟨Reg.DB_STATUS p, 0, 1⟩ then s else
  let r := takeDoorbell p false s
  let w := r.1.toNat
  if w / 2 ^ 12 != 0 then svcCount p 0x80 r.2
  else (List.range (w / 64 % 64 + 1)).foldl (fun s k => injectSlot p s (w + k)) r.2

/-! ### Stock firmware's frames (R117, R240, R341, R365, R374) -/

/-- Firmware puts a frame, given without its FCS, into its next injection slot of port `p` and rings the lap; with every slot waiting to be
copied it drops the frame. -/
def fwInject (p : Nat) (l : List Byte) (s : State) : State :=
  let v := s.svc_ p
  if 16 ≤ v.fwSlots.length then s else
  let k := 48 + v.fwNext % 16
  let l := l ++ List.replicate (60 - l.length) 0
  let mem := s.fab.mem.setBytes (slotAt p k) (leBytes 8 ((l.length + 4) * 2 ^ 14) ++ List.replicate 8 0 ++ l)
  ({ s with fab := { s.fab with mem := mem } }).setSvc p { v with fwSlots := v.fwSlots ++ [k], fwNext := (v.fwNext + 1) % 16 }

/-- The lap copies the slots that firmware has rung it for. -/
def fwSlotsLap (p : Nat) (s : State) : State :=
  let v := s.svc_ p
  v.fwSlots.foldl (injectSlot p) (s.setSvc p { v with fwSlots := [] })

/-- An exception record of the SE ring as firmware reads it: the frame octets it holds, the stamp, and whether the stamp is vouched for. -/
def State.seRecord (s : State) (p n : Nat) : List Byte × Nat × Bool :=
  let a := 0xa0000 + 0x10000 * p + 256 * (n % 128)
  (s.fab.mem.bytes (a + 32) (min 192 (s.fab.mem.le a 2)), s.fab.mem.le (a + 8) 16 % 2 ^ 120, s.fab.mem.le (a + 2) 1 / 2 % 4 == 0)

/-- A received ESMC PDU: its quality level where it carries the ITU-T OUI, its subtype and a QL TLV, and whether it is an information PDU. -/
def esmcQl (l : List Byte) : Option (Nat × Bool) :=
  let t := typeOff l
  if be l t 2 = 0x8809 ∧ be l (t + 2) 1 = 0x0a ∧ be l (t + 3) 5 = 0x0019a70001 ∧ be l (t + 12) 3 = 0x010004 then
    some (be l (t + 15) 1 % 16, be l (t + 8) 1 / 8 % 2 == 0)
  else none

/-- Firmware applies a received quality level to the reference of the port (R117, R240). -/
def esmcApply (p ql : Nat) (info : Bool) (s : State) : State :=
  let s1 := s.setFld (F.REF_QL_QL_RANK (12 + p)) (ssmRank ql)
  if info then s1.setPrt p { s1.prt_ p with esmcRx := s1.tiu.count } else s1

/-- Firmware answers Delay_Req at most 20,000 times a second over the device (R3, R365). -/
def State.dreqMay (s : State) : Bool :=
  match s.se.dreqAt with
  | some t => 25000 ≤ s.since t
  | none => true

/-- A short Delay_Req in the domain, with PTP_MASTER, whose stamp is vouched for (R344, R345, R365): the offset of its message. -/
def shortReq (l : List Byte) (vouched : Bool) (c : Memory) : Option Nat :=
  match ptpOff c l (hdrs l) with
  | some o =>
    if be l o 1 % 16 = 1 ∧ be l (o + 4) 1 = c.le 0x10a 1 ∧ cfgSvc c 2 = true ∧ cfgProfile c ≠ 3 ∧ vouched = true then some o else none
  | none => none

/-- An Announce of the parent gives the rank of the packet reference (R117, R341): its clockClass. -/
def announceClass (l : List Byte) (c : Memory) : Option Nat :=
  match ptpOff c l (hdrs l) with
  | some o => if be l o 1 % 16 = 11 ∧ be l (o + 20) 10 = cfgN c 0x110 10 then some (be l (o + 48) 1) else none
  | none => none

/-- Firmware's work on the oldest record of port `p`'s SE ring; none where it must wait. -/
def fwRecord (p : Nat) (s : State) : Option State :=
  let c := (s.svc_ p).cfg
  let n := s.svcIdx p 0x110
  let r := s.seRecord p n
  let s1 := setHam (ctrBase p + 0x110) 4 (n + 1) s
  match esmcQl r.1, shortReq r.1 r.2.2 c, announceClass r.1 c with
  | some (ql, info), _, _ => some (esmcApply p ql info s1)
  | _, some o, _ =>
    if s.dreqMay then
      let s2 : State := { s1 with se := { s1.se with dreqAt := some s1.tiu.count } }
      some (fwInject p (ptpRespFrame r.1 c (hdrs r.1) o false r.2.1 0 s2) s2)
    else none
  | _, _, some k => some (s1.setFld (F.REF_QL_QL_RANK (17 + p)) (classRank k))
  | _, _, _ => some s1

/-- The records of the SE ring that wait are handled in order, at most `fuel` of them. -/
def fwRecords (p : Nat) : Nat → State → State
  | 0, s => s
  | n + 1, s => if s.svcIdx p 0x108 = s.svcIdx p 0x110 then s else match fwRecord p s with
    | some s1 => fwRecords p n s1
    | none => s

/-- The quality level that a port sends: that of DPLL0's selected reference while it is LOCKED, else the device's own (R239, R240). -/
def State.esmcOwn (s : State) : Nat :=
  if s.dpllState 0 = 2 ∧ s.selCur 0 < 22 then
    match s.fld (F.REF_QL_QL_RANK (s.selCur 0)) with
    | 1 => 0x2
    | 2 => 0x4
    | 3 => 0x8
    | 4 => 0xb
    | _ => 0xf
  else 0xb

/-- An ESMC PDU of port `p` without padding (R240). -/
def esmcPdu (ql : Nat) (event : Bool) (c : Memory) : List Byte :=
  [0x01, 0x80, 0xc2, 0x00, 0x00, 0x02] ++ c.bytes 8 6 ++ [0x88, 0x09, 0x0a, 0x00, 0x19, 0xa7, 0x00, 0x01, if event then 0x18 else 0x10, 0, 0, 0]
    ++ [0x01, 0x00, 0x04] ++ beBytes 1 ql

/-- Firmware sends an information PDU each second on a port that is UP, and an event PDU when the quality level changes (R240). -/
def esmcSend (p : Nat) (s : State) : State :=
  let ql := s.esmcOwn
  let v := s.prt_ p
  let send := fun (event : Bool) => fwInject p (esmcPdu ql event (s.svc_ p).cfg) (s.setPrt p { v with esmcTx := some (s.tiu.count, ql) })
  if s.portState p != 4 then s else
  match v.esmcTx with
  | some (t, q) => if q != ql then send true else if 500000000 ≤ s.since t then send false else s
  | none => send false

/-- Firmware updates REFTS each second while the DPLL that governs NTP_TS is LOCKED (R347). -/
def fwRefts (p : Nat) (s : State) : State :=
  let v := s.svc_ p
  let t := cfgTs v.cfg
  let g := s.tsGov t
  let due := match v.refAt with
    | some a => 500000000 ≤ s.since a
    | none => true
  if due && (s.tsp t).run && g < 8 && s.dpllState g == 2 then
    let a := (s.tsp t).acc
    let w := (ntpOf (tsSecOf a) (tsNsOf a) (tsFracOf a) (s.utcOff t)).1
    cfgAsk p ({ s with fab := { s.fab with mem := s.fab.mem.setBytes (cfgBase p + 0xd0) (beBytes 8 w) } }.setSvc p { v with refAt := some s.tiu.count })
  else s

/-- What stock firmware does for port `p` while it runs: the records of the SE ring, ESMC, and the reference timestamp. -/
def fwLap (p : Nat) (s : State) : State := if s.seState = 4 then fwRefts p (esmcSend p (fwRecords p 128 s)) else s

/-- What a stock lap does at its boundary: configuration, sessions, injections, and firmware's work on what passes between them. -/
def stockLap (p : Nat) (s : State) : State :=
  let e := s.pe_ p
  if e.runs && !s.hamDark && (s.stock p e.bank).isSome then fwSlotsLap p (fwLap p (injectLap p (sessLap p (cfgLap p s)))) else s

/-! ### Meanings -/

/-- INSTANCE_START (R246–R253, R344): beat 0 of the head frame is released in cycle `c`; the template of a frame of one beat serves it
at once. -/
def execInstanceStart (p : Fin 4) (c grid : Nat) (s : State) : Host.Outcome State Fault Refusal :=
  fin (if s.fclkOn && c % gatePeriod (s.modeIdx p.val) == 0 && (c == s.cycle || c + 1 == s.cycle) then
    let k := (s.pe_ p.val).k
    let s1 := beat0 p.val c s
    if (s1.pe_ p.val).k = k then s1 else serveWhole p.val k grid (tmuxEvent (0x58 + p.val) s1)
  else s)

/-- BEAT_RELEASE (R251, R344): in a cycle of the gate's phase; the template has the whole frame with its last beat. -/
def execBeatRelease (p : Fin 4) (late : Bool) (grid : Nat) (s : State) : Host.Outcome State Fault Refusal :=
  fin (if s.fclkOn && s.cycle % gatePeriod (s.modeIdx p.val) ≤ 1 then
    match (s.pe_ p.val).cur with
    | some k =>
      let s1 := nextBeat p.val late s
      if late || (s1.pe_ p.val).cur.isSome then s1 else serveWhole p.val k grid s1
    | none => s
  else s)

/-- TMUX shows the lap's bundle 0 of a PE that runs (R543). -/
def lapBundle0 (p : Nat) (s : State) : State := if (s.pe_ p).runs then tmuxEvent (0x52 + p) s else s

/-- PE_LAP_BOUNDARY (R246, R334, R338, R348, R368, R374): in a fabric cycle c with c mod L = 0, or the cycle after it where a clock edge
passed two cycles. -/
def execPeLapBoundary (p : Fin 4) (s : State) : Host.Outcome State Fault Refusal :=
  fin (if s.fclkOn && s.cycle % (s.pe_ p.val).lap ≤ 1 then stockLap p.val (lapBundle0 p.val (peBoundary p.val s)) else s)

end Sys2Proof.Machine
end

