-- ==== Sys2Proof/Machine/HostCmd.lean ====
section
/-! DEFINITION. Host commands (R402–R405): stock firmware's answers on queue channels and block channels bound to a host and the SE, and
what the key, Crypto Officer and dataset commands do. -/

namespace Sys2Proof.Machine

abbrev stOk : Nat := 0x00
abbrev stBadCmd : Nat := 0x01
abbrev stBadArg : Nat := 0x02
abbrev stWrongChannel : Nat := 0x03
abbrev stDenied : Nat := 0x04
abbrev stFailed : Nat := 0x06

/-- The command codes of queue channels and of block channels (R405). -/
def queueCmds : List Nat := [0x01, 0x02, 0x03, 0x08, 0x11, 0x12, 0x18]
def blockCmds : List Nat := [0x10, 0x13, 0x19, 0x20]

/-- The direction from the host to the SE of a channel that firmware serves: it runs, and the channel is bound to a host and the SE. -/
def State.fwDir (s : State) (n : Nat) : Option Nat :=
  let host := fun (id : Nat) => decide (1 ≤ id ∧ id ≤ 3)
  if !s.blockOn 10 || s.seState != 4 || !s.mbBound n || s.wHeld 0xa n then none
  else if host (s.mbId n 0) && s.mbId n 1 == 4 then some 0
  else if host (s.mbId n 1) && s.mbId n 0 == 4 then some 1
  else none

/-- The SE pops `k` entries of direction d. -/
def popN (n d : Nat) : Nat → State → State
  | 0, s => s
  | k + 1, s => popN n d k (mbPop n d s).2

/-- What firmware answers: a status, result words, and the state after. -/
structure Ans where
  st : Nat
  res : List Nat
  s : State

/-- The answer to a queue command: a header and result words, posted as one message (R402). -/
def answerQueue (n d cmd seq : Nat) (a : Ans) : State :=
  let words := (cmd + seq * 2 ^ 8 + a.res.length * 2 ^ 16 + a.st * 2 ^ 24) :: a.res
  words.foldl (fun s w => mbPost n (BitVec.ofNat 32 w) (1 - d) s) a.s

/-- A message cut short is counted (R404). -/
def fwCut (s : State) : State := { s with se := { s.se with cut := s.se.cut + 1 } }

/-- A BAD_CMD is counted (R404). -/
def fwBadCmd (s : State) : State := { s with se := { s.se with badCmd := s.se.badCmd + 1 } }

/-- The message at the head of a queue channel is answered, if it is whole and is command `cmd` or one that no row names, and there is
room for the answer (R402–R404). -/
def fwQueue (n cmd : Nat) (act : List Nat → State → Ans) (s : State) : State :=
  match s.fwDir n with
  | none => s
  | some d =>
    match (s.mbDir n d).q with
    | [] => s
    | none :: _ => popN n d 1 s
    | some h :: t =>
      let narg := h.toNat / 2 ^ 16 % 8
      let seq := h.toNat / 2 ^ 8 % 256
      let code := h.toNat % 256
      let args := t.take narg
      match args.findIdx? (fun w => w.isNone) with
      | some k => fwCut (popN n d (k + 2) s)
      | none =>
        let vals := (args.filterMap id).map BitVec.toNat
        if args.length < narg then s
        else if code = cmd then
          let r := act vals (popN n d (narg + 1) s)
          if s.mbLevel n (1 - d) + r.res.length + 1 ≤ 8 then answerQueue n d code seq r else s
        else if queueCmds.contains code || 8 ≤ s.mbLevel n (1 - d) then s
        else if blockCmds.contains code then answerQueue n d code seq ⟨stWrongChannel, [], popN n d (narg + 1) s⟩
        else answerQueue n d code seq ⟨stBadCmd, [], fwBadCmd (popN n d (narg + 1) s)⟩

/-- An answer on a block channel: `l` octets in blocks of 64, FIRST and LAST marked (R403). -/
def answerBlocks (n d cmd seq st : Nat) (l : List Byte) (s : State) : State :=
  let k := max 1 ((l.length + 63) / 64)
  let outs := (List.range k).map (fun i =>
    BlkOut.mk ((l.drop (64 * i)).take 64) (1 + (if i = 0 then 2 else 0) + (if i + 1 = k then 4 else 0) + seq * 2 ^ 8 + cmd * 2 ^ 16 + st * 2 ^ 24))
  fwNextBlk n (1 - d) { s with se := { s.se with resp := Tbl.set (fun _ => []) s.se.resp n outs } }

/-- A block command's answer: a status and its octets; FAILED carries the result code as its first word. -/
structure BAns where
  st : Nat
  octets : List Byte
  s : State

def State.fwMsg (s : State) (n : Nat) : Option BlkMsg := Tbl.get (fun _ => none) s.se.msg n
def State.setFwMsg (s : State) (n : Nat) (m : Option BlkMsg) : State :=
  { s with se := { s.se with msg := Tbl.set (fun _ => none) s.se.msg n m } }

/-- The posted block of a channel is taken; a LAST block of command `cmd`, or of one that no row names, is answered (R403, R404). -/
def fwBlock (n cmd : Nat) (act : Nat → List Byte → State → BAns) (s : State) : State :=
  match s.fwDir n with
  | none => s
  | some d =>
    let v := s.mbDir n d
    if !s.mbGo n d then
      if v.mark then
        let s1 := mbRelease n d (s.setFwMsg n none)
        if (s.fwMsg n).isSome then fwCut s1 else s1
      else s
    else if !(Tbl.get (fun _ => []) s.se.resp n).isEmpty || s.mbGo n (1 - d) then s
    else
      let c := s.rv (Reg.CTL n d)
      let code := c / 2 ^ 16 % 256
      if code != cmd && blockCmds.contains code then s
      else
        let l := (List.range 16).flatMap (fun j => leBytes 4 (s.rv (Reg.BLK n d j)))
        let old := s.fwMsg n
        let s1 := mbRelease n d s
        let first := c.testBit 1
        if !first && old.isNone then fwCut s1
        else
          let s2 := if first && old.isSome then fwCut s1 else s1
          let m : BlkMsg := match first, old with
            | false, some o => { o with octets := o.octets ++ l }
            | _, _ => ⟨c / 2 ^ 8 % 256, code, c / 2 ^ 24 % 256, l⟩
          if !c.testBit 2 then s2.setFwMsg n (some m)
          else
            let s3 := s2.setFwMsg n none
            if m.cmd = cmd then
              let r := act m.arg m.octets s3
              answerBlocks n d m.cmd m.seq r.st r.octets r.s
            else if queueCmds.contains m.cmd then answerBlocks n d m.cmd m.seq stWrongChannel [] s3
            else answerBlocks n d m.cmd m.seq stBadCmd [] (fwBadCmd s3)

/-! ### Keys and the Crypto Officer (R361, R460–R463, R468, R469) -/

/-- Channel `n`'s host holds the CO session, on whose channel alone firmware accepts the key commands (R463). -/
def State.coChannel (s : State) (n : Nat) : Bool :=
  s.flag F.SEC_STATUS_CO_ACTIVE && (s.mbId n 0 == s.fld F.CO_SESSION_CO_ID || s.mbId n 1 == s.fld F.CO_SESSION_CO_ID)

/-- The ID of channel `n`'s host. -/
def State.hostOf (s : State) (n : Nat) : Nat := if s.mbId n 0 = 4 then s.mbId n 1 else s.mbId n 0

/-- The SE writes `v` in `k` octets at offset `o` of the configuration block of each FULL port, and asks for the update (R347, R348). -/
def cfgPublish (o k v : Nat) (s : State) : State :=
  if s.hamDark then s else
  forEach ((List.range 4).filter (fun p => (s.pe_ p).runs && s.stock p (s.pe_ p).bank == some true)) (fun s p =>
    cfgAsk p (setHam (cfgBase p + o) k v s)) s

/-- The SE stages octets for a security command (R478). -/
def seStage (l : List Byte) (s : State) : State :=
  (List.range ((l.length + 3) / 4)).foldl (fun s j => secStage 4 j (BitVec.ofNat 32 (leVal ((l.drop (4 * j)).take 4))) s) s

/-- The SE issues a security command: its result code and the state after. -/
def seSec (code arg arg2 : Nat) (s : State) : Nat × State :=
  let s1 := secCmd 4 code arg arg2 s
  (s1.rv Reg.SEC_RESULT % 256, s1)

/-- KEY_LOAD: the key is loaded into slot `arg`, then its ID is published (R361, R468). -/
def doKeyLoad (n arg : Nat) (l : List Byte) (s : State) : BAns :=
  if !s.coChannel n then ⟨stDenied, [], s⟩
  else if 16 ≤ arg ∨ l.length < 76 then ⟨stBadArg, [], s⟩
  else
    let r := seSec 0x12 arg 0 (seStage (l.take 76) s)
    if r.1 = 0 then ⟨stOk, [], cfgPublish (0x300 + 4 * arg) 4 (beVal (l.take 4)) r.2⟩ else ⟨stFailed, leBytes 4 r.1, r.2⟩

/-- KEY_RETIRE: the ID is withdrawn, then the slot is overwritten (R361, R469). -/
def doKeyRetire (n : Nat) (args : List Nat) (s : State) : Ans :=
  match args with
  | [i] =>
    if !s.coChannel n then ⟨stDenied, [], s⟩
    else if 16 ≤ i then ⟨stBadArg, [], s⟩
    else
      let r := seSec 0x13 i 0 (cfgPublish (0x300 + 4 * i) 4 0 s)
      if r.1 = 0 then ⟨stOk, [], r.2⟩ else ⟨stFailed, [r.1], r.2⟩
  | _ => ⟨stBadArg, [], s⟩

/-- KEY_SELECT: slot `i`, which holds a loaded key, becomes CUR_SLOT (R361). -/
def doKeySelect (n : Nat) (args : List Nat) (s : State) : Ans :=
  match args with
  | [i] =>
    if !s.coChannel n then ⟨stDenied, [], s⟩
    else if 16 ≤ i ∨ (s.keyRec i).isNone = true then ⟨stBadArg, [], s⟩
    else ⟨stOk, [], cfgPublish 0x340 1 i { s with se := { s.se with cur := i } }⟩
  | _ => ⟨stBadArg, [], s⟩

/-- The cookies of COOKIE_MINT, each with a nonce of its own (R357, R362). -/
def mintAll (id : Nat) (key c2s s2c : List Nat) : Nat → State → List Byte × State
  | 0, s => ([], s)
  | k + 1, s =>
    let d := drbg 16 s
    let ck := octetsOf (mintCookie id (key.take 32) (key.drop 32) (nats d.1) c2s s2c)
    let r := mintAll id key c2s s2c k d.2
    (ck ++ r.1, r.2)

/-- COOKIE_MINT: `arg` cookies under CUR_SLOT (R362, R405). -/
def doMint (arg : Nat) (l : List Byte) (s : State) : BAns :=
  if arg = 0 ∨ 8 < arg then ⟨stBadArg, [], s⟩
  else match s.keyRec s.se.cur with
    | none => ⟨stFailed, leBytes 4 rBadArg, s⟩
    | some (id, key) =>
      let r := mintAll id (nats key) (nats (l.take 32)) (nats ((l.drop 32).take 32)) arg s
      ⟨stOk, r.1, r.2⟩

/-- CO_CHALLENGE (R461). -/
def doChallenge (s : State) : Ans :=
  let r := seSec 0x10 0 0 s
  if r.1 = 0 then ⟨stOk, (List.range 4).map (fun j => r.2.rv (Reg.SEC_CHAL + 4 * j)), r.2⟩ else ⟨stFailed, [r.1], r.2⟩

/-- CO_RESPONSE in registers 0–7 of block channel `n` (R461). -/
def doResponse (n : Nat) (l : List Byte) (s : State) : BAns :=
  let r := seSec 0x11 (s.hostOf n) n (seStage (l.take 32) s)
  if r.1 = 0 then ⟨stOk, [], r.2⟩ else ⟨stFailed, leBytes 4 r.1, r.2⟩

/-- BIND: channel, ID_A, ID_B (R390, R405). -/
def doBind (args : List Nat) (s : State) : Ans :=
  match args with
  | [c, a, b] =>
    if 16 ≤ c then ⟨stBadArg, [], s⟩
    else if s.mbBound c then ⟨stDenied, [], s⟩
    else
      let s1 := mbBindWrite .se c (a % 256 + 256 * (b % 256)) s
      if s1.mbBound c then ⟨stOk, [], s1⟩ else ⟨stBadArg, [], s1⟩
  | _ => ⟨stBadArg, [], s⟩

/-- STATUS: the services word is firmware's own (an open value), then its counts (R405). -/
def doStatus (s : State) : Ans :=
  let d := s.draw
  ⟨stOk, [d.1 % 2 ^ 32, d.2.se.cut, d.2.se.badCmd], d.2⟩

/-! ### Meanings: firmware answers the command at the head of channel `n` -/

/-- PING (R405). -/
def execPing (n : Fin 12) (s : State) : Host.Outcome State Fault Refusal := fin (fwQueue n.val 0x01 (fun a s => ⟨stOk, a, s⟩) s)
/-- VERSION (R405). -/
def execVersion (n : Fin 12) (s : State) : Host.Outcome State Fault Refusal :=
  fin (fwQueue n.val 0x02 (fun _ s => ⟨stOk, [s.rv Reg.FW_VERSION, s.rv Reg.FW_SECVER, s.rv Reg.ROM_VER], s⟩) s)
/-- STATUS (R405). -/
def execStatus (n : Fin 12) (s : State) : Host.Outcome State Fault Refusal := fin (fwQueue n.val 0x03 (fun _ s => doStatus s) s)
/-- BIND (R405). -/
def execBind (n : Fin 12) (s : State) : Host.Outcome State Fault Refusal := fin (fwQueue n.val 0x08 doBind s)
/-- KEY_LOAD (R405, R468). -/
def execKeyLoad (c : Fin 4) (s : State) : Host.Outcome State Fault Refusal := fin (fwBlock (12 + c.val) 0x10 (doKeyLoad (12 + c.val)) s)
/-- KEY_RETIRE (R361, R405). -/
def execKeyRetire (n : Fin 12) (s : State) : Host.Outcome State Fault Refusal := fin (fwQueue n.val 0x11 (doKeyRetire n.val) s)
/-- KEY_SELECT (R361, R405). -/
def execKeySelect (n : Fin 12) (s : State) : Host.Outcome State Fault Refusal := fin (fwQueue n.val 0x12 (doKeySelect n.val) s)
/-- COOKIE_MINT (R362, R405). -/
def execCookieMint (c : Fin 4) (s : State) : Host.Outcome State Fault Refusal := fin (fwBlock (12 + c.val) 0x13 doMint s)
/-- CO_CHALLENGE (R405, R461). -/
def execCoChallenge (n : Fin 12) (s : State) : Host.Outcome State Fault Refusal := fin (fwQueue n.val 0x18 (fun _ s => doChallenge s) s)
/-- CO_RESPONSE (R405, R461). -/
def execCoResponse (c : Fin 4) (s : State) : Host.Outcome State Fault Refusal :=
  fin (fwBlock (12 + c.val) 0x19 (fun _ l s => doResponse (12 + c.val) l s) s)
/-- PTP_DATASET (R405): firmware holds the datasets. -/
def execPtpDataset (c : Fin 4) (s : State) : Host.Outcome State Fault Refusal :=
  fin (fwBlock (12 + c.val) 0x20 (fun _ l s => ⟨stOk, [], { s with se := { s.se with ptp := l } }⟩) s)
/-- CUT_MESSAGE (R404): the words that NARG announces have not arrived within 1 ms. -/
def execCutMessage (n : Fin 12) (s : State) : Host.Outcome State Fault Refusal :=
  fin (match s.fwDir n.val with
    | none => s
    | some d => match (s.mbDir n.val d).q with
      | some h :: t =>
        if t.length < h.toNat / 2 ^ 16 % 8 ∧ t.all (fun w => w.isSome) = true then fwCut (popN n.val d (t.length + 1) s) else s
      | _ => s)

end Sys2Proof.Machine
end

