-- ==== Sys2Proof/Machine/Links.lean ====
section
/-! DEFINITION. Frames of the QSPI slave and transactions of the I2C slave (R53–R57, R63, R411, R412): the 24-bit address, the words in turn,
the status. -/

namespace Sys2Proof.Machine

/-- The register address of the 24-bit link address `a` (R53): BAR 0, or BAR 4 from 0x10_0000; none where the space is refused. -/
def linkAddr (a : Nat) : Option Nat :=
  let x := a % 2 ^ 24 / 4 * 4
  if x / 2 ^ 20 = 0 then some x
  else if x / 2 ^ 16 = 16 then some x
  else none

/-- The address of the next word: HWIN_DATA repeats in place (R54). -/
def linkNext (a : Nat) : Nat := if linkAddr a = some Reg.HWIN_DATA then a else (a + 4) % 2 ^ 24

/-- The posted writes that have taken effect before a word of a link has arrived: R25 bounds each below the time of a word, but for the GNSS
block on four lanes, whose bound (200 ns) exceeds a word (160 ns, R413): `gnss` says whether it has. -/
def linkGap (gnss : Bool) (s : State) : State :=
  forEach (List.range 16) (fun s b => if s.blockOn b && (b != 7 || gnss) then postedLand b s else s) s

/-- A refused space: BAD_SPACE (R53), counted in BAD_ACCESS. -/
def badSpace (s : State) : State := answer .badSpace [] (badAccess s)

/-- One word written over a link. -/
def linkWrite (m : Master) (a : Nat) (v : Word) (s : State) : State :=
  match linkAddr a with
  | none => badSpace s
  | some x => busWrite m x v s

/-- One word read over a link. -/
def linkRead (m : Master) (a : Nat) (s : State) : State :=
  match linkAddr a with
  | none => badSpace s
  | some x => busRead m x s

/-- The first error of a frame is its status. -/
def LinkStatus.first (a b : LinkStatus) : LinkStatus := if a = .ok then b else a

/-- A prefetch that completes between two words. -/
def gapFetch (e : Option Ecc) (s : State) : State :=
  match e with
  | some x => hwinDone x s
  | none => s

/-- The words of a write from `a`, with the status so far; an I2C write ends at its first error (R55). -/
def linkWords (m : Master) (gnss : Bool) (stop : Bool) : Nat → List Word → LinkStatus → State → LinkStatus × State
  | _, [], st, s => (st, s)
  | a, v :: t, st, s =>
    let s1 := linkWrite m a v (linkGap gnss s)
    let st1 := st.first s1.bus.reply.status
    if stop && st1 != .ok then (st1, s1) else linkWords m gnss stop (linkNext a) t st1 s1

/-- What a link returns for a word: its data; where the access is in error, 0xFF bytes on I2C (R55) and an open value on QSPI. -/
def linkData (m : Master) (s : State) : Word × State :=
  match s.bus.reply.data with
  | w :: _ => (w, s)
  | [] => if m = .hostI2c then (0xffffffff, s) else (BitVec.ofNat 32 s.draw.1, s.draw.2)

/-- `n` words read from `a`: the status of the first, the first error of all, and the data. `pf` holds the prefetches that complete before
each word after the first. -/
def linkReads (m : Master) (gnss : Bool) : Nat → Nat → List (Option Ecc) → State → LinkStatus × List Word × State
  | 0, _, _, s => (.ok, [], s)
  | n + 1, a, pf, s =>
    let s1 := linkRead m a (linkGap gnss s)
    let st := s1.bus.reply.status
    let d := linkData m s1
    let r := linkReads m gnss n (linkNext a) pf.tail (gapFetch (pf.headD none) d.2)
    (st.first r.1, d.1 :: r.2.1, r.2.2)

/-- A frame that ends inside a word: PARTIAL, counted in BAD_ACCESS (R56). -/
def linkCut (part : Bool) (r : LinkStatus × State) : LinkStatus × State :=
  if part then (r.1.first .partialWord, badAccess r.2) else r

/-! ### QSPI -/

/-- A write frame; an armed guard of an earlier frame has expired (R63). -/
def qspiWrite (quad : Bool) (a : Nat) (ws : List Word) (gnss part : Bool) (s : State) : State :=
  if !s.masterOn .hostSpi then s
  else
    let r := linkCut part (linkWords .hostSpi (!quad || gnss) false a ws .ok (guardEnd .hostSpi s))
    let s1 := answer r.1 [] (r.2.setFld F.LINK_STATUS_QSPI r.1.code)
    { s1 with bus := { s1.bus with spiStatus := r.1 } }

/-- A read frame: its status byte is that of the first word. -/
def qspiRead (quad : Bool) (a n : Nat) (pf : List (Option Ecc)) (gnss part : Bool) (s : State) : State :=
  if !s.masterOn .hostSpi then s
  else
    let r := linkReads .hostSpi (!quad || gnss) n a pf (guardEnd .hostSpi s)
    let c := linkCut part (r.1, r.2.2)
    let head := match linkReads .hostSpi (!quad || gnss) (min n 1) a [] (guardEnd .hostSpi s) with | (st, _, _) => st
    answer (if n = 0 then c.1 else head) r.2.1 (c.2.setFld F.LINK_STATUS_QSPI c.1.code)

/-- QSPI_READ_FRAME: `n` whole words from `a`; `part`: the frame ends inside a further word. -/
def execQspiReadFrame (a : BitVec 24) (n : Nat) (pf : List (Option Ecc)) (part : Bool) (s : State) : Host.Outcome State Fault Refusal :=
  fin (qspiRead false a.toNat n pf true part s)

/-- QSPI_QUAD_READ_FRAME. -/
def execQspiQuadReadFrame (a : BitVec 24) (n : Nat) (pf : List (Option Ecc)) (gnss part : Bool) (s : State) :
    Host.Outcome State Fault Refusal := fin (qspiRead true a.toNat n pf gnss part s)

/-- QSPI_WRITE_FRAME. -/
def execQspiWriteFrame (a : BitVec 24) (ws : List Word) (part : Bool) (s : State) : Host.Outcome State Fault Refusal :=
  fin (qspiWrite false a.toNat ws true part s)

/-- QSPI_QUAD_WRITE_FRAME. -/
def execQspiQuadWriteFrame (a : BitVec 24) (ws : List Word) (gnss part : Bool) (s : State) : Host.Outcome State Fault Refusal :=
  fin (qspiWrite true a.toNat ws gnss part s)

/-- QSPI_STATUS_FRAME: the status of the last completed write frame. -/
def execQspiStatusFrame (s : State) : Host.Outcome State Fault Refusal :=
  fin (if s.masterOn .hostSpi then answer s.bus.spiStatus [] s else s)

/-- QSPI_UNKNOWN_OPCODE: ignored and counted. -/
def execQspiUnknownOpcode (s : State) : Host.Outcome State Fault Refusal :=
  fin (if s.masterOn .hostSpi then badAccess s else s)

/-! ### I2C -/

/-- The pointer `a` is refused: the status of the refusal, with its count (R55). -/
def ptrRefused (a : Nat) (s : State) : Option (LinkStatus × State) :=
  match linkAddr a with
  | none => some (.badSpace, badAccess s)
  | some x =>
    if 0x100000 ≤ x ∨ nearReg x then none
    else if !s.blockOn (x / 0x10000) then some (.domainOff, offAccess s)
    else if s.nvsShut x then some (.refused, nvsRefuse s)
    else none

/-- A transaction at device address `dev` with the pointer `a`, whose data phase is `f`. -/
def i2cDo (dev a : Nat) (f : State → LinkStatus × List Word × State) (s : State) : State :=
  if !s.masterOn .hostI2c || dev != 0x58 + s.casc then s
  else
    let s0 := linkGap true (guardEnd .hostI2c s)
    let s1 := { s0 with bus := { s0.bus with i2cPtr := a % 2 ^ 24 / 4 * 4 } }
    match ptrRefused a s1 with
    | some (st, s2) => answer .nack [] (s2.setFld F.LINK_STATUS_I2C st.code)
    | none =>
      let r := f s1
      answer r.1 r.2.1 (r.2.2.setFld F.LINK_STATUS_I2C r.1.code)

/-- The pointer after `n` words. -/
def linkAfter : Nat → Nat → Nat
  | a, 0 => a
  | a, n + 1 => linkAfter (linkNext a) n

/-- The pointer has advanced past `n` words. -/
def movePtr (a n : Nat) (s : State) : State := { s with bus := { s.bus with i2cPtr := linkAfter (a % 2 ^ 24 / 4 * 4) n } }

/-- I2C_WRITE: the words `ws` from the pointer `ptr`, at device address `dev`. -/
def execI2cWrite (dev : BitVec 7) (ptr : BitVec 24) (ws : List Word) (part : Bool) (s : State) : Host.Outcome State Fault Refusal :=
  fin (i2cDo dev.toNat ptr.toNat (fun s =>
    let r := linkWords .hostI2c true true ptr.toNat ws .ok s
    let c := if r.1 = .ok then linkCut part r else r
    (c.1, [], movePtr ptr.toNat ws.length c.2)) s)

/-- I2C_READ: `n` words from the pointer `ptr`. -/
def execI2cRead (dev : BitVec 7) (ptr : BitVec 24) (n : Nat) (pf : List (Option Ecc)) (part : Bool) (s : State) :
    Host.Outcome State Fault Refusal :=
  fin (i2cDo dev.toNat ptr.toNat (fun s =>
    let r := linkReads .hostI2c true n ptr.toNat pf s
    let c := linkCut part (r.1, r.2.2)
    (c.1, r.2.1, movePtr ptr.toNat n c.2)) s)

end Sys2Proof.Machine
end

