-- ==== Sys2Proof/Machine/Local.lean ====
section
/-! DEFINITION. The local spaces of the engines (R294–R296, R380, R394): LLD and LST, and the register doubleword that a timekeeping engine
reads with RXB. -/

namespace Sys2Proof.Machine

/-- The address of a local access: ga + 8 × off, in 64 bits (R295). -/
def localAddr (y : Syl) (off : Nat) (s : State) : Nat := unsigned 64 ((s.opA y : Int) + 8 * signed 6 off)

/-- The octet address in a memory of `size` octets: doublewords are aligned, and an address beyond wraps (R295). -/
def inSpace (size a : Nat) : Nat := a % size / 8 * 8

/-- The address in the instance scratch: an instance has the slot k mod 64, the lap all of it (R296). -/
def scratchAddr (y : Syl) (a : Nat) : Nat := match y.inst with
  | some k => 256 * (k % 64) + inSpace 256 a
  | none => inSpace (2 ^ 14) a

/-- The address is in a block of the timekeeping register window (R296). -/
def inWindow (a : Nat) : Bool := decide (0x20000 ≤ a) && decide (a < 0x70000)

/-! ### The timekeeping register window -/

/-- The bits that the layout of a status register of the REFSEL or DPLL block gives a meaning; the others read 0 (R8, R128, R150). -/
def statusBits (r : Row) : Word :=
  match r.base with
  | 0x3001c => 0xffff07 | 0x30028 => 0xffff | 0x30034 => 0xfffff | 0x30814 => 0x3f1f1f | 0x30c0c => 0xff
  | 0x40024 => 0x1f1fff | 0x4004c => 0xffff | 0x40808 => 0xff
  | _ => 0xffffffff

/-- A write by TE `t` to a register that no guard concerns: status of the REFSEL and DPLL blocks, which the TEs own, is set; the rest lands
at once, in the TE's own island. -/
def teWord (t : Fin 2) (a : Nat) (v : Word) (s : State) : State :=
  let m := Master.te t
  if 0xfff0 ≤ a % 0x10000 then putCommon a v s
  else match rowAt a with
    | none => if isGd (a - 4) then guardFail m (a - 4) s else s
    | some (r, _, w) =>
      if r.acc = .gd then s.setGuard m (some ⟨a, v, s.now⟩)
      else if r.acc = .ro ∧ (a / 0x10000 = 3 ∨ a / 0x10000 = 4) then s.setReg a (v &&& statusBits r)
      else if r.acc = .w1 && Tbl.get (fun _ => false) s.bus.locks a then decodeFault kLockedWrite a s
      else if r.quantity && decide (w + 1 < r.words) then stageWord m a v s
      else if r.quantity then
        let base := a - 4 * w
        land m.id base ((List.range w).map (fun k => s.stagedWord m (base + 4 * k)) ++ [v]) s
      else land m.id a [v] s

/-- A write by TE `t` in its register window, with its own guard (R62). -/
def teWinWrite (t : Fin 2) (a : Nat) (v : Word) (s : State) : State :=
  let m := Master.te t
  let s1 := guardLate m s
  match s1.guardOf m with
  | none => teWord t a v s1
  | some g =>
    if a = g.addr + 4 then
      (if v = ~~~g.val then land m.id g.addr [g.val] (s1.setGuard m none) else guardFail m g.addr s1)
    else if a = g.addr then guardEnd m s1
    else teWord t a v (guardEnd m s1)

/-! ### The SE's register space -/

/-- The error responses that raise trap ACCESS (R308). -/
def busErr (st : LinkStatus) : Bool := st = .domainOff || st = .refused

/-- An SE access to BAR 0 with the reply it got; the host links' reply stands. -/
def seBus (f : State → State) (s : State) : Reply × State :=
  let s1 := f (answer .ok [] s)
  (s1.bus.reply, { s1 with bus := { s1.bus with reply := s.bus.reply } })

/-! ### LLD -/

/-- A doubleword of the SE's data SRAM, as its check bits say (R308, R380). -/
def seData (y : Syl) (a : Nat) (ecc : Ecc) (s : State) : State :=
  match ecc with
  | .bad => seTrap 6 0 a s.se.pc (s.sendFault srcSe kEccUncorrectable (a + 2 ^ 20))
  | _ =>
    let s1 := if ecc = .corrected then s.bumpFld F.SRAM_CORR_DATA else s
    pcNext y (resReg y 2 ((s1.eng_ 6).data.le a 8) s1)

/-- LLD in window space 3 by a static engine: the mailboxes, a sample stream, the doorbell word. -/
def winLoad (y : Syl) (late : Bool) (o : Nat) (s : State) : State :=
  match y.e with
  | .pe p =>
    if o < 0x100 then let r := mbLld (7 + p.val) o s; resReg y 2 r.1 r.2.2
    else if o = 0x200 then if y.inst.isSome then s else
      let r := takeDoorbell p.val late s
      resReg y 2 r.1.toNat r.2
    else resReg y 2 0 s
  | .te t =>
    if o < 0x100 then let r := mbLld (5 + t.val) o s; resReg y 2 r.1 r.2.2
    else if o < 0x120 then
      let n := (o - 0x100) / 8
      match Tbl.get (fun _ => []) s.fab.smp n with
      | [] => resReg y 2 (2 ^ 63) s
      | d :: rest => resReg y 2 d.toNat { s with fab := { s.fab with smp := Tbl.set (fun _ => []) s.fab.smp n rest } }
    else resReg y 2 0 s
  | .se => s

/-- LLD on a static engine. -/
def localLoad (y : Syl) (late : Bool) (s : State) : State :=
  let a := localAddr y y.b.val s
  match y.e, y.md.val % 4 with
  | _, 0 => resReg y 2 ((s.eng_ y.e.num).data.le (inSpace (dataSize y.e.num) a) 8) s
  | .te t, 1 => let x := a % 2 ^ 20 / 4 * 4; resReg y 2 (if inWindow x then (s.live (5 + t.val) x).toNat else 0) s
  | _, 1 => resReg y 2 ((s.eng_ y.e.num).scratch.le (scratchAddr y a) 8) s
  | .pe p, 2 => let x := inSpace (2 ^ 15) a; resReg y 2 (if x < 0x4000 then (s.pe_ p.val).orig.le x 8 else 0) s
  | _, 2 => s
  | _, _ => winLoad y late (inSpace 0x400 a) s

/-- LLD on the SE: a register read or a mailbox whose far side is off may trap. -/
def seLoad (y : Syl) (ecc : Ecc) (s : State) : State :=
  let a := localAddr y y.b.val s
  match y.md.val % 4 with
  | 0 => seData y (inSpace (2 ^ 18) a) ecc s
  | 1 =>
    let x := a % 2 ^ 20 / 4 * 4
    let r := seBus (busRead .se x) s
    if busErr r.1.status then seTrap 4 0 x s.se.pc r.2 else pcNext y (resReg y 2 (r.1.data.headD 0).toNat r.2)
  | _ =>
    let o := inSpace 0x400 a
    if o < 0x100 then
      let r := mbLld 4 o s
      if r.2.1 then seTrap 4 0 o s.se.pc r.2.2 else pcNext y (resReg y 2 r.1 r.2.2)
    else pcNext y (resReg y 2 0 s)

/-! ### LST -/

/-- The engine's data segment takes a doubleword. -/
def putData (y : Syl) (a v : Nat) (s : State) : State :=
  let g := s.eng_ y.e.num
  s.setEng y.e.num { g with data := g.data.setLe a 8 v }

/-- LST in window space 3 by a static engine. -/
def winStore (y : Syl) (o v : Nat) (s : State) : State :=
  match y.e with
  | .pe p =>
    if o < 0x100 then (mbLst (7 + p.val) o (BitVec.ofNat 32 v) s).2
    else if o = 0x100 then { s with fab := { s.fab with smpWay := s.fab.smpWay ++ [(p.val, BitVec.ofNat 64 v)] } }
    else s
  | .te t => if o < 0x100 then (mbLst (5 + t.val) o (BitVec.ofNat 32 v) s).2 else s
  | .se => s

/-- LST on a static engine. -/
def localStore (y : Syl) (s : State) : State :=
  let a := localAddr y y.dst.val s
  let v := (s.src y y.b.val).toNat
  let g := s.eng_ y.e.num
  match y.e, y.md.val % 4 with
  | _, 0 => putData y (inSpace (dataSize y.e.num) a) v s
  | .te t, 1 => let x := a % 2 ^ 20 / 4 * 4; if inWindow x then teWinWrite t x (BitVec.ofNat 32 v) s else s
  | _, 1 => s.setEng y.e.num { g with scratch := g.scratch.setLe (scratchAddr y a) 8 v }
  | .pe p, 2 =>
    let x := inSpace (2 ^ 15) a
    let q := s.pe_ p.val
    if x < 0x4000 then s.setPe p.val { q with orig := q.orig.setLe x 8 v }
    else if x = 0x4000 then origQueue p.val v s
    else s
  | _, 2 => s
  | _, _ => winStore y (inSpace 0x400 a) v s

/-- LST on the SE. -/
def seStore (y : Syl) (s : State) : State :=
  let a := localAddr y y.dst.val s
  let v := (s.src y y.b.val).toNat
  match y.md.val % 4 with
  | 0 => pcNext y (putData y (inSpace (2 ^ 18) a) v s)
  | 1 =>
    let x := a % 2 ^ 20 / 4 * 4
    let r := seBus (busWrite .se x (BitVec.ofNat 32 v)) s
    if busErr r.1.status then seTrap 4 0 x s.se.pc r.2 else pcNext y r.2
  | _ =>
    let o := inSpace 0x400 a
    if o < 0x100 then
      let r := mbLst 4 o (BitVec.ofNat 32 v) s
      if r.1 then seTrap 4 0 o s.se.pc r.2 else pcNext y r.2
    else pcNext y s

end Sys2Proof.Machine
end

