-- ==== Sys2Proof/Machine/Syllables.lean ====
section
/-! DEFINITION. The syllables of the Jindozu Schedule Architecture (R269–R309): how one issues, and the meaning of every operation. -/

namespace Sys2Proof.Machine

/-! ### Issue (R273, R274, R277, R308) -/

/-- The SE has taken a trap since `s` (R308, R309). -/
def State.trapped (t s : State) : Bool :=
  (t.flag F.SE_STATUS_TRAP_ACTIVE && !s.flag F.SE_STATUS_TRAP_ACTIVE) || (t.seState == 5 && s.seState != 5)

/-- A local access of the SE: 0x27 is LLD. -/
def seMem (m : SeMem) (s : State) : State := if m.op = 0x27 then seLoad m.y m.ecc s else seStore m.y s

def State.setSeMem (s : State) (m : Option SeMem) : State := { s with se := { s.se with mem := m } }

/-- The local access that an earlier syllable of the SE's bundle has left waits for its last one, so that a trap of the bundle takes effect
before it; a trap of the access takes effect before the last syllable. TRAP lets the rest of its bundle complete first (R308). -/
def withMem (op : Nat) (y : Syl) (go : State → State) (s : State) : State :=
  match (if y.e = .se ∧ y.last = true then s.se.mem else none) with
  | none => go s
  | some m =>
    let s := s.setSeMem none
    let a := go s
    if op ≠ 0x3f ∧ a.trapped s = true then a
    else
      let b := seMem m s
      if b.trapped s then b else go b

/-- A syllable issues and `f` also says where the SE goes on; off, it has no effect and execution falls through (R274). -/
def issueCtl (op md : Nat) (y : Syl) (f : State → State) (s : State) : State :=
  if !s.issues y then s
  else if !s.fits y op md then malformed y s
  else if !s.seGrants y op md then govStall 0 s
  else bundleEnd y (withMem op y (fun s => if s.predOn y then f s else pcNext y s) (seBook op md y s))

/-- A syllable issues with the effect `f`, if its predicate allows (R273, R274). -/
def issue (op md : Nat) (y : Syl) (f : State → State) (s : State) : State := issueCtl op md y (fun s => pcNext y (f s)) s

/-- A syllable issues with the effect `f` whatever its predicate: SEL, LIMM, LOOP (R274). -/
def issueAlways (op md : Nat) (y : Syl) (f : State → State) (s : State) : State :=
  if !s.issues y then s
  else if !s.fits y op md then malformed y s
  else if !s.seGrants y op md then govStall 0 s
  else bundleEnd y (withMem op y (fun s => pcNext y (f s)) (seBook op md y s))

/-- An ALU syllable with the result `f a b`. -/
def alu (op : Nat) (y : Syl) (f : Nat → Nat → Nat) (s : State) : State :=
  issue op y.md.val y (fun s => resReg y 1 (f (s.opA y) (s.opB y)) s) s

/-- A compare with the outcome `f a b`, written as MOD[2:1] says (R285). -/
def cmp (op : Nat) (y : Syl) (f : Nat → Nat → Bool) (s : State) : State :=
  issue op y.md.val y (fun s =>
    let c := f (s.opA y) (s.opB y)
    let old := s.rp y y.dst.val
    resPred y 1 (match y.md.val / 2 with
      | 0 => c
      | 1 => old && c
      | 2 => old || c
      | _ => !c) s) s

/-! ### Meanings -/

/-- NOP (R304, R325): `ue` names the offset of the fetched word that could not be corrected. -/
def execNop (y : Syl) (ue : Option (Fin 1048576)) (s : State) : Host.Outcome State Fault Refusal :=
  fin (match ue with
    | some o => if s.issues y then (if y.e = .se then badFetch y o.val s else bundleEnd y (badFetch y o.val s)) else s
    | none => issue 0 y.md.val y id s)

/-- ADD (R285). -/
def execAdd (y : Syl) (s : State) : Host.Outcome State Fault Refusal := fin (alu 0x01 y (fun a b => a + b) s)
/-- SUB (R285). -/
def execSub (y : Syl) (s : State) : Host.Outcome State Fault Refusal := fin (alu 0x02 y (fun a b => a + 2 ^ 64 - b) s)
/-- AND (R285). -/
def execAnd (y : Syl) (s : State) : Host.Outcome State Fault Refusal := fin (alu 0x03 y (fun a b => a &&& b) s)
/-- OR (R285). -/
def execOr (y : Syl) (s : State) : Host.Outcome State Fault Refusal := fin (alu 0x04 y (fun a b => a ||| b) s)
/-- XOR (R285). -/
def execXor (y : Syl) (s : State) : Host.Outcome State Fault Refusal := fin (alu 0x05 y (fun a b => a ^^^ b) s)
/-- SHL (R285). -/
def execShl (y : Syl) (s : State) : Host.Outcome State Fault Refusal := fin (alu 0x06 y (fun a b => a * 2 ^ (b % 64)) s)
/-- SHR (R285). -/
def execShr (y : Syl) (s : State) : Host.Outcome State Fault Refusal := fin (alu 0x07 y (fun a b => a / 2 ^ (b % 64)) s)
/-- SAR (R285). -/
def execSar (y : Syl) (s : State) : Host.Outcome State Fault Refusal :=
  fin (alu 0x08 y (fun a b => unsigned 64 (signed 64 a / (2 ^ (b % 64) : Nat))) s)
/-- CMPEQ (R285). -/
def execCmpeq (y : Syl) (s : State) : Host.Outcome State Fault Refusal := fin (cmp 0x09 y (fun a b => a == b) s)
/-- CMPLT (R285). -/
def execCmplt (y : Syl) (s : State) : Host.Outcome State Fault Refusal :=
  fin (cmp 0x0a y (fun a b => decide (signed 64 a < signed 64 b)) s)
/-- CMPLTU (R285). -/
def execCmpltu (y : Syl) (s : State) : Host.Outcome State Fault Refusal := fin (cmp 0x0b y (fun a b => decide (a < b)) s)
/-- SEL (R274, R285). -/
def execSel (y : Syl) (s : State) : Host.Outcome State Fault Refusal :=
  fin (issueAlways 0x0c y.md.val y (fun s => resReg y 1 (if s.predOn y then s.opA y else (s.src y y.b.val).toNat) s) s)
/-- EXTR (R285). -/
def execExtr (y : Syl) (s : State) : Host.Outcome State Fault Refusal := fin (alu 0x0d y (extr (decide (4 ≤ y.md.val))) s)
/-- INSR (R285). -/
def execInsr (y : Syl) (s : State) : Host.Outcome State Fault Refusal :=
  fin (issue 0x0e y.md.val y (fun s => resReg y 1 (insr (s.rg y y.dst.val).toNat (s.opA y) (s.opB y)) s) s)
/-- BSWAP (R285). -/
def execBswap (y : Syl) (s : State) : Host.Outcome State Fault Refusal :=
  fin (issue 0x0f y.md.val y (fun s => resReg y 1 (bswap (match y.md.val / 2 with
    | 1 => 4
    | 2 => 2
    | _ => 8) (s.opA y)) s) s)
/-- CSUM16 (R285). -/
def execCsum16 (y : Syl) (s : State) : Host.Outcome State Fault Refusal :=
  fin (issue 0x10 y.md.val y (fun s => resReg y 1 (csum16 (y.md.val / 2) (s.opA y) (s.src y y.b.val).toNat) s) s)
/-- MOVI (R285): the sign extension of bits [14:0]. -/
def execMovi (y : Syl) (s : State) : Host.Outcome State Fault Refusal :=
  fin (issue 0x11 y.md.val y (fun s => resReg y 1 (unsigned 64 (signed 15 (y.a.val * 512 + y.b.val * 8 + y.md.val))) s) s)

/-- TADD (R286, R287). -/
def execTadd (y : Syl) (s : State) : Host.Outcome State Fault Refusal :=
  fin (issue 0x14 y.md.val y (fun s => resPair y 3 (tadd y.md.val (s.pairV y y.a.val) (signed 64 (s.src y y.b.val).toNat)) s) s)
/-- TSUB (R286, R287). -/
def execTsub (y : Syl) (s : State) : Host.Outcome State Fault Refusal :=
  fin (issue 0x15 y.md.val y (fun s => resReg y 3 (unsigned 64 (tsub y.md.val (s.pairV y y.a.val) (s.pairV y y.b.val))) s) s)
/-- TCONV (R286, R288). -/
def execTconv (y : Syl) (s : State) : Host.Outcome State Fault Refusal :=
  fin (issue 0x16 y.md.val y (fun s => resPair y 3 (tconv y.md.val (s.pairV y y.a.val) ((s.src y y.b.val).toNat % 16) s) s) s)
/-- TSCALE (R286, R290). -/
def execTscale (y : Syl) (s : State) : Host.Outcome State Fault Refusal :=
  fin (issue 0x17 y.md.val y (fun s =>
    if y.md.val = 2 then resReg y 3 (ntpShort (signed 64 (s.src y y.a.val).toNat)) s
    else resPair y 3 (tscale y.md.val (s.pairV y y.a.val) ((s.src y y.b.val).toNat % 16) s) s) s)
/-- TREAD (R286). -/
def execTread (y : Syl) (s : State) : Host.Outcome State Fault Refusal :=
  fin (issue 0x18 y.md.val y (fun s =>
    if y.md.val = 3 then
      resReg y 3 (match y.e with
        | .pe _ => s.cycle
        | _ => s.rv (if (sylTe y) = 0 then Reg.SERVO_ITER0 else Reg.SERVO_ITER1)) s
    else resPair y 3 (tread y ((s.src y y.b.val).toNat % 16) s) s) s)
/-- TCMP (R286). -/
def execTcmp (y : Syl) (s : State) : Host.Outcome State Fault Refusal :=
  fin (issue 0x19 y.md.val y (fun s =>
    let v := tcmp (y.md.val % 4) (s.pairV y y.a.val) (s.pairV y y.b.val)
    resPred y 3 (if y.md.val < 4 then decide (v.1 < v.2) else decide (v.1 = v.2)) s) s)

/-- RXB on a port engine (R291). -/
def execRxb (y : Syl) (s : State) : Host.Outcome State Fault Refusal :=
  fin (issue 0x1c y.md.val y (onInst y (fun _ i s =>
    let j := y.a.val + 64 * y.md.val
    resReg y 1 (if j < i.rel then (frameBeat i.frame.octets j).toNat else 0) s)) s)
/-- RXLEN (R291). -/
def execRxlen (y : Syl) (s : State) : Host.Outcome State Fault Refusal :=
  fin (issue 0x1d y.md.val y (onInst y (fun _ i s => resReg y 1 (if i.whole then i.frame.octets.length else 8 * i.rel) s)) s)
/-- RXSTAT (R291, R292). -/
def execRxstat (y : Syl) (s : State) : Host.Outcome State Fault Refusal :=
  fin (issue 0x1e y.md.val y (onInst y (fun _ i s => if y.md.val = 4 then resPred y 1 (rxOk i) s else resReg y 1 (rxStatus i) s)) s)
/-- RXTS on a port engine (R291). -/
def execRxts (y : Syl) (s : State) : Host.Outcome State Fault Refusal :=
  fin (issue 0x1f y.md.val y (onInst y (fun _ i s => resPair y 1 (mFlags i.frame.stamp i.frame.unsync i.frame.uncal) s)) s)
/-- TXB on a port engine (R291). -/
def execTxb (y : Syl) (s : State) : Host.Outcome State Fault Refusal :=
  fin (issue 0x20 y.md.val y (onInst y (fun p i s => setBeat p i.k y.a.val (txb y.md.val (i.beat y.a.val) (s.rg y y.b.val).toNat) s)) s)
/-- TXTS (R291, R293). -/
def execTxts (y : Syl) (grid : Nat) (s : State) : Host.Outcome State Fault Refusal :=
  fin (issue 0x21 y.md.val y (onInst y (fun p i s =>
    let s1 := txClaim p i.k ((s.pairV y y.a.val) % 2 ^ 120 : Nat) (s.turnAt p grid)
    match (s1.inst? p i.k).bind (·.claim) with
    | some c => resPair y 1 (mFlags c.tp (!s1.flag (F.PC_TRACK_SYNC p)) (!s1.calValid p)) s1
    | none => s1)) s)
/-- TXCSUM (R291). -/
def execTxcsum (y : Syl) (s : State) : Host.Outcome State Fault Refusal :=
  fin (issue 0x22 y.md.val y (onInst y (fun p i s =>
    setBeat p i.k y.a.val (txcsum (y.md.val % 4) (decide (4 ≤ y.md.val)) (i.beat y.a.val) (s.rg y y.b.val).toNat) s)) s)
/-- TXGO on a port engine (R291, R293). -/
def execTxgo (y : Syl) (s : State) : Host.Outcome State Fault Refusal :=
  fin (issue 0x23 y.md.val y (onInst y (fun p i s => txGo p i.k ((s.rg y y.b.val).toNat % 2 ^ 14) s)) s)

/-- A syllable of a timekeeping engine; the same operation code means another command on the other engines (R294). -/
def onTe (y : Syl) (f : State → State) (s : State) : State :=
  match y.e with
  | .te _ => f s
  | _ => s

/-- TE_RXTS (R294): in FIFO mode the record is popped; an empty buffer gives VALID = 0; one that waited beyond the channel's read phase
at the stamp gate is counted (R20, R21). -/
def execTeRxts (q : GateSyl) (s : State) : Host.Outcome State Fault Refusal :=
  let y := q.y
  fin (onTe y (issue 0x1f y.md.val y (fun s =>
    let n := y.a.val
    let c := s.chan n
    let v := ((TiuRec.words c.buf.head?).map BitVec.toNat).foldr (fun w acc => w + 2 ^ 32 * acc) 0
    let s1 := resPair y 1 (if n < 24 then v else 0) s
    let s2 := if q.late && decide (n < 24) && !c.buf.isEmpty then s1.gateLate (8 + n) else s1
    if n < 24 then rxtsRead (sylTe y) n s2 else s2)) s)
/-- TE_TXB (R294, R131). -/
def execTeTxb (y : Syl) (s : State) : Host.Outcome State Fault Refusal :=
  fin (onTe y (issue 0x20 y.md.val y (fun s =>
    markSteered (sylTe y) y.a.val (steerWrite y.a.val (sylTe y) (steerWord y.a.val (s.rg y y.b.val).toNat) s))) s)
/-- TE_TXGO (R294). -/
def execTeTxgo (y : Syl) (s : State) : Host.Outcome State Fault Refusal :=
  fin (onTe y (issue 0x23 y.md.val y (fun s => stepAsk (sylTe y) y.a.val (signed 64 (s.rg y y.b.val).toNat) s)) s)

/-- HLD (R295): `ecc` is what the check bits say where a port engine's read meets its bank. -/
def execHld (y : Syl) (ecc : Ecc) (s : State) : Host.Outcome State Fault Refusal := fin (issue 0x24 y.md.val y (hamSyl 0 y ecc) s)
/-- HST (R295). -/
def execHst (y : Syl) (s : State) : Host.Outcome State Fault Refusal := fin (issue 0x25 y.md.val y (hamSyl 1 y .good) s)
/-- HBKT (R295, R297). -/
def execHbkt (y : Syl) (ecc : Ecc) (s : State) : Host.Outcome State Fault Refusal := fin (issue 0x26 y.md.val y (hamSyl 2 y ecc) s)

/-- MUL (R299). -/
def execMul (y : Syl) (s : State) : Host.Outcome State Fault Refusal :=
  fin (issue 0x2c y.md.val y (fun s => resReg y 8 (s.opA y * (s.src y y.b.val).toNat) s) s)
/-- MULH (R299). -/
def execMulh (y : Syl) (s : State) : Host.Outcome State Fault Refusal :=
  fin (issue 0x2d y.md.val y (fun s =>
    let a := s.opA y
    let b := (s.src y y.b.val).toNat
    resReg y 8 (if 4 ≤ y.md.val then unsigned 64 (signed 64 a * signed 64 b / (2 ^ 64 : Nat)) else a * b / 2 ^ 64) s) s)
/-- HASH (R302). -/
def execHash (y : Syl) (s : State) : Host.Outcome State Fault Refusal :=
  let md := y.md.val % 4
  fin (issue 0x2e md y (fun s => resReg y 8 (hashMix (s.seed y.e.num md).toNat (s.opA y) (s.src y y.b.val).toNat) s) s)
/-- HASH_SEED (R302): the seed form, MOD[2] = 1. -/
def execHashSeed (y : Syl) (s : State) : Host.Outcome State Fault Refusal :=
  let md := y.md.val % 4
  fin (issue 0x2e (4 + md) y (fun s =>
    let g := s.eng_ y.e.num
    s.setEng y.e.num { g with seeds := Tbl.set (fun _ => (0 : DWord)) g.seeds md (s.src y y.a.val) }) s)
/-- CRC32 (R299). -/
def execCrc32 (y : Syl) (s : State) : Host.Outcome State Fault Refusal :=
  fin (issue 0x2f y.md.val y (fun s =>
    let l := beBytes 8 (s.src y y.b.val).toNat
    resReg y 8 (crcBytes (s.opA y % 2 ^ 32) (if 4 ≤ y.md.val then l.take 4 else l)) s) s)
/-- AESB (R300, R301). -/
def execAesb (y : Syl) (s : State) : Host.Outcome State Fault Refusal := fin (issue 0x30 y.md.val y (fun s => resAes y (aesb y s) s) s)
/-- AESK (R300, R301). -/
def execAesk (y : Syl) (s : State) : Host.Outcome State Fault Refusal := fin (issue 0x31 y.md.val y (aesk y) s)
/-- DBL (R299). -/
def execDbl (y : Syl) (s : State) : Host.Outcome State Fault Refusal :=
  fin (issue 0x32 y.md.val y (fun s =>
    let d := dbl128 ((s.rg y y.a.val).toNat * 2 ^ 64 + (s.rg y (y.a.val + 1)).toNat)
    resPair y 1 (d / 2 ^ 64 + d % 2 ^ 64 * 2 ^ 64) s) s)
/-- DIVU (R299, R303). -/
def execDivu (y : Syl) (s : State) : Host.Outcome State Fault Refusal :=
  fin (issue 0x33 y.md.val y (fun s => resReg y 34 (divu (decide (4 ≤ y.md.val)) (s.opA y) (s.src y y.b.val).toNat) s) s)

/-- LIMM (R281): bits [25:0], sign-extended, for its stream. -/
def execLimm (y : Syl) (s : State) : Host.Outcome State Fault Refusal :=
  fin (issueAlways 0x34 y.md.val y (fun s =>
    let g := s.eng_ y.e.num
    s.setEng y.e.num { g with limm := Tbl.set (fun _ => (0 : DWord)) g.limm (sylStream y) (BitVec.ofInt 64 (signed 26 (sylPayload y))) }) s)
/-- PSET (R304). -/
def execPset (y : Syl) (s : State) : Host.Outcome State Fault Refusal :=
  fin (issue 0x35 y.md.val y (fun s =>
    resPred y 1 (if y.md.val % 2 = 1 then decide (2 ≤ y.md.val) else s.rg y y.a.val != 0) s) s)
/-- PAND (R304). -/
def execPand (y : Syl) (s : State) : Host.Outcome State Fault Refusal :=
  fin (issue 0x36 y.md.val y (fun s => resPred y 1 ((predPair y s).1 && (predPair y s).2) s) s)
/-- POR (R304). -/
def execPor (y : Syl) (s : State) : Host.Outcome State Fault Refusal :=
  fin (issue 0x37 y.md.val y (fun s => resPred y 1 ((predPair y s).1 || (predPair y s).2) s) s)
/-- LOOP (R305). -/
def execLoop (y : Syl) (s : State) : Host.Outcome State Fault Refusal :=
  fin (issueAlways 0x38 y.md.val y (fun s =>
    let g := s.eng_ y.e.num
    let c : LoopCtx := ⟨sylPayload y / 2 ^ 15 % 2048 + 1, sylPayload y / 8 % 4096 + 1⟩
    s.setEng y.e.num { g with loops := Tbl.set (fun _ => LoopCtx.zero) g.loops (y.md.val % 4) c }) s)
/-- EVT_TEST (R306). -/
def execEvtTest (y : Syl) (s : State) : Host.Outcome State Fault Refusal :=
  fin (issue 0x39 0 y (fun s => resPred y 1 (s.evPending y y.a.val) s) s)
/-- EVT_TAKE (R306). -/
def execEvtTake (y : Syl) (s : State) : Host.Outcome State Fault Refusal := fin (issue 0x39 1 y (evTake y y.a.val) s)
/-- FAULT (R304, R495). -/
def execFault (y : Syl) (s : State) : Host.Outcome State Fault Refusal :=
  fin (issue 0x3a y.md.val y (fun s =>
    if y.a.val = 0 then s else s.sendFault (engSrc y.e) y.a.val ((s.rg y y.b.val).toNat % 2 ^ 24)) s)
/-- BR (R307). -/
def execBr (y : Syl) (s : State) : Host.Outcome State Fault Refusal :=
  fin (issueCtl 0x3b y.md.val y (fun s => seGo (s.se.pc + (sylOffset y)) (bubbles s)) s)
/-- JMP (R304, R307). -/
def execJmp (y : Syl) (s : State) : Host.Outcome State Fault Refusal :=
  fin (issueCtl 0x3c y.md.val y (fun s => seGo ((s.rg y y.a.val).toNat % 4096 : Nat) (bubbles s)) s)
/-- CALL (R307, R308): STACK_OVER with 16 entries held. -/
def execCall (y : Syl) (s : State) : Host.Outcome State Fault Refusal :=
  fin (issueCtl 0x3d y.md.val y (fun s =>
    if 16 ≤ s.se.stack.length then seTrap 2 0 0 s.se.pc s
    else seGo (s.se.pc + (sylOffset y)) (bubbles { s with se := { s.se with stack := (s.se.pc + 1) % 4096 :: s.se.stack } })) s)
/-- RET (R307, R308): STACK_UNDER with an empty stack. -/
def execRet (y : Syl) (s : State) : Host.Outcome State Fault Refusal :=
  fin (issueCtl 0x3e 0 y (fun s =>
    match s.se.stack with
    | a :: t => seGo a (bubbles { s with se := { s.se with stack := t } })
    | [] => seTrap 3 0 0 s.se.pc s) s)
/-- RETURN_FROM_TRAP (R307): RET with MOD[0] = 1. -/
def execReturnFromTrap (y : Syl) (s : State) : Host.Outcome State Fault Refusal :=
  fin (issueCtl 0x3e 1 y (fun s => seGo ((s.rg y 62).toNat % 4096 : Nat) (bubbles (s.setFlag F.SE_STATUS_TRAP_ACTIVE false))) s)
/-- TRAP (R308): the rest of its bundle completes first, and the saved address is that of the next bundle. -/
def execTrap (y : Syl) (s : State) : Host.Outcome State Fault Refusal :=
  fin (issueCtl 0x3f y.md.val y (fun s => seTrap 1 y.a.val 0 ((s.se.pc + 1) % 4096) (bundleEnd y s)) s)

/-! ### Local accesses (R294–R296) -/


/-- TE_RXB (R294): a doubleword of the TIU block, without effect on snapshots or FIFOs. -/
def execTeRxb (y : Syl) (s : State) : Host.Outcome State Fault Refusal :=
  fin (onTe y (issue 0x1c y.md.val y (fun s =>
    let m := 5 + sylTe y
    let x := 0x20000 + 8 * (y.a.val + 64 * y.md.val)
    resReg y 1 ((s.live m x).toNat + 2 ^ 32 * (s.live m (x + 4)).toNat) s)) s)

/-- A local access of the SE: made with the syllable where it ends the bundle, else kept until then. -/
def seAccess (m : SeMem) (s : State) : State := if m.y.last then seMem m s else s.setSeMem (some m)

/-- LLD (R295, R296): `ecc` is what the check bits of the SE's data SRAM say; `late`: a doorbell word missed its phase. -/
def execLld (y : Syl) (ecc : Ecc) (late : Bool) (s : State) : Host.Outcome State Fault Refusal :=
  fin (if y.e = .se then issueCtl 0x27 y.md.val y (seAccess ⟨0x27, y, ecc⟩) s else issue 0x27 y.md.val y (localLoad y late) s)

/-- LST (R295, R296). -/
def execLst (y : Syl) (s : State) : Host.Outcome State Fault Refusal :=
  fin (if y.e = .se then issueCtl 0x28 y.md.val y (seAccess ⟨0x28, y, .good⟩) s else issue 0x28 y.md.val y (localStore y) s)

end Sys2Proof.Machine
end

