-- ==== Sys2Proof/Machine/Window.lean ====
section
/-! DEFINITION. A ration window's end and the next one's start (R31–R45): the monitor, the transfers in address order, the governors'
refill, the ramp or the trim step, the saturation flags and the heater governor. -/

namespace Sys2Proof.Machine

/-- A window applies the transfer of a target, of an allowance or of a port (R41, R43, R241). -/
def applyXfer (s : State) (x : Xfer) : State :=
  if x.addr < Reg.ALLOW_SE then targetXfer s x else if x.addr < 0x80000 then allowanceXfer s x else portXfer s x

/-- The transfers that waited are made in the order of their addresses (R41). -/
def applyXfers (s : State) : State :=
  s.rat.xfers.foldl applyXfer { s with rat := { s.rat with xfers := [] } }

/-- A window ends with the mean `mean` mA of VDD_CORE and the next one starts, timed by FCLK where it runs (R32); `mv` is VDD_HTR in mV. -/
def rationWindow (mean mv : Nat) (s : State) : State :=
  let s1 := (monitor mean (tmuxEvent 0x56 s)).setFlag F.RATION_STATUS_WINDOW_TCLK (!s.fclkOn)
  let s2 := calWindow (forEach (List.range 4) govRefill (applyXfers s1))
  let ramping := s1.fld F.RATION_LEVEL_LEVEL_MA != s1.fld F.RATION_LEVEL_TARGET_MA
  let s3 := if ramping then rampStep s2 else if s1.rat.xfers.isEmpty then trimStep mean s2 else s2
  heaterStep mv (trimFlags mean s3)

/-- RATION_WINDOW (R45): no windows run while the contract is suspended (R32). -/
def execRationWindow (mean mv : Nat) (s : State) : Host.Outcome State Fault Refusal :=
  fin (if s.hostOn && !s.suspended then rationWindow mean mv s else s)

end Sys2Proof.Machine
end

