-- ==== Sys2Proof/Machine/Dispatch.lean ====
section
/-! DEFINITION. The dispatch: one arm per command, each a direct call of its meaning, or a refusal by name. -/

namespace Sys2Proof.Machine

/-- The effect of a command on everything but the queue. -/
def exec (i : Instr) (s : State) : Host.Outcome State Fault Refusal :=
  match i with
  | .registerWrite m a ws whole => Sys2Proof.Machine.execRegisterWrite m a ws whole s
  | .postedWriteTakesEffect b late => Sys2Proof.Machine.execPostedWriteTakesEffect b late s
  | .postedWriteDiscard b => Sys2Proof.Machine.execPostedWriteDiscard b s
  | .stagedWordWrite m a v => Sys2Proof.Machine.execStagedWordWrite m a v s
  | .snapshotRead m a => Sys2Proof.Machine.execSnapshotRead m a s
  | .guardValueWrite m a v => Sys2Proof.Machine.execGuardValueWrite m a v s
  | .guardWindowExpiry m => Sys2Proof.Machine.execGuardWindowExpiry m s
  | .acknowledgeWrite m a v => Sys2Proof.Machine.execAcknowledgeWrite m a v s
  | .intRouteWrite m hi v => Sys2Proof.Machine.execIntRouteWrite m hi v s
  | .msixUnmask v => Sys2Proof.Machine.execMsixUnmask v s
  | .msixSendResume => Sys2Proof.Machine.execMsixSendResume s
  | .hwinAddrWrite m v => Sys2Proof.Machine.execHwinAddrWrite m v s
  | .hwinPrefetchDone ecc => Sys2Proof.Machine.execHwinPrefetchDone ecc s
  | .hwinDataRead m => Sys2Proof.Machine.execHwinDataRead m s
  | .hwinDataWrite m v => Sys2Proof.Machine.execHwinDataWrite m v s
  | .qspiReadFrame a n pf part => Sys2Proof.Machine.execQspiReadFrame a n pf part s
  | .qspiQuadReadFrame a n pf gnss part => Sys2Proof.Machine.execQspiQuadReadFrame a n pf gnss part s
  | .qspiWriteFrame a ws part => Sys2Proof.Machine.execQspiWriteFrame a ws part s
  | .qspiQuadWriteFrame a ws gnss part => Sys2Proof.Machine.execQspiQuadWriteFrame a ws gnss part s
  | .qspiStatusFrame => Sys2Proof.Machine.execQspiStatusFrame s
  | .qspiUnknownOpcode => Sys2Proof.Machine.execQspiUnknownOpcode s
  | .i2cWrite dev ptr ws part => Sys2Proof.Machine.execI2cWrite dev ptr ws part s
  | .i2cRead dev ptr n pf part => Sys2Proof.Machine.execI2cRead dev ptr n pf part s
  | .rationWindow mean mv => Sys2Proof.Machine.execRationWindow mean mv s
  | .grantPartEnd g => Sys2Proof.Machine.execGrantPartEnd g s
  | .allowanceWrite g v => Sys2Proof.Machine.execAllowanceWrite g v s
  | .tbCtrlWrite v => Sys2Proof.Machine.execTbCtrlWrite v s
  | .tbOvenWrite v => Sys2Proof.Machine.execTbOvenWrite v s
  | .ovenLoopUpdate tc d0 d1 d2 d3 => Sys2Proof.Machine.execOvenLoopUpdate tc d0 d1 d2 d3 s
  | .tbWarmRise => Sys2Proof.Machine.execTbWarmRise s
  | .htrLimit => Sys2Proof.Machine.execHtrLimit s
  | .tbmSlewDone => Sys2Proof.Machine.execTbmSlewDone s
  | .extLost => Sys2Proof.Machine.execExtLost s
  | .extReturn => Sys2Proof.Machine.execExtReturn s
  | .coarseWrap => Sys2Proof.Machine.execCoarseWrap s
  | .tiuEdge n rising t => Sys2Proof.Machine.execTiuEdge n rising t s
  | .stampConversionDone n q => Sys2Proof.Machine.execStampConversionDone n q s
  | .groupWindowTimeout g ch => Sys2Proof.Machine.execGroupWindowTimeout g ch s
  | .grpResPop m g => Sys2Proof.Machine.execGrpResPop m g s
  | .hcapRecPop m => Sys2Proof.Machine.execHcapRecPop m s
  | .chCfgWrite n v => Sys2Proof.Machine.execChCfgWrite n v s
  | .chDivWrite n v => Sys2Proof.Machine.execChDivWrite n v s
  | .chDelayWrite n v => Sys2Proof.Machine.execChDelayWrite n v s
  | .calStepStart => Sys2Proof.Machine.execCalStepStart s
  | .calSubstepStart k => Sys2Proof.Machine.execCalSubstepStart k s
  | .calTakeover k => Sys2Proof.Machine.execCalTakeover k s
  | .calReconnect k moved => Sys2Proof.Machine.execCalReconnect k moved s
  | .calTakeoverBack k => Sys2Proof.Machine.execCalTakeoverBack k s
  | .calStale n => Sys2Proof.Machine.execCalStale n s
  | .regGateEnd n e => Sys2Proof.Machine.execRegGateEnd n e s
  | .regPublish n => Sys2Proof.Machine.execRegPublish n s
  | .regCfgWrite n v => Sys2Proof.Machine.execRegCfgWrite n v s
  | .nomPeriodWrite n v => Sys2Proof.Machine.execNomPeriodWrite n v s
  | .statCfgWrite k v => Sys2Proof.Machine.execStatCfgWrite k v s
  | .statNWrite k v => Sys2Proof.Machine.execStatNWrite k v s
  | .statAnchorWrite k v => Sys2Proof.Machine.execStatAnchorWrite k v s
  | .selectionTick pkt delta => Sys2Proof.Machine.execSelectionTick pkt delta s
  | .activityWindowClose ix p => Sys2Proof.Machine.execActivityWindowClose ix p s
  | .holdoffExpiry ix => Sys2Proof.Machine.execHoldoffExpiry ix s
  | .wtrExpiry ix => Sys2Proof.Machine.execWtrExpiry ix s
  | .selForceWrite d v tie => Sys2Proof.Machine.execSelForceWrite d v tie s
  | .switchComplete d => Sys2Proof.Machine.execSwitchComplete d s
  | .teLapBoundary t => Sys2Proof.Machine.execTeLapBoundary t s
  | .steeringUpdate k => Sys2Proof.Machine.execSteeringUpdate k s
  | .dpllTick d m => Sys2Proof.Machine.execDpllTick d m s
  | .dpllLock d => Sys2Proof.Machine.execDpllLock d s
  | .dpllUnlock d => Sys2Proof.Machine.execDpllUnlock d s
  | .holdoverLimit d => Sys2Proof.Machine.execHoldoverLimit d s
  | .absenceLimit d => Sys2Proof.Machine.execAbsenceLimit d s
  | .dpllStep d => Sys2Proof.Machine.execDpllStep d s
  | .dpllReset d => Sys2Proof.Machine.execDpllReset d s
  | .dpllHold d => Sys2Proof.Machine.execDpllHold d s
  | .dpllRelease d => Sys2Proof.Machine.execDpllRelease d s
  | .tsSet t => Sys2Proof.Machine.execTsSet t s
  | .tsAdj t => Sys2Proof.Machine.execTsAdj t s
  | .tsHrate t => Sys2Proof.Machine.execTsHrate t s
  | .tsCfgWrite t v => Sys2Proof.Machine.execTsCfgWrite t v s
  | .timeSnapGo => Sys2Proof.Machine.execTimeSnapGo s
  | .tieTablePublish t => Sys2Proof.Machine.execTieTablePublish t s
  | .pcTieLatch p ph => Sys2Proof.Machine.execPcTieLatch p ph s
  | .trgArm ix => Sys2Proof.Machine.execTrgArm ix s
  | .trgDisarm ix => Sys2Proof.Machine.execTrgDisarm ix s
  | .trgAlign ix => Sys2Proof.Machine.execTrgAlign ix s
  | .triggerFire ix => Sys2Proof.Machine.execTriggerFire ix s
  | .trigPinPulseEnd k => Sys2Proof.Machine.execTrigPinPulseEnd k s
  | .triggerEventDelivery p ix late => Sys2Proof.Machine.execTriggerEventDelivery p ix late s
  | .apllFreqWrite a v => Sys2Proof.Machine.execApllFreqWrite a v s
  | .apllCfgWrite a v => Sys2Proof.Machine.execApllCfgWrite a v s
  | .apllCommit a => Sys2Proof.Machine.execApllCommit a s
  | .apllRelock a => Sys2Proof.Machine.execApllRelock a s
  | .bandSearchStart a => Sys2Proof.Machine.execBandSearchStart a s
  | .lockDeclared a band t9 => Sys2Proof.Machine.execLockDeclared a band t9 s
  | .vcoRangeCheck a hz => Sys2Proof.Machine.execVcoRangeCheck a hz s
  | .apllSlewDone a => Sys2Proof.Machine.execApllSlewDone a s
  | .alignmentTick a => Sys2Proof.Machine.execAlignmentTick a s
  | .outCfgWrite o v => Sys2Proof.Machine.execOutCfgWrite o v s
  | .outputStop o => Sys2Proof.Machine.execOutputStop o s
  | .outPhaseWrite o v => Sys2Proof.Machine.execOutPhaseWrite o v s
  | .phaseStep o => Sys2Proof.Machine.execPhaseStep o s
  | .handoverSwitch o => Sys2Proof.Machine.execHandoverSwitch o s
  | .pulseEnd o => Sys2Proof.Machine.execPulseEnd o s
  | .gfeCtrlWrite v => Sys2Proof.Machine.execGfeCtrlWrite v s
  | .gnssCtrlWrite v => Sys2Proof.Machine.execGnssCtrlWrite v s
  | .gsclkFreqCheck edges => Sys2Proof.Machine.execGsclkFreqCheck edges s
  | .gsclkLost => Sys2Proof.Machine.execGsclkLost s
  | .gsclkReturn => Sys2Proof.Machine.execGsclkReturn s
  | .trackingLoopUpdate c lock cn0 taps => Sys2Proof.Machine.execTrackingLoopUpdate c lock cn0 taps s
  | .acquisitionDone c k sat found => Sys2Proof.Machine.execAcquisitionDone c k sat found s
  | .solutionEpoch e tie => Sys2Proof.Machine.execSolutionEpoch e tie s
  | .fixTimeout => Sys2Proof.Machine.execFixTimeout s
  | .noSatelliteTimeout => Sys2Proof.Machine.execNoSatelliteTimeout s
  | .holdFixed => Sys2Proof.Machine.execHoldFixed s
  | .resurvey => Sys2Proof.Machine.execResurvey s
  | .pps t => Sys2Proof.Machine.execPps t s
  | .solutionPublish r => Sys2Proof.Machine.execSolutionPublish r s
  | .recordDeadline => Sys2Proof.Machine.execRecordDeadline s
  | .burstWindowOpen => Sys2Proof.Machine.execBurstWindowOpen s
  | .burstWindowClose => Sys2Proof.Machine.execBurstWindowClose s
  | .portCfgWrite p v => Sys2Proof.Machine.execPortCfgWrite p v s
  | .portRestart p => Sys2Proof.Machine.execPortRestart p s
  | .portRetrain p => Sys2Proof.Machine.execPortRetrain p s
  | .anComplete p lp => Sys2Proof.Machine.execAnComplete p lp s
  | .trainComplete p pre main post => Sys2Proof.Machine.execTrainComplete p pre main post s
  | .trainTimeout p => Sys2Proof.Machine.execTrainTimeout p s
  | .linkUp p gear => Sys2Proof.Machine.execLinkUp p gear s
  | .lockingTimeout p => Sys2Proof.Machine.execLockingTimeout p s
  | .linkLoss p block fec localFault frame => Sys2Proof.Machine.execLinkLoss p block fec localFault frame s
  | .remoteFault p => Sys2Proof.Machine.execRemoteFault p s
  | .rxFrame p r => Sys2Proof.Machine.execRxFrame p r s
  | .instanceStart p c grid => Sys2Proof.Machine.execInstanceStart p c grid s
  | .beatRelease p late grid => Sys2Proof.Machine.execBeatRelease p late grid s
  | .replyDeparture p => Sys2Proof.Machine.execReplyDeparture p s
  | .origReservation p grid => Sys2Proof.Machine.execOrigReservation p grid s
  | .origDeparture p => Sys2Proof.Machine.execOrigDeparture p s
  | .basketPop p m => Sys2Proof.Machine.execBasketPop p m s
  | .esmcTimeout p => Sys2Proof.Machine.execEsmcTimeout p s
  | .peLapBoundary p => Sys2Proof.Machine.execPeLapBoundary p s
  | .hostHamperGateRelease => Sys2Proof.Machine.execHostHamperGateRelease s
  | .bar2Read a whole ecc => Sys2Proof.Machine.execBar2Read a whole ecc s
  | .bar2Write a v whole => Sys2Proof.Machine.execBar2Write a v whole s
  | .teHamperDelivery t late ecc => Sys2Proof.Machine.execTeHamperDelivery t late ecc s
  | .hamperInitDone => Sys2Proof.Machine.execHamperInitDone s
  | .resultDelivery e n => Sys2Proof.Machine.execResultDelivery e n s
  | .sampleDelivery p => Sys2Proof.Machine.execSampleDelivery p s
  | .doorbellWrite p v => Sys2Proof.Machine.execDoorbellWrite p v s
  | .nop y ue => Sys2Proof.Machine.execNop y ue s
  | .add y => Sys2Proof.Machine.execAdd y s
  | .sub y => Sys2Proof.Machine.execSub y s
  | .and y => Sys2Proof.Machine.execAnd y s
  | .or y => Sys2Proof.Machine.execOr y s
  | .xor y => Sys2Proof.Machine.execXor y s
  | .shl y => Sys2Proof.Machine.execShl y s
  | .shr y => Sys2Proof.Machine.execShr y s
  | .sar y => Sys2Proof.Machine.execSar y s
  | .cmpeq y => Sys2Proof.Machine.execCmpeq y s
  | .cmplt y => Sys2Proof.Machine.execCmplt y s
  | .cmpltu y => Sys2Proof.Machine.execCmpltu y s
  | .sel y => Sys2Proof.Machine.execSel y s
  | .extr y => Sys2Proof.Machine.execExtr y s
  | .insr y => Sys2Proof.Machine.execInsr y s
  | .bswap y => Sys2Proof.Machine.execBswap y s
  | .csum16 y => Sys2Proof.Machine.execCsum16 y s
  | .movi y => Sys2Proof.Machine.execMovi y s
  | .tadd y => Sys2Proof.Machine.execTadd y s
  | .tsub y => Sys2Proof.Machine.execTsub y s
  | .tconv y => Sys2Proof.Machine.execTconv y s
  | .tscale y => Sys2Proof.Machine.execTscale y s
  | .tread y => Sys2Proof.Machine.execTread y s
  | .tcmp y => Sys2Proof.Machine.execTcmp y s
  | .rxb y => Sys2Proof.Machine.execRxb y s
  | .rxlen y => Sys2Proof.Machine.execRxlen y s
  | .rxstat y => Sys2Proof.Machine.execRxstat y s
  | .rxts y => Sys2Proof.Machine.execRxts y s
  | .txb y => Sys2Proof.Machine.execTxb y s
  | .txts y grid => Sys2Proof.Machine.execTxts y grid s
  | .txcsum y => Sys2Proof.Machine.execTxcsum y s
  | .txgo y => Sys2Proof.Machine.execTxgo y s
  | .teRxb y => Sys2Proof.Machine.execTeRxb y s
  | .teRxts y => Sys2Proof.Machine.execTeRxts y s
  | .teTxb y => Sys2Proof.Machine.execTeTxb y s
  | .teTxgo y => Sys2Proof.Machine.execTeTxgo y s
  | .hld y ecc => Sys2Proof.Machine.execHld y ecc s
  | .hst y => Sys2Proof.Machine.execHst y s
  | .hbkt y ecc => Sys2Proof.Machine.execHbkt y ecc s
  | .lld y ecc late => Sys2Proof.Machine.execLld y ecc late s
  | .lst y => Sys2Proof.Machine.execLst y s
  | .mul y => Sys2Proof.Machine.execMul y s
  | .mulh y => Sys2Proof.Machine.execMulh y s
  | .hash y => Sys2Proof.Machine.execHash y s
  | .hashSeed y => Sys2Proof.Machine.execHashSeed y s
  | .crc32 y => Sys2Proof.Machine.execCrc32 y s
  | .aesb y => Sys2Proof.Machine.execAesb y s
  | .aesk y => Sys2Proof.Machine.execAesk y s
  | .dbl y => Sys2Proof.Machine.execDbl y s
  | .divu y => Sys2Proof.Machine.execDivu y s
  | .limm y => Sys2Proof.Machine.execLimm y s
  | .pset y => Sys2Proof.Machine.execPset y s
  | .pand y => Sys2Proof.Machine.execPand y s
  | .por y => Sys2Proof.Machine.execPor y s
  | .loop y => Sys2Proof.Machine.execLoop y s
  | .evtTest y => Sys2Proof.Machine.execEvtTest y s
  | .evtTake y => Sys2Proof.Machine.execEvtTake y s
  | .fault y => Sys2Proof.Machine.execFault y s
  | .br y => Sys2Proof.Machine.execBr y s
  | .jmp y => Sys2Proof.Machine.execJmp y s
  | .call y => Sys2Proof.Machine.execCall y s
  | .ret y => Sys2Proof.Machine.execRet y s
  | .returnFromTrap y => Sys2Proof.Machine.execReturnFromTrap y s
  | .trap y => Sys2Proof.Machine.execTrap y s
  | .storeWrite b o l => Sys2Proof.Machine.execStoreWrite b o l s
  | .verify b => Sys2Proof.Machine.execVerify b s
  | .verifyDone us => Sys2Proof.Machine.execVerifyDone us s
  | .swap b => Sys2Proof.Machine.execSwap b s
  | .cancel => Sys2Proof.Machine.execCancel s
  | .clear b => Sys2Proof.Machine.execClear b s
  | .swapCommitPoint => Sys2Proof.Machine.execSwapCommitPoint s
  | .swapGapOpen p => Sys2Proof.Machine.execSwapGapOpen p s
  | .swapCycle => Sys2Proof.Machine.execSwapCycle s
  | .teSwap t => Sys2Proof.Machine.execTeSwap t s
  | .drainEnd => Sys2Proof.Machine.execDrainEnd s
  | .storeScrub corr bad => Sys2Proof.Machine.execStoreScrub corr bad s
  | .boot m => Sys2Proof.Machine.execBoot m s
  | .seRestart m => Sys2Proof.Machine.execSeRestart m s
  | .romTestDone fails => Sys2Proof.Machine.execRomTestDone fails s
  | .firmwareVerifyDone ue => Sys2Proof.Machine.execFirmwareVerifyDone ue s
  | .fwWinDataWrite v => Sys2Proof.Machine.execFwWinDataWrite v s
  | .mailboxPost m n v => Sys2Proof.Machine.execMailboxPost m n v s
  | .mailboxTake m n => Sys2Proof.Machine.execMailboxTake m n s
  | .blockPost m c v => Sys2Proof.Machine.execBlockPost m c v s
  | .blockRelease m c => Sys2Proof.Machine.execBlockRelease m c s
  | .mbBindWrite m n v => Sys2Proof.Machine.execMbBindWrite m n v s
  | .mbSideReset m => Sys2Proof.Machine.execMbSideReset m s
  | .mailboxCrossed n => Sys2Proof.Machine.execMailboxCrossed n s
  | .ping n => Sys2Proof.Machine.execPing n s
  | .version n => Sys2Proof.Machine.execVersion n s
  | .status n => Sys2Proof.Machine.execStatus n s
  | .bind n => Sys2Proof.Machine.execBind n s
  | .keyLoad c => Sys2Proof.Machine.execKeyLoad c s
  | .keyRetire n => Sys2Proof.Machine.execKeyRetire n s
  | .keySelect n => Sys2Proof.Machine.execKeySelect n s
  | .cookieMint c => Sys2Proof.Machine.execCookieMint c s
  | .coChallenge n => Sys2Proof.Machine.execCoChallenge n s
  | .coResponse c => Sys2Proof.Machine.execCoResponse c s
  | .ptpDataset c => Sys2Proof.Machine.execPtpDataset c s
  | .cutMessage n => Sys2Proof.Machine.execCutMessage n s
  | .dmaStart m c => Sys2Proof.Machine.execDmaStart m c s
  | .dmaAbort m c => Sys2Proof.Machine.execDmaAbort m c s
  | .dmaListCheck c l bar0 bar2 bar4 => Sys2Proof.Machine.execDmaListCheck c l bar0 bar2 bar4 s
  | .dmaBurst data => Sys2Proof.Machine.execDmaBurst data s
  | .dmaHalt cause tag addr tags => Sys2Proof.Machine.execDmaHalt cause tag addr tags s
  | .completionTimeout tag addr tags => Sys2Proof.Machine.execCompletionTimeout tag addr tags s
  | .dmaHaltClr => Sys2Proof.Machine.execDmaHaltClr s
  | .dmaOwnerWrite m c v => Sys2Proof.Machine.execDmaOwnerWrite m c v s
  | .pcieReset kind => Sys2Proof.Machine.execPcieReset kind s
  | .pcieLinkDown => Sys2Proof.Machine.execPcieLinkDown s
  | .pcieLinkUp => Sys2Proof.Machine.execPcieLinkUp s
  | .hostClockFailover => Sys2Proof.Machine.execHostClockFailover s
  | .nvsRdataRead m => Sys2Proof.Machine.execNvsRdataRead m s
  | .nvsWdataWrite m v => Sys2Proof.Machine.execNvsWdataWrite m v s
  | .nvsAddrWrite m v => Sys2Proof.Machine.execNvsAddrWrite m v s
  | .nvsBufferDrain => Sys2Proof.Machine.execNvsBufferDrain s
  | .openRead m r => Sys2Proof.Machine.execOpenRead m r s
  | .openWrite m r => Sys2Proof.Machine.execOpenWrite m r s
  | .close m r => Sys2Proof.Machine.execClose m r s
  | .setReadPw m r => Sys2Proof.Machine.execSetReadPw m r s
  | .setWritePw m r => Sys2Proof.Machine.execSetWritePw m r s
  | .counterIncrement m n => Sys2Proof.Machine.execCounterIncrement m n s
  | .counterIncrementDone => Sys2Proof.Machine.execCounterIncrementDone s
  | .logAppend => Sys2Proof.Machine.execLogAppend s
  | .logAppendDone => Sys2Proof.Machine.execLogAppendDone s
  | .recallDone => Sys2Proof.Machine.execRecallDone s
  | .powerFail => Sys2Proof.Machine.execPowerFail s
  | .zeroise m => Sys2Proof.Machine.execZeroise m s
  | .zeroDone => Sys2Proof.Machine.execZeroDone s
  | .selftest m => Sys2Proof.Machine.execSelftest m s
  | .coLogout m => Sys2Proof.Machine.execCoLogout m s
  | .enterMaint m => Sys2Proof.Machine.execEnterMaint m s
  | .coSet m => Sys2Proof.Machine.execCoSet m s
  | .otpProg m arg => Sys2Proof.Machine.execOtpProg m arg s
  | .otpRevoke m arg => Sys2Proof.Machine.execOtpRevoke m arg s
  | .commitFw m => Sys2Proof.Machine.execCommitFw m s
  | .commitItin m => Sys2Proof.Machine.execCommitItin m s
  | .challenge m => Sys2Proof.Machine.execChallenge m s
  | .verifyCo m arg arg2 => Sys2Proof.Machine.execVerifyCo m arg arg2 s
  | .challengeExpiry => Sys2Proof.Machine.execChallengeExpiry s
  | .secKeyLoad m arg => Sys2Proof.Machine.execSecKeyLoad m arg s
  | .secKeyRetire m arg => Sys2Proof.Machine.execSecKeyRetire m arg s
  | .esFail prop => Sys2Proof.Machine.execEsFail prop s
  | .tamper => Sys2Proof.Machine.execTamper s
  | .tamperRelease => Sys2Proof.Machine.execTamperRelease s
  | .keyFillDone => Sys2Proof.Machine.execKeyFillDone s
  | .rungReq m r tie => Sys2Proof.Machine.execRungReq m r tie s
  | .stepL0ToL1 => Sys2Proof.Machine.execStepL0ToL1 s
  | .stepL1ToL2 => Sys2Proof.Machine.execStepL1ToL2 s
  | .stepL2ToL3 => Sys2Proof.Machine.execStepL2ToL3 s
  | .stepL3ToL4 => Sys2Proof.Machine.execStepL3ToL4 s
  | .stepL4ToL3 => Sys2Proof.Machine.execStepL4ToL3 s
  | .stepL3ToL2 => Sys2Proof.Machine.execStepL3ToL2 s
  | .stepL2ToL1 => Sys2Proof.Machine.execStepL2ToL1 s
  | .stepL1ToL0 => Sys2Proof.Machine.execStepL1ToL0 s
  | .wakeTimer => Sys2Proof.Machine.execWakeTimer s
  | .i2cWake => Sys2Proof.Machine.execI2cWake s
  | .restLap pkt delta m => Sys2Proof.Machine.execRestLap pkt delta m s
  | .faultMessage c => Sys2Proof.Machine.execFaultMessage c s
  | .fltClear m c => Sys2Proof.Machine.execFltClear m c s
  | .fltClearAll m => Sys2Proof.Machine.execFltClearAll m s
  | .whistleFabric m peer => Sys2Proof.Machine.execWhistleFabric m peer s
  | .whistleTemplates m p peer => Sys2Proof.Machine.execWhistleTemplates m p peer s
  | .whistleAes m p peer => Sys2Proof.Machine.execWhistleAes m p peer s
  | .whistleTiuChannel m n peer => Sys2Proof.Machine.execWhistleTiuChannel m n peer s
  | .whistleDma m c peer => Sys2Proof.Machine.execWhistleDma m c peer s
  | .whistleSe m peer => Sys2Proof.Machine.execWhistleSe m peer s
  | .whistleTe m t peer => Sys2Proof.Machine.execWhistleTe m t peer s
  | .whistleGnss m peer => Sys2Proof.Machine.execWhistleGnss m peer s
  | .whistlePort m p peer => Sys2Proof.Machine.execWhistlePort m p peer s
  | .whistleMailbox m n peer => Sys2Proof.Machine.execWhistleMailbox m n peer s
  | .whistleNvs m peer => Sys2Proof.Machine.execWhistleNvs m peer s
  | .release m t ix peer => Sys2Proof.Machine.execRelease m t ix peer s
  | .whistleComplete t ix => Sys2Proof.Machine.execWhistleComplete t ix s
  | .whistleN => Sys2Proof.Machine.execWhistleN s
  | .powerOnReset cut => Sys2Proof.Machine.execPowerOnReset cut s
  | .resetN => Sys2Proof.Machine.execResetN s
  | .railReset rails => Sys2Proof.Machine.execRailReset rails s
  | .resetRelease master id refClk perstHigh => Sys2Proof.Machine.execResetRelease master id refClk perstHigh s
  | .coldGo m => Sys2Proof.Machine.execColdGo m s
  | .dzCtrlWrite v lost => Sys2Proof.Machine.execDzCtrlWrite v lost s
  | .dzSignalPresent => Sys2Proof.Machine.execDzSignalPresent s
  | .dzBitlock => Sys2Proof.Machine.execDzBitlock s
  | .dzWordlock => Sys2Proof.Machine.execDzWordlock s
  | .discover count size coef => Sys2Proof.Machine.execDiscover count size coef s
  | .dzTrainDone pre main post => Sys2Proof.Machine.execDzTrainDone pre main post s
  | .dzCalDone trip res members hop => Sys2Proof.Machine.execDzCalDone trip res members hop s
  | .ringBroken lost => Sys2Proof.Machine.execRingBroken lost s
  | .dzLockLost lost => Sys2Proof.Machine.execDzLockLost lost s
  | .dzStateTimeout st => Sys2Proof.Machine.execDzStateTimeout st s
  | .dzRestart m lost => Sys2Proof.Machine.execDzRestart m lost s
  | .dzRecal ring => Sys2Proof.Machine.execDzRecal ring s
  | .secondMark ofs => Sys2Proof.Machine.execSecondMark ofs s
  | .secondMarkArrival t res => Sys2Proof.Machine.execSecondMarkArrival t res s
  | .markReturn t trip res => Sys2Proof.Machine.execMarkReturn t trip res s
  | .timeBlockSend => Sys2Proof.Machine.execTimeBlockSend s
  | .timeBlock b freq hop => Sys2Proof.Machine.execTimeBlock b freq hop s
  | .dsyDeadline => Sys2Proof.Machine.execDsyDeadline s
  | .tunnelBlockArrival x c marker octets ctl => Sys2Proof.Machine.execTunnelBlockArrival x c marker octets ctl s
  | .tunnelReleaseArrival x c reset => Sys2Proof.Machine.execTunnelReleaseArrival x c reset s
  | .remoteFaultArrival c kind addr loss again => Sys2Proof.Machine.execRemoteFaultArrival c kind addr loss again s
  | .dzFltClear c allPeer lost => Sys2Proof.Machine.execDzFltClear c allPeer lost s
  | .remoteCommandArrival x v clear => Sys2Proof.Machine.execRemoteCommandArrival x v clear s
  | .remoteCompletionReport v ns => Sys2Proof.Machine.execRemoteCompletionReport v ns s
  | .tmuxSelWrite m k v => Sys2Proof.Machine.execTmuxSelWrite m k v s
  | .tmuxSwitch k => Sys2Proof.Machine.execTmuxSwitch k s
  | .tmuxMeter k edges => Sys2Proof.Machine.execTmuxMeter k edges s
  | .idcode => Sys2Proof.Machine.execIdcode s
  | .samplePreload scan => Sys2Proof.Machine.execSamplePreload scan s
  | .extest scan => Sys2Proof.Machine.execExtest scan s
  | .clamp => Sys2Proof.Machine.execClamp s
  | .highz => Sys2Proof.Machine.execHighz s
  | .bypass => Sys2Proof.Machine.execBypass s
  | .testLogicReset => Sys2Proof.Machine.execTestLogicReset s
  | .registerRead m a whole => Sys2Proof.Machine.execRegisterRead m a whole s
  | .whistleNReturnHigh => Sys2Proof.Machine.execWhistleNReturnHigh s
  | .selftestDone fails => Sys2Proof.Machine.execSelftestDone fails s
  | .heaterGovernorUpdate mv => Sys2Proof.Machine.execHeaterGovernorUpdate mv s
  | .remoteFaultClear p => Sys2Proof.Machine.execRemoteFaultClear p s
  | .msixMask v => Sys2Proof.Machine.execMsixMask v s
  | .d3hotEntry => Sys2Proof.Machine.execD3hotEntry s

end Sys2Proof.Machine
end

