-- ==== Sys2Proof/Safety.lean ====
section
/-! DEFINITION. What the statements call a good state: the words they are written in. -/

namespace Sys2Proof.Machine

/-- The interrupt conditions that the vectors have seen are the conditions there are (R71). -/
def State.irqSeen (s : State) : Prop := s.irq.hc = s.hostConds

/-- The command answers a next state, and `P` holds of it. -/
def answers (o : Host.Outcome State Fault Refusal) (P : State → Prop) : Prop := ∃ t, o = .next t ∧ P t

/-- Registers, memories and everything but what has left the device and the interrupt vectors' own state are as in `u`. -/
def State.sameBut (t u : State) : Prop := { t with out := u.out, irq := u.irq } = u

/-- Only the registers listed differ from `s`, beside what has left the device and the interrupt vectors' own state. -/
def State.onlyRegs (t s : State) (l : List Nat) : Prop := (∀ a, a ∉ l → t.reg a = s.reg a) ∧ t.sameBut { s with regs := t.regs }

/-- Master `m` reaches the registers with an access of `n` TLPs that its governor grants (R39, R40, R52). -/
def State.reaches (s : State) (m : Master) (n : Nat) : Prop := onBus m = true ∧ s.masterOn m = true ∧ s.tlpOk m n = true

/-- Master `m` reaches the registers with a write and has no guarded value armed (R62). -/
def State.hears (s : State) (m : Master) : Prop := s.reaches m 1 ∧ s.guardOf m = none

/-- Master `m` sends a write, which its governor grants, and has no guarded value armed (R39, R40, R62). -/
def State.sends (s : State) (m : Master) : Prop := s.masterOn m = true ∧ s.tlpOk m 1 = true ∧ s.guardOf m = none

/-- The bases of the register rows whose write has an effect of its own in `landNear`, `landTime` or `landFar`. -/
def effectBases : List Nat :=
  [0x20, 0x24, 0x100, 0x20c, 0x300, 0x10020, 0x10024, 0x10028, 0x1002c, 0xb0000, 0xb0004, 0xb0010, 0xb0014, 0xb0008, 0xb0018, 0xb0028,
    0xb0030, 0xb0034, 0xb0414, 0xe000c, 0xe1000] ++
  [0x20000, 0x20008, 0x20100, 0x20104, 0x2011c, 0x20400, 0x20404, 0x20408, 0x20600, 0x20604, 0x20c00, 0x20c04, 0x20c08, 0x30000, 0x30018,
    0x30810, 0x40000, 0x4001c, 0x50040, 0x50400, 0x50434, 0x50444, 0x51020, 0x60000, 0x60004, 0x60018, 0x60400, 0x6040c] ++
  [0x70000, 0x70008, 0x70024, 0x80000, 0x80008, 0x80020, 0x80040, 0x94008, 0x94100, 0xa0004, 0xa0010, 0xd0004, 0xd0010, 0xf0000, 0xf0008,
    0xf0054]

/-- A row of single-word registers that software reads and writes and that have no effect of their own, outside the NVS block, whose store can
refuse. -/
def plainRow (r : Row) : Bool := r.acc == .rw && r.words == 1 && !effectBases.contains r.base && r.base / 0x10000 != 12

/-- The syllable issues as a bundle of its own: well formed, with nothing of its engine held back and, on the SE, its charge granted and no
local access waiting (R40, R272, R276, R282). -/
def State.solo (s : State) (y : Syl) (op md : Nat) : Prop :=
  s.issues y = true ∧ s.fits y op md = true ∧ y.last = true ∧ (s.eng_ y.e.num).hold = [] ∧ s.seGrants y op md = true ∧
    (y.e = .se → s.se.mem = none)

/-- The syllable issues as a bundle of its own and its predicate allows its effect (R273). -/
def State.runs1 (s : State) (y : Syl) (op md : Nat) : Prop := s.solo y op md ∧ s.predOn y = true

/-- The registers and the predicate that a result of latency `lat` names, as its syllable's instance rotates them, with the time it is due
where it is in flight; those that its stream does not own are left out (R276, R278, R279). -/
def State.flight (s : State) (y : Syl) (lat : Nat) (regs : List (Nat × Nat)) (pred : Option (Nat × Bool)) : Flight :=
  { inst := y.inst, regs := (regs.filter (fun r => sylMayG y r.1)).map (fun r => (s.physG y r.1, BitVec.ofNat 64 r.2)),
    pred := pred.bind (fun q => if sylMayP y q.1 then some (s.physP y q.1, q.2) else none), aes := false,
    due := if lat ≤ 1 ∨ y.e = .se then 0 else s.engTime y.e.num + lat }

/-- The bundle address of the SE after its next-bundle rule (R282). -/
def State.nextPc (s : State) (y : Syl) : Nat := if y.e = .se then (s.se.pc + 1) % 4096 else s.se.pc

/-- From `s` to `t` a bundle of one syllable gives just its result: written at once with a latency of 1 and on the SE, in flight else; on the
SE its charge is drawn (R276, R277, R283). -/
def State.gives (t s : State) (y : Syl) (op md lat : Nat) (regs : List (Nat × Nat)) (pred : Option (Nat × Bool)) : Prop :=
  t.eng_ y.e.num = (if lat ≤ 1 ∨ y.e = .se then (s.eng_ y.e.num).take (s.flight y lat regs pred)
    else { s.eng_ y.e.num with fly := (s.eng_ y.e.num).fly ++ [s.flight y lat regs pred] }) ∧
  (∀ k, k ≠ y.e.num → t.eng_ k = s.eng_ k) ∧
  t.sameBut { seBook op md y s with eng := t.eng, se := { (seBook op md y s).se with pc := s.nextPc y } }

/-- The low and the high register of a pair, `v` of 128 bits (R275). -/
def pairRegs (y : Syl) (v : Nat) : List (Nat × Nat) := [(y.dst.val, v % 2 ^ 64), (y.dst.val + 1, v / 2 ^ 64)]

/-- The effect `u` of a bundle of one syllable, beside the engines' parts, which are as in `u`, and the SE's next bundle; on the SE `u` is
reached from the state in which the bundle's charge is drawn. -/
def State.does (t u : State) (y : Syl) : Prop :=
  (∀ k, t.eng_ k = u.eng_ k) ∧ t.sameBut { u with eng := t.eng, se := { u.se with pc := u.nextPc y } }

end Sys2Proof.Machine
end

