-- ==== Sys2Proof/Certificates/Slice0/Obligations.lean ====
section
/-! DEFINITION. The statements for the provers: what the block does, command by command, and what every step keeps. -/

open Sys2Proof Sys2Proof.Machine

/-- For every command c and state s, a step of s with c at the front of its queue is exec of c on s with the rest of the queue. (01_architecture.md (the queue of commands is the model's own: INVENTORY.md, State).) -/
def Obligations.StepRunsFrontCommand : Prop :=
  ∀ (c : Instr) (rest : List Instr) (s : State), step { s with pending := c :: rest } = exec c { s with pending := rest }

/-- A step on an empty queue lets one clock edge pass (the model's choice): it always answers a next state; outside reset in rungs L0 to L2 one TCLK period of 2 ns passes and the TIU's 56-bit count advances by one, in L3 one TBCLK period of 20 ns passes, and under reset or in L4 20 ns pass and nothing else changes. (R91, R32.) -/
def Obligations.IdleStepIsAClockEdge : Prop :=
  ∀ s : State, s.pending = [] → ∃ t, step s = .next t ∧
    (s.inReset = false → s.rung ≤ 2 → t.now = s.now + 2000 ∧ t.tiu.count = (s.tiu.count + 1) % 2 ^ 56) ∧
    (s.inReset = false → s.rung = 3 → t.now = s.now + 20000 ∧ t.tiu.count = s.tiu.count) ∧
    (s.inReset = true ∨ 4 ≤ s.rung → t = { s with now := s.now + 20000 })

/-- Every command of the table, on every state, answers a next state: no rule of the spec stops the device on a command, so no meaning ends in a fault or a refusal. (95_what_each_step_holds.md.) -/
def Obligations.EveryCommandCompletes : Prop :=
  ∀ (c : Instr) (s : State), ∃ t, exec c s = .next t

/-- When the interrupt conditions are brought up to date after a command, every vector whose host-routed condition is 1 and was 0 sends its MSI-X message, with the address and data of its table entry, if the endpoint can send and the vector is not masked, and sets its pending bit if not; no other vector's pending bit changes, no other message leaves, and the conditions seen become the conditions there are. (R70, R71.) -/
def Obligations.RisingConditionRaisesItsVector : Prop :=
  ∀ (s : State) (v : Nat), v < 32 →
    (s.hostConds.getLsbD v = true → s.irq.hc.getLsbD v = false →
      (s.vecSends v = true → s.msixOut v ∈ (settle s).out) ∧ (s.vecSends v = false → (settle s).irq.pend.getLsbD v = true)) ∧
    (¬ (s.hostConds.getLsbD v = true ∧ s.irq.hc.getLsbD v = false) →
      (settle s).irq.pend.getLsbD v = s.irq.pend.getLsbD v) ∧
    (∃ l, (settle s).out = s.out ++ l ∧
      ∀ o ∈ l, ∃ w, w < 32 ∧ o = s.msixOut w ∧ s.hostConds.getLsbD w = true ∧ s.irq.hc.getLsbD w = false ∧ s.vecSends w = true)

/-- Right after power-on reset the conditions the vectors have seen are the conditions there are: none, since no enable is set. (R68, R71, R514.) -/
def Obligations.ResetSeesNoCondition : Prop :=
  State.reset.irqSeen ∧ State.reset.hostConds = 0

/-- For every state in which the host-routed conditions that the interrupt vectors have seen are the conditions that the event counters, acknowledge copies, enables and routes give, every step, by a command or a clock edge, leaves a state in which that holds again: no condition rises or falls without its vector seeing it. (R68, R71.) -/
def Obligations.EveryStepKeepsConditionsSeen : Prop :=
  ∀ s t : State, s.irqSeen → step s = .next t → t.irqSeen

/-- While the contract is not suspended, the end of a governor's grant part leaves it no charge and no grant, and changes nothing else. A reachable write of an allowance register asks for a transfer, queued in address order, and while the contract is suspended the register also reads the value written. A window in which no transfer waits and no ramp runs stores its mean in MEASURED and moves the trim by one toward the level, within 0 to 1,200 mA. (R32, R34, R40, R41.) Completes: grantPartEnd, allowanceWrite, rationWindow. -/
def Obligations.RationCommands : Prop :=
  (∀ (g : Fin 4) (s : State), s.suspended = false →
    ∃ t, exec (.grantPartEnd g) s = .next t ∧ t.sameBut (s.setGov g.val { s.gov g.val with left := 0, grant := false })) ∧
  (∀ (g : Fin 4) (v : Word) (s : State), s.blockOn 1 = true →
    ∃ t, exec (.allowanceWrite g v) s = .next t ∧ t.rat.xfers = insertXfer ⟨alwReg g.val, v &&& 0xfff⟩ s.rat.xfers ∧
      (s.suspended = false → t.sameBut (s.askXfer (alwReg g.val) (v &&& 0xfff))) ∧
      (s.suspended = true → t.sameBut ((s.askXfer (alwReg g.val) (v &&& 0xfff)).setReg (alwReg g.val) (v &&& 0xfff)))) ∧
  (∀ (mean mv : Nat) (s : State), s.hostOn = true → s.suspended = false → s.rat.xfers = [] →
    s.fld F.RATION_LEVEL_LEVEL_MA = s.fld F.RATION_LEVEL_TARGET_MA →
    ∃ t, exec (.rationWindow mean mv) s = .next t ∧ t.fld F.RATION_MEASURED_MEAN = min mean 8191 ∧
      t.rat.prevMean = some mean ∧
      t.trim = (if mean < s.fld F.RATION_LEVEL_LEVEL_MA then min 1200 (s.trim + 1)
        else if s.fld F.RATION_LEVEL_LEVEL_MA < mean then s.trim - 1 else s.trim) ∧
      t.fld F.RATION_LEVEL_LEVEL_MA = s.fld F.RATION_LEVEL_LEVEL_MA)

/-- While the contract runs, a window that ends with its mean more than 1.5 % from LEVEL_MA increments WIN_OUT, saturating, and one whose mean differs by more than 20 mA from the window before increments STEP_OUT; else each keeps its value. Stated of the monitor's own part of the window. (R45.) -/
def Obligations.WindowMonitor : Prop :=
  ∀ (mean : Nat) (s : State),
    (monitor mean s).rv Reg.WIN_OUT =
      (if (max mean (s.fld F.RATION_LEVEL_LEVEL_MA) - min mean (s.fld F.RATION_LEVEL_LEVEL_MA)) * 1000 ≤ s.fld F.RATION_LEVEL_LEVEL_MA * 15
        then s.rv Reg.WIN_OUT else min (s.rv Reg.WIN_OUT + 1) (2 ^ 32 - 1)) ∧
    (monitor mean s).rv Reg.STEP_OUT =
      (if ∃ p, s.rat.prevMean = some p ∧ 20 < max mean p - min mean p then min (s.rv Reg.STEP_OUT + 1) (2 ^ 32 - 1) else s.rv Reg.STEP_OUT)

/-- In every state whose trim is within its range, a ration window, with whatever transfers of allowances and of fabric and TE targets wait (no port transfer among them), with or without a ramp, leaves the trim within 0 to 1,200 mA. (R34, R41, R43.) -/
def Obligations.TrimStaysInRange : Prop :=
  ∀ (mean mv : Nat) (s : State), s.trim ≤ 1200 → (∀ x ∈ s.rat.xfers, (∃ g : Fin 4, x.addr = alwReg g.val) ∨ ∃ te, x.addr = targetKey te) →
    ∃ t, exec (.rationWindow mean mv) s = .next t ∧ t.trim ≤ 1200

/-- A write by a master that reaches the registers (no guarded value armed), to a plain register (single word, read and write, no effect of its own): in the host island the register takes the writable bits at once and no other register changes; elsewhere, its block on and no write pending there, the write becomes the block's pending write and no register changes; a second write then is dropped with BUSY_WRITE and leaves the pending one; with the block off it is counted in OFF_ACCESS and answered, on QSPI, I2C and the SE bus, as an access to a domain that is off. BLK_INT_EN of every block takes its value at once. A malformed write changes nothing but BAD_ACCESS. Each access of HOST_PCIE draws the charge of its TLP; where its governor does not grant it, the endpoint stalls and the access is given again. (R40, R50, R58, R59, R61.) Completes: registerWrite. -/
def Obligations.RegisterWritesLandOrArePosted : Prop :=
  (∀ (m : Master) (a : BitVec 21) (v : Word) (s : State) (r : Row) (i k : Nat), s.hears m → a.toNat % 4 = 0 → a.toNat < 0x100000 →
    a.toNat % 0x10000 < 0xfff0 → a.toNat / 0x10000 ≠ 12 → rowAt a.toNat = some (r, i, 0) → plainRow r = true → r.mask = [k] →
    (nearReg a.toNat = true →
      ∃ t, exec (.registerWrite m a [v] true) s = .next t ∧ t.reg a.toNat = v &&& BitVec.ofNat 32 k ∧
        (∀ x, x ≠ a.toNat → t.reg x = s.reg x) ∧ t.bus = { s.bus with reply := ⟨.ok, []⟩ } ∧
        t.sameBut { s.tlp m 1 with regs := t.regs, bus := t.bus }) ∧
    (nearReg a.toNat = false → s.blockOn (a.toNat / 0x10000) = true → s.postedAt (a.toNat / 0x10000) = none →
      ∃ t, exec (.registerWrite m a [v] true) s = .next t ∧ t.postedAt (a.toNat / 0x10000) = some ⟨a.toNat, [v], a.toNat, m⟩ ∧
        t.bus.reply = ⟨.ok, []⟩ ∧ t.sameBut { s.tlp m 1 with bus := t.bus }) ∧
    (nearReg a.toNat = false → s.blockOn (a.toNat / 0x10000) = true → s.postedAt (a.toNat / 0x10000) ≠ none →
      ∃ t, exec (.registerWrite m a [v] true) s = .next t ∧ t.bus.posted = s.bus.posted ∧
        t.sameBut ((answer .ok [] (s.tlp m 1)).sendFault srcHostDecode kBusyWrite a.toNat)) ∧
    (nearReg a.toNat = false → s.blockOn (a.toNat / 0x10000) = false →
      ∃ t, exec (.registerWrite m a [v] true) s = .next t ∧ t.bus.reply = ⟨if m = .hostPcie then .ok else .domainOff, []⟩ ∧ t.bus.posted = s.bus.posted ∧
        t.fld ⟨Reg.OFF_ACCESS, 0, 16⟩ = min (s.fld ⟨Reg.OFF_ACCESS, 0, 16⟩ + 1) 65535 ∧ (∀ x, x ≠ Reg.OFF_ACCESS → t.reg x = s.reg x))) ∧
  (∀ (m : Master) (b : Fin 16) (v : Word) (s : State), s.hears m →
    ∃ t, exec (.registerWrite m (BitVec.ofNat 21 (b.val * 0x10000 + 0xfff4)) [v] true) s = .next t ∧
      t.reg (blkIntEn b.val) = v ∧ ∀ x, x ≠ blkIntEn b.val → t.reg x = s.reg x) ∧
  (∀ (m : Master) (a : BitVec 21) (ws : List Word) (s : State), s.hears m →
    ∃ t, exec (.registerWrite m a ws false) s = .next t ∧ t.sameBut ((s.tlp m 1).bump16 Reg.BAD_ACCESS)) ∧
  (∀ (m : Master) (a : BitVec 21) (ws : List Word) (whole : Bool) (s : State), s.masterOn .hostPcie = true → s.tlpOk .hostPcie 1 = false →
    m = .hostPcie → ∃ t, exec (.registerWrite m a ws whole) s = .next t ∧ t.sameBut (govStall 2 s))

/-- Where a write of a plain register is pending in a block that is on, its arrival gives the register the writable bits of the value, ends the pending write and clears DISCARDED, and changes no other register; one that waited beyond its phase is counted as late at its control gate. Where the block is off, the pending write is discarded: DISCARDED is 1, no write is pending and nothing else changes. Where no write is pending, or the block is in the other state, each of the two changes nothing. (R25, R58, R59.) Completes: postedWriteTakesEffect, postedWriteDiscard. -/
def Obligations.PostedWritesLandOrAreDiscarded : Prop :=
  (∀ (b : Fin 16) (late : Bool) (s : State) (p : Posted) (v : Word) (r : Row) (i k : Nat), s.blockOn b.val = true →
    s.postedAt b.val = some p → p.words = [v] → rowAt p.addr = some (r, i, 0) → plainRow r = true → r.mask = [k] →
    ∃ t, exec (.postedWriteTakesEffect b late) s = .next t ∧ t.postedAt b.val = none ∧
      Tbl.get (fun _ => false) t.bus.discarded b.val = false ∧
      t.reg p.addr = v &&& BitVec.ofNat 32 k ∧
      (∀ x, x ≠ p.addr → (late = true → x ≠ Reg.GATE_LATE_CTRL ∧ x ≠ Reg.GATE_EVT) → t.reg x = s.reg x) ∧
      (late = true → b.val = 8 ∨ b.val = 9 → t.reg Reg.GATE_EVT = s.reg Reg.GATE_EVT + 1) ∧
      (late = true → 2 ≤ b.val → b.val ≤ 6 →
        Tbl.get (fun _ => 0) t.bus.late 0 = Tbl.get (fun _ => 0) s.bus.late 0 + 1)) ∧
  (∀ (b : Fin 16) (s : State), s.blockOn b.val = false → s.postedAt b.val ≠ none →
    ∃ t, exec (.postedWriteDiscard b) s = .next t ∧ t.sameBut ((s.setPosted b.val none).setDiscarded b.val true)) ∧
  (∀ (b : Fin 16) (late : Bool) (s : State),
    (s.blockOn b.val = false ∨ s.postedAt b.val = none → ∃ t, exec (.postedWriteTakesEffect b late) s = .next t ∧ t.sameBut s) ∧
    (s.blockOn b.val = true ∨ s.postedAt b.val = none → ∃ t, exec (.postedWriteDiscard b) s = .next t ∧ t.sameBut s))

/-- A write of a word of a multi-word quantity below its highest stages it for its master and changes no register (the block being in the host island or on, and no write-once register). A read of the lowest word of a quantity of a block in the host island answers it and latches all the quantity's words, at one instant, in the master's buffer of that block; a read of one word answers its value and changes no register. A write of a guarded register arms its value and the time, and changes no register; when the window ends with no complement, nothing stays armed and GUARD_MISMATCH is sent. (R61, R62, R65, R66.) Completes: stagedWordWrite, snapshotRead, registerRead, guardValueWrite, guardWindowExpiry. -/
def Obligations.QuantitiesAreStagedLatchedAndGuarded : Prop :=
  (∀ (m : Master) (a : BitVec 20) (v : Word) (s : State) (r : Row) (i w : Nat), s.hears m → a.toNat % 4 = 0 →
    a.toNat % 0x10000 < 0xfff0 → a.toNat / 0x10000 ≠ 12 → rowAt a.toNat = some (r, i, w) → r.quantity = true → w + 1 < r.words →
    r.acc ≠ .w1 → r.acc ≠ .gd → (nearReg a.toNat || s.blockOn (a.toNat / 0x10000)) = true →
    ∃ t, exec (.stagedWordWrite m a v) s = .next t ∧ t.stagedWord m a.toNat = v ∧ t.sameBut { s.tlp m 1 with bus := t.bus }) ∧
  (∀ (m : Master) (a : BitVec 20) (n : Nat) (s : State), s.reaches m 2 → a.toNat % 4 = 0 → nearReg a.toNat = true →
    quantAt a.toNat = some (a.toNat, n) → a.toNat ≠ Reg.HWIN_DATA →
    ∃ t, exec (.snapshotRead m a) s = .next t ∧ t.snapOf m (a.toNat / 0x10000) = some ⟨a.toNat, s.liveWords m.id a.toNat n⟩ ∧
      t.bus.reply = ⟨.ok, [(s.liveWords m.id a.toNat n).headD 0]⟩ ∧ t.sameBut { s.tlp m 2 with bus := t.bus }) ∧
  (∀ (m : Master) (a : BitVec 21) (s : State), s.reaches m 2 → a.toNat % 4 = 0 → a.toNat < 0x100000 →
    nearReg a.toNat = true → quantAt a.toNat = none → a.toNat ≠ Reg.HWIN_DATA →
    ∃ t, exec (.registerRead m a true) s = .next t ∧ t.bus.reply = ⟨.ok, [s.live m.id a.toNat]⟩ ∧ t.sameBut { s.tlp m 2 with bus := t.bus }) ∧
  (∀ (m : Master) (a : BitVec 20) (v : Word) (s : State) (r : Row) (i w : Nat), s.hears m → a.toNat % 4 = 0 → a.toNat % 0x10000 < 0xfff0 →
    a.toNat / 0x10000 ≠ 12 → rowAt a.toNat = some (r, i, w) → r.acc = .gd → (nearReg a.toNat || s.blockOn (a.toNat / 0x10000)) = true →
    ∃ t, exec (.guardValueWrite m a v) s = .next t ∧ t.guardOf m = some ⟨a.toNat, v, s.now⟩ ∧ t.sameBut { s.tlp m 1 with bus := t.bus }) ∧
  (∀ (m : Master) (s : State) (g : Guard), s.hostOn = true → s.guardOf m = some g → g.time + s.guardWindow ≤ s.now →
    ∃ t, exec (.guardWindowExpiry m) s = .next t ∧ t.guardOf m = none ∧
      t.sameBut ((s.setGuard m none).sendFault srcHostDecode kGuardMismatch g.addr))

/-- A write of an acknowledge copy in the host island stores the copy and no other register, and sends the vector's message again where its condition was and is 1 and it can send; outside the host island, its block on, the write is posted. A write of INT_ROUTE stores the routes. Masking a vector or disabling MSI-X, unmasking, the endpoint's ability to send and D3hot change the vectors' own state only: a masked vector's bit is set; an unmasked one's is cleared, and where it was pending and the endpoint can send, its message leaves if its condition is 1 and its pending bit clears; when the endpoint can send again so does every pending vector that is not masked, and a masked one whose condition has fallen loses its pending bit; in D3hot no vector sends. (R68, R71, R408.) Completes: acknowledgeWrite, intRouteWrite, msixMask, msixUnmask, msixSendResume, d3hotEntry. -/
def Obligations.InterruptCommands : Prop :=
  (∀ (m : Master) (a : BitVec 21) (v : Word) (s : State) (r : Row) (i : Nat), s.hears m → a.toNat % 4 = 0 → a.toNat < 0x100000 →
    a.toNat % 0x10000 < 0xfff0 → a.toNat / 0x10000 ≠ 12 → rowAt a.toNat = some (r, i, 0) → plainRow r = true → r.mask = [0xffffffff] →
    (blockSrcs (a.toNat / 0x10000)).any (fun x => x.ctrs.any (fun c => c + 4 == a.toNat)) = true →
    (nearReg a.toNat = true → ∃ t, exec (.acknowledgeWrite m a v) s = .next t ∧ t.reg a.toNat = v ∧
      (∀ x, x ≠ a.toNat → t.reg x = s.reg x) ∧
      ∀ w, (s.setReg a.toNat v).ackVector a.toNat = some w → s.irq.hc.getLsbD w = true →
        (s.setReg a.toNat v).hostConds.getLsbD w = true → (s.setReg a.toNat v).vecSends w = true → s.msixOut w ∈ t.out) ∧
    (nearReg a.toNat = false → s.blockOn (a.toNat / 0x10000) = true → s.postedAt (a.toNat / 0x10000) = none →
      ∃ t, exec (.acknowledgeWrite m a v) s = .next t ∧ t.postedAt (a.toNat / 0x10000) = some ⟨a.toNat, [v], a.toNat, m⟩ ∧
        t.sameBut { s.tlp m 1 with bus := t.bus })) ∧
  (∀ (m : Master) (hi : Bool) (v : Word) (s : State), s.hears m →
    ∃ t, exec (.intRouteWrite m hi v) s = .next t ∧ t.reg (if hi then Reg.INT_ROUTE_HI else Reg.INT_ROUTE_LO) = v ∧
      ∀ x, x ≠ (if hi then Reg.INT_ROUTE_HI else Reg.INT_ROUTE_LO) → t.reg x = s.reg x) ∧
  (∀ s : State, s.hostOn = true →
    (∃ t, exec (.msixMask none) s = .next t ∧ t.irq.enabled = false ∧ t.irq.mask = s.irq.mask ∧ t.sameBut s) ∧
    (∀ v : Fin 32, ∃ t, exec (.msixMask (some v)) s = .next t ∧ t.irq.mask = s.irq.mask ||| BitVec.ofNat 32 (2 ^ v.val) ∧ t.sameBut s) ∧
    (∀ v : Fin 32, ∃ t, exec (.msixUnmask v) s = .next t ∧ t.irq.mask = s.irq.mask &&& ~~~(BitVec.ofNat 32 (2 ^ v.val)) ∧ t.sameBut s ∧
      (s.irqSeen → s.canSend = true → s.irq.pend.getLsbD v.val = true →
        t.irq.pend.getLsbD v.val = false ∧ (s.hostConds.getLsbD v.val = true → s.msixOut v.val ∈ t.out))) ∧
    (∃ t, exec .d3hotEntry s = .next t ∧ t.irq.d3hot = true ∧ t.sameBut s ∧ ∀ v, t.vecSends v = false) ∧
    (s.rung ≤ 2 → s.irq.perstLow = false →
      ∃ t, exec .msixSendResume s = .next t ∧ t.irq.linkL0 = true ∧ t.irq.enabled = true ∧ t.irq.d3hot = false ∧ t.sameBut s ∧
        (s.irqSeen → ∀ v, v < 32 → s.irq.pend.getLsbD v = true → s.irq.mask.getLsbD v = false →
          t.irq.pend.getLsbD v = false ∧ (s.hostConds.getLsbD v = true → s.msixOut v ∈ t.out)) ∧
        (s.irqSeen → ∀ v, v < 32 → s.irq.mask.getLsbD v = true →
          t.irq.pend.getLsbD v = (s.irq.pend.getLsbD v && s.hostConds.getLsbD v))))

/-- By a master that reaches the registers: a write of HWIN_ADDR stores the word address, drops an earlier prefetch and, while the fabric is clocked, queues one at the host hamper gate, VALID 0; the prefetch, first in the queue of a hamper that is initialised, ends with VALID 1, ECC 1 only for a word that cannot be corrected, and the word held; a read of HWIN_DATA with VALID 1 answers that word and advances HWIN_ADDR by 4, and with VALID 0 answers zero and NOT_READY; a write of HWIN_DATA while the fabric is clocked queues the word for the hamper and advances HWIN_ADDR, and while it is not is answered and counted as an access to a domain that is off. (R57.) Completes: hwinAddrWrite, hwinPrefetchDone, hwinDataRead, hwinDataWrite. -/
def Obligations.HamperWindowCommands : Prop :=
  (∀ (m : Master) (v : Word) (s : State), s.hears m →
    ∃ t, exec (.hwinAddrWrite m v) s = .next t ∧ t.reg Reg.HWIN_ADDR = v &&& 0xfffffc ∧ t.flag F.HWIN_STATUS_VALID = false ∧
      (s.fclkOn = true → ∃ q, t.fab.gateQ = q ++ [⟨(v &&& 0xfffffc).toNat, none, .good, false, true⟩] ∧ ∀ x ∈ q, x.hwin = false) ∧
      ∀ x, x ≠ Reg.HWIN_ADDR → x ≠ Reg.HWIN_STATUS → t.reg x = s.reg x) ∧
  (∀ (ecc : Ecc) (s : State) (a : Nat) (e : Ecc) (w : Bool) (q : List HamReq), s.hamDark = false → s.fab.gateQ = ⟨a, none, e, w, true⟩ :: q →
    ∃ t, exec (.hwinPrefetchDone ecc) s = .next t ∧ t.flag F.HWIN_STATUS_VALID = true ∧
      t.flag F.HWIN_STATUS_ECC = decide (ecc = .bad) ∧ t.fab.gateQ = q ∧ t.fab.mem = s.fab.mem ∧
      t.bus.hwinData = BitVec.ofNat 32 (if ecc = .bad then 0 else s.fab.mem.le a 4)) ∧
  (∀ (m : Master) (s : State), s.reaches m 2 →
    (s.flag F.HWIN_STATUS_VALID = true → ∃ t, exec (.hwinDataRead m) s = .next t ∧ t.bus.reply = ⟨.ok, [s.bus.hwinData]⟩ ∧
      t.rv Reg.HWIN_ADDR = (s.rv Reg.HWIN_ADDR + 4) % 2 ^ 24 ∧ t.flag F.HWIN_STATUS_VALID = false) ∧
    (s.flag F.HWIN_STATUS_VALID = false → ∃ t, exec (.hwinDataRead m) s = .next t ∧ t.sameBut (answer .notReady [0] (s.tlp m 2)))) ∧
  (∀ (m : Master) (v : Word) (s : State), s.hears m →
    (s.fclkOn = true → ∃ t, exec (.hwinDataWrite m v) s = .next t ∧
      t.fab.gateQ = s.fab.gateQ ++ [⟨s.rv Reg.HWIN_ADDR, some v, .good, false, false⟩] ∧
      t.rv Reg.HWIN_ADDR = (s.rv Reg.HWIN_ADDR + 4) % 2 ^ 24 ∧ ∀ x, x ≠ Reg.HWIN_ADDR → t.reg x = s.reg x) ∧
    (s.fclkOn = false → ∃ t, exec (.hwinDataWrite m v) s = .next t ∧ t.sameBut (answer (if m = .hostPcie then .ok else .domainOff) [] ((s.tlp m 1).bump16 Reg.OFF_ACCESS))))

/-- With no posted write pending and no guard armed: a QSPI write frame, on one lane or four, of one word to a plain register of the host island stores it and answers OK in LINK_STATUS and for the next status frame; a frame to a refused space is BAD_SPACE, stores nothing and counts BAD_ACCESS; a read frame of one word that is not part of a quantity answers its value. An I2C write and read at the device's own address do the same, and at another address nothing happens. A status frame answers the status of the last write frame; a frame of an unknown opcode only counts BAD_ACCESS. (R53, R54, R55, R56, R411.) Completes: qspiReadFrame, qspiQuadReadFrame, qspiWriteFrame, qspiQuadWriteFrame, qspiStatusFrame, qspiUnknownOpcode, i2cWrite, i2cRead. -/
def Obligations.LinkFrames : Prop :=
  (∀ s : State, s.masterOn .hostSpi = true →
    (∃ t, exec .qspiStatusFrame s = .next t ∧ t.sameBut (answer s.bus.spiStatus [] s)) ∧
    (∃ t, exec .qspiUnknownOpcode s = .next t ∧ t.sameBut (s.bump16 Reg.BAD_ACCESS))) ∧
  (∀ (a : BitVec 24) (v : Word) (gnss : Bool) (s : State) (r : Row) (i k : Nat), s.hears .hostSpi → (∀ b, s.postedAt b = none) →
    a.toNat < 0x100000 → a.toNat % 4 = 0 → a.toNat % 0x10000 < 0xfff0 → nearReg a.toNat = true → a.toNat ≠ Reg.LINK_STATUS →
    rowAt a.toNat = some (r, i, 0) → plainRow r = true → r.mask = [k] →
    let stored := fun (t : State) => t.reg a.toNat = v &&& BitVec.ofNat 32 k ∧ t.bus.spiStatus = .ok ∧ t.fld F.LINK_STATUS_QSPI = 0 ∧
      ∀ x, x ≠ a.toNat → x ≠ Reg.LINK_STATUS → t.reg x = s.reg x
    (∃ t, exec (.qspiWriteFrame a [v] false) s = .next t ∧ stored t) ∧ (∃ t, exec (.qspiQuadWriteFrame a [v] gnss false) s = .next t ∧ stored t)) ∧
  (∀ (a : BitVec 24) (v : Word) (gnss : Bool) (s : State), s.hears .hostSpi → (∀ b, s.postedAt b = none) → linkAddr a.toNat = none →
    let refused := fun (t : State) => t.bus.spiStatus = .badSpace ∧ t.fld F.LINK_STATUS_QSPI = 3 ∧
      t.fld ⟨Reg.BAD_ACCESS, 0, 16⟩ = min (s.fld ⟨Reg.BAD_ACCESS, 0, 16⟩ + 1) 65535 ∧
      ∀ x, x ≠ Reg.LINK_STATUS → x ≠ Reg.BAD_ACCESS → t.reg x = s.reg x
    (∃ t, exec (.qspiWriteFrame a [v] false) s = .next t ∧ refused t) ∧ (∃ t, exec (.qspiQuadWriteFrame a [v] gnss false) s = .next t ∧ refused t)) ∧
  (∀ (a : BitVec 24) (gnss : Bool) (s : State), s.hears .hostSpi → (∀ b, s.postedAt b = none) → a.toNat < 0x100000 →
    a.toNat % 4 = 0 → nearReg a.toNat = true → quantAt a.toNat = none → a.toNat ≠ Reg.HWIN_DATA →
    (∃ t, exec (.qspiReadFrame a 1 [] false) s = .next t ∧ t.bus.reply = ⟨.ok, [s.live 2 a.toNat]⟩ ∧
      ∀ x, x ≠ Reg.LINK_STATUS → t.reg x = s.reg x) ∧
    (∃ t, exec (.qspiQuadReadFrame a 1 [] gnss false) s = .next t ∧ t.bus.reply = ⟨.ok, [s.live 2 a.toNat]⟩ ∧
      ∀ x, x ≠ Reg.LINK_STATUS → t.reg x = s.reg x)) ∧
  (∀ (dev : BitVec 7) (a : BitVec 24) (v : Word) (s : State) (r : Row) (i k : Nat), s.hears .hostI2c → (∀ b, s.postedAt b = none) →
    a.toNat < 0x100000 → a.toNat % 4 = 0 → a.toNat % 0x10000 < 0xfff0 → nearReg a.toNat = true → a.toNat ≠ Reg.LINK_STATUS →
    rowAt a.toNat = some (r, i, 0) → plainRow r = true → r.mask = [k] →
    (dev.toNat = 0x58 + s.fld F.DZ_STATUS_ID → ∃ t, exec (.i2cWrite dev a [v] false) s = .next t ∧
      t.reg a.toNat = v &&& BitVec.ofNat 32 k ∧ t.bus.reply.status = .ok ∧ ∀ x, x ≠ a.toNat → x ≠ Reg.LINK_STATUS → t.reg x = s.reg x) ∧
    (dev.toNat ≠ 0x58 + s.fld F.DZ_STATUS_ID → ∃ t, exec (.i2cWrite dev a [v] false) s = .next t ∧ t.sameBut s)) ∧
  (∀ (dev : BitVec 7) (a : BitVec 24) (s : State), s.hears .hostI2c → (∀ b, s.postedAt b = none) → a.toNat < 0x100000 →
    a.toNat % 4 = 0 → nearReg a.toNat = true → quantAt a.toNat = none → a.toNat ≠ Reg.HWIN_DATA → dev.toNat = 0x58 + s.fld F.DZ_STATUS_ID →
    ∃ t, exec (.i2cRead dev a 1 [] false) s = .next t ∧ t.bus.reply = ⟨.ok, [s.live 3 a.toNat]⟩ ∧
      ∀ x, x ≠ Reg.LINK_STATUS → t.reg x = s.reg x)

/-- With its block on: a write of TB_CTRL once the source has locked only sends LOCKED_WRITE; while an APLL is locked it only sets SRC_REFUSED; else it stores the source, locks, clears SRC_REFUSED, reaches milestone 3, and an external source is put in use with EXT_ACTIVE and SLEWING 1 and the heater off. A write of TB_OVEN is ignored with an external source, else stores HTR_EN, and HTR_EN written 0 takes TB_WARM and the heater's demand to 0. In rungs L0 to L3 each oven update stores the crystal temperature, and without an external source sets AT_SETPOINT exactly within 0.05 K of the set point, OVERTEMP above 3 K, and takes TB_WARM to 0 beyond 0.2 K. (R64, R76, R77, R78, R79, R80.) Completes: tbCtrlWrite, tbOvenWrite, ovenLoopUpdate. -/
def Obligations.TimebaseSourceAndOven : Prop :=
  (∀ (v : Word) (s : State), s.blockOn 2 = true →
    (s.tbLocked = true → ∃ t, exec (.tbCtrlWrite v) s = .next t ∧ t.sameBut (s.sendFault srcHostDecode kLockedWrite Reg.TB_CTRL)) ∧
    (s.tbLocked = false → s.anyApllLocked = true →
      ∃ t, exec (.tbCtrlWrite v) s = .next t ∧ t.sameBut (s.setFlag F.TB_STATUS_SRC_REFUSED true)) ∧
    (s.tbLocked = false → s.anyApllLocked = false → ∃ t, exec (.tbCtrlWrite v) s = .next t ∧ t.tbLocked = true ∧
      t.fld F.TB_CTRL_SRC = v.toNat % 4 ∧ t.fld F.TB_CTRL_EXT_FREQ = v.toNat / 4 % 4 ∧ t.flag F.TB_STATUS_SRC_REFUSED = false ∧
      t.flag F.BOOT_STATUS_TB_LOCKED = true ∧
      (v.toNat % 4 = 1 ∨ v.toNat % 4 = 2 → t.fld F.TB_STATUS_SRC_IN_USE = v.toNat % 4 ∧ t.flag F.TB_STATUS_EXT_ACTIVE = true ∧
        t.flag F.TB_STATUS_SLEWING = true ∧ t.flag F.TB_OVEN_HTR_EN = false ∧ t.tb.demandMw = 0))) ∧
  (∀ (v : Word) (s : State), s.blockOn 2 = true →
    (s.tbExt = true → ∃ t, exec (.tbOvenWrite v) s = .next t ∧ t.sameBut s) ∧
    (s.tbExt = false → v.getLsbD 0 = true → ∃ t, exec (.tbOvenWrite v) s = .next t ∧ t.flag F.TB_OVEN_HTR_EN = true ∧
      ∀ x, x ≠ Reg.TB_OVEN → t.reg x = s.reg x) ∧
    (s.tbExt = false → v.getLsbD 0 = false → ∃ t, exec (.tbOvenWrite v) s = .next t ∧ t.flag F.TB_OVEN_HTR_EN = false ∧
      t.flag F.TB_STATUS_TB_WARM = false ∧ t.tb.demandMw = 0 ∧ ∀ x, x ≠ Reg.TB_OVEN → x ≠ Reg.TB_STATUS → x ≠ Reg.TB_EVT → t.reg x = s.reg x)) ∧
  (∀ (tc d0 d1 d2 d3 : Int) (s : State), s.tbmOn = true →
    ∃ t, exec (.ovenLoopUpdate tc d0 d1 d2 d3) s = .next t ∧ t.rv Reg.TB_TEMP = unsigned 18 tc ∧
      (s.tbExt = false → t.flag F.TB_STATUS_AT_SETPOINT = decide ((tc - s.rv Reg.TB_SETPOINT).natAbs ≤ 50) ∧
        (3000 < tc - s.rv Reg.TB_SETPOINT → t.flag F.TB_STATUS_OVERTEMP = true ∧ t.tb.demandMw = 0) ∧
        (200 < (tc - s.rv Reg.TB_SETPOINT).natAbs → t.flag F.TB_STATUS_TB_WARM = false)))

/-- While the TBM runs: TB_WARM becomes 1, with milestone 4, where the warm conditions hold; HTR_LIMIT becomes 1 where the heater runs at its cap below set point; SLEWING becomes 0 when the TBM reaches a source that is not lost; with an external source, its loss sets EXT_LOST, clears EXT_ACTIVE, SLEWING and TB_WARM, and its return clears EXT_LOST and sets EXT_ACTIVE and SLEWING. Each change of TB_WARM, HTR_LIMIT or EXT_LOST counts TB_EVT. (R77, R78, R80, R81.) Completes: tbWarmRise, htrLimit, tbmSlewDone, extLost, extReturn. -/
def Obligations.TimebaseEvents : Prop :=
  (∀ s : State, s.tbmOn = true →
    (s.warmNow = true → s.flag F.TB_STATUS_TB_WARM = false → ∃ t, exec .tbWarmRise s = .next t ∧ t.flag F.TB_STATUS_TB_WARM = true ∧
      t.flag F.BOOT_STATUS_TB_WARMED = true ∧ t.reg Reg.TB_EVT = s.reg Reg.TB_EVT + 1) ∧
    (s.tb.capLow = true → s.flag F.TB_STATUS_HTR_LIMIT = false →
      ∃ t, exec .htrLimit s = .next t ∧ t.sameBut ((s.setFlag F.TB_STATUS_HTR_LIMIT true).bump Reg.TB_EVT)) ∧
    (s.flag F.TB_STATUS_SLEWING = true → s.flag F.TB_STATUS_EXT_LOST = false →
      ∃ t, exec .tbmSlewDone s = .next t ∧ t.sameBut (s.setFlag F.TB_STATUS_SLEWING false)) ∧
    (s.tbExt = true → s.flag F.TB_STATUS_EXT_LOST = false → ∃ t, exec .extLost s = .next t ∧ t.flag F.TB_STATUS_EXT_LOST = true ∧
      t.flag F.TB_STATUS_EXT_ACTIVE = false ∧ t.flag F.TB_STATUS_SLEWING = false ∧ t.flag F.TB_STATUS_TB_WARM = false ∧
      t.reg Reg.TB_EVT = s.reg Reg.TB_EVT + (if s.flag F.TB_STATUS_TB_WARM then 2 else 1) ∧
      ∀ x, x ≠ Reg.TB_STATUS → x ≠ Reg.TB_EVT → t.reg x = s.reg x) ∧
    (s.tbExt = true → s.flag F.TB_STATUS_EXT_LOST = true → ∃ t, exec .extReturn s = .next t ∧ t.flag F.TB_STATUS_EXT_LOST = false ∧
      t.flag F.TB_STATUS_EXT_ACTIVE = true ∧ t.flag F.TB_STATUS_SLEWING = true ∧ t.reg Reg.TB_EVT = s.reg Reg.TB_EVT + 1 ∧
      ∀ x, x ≠ Reg.TB_STATUS → x ≠ Reg.TB_EVT → t.reg x = s.reg x))

/-- A rising edge on a running channel that selects rising edges, its prescalers at rest, 12 ns or more after the last stamped one, takes the next edge index, re-arms the prescaler and starts a conversion with the count two TCLK edges later; within 12 ns it is lost, TOO_CLOSE counts and the next stamp will say so (no group being enabled). A finished conversion puts the record of its stamp in the channel's buffer, alone with LATEST and else behind the others while there is room, and counts CH_STAMPS (no group, statistics engine, regression or host capture taking it). The coarse counter wraps into the era. A read of GRP_RES or HCAP_REC of a block that is on answers the oldest entry's lowest word, latches its four words and removes it; an empty FIFO answers zeros. (R83, R84, R85, R87, R91, R99.) Completes: tiuEdge, stampConversionDone, coarseWrap, grpResPop, hcapRecPop. -/
def Obligations.TiuEdgesAndStamps : Prop :=
  (∀ (n : Fin 24) (t0 : Nat) (s : State), s.chRuns n.val = true → s.flag (F.CH_CFG_PRE2 n.val) = false → s.fld (F.CH_CFG_SLOPE n.val) = 0 →
    (s.chan n.val).div = 0 → (12 ≤ n.val → n.val < 16 → s.rxcOn n.val = true) →
    ((∀ p, (s.chan n.val).lastPin = some p → 6 * 65536 ≤ unsigned 72 ((t0 : Int) - p)) →
      ∃ t, exec (.tiuEdge n true t0) s = .next t ∧
        t.sameBut (s.setChan n.val { s.chan n.val with
          div := s.rv (Reg.CH_DIV n.val), idx := ((s.chan n.val).idx + 1) % 2 ^ 32, lastPin := some t0, tooClose := false, swap := false,
          restart := false,
          conv := (s.chan n.val).conv ++ [
            { c2 := (t0 / 65536 + 2) % 2 ^ 56, idx := (s.chan n.val).idx, fall := false, tooClose := (s.chan n.val).tooClose, cold := !s.flag F.TB_STATUS_TB_WARM,
              swap := (s.chan n.val).swap, stale := (s.interp (s.serving n.val)).stale, restart := (s.chan n.val).restart,
              delay := signed 16 (s.rv (Reg.CH_DELAY n.val)), latest := s.flag (F.CH_CFG_LATEST n.val), hcap := s.flag (F.CH_CFG_HCAP n.val),
              old := false, lost := false }] })) ∧
    ((∃ p, (s.chan n.val).lastPin = some p ∧ unsigned 72 ((t0 : Int) - p) < 6 * 65536) → (∀ g, g < 8 → s.flag (F.GRP_CFG_EN g) = false) →
      ∃ t, exec (.tiuEdge n true t0) s = .next t ∧ (t.chan n.val).tooClose = true ∧
        (t.chan n.val).conv.filter (fun c => !c.lost) = (s.chan n.val).conv.filter (fun c => !c.lost) ∧
        t.fld (F.CH_ERR_TOO_CLOSE n.val) = min (s.fld (F.CH_ERR_TOO_CLOSE n.val) + 1) 65535)) ∧
  (∀ (n : Fin 24) (q : Nat) (s : State) (cv : Conv) (rest : List Conv), s.tclkOn = true → (s.chan n.val).conv = cv :: rest →
    cv.lost = false → (cv.latest = true ∨ (s.chan n.val).buf.length < 16) → cv.hcap = false →
    s.flag (F.REG_CFG_EN n.val) = false → (∀ g, g < 8 → s.flag (F.GRP_CFG_EN g) = false) → (∀ k, k < 8 → s.statOn k = false) →
    ∃ t, exec (.stampConversionDone n q) s = .next t ∧ (t.chan n.val).conv = rest.dropWhile (·.lost) ∧
      (t.chan n.val).buf = (if cv.latest then [] else (s.chan n.val).buf) ++ [{
        t := unsigned 72 ((cv.c2 * 65536 : Nat) - (round32 q : Int) - 32 * cv.delay), ch := n.val, fall := cv.fall,
        tooClose := cv.tooClose, drop := (s.chan n.val).drop, cold := cv.cold, swap := cv.swap, stale := cv.stale, restart := cv.restart,
        idx := cv.idx }] ∧
      t.quant (Reg.CH_STAMPS n.val) 2 = (s.quant (Reg.CH_STAMPS n.val) 2 + 1) % 2 ^ 48) ∧
  (∀ s : State, s.tclkOn = true → s.tiu.count % 2 ^ 48 = 2 ^ 48 - 1 →
    ∃ t, exec .coarseWrap s = .next t ∧ t.tiu.count = (s.tiu.count / 2 ^ 48 + 1) % 256 * 2 ^ 48 ∧ t.sameBut { s with tiu := t.tiu }) ∧
  (∀ (m : Master) (g : Fin 8) (s : State), s.reaches m 2 → s.blockOn 2 = true → s.postedAt 2 = none →
    ∃ t, exec (.grpResPop m g) s = .next t ∧ (t.group g.val).fifo = (s.group g.val).fifo.drop 1 ∧
      t.snapOf m 2 = some ⟨Reg.GRP_RES g.val, GRes.words (s.group g.val).fifo.head?⟩ ∧
      t.bus.reply = ⟨.ok, [(GRes.words (s.group g.val).fifo.head?).headD 0]⟩ ∧ t.regs = s.regs) ∧
  (∀ (m : Master) (s : State), s.reaches m 2 → s.blockOn 2 = true → s.postedAt 2 = none →
    ∃ t, exec (.hcapRecPop m) s = .next t ∧ t.tiu.hcap = s.tiu.hcap.drop 1 ∧
      t.snapOf m 2 = some ⟨Reg.HCAP_REC, TiuRec.words s.tiu.hcap.head?⟩ ∧ t.regs = s.regs)

/-- With the block on: a write of CH_CFG, CH_DIV or CH_DELAY stores the writable bits and, where the channel is enabled before or after it, restarts its edge index and both prescalers; a write of REG_CFG or NOM_PERIOD stores it and discards the gate in progress, the next being marked partial; a write of STAT_CFG, STAT_N or STAT_ANCHOR stores it, discards the partial block and sets BAD_KIND exactly where KIND is reserved. (R86, R89, R102, R103, R104.) Completes: chCfgWrite, chDivWrite, chDelayWrite, regCfgWrite, nomPeriodWrite, statCfgWrite, statNWrite, statAnchorWrite. -/
def Obligations.TiuConfigurationWrites : Prop :=
  (∀ (n : Fin 24) (v : Word) (s : State), s.blockOn 2 = true →
    (∃ t, exec (.chCfgWrite n v) s = .next t ∧ t.reg (Reg.CH_CFG n.val) = v &&& 0xff1f7f ∧ (∀ x, x ≠ Reg.CH_CFG n.val → t.reg x = s.reg x) ∧
      (s.flag (F.CH_CFG_EN n.val) = true ∨ v.getLsbD 0 = true →
        (t.chan n.val).idx = 0 ∧ (t.chan n.val).div = 0 ∧ (t.chan n.val).pre2 = false)) ∧
    (∃ t, exec (.chDivWrite n v) s = .next t ∧ t.reg (Reg.CH_DIV n.val) = v &&& 0xffffff ∧ (∀ x, x ≠ Reg.CH_DIV n.val → t.reg x = s.reg x) ∧
      (s.flag (F.CH_CFG_EN n.val) = true → (t.chan n.val).idx = 0 ∧ (t.chan n.val).div = 0 ∧ (t.chan n.val).pre2 = false)) ∧
    (∃ t, exec (.chDelayWrite n v) s = .next t ∧ t.reg (Reg.CH_DELAY n.val) = v &&& 0xffff ∧
      (∀ x, x ≠ Reg.CH_DELAY n.val → t.reg x = s.reg x) ∧
      (s.flag (F.CH_CFG_EN n.val) = true → (t.chan n.val).idx = 0)) ∧
    (∃ t, exec (.regCfgWrite n v) s = .next t ∧ t.reg (Reg.REG_CFG n.val) = v &&& 0x1ffffff ∧ (∀ x, x ≠ Reg.REG_CFG n.val → t.reg x = s.reg x) ∧
      (t.regr n.val).cur = (if s.chRuns n.val && v.getLsbD 0 then some (Gate.new true) else none))) ∧
  (∀ (n : Fin 24) (v : DWord) (s : State), s.blockOn 2 = true →
    ∃ t, exec (.nomPeriodWrite n v) s = .next t ∧ t.quant (Reg.NOM_PERIOD n.val) 2 = v.toNat ∧
      (t.regr n.val).cur = (if s.chRuns n.val && s.flag (F.REG_CFG_EN n.val) then some (Gate.new true) else none)) ∧
  (∀ (k : Fin 8) (v : Word) (s : State), s.blockOn 2 = true →
    (∃ t, exec (.statCfgWrite k v) s = .next t ∧ t.reg (Reg.STAT_CFG k.val) = v &&& 0x1f070f ∧ (t.stat k.val).n = 0 ∧ (t.stat k.val).sum = 0 ∧
      t.flag ⟨Reg.STAT_FLAGS k.val, 3, 1⟩ = decide (4 ≤ v.toNat / 2 % 8)) ∧
    (∃ t, exec (.statNWrite k v) s = .next t ∧ t.reg (Reg.STAT_N k.val) = v &&& 0xffffff ∧ (t.stat k.val).n = 0 ∧ (t.stat k.val).sum = 0)) ∧
  (∀ (k : Fin 8) (v : DWord) (s : State), s.blockOn 2 = true →
    ∃ t, exec (.statAnchorWrite k v) s = .next t ∧ t.quant (Reg.STAT_ANCHOR k.val) 2 = v.toNat ∧ (t.stat k.val).n = 0 ∧
      (t.stat k.val).anchor = nearestEra s.tiu.count v.toNat)

/-- While a spare is left, at the TCLK edges of the fixed schedule, steps every 5,000,000 and sub-steps every 10,000 with their events at 0, 500, 9,000 and 9,500: a calibration step begins at sub-step 0; the sub-step of channel k connects the spare in parallel; at the takeover the spare serves the channel, whose next stamp carries SWAP; at the reconnection the interpolator is fresh and, moved by more than 10 ps for the third time in a row, is retired with NO_SPARE; at the takeover back it serves again, its next stamp marked SWAP. A channel's calibration older than 1 s marks its interpolator stale. A gate that ends waits for its publication and a new one starts; a publication writes the fit, counts REG_SEQ and leaves no gate waiting. In NEAREST mode, a start with no later stamp for 1 ms gives its result and leaves the waiting starts. (R92, R93, R94, R97, R100, R101, R102.) Completes: calStepStart, calSubstepStart, calTakeover, calReconnect, calTakeoverBack, calStale, regGateEnd, regPublish, groupWindowTimeout. -/
def Obligations.TiuCalibrationAndRegression : Prop :=
  (∀ s : State, s.calRuns = true → (s.tiu.count % 5000000 = 0 → ∃ t, exec .calStepStart s = .next t ∧ t.tiu.calOn = true ∧ t.tiu.calSub = 0 ∧ t.tiu.calPhase = 0) ∧
    (∀ k : Fin 25, s.tiu.count % 5000000 = 10000 * k.val → s.tiu.calOn = true → s.tiu.calSub ≤ k.val → ∃ t, exec (.calSubstepStart k) s = .next t ∧
      t.sameBut { s with tiu := { s.tiu with calSub := k.val, calPhase := 1, calDue := 0 } })) ∧
  (∀ (k : Fin 25) (moved : Bool) (s : State), s.calChan k.val = true → let at_ := s.tiu.count % 5000000 - 10000 * k.val
    10000 * k.val ≤ s.tiu.count % 5000000 →
    (at_ = 500 → s.tiu.calPhase = 1 → ∃ t, exec (.calTakeover k) s = .next t ∧ t.tiu.calPhase = 2 ∧ t.regs = s.regs ∧
      (k.val < 24 → t.serving k.val = s.spare ∧ (t.chan k.val).swap = true)) ∧
    (at_ = 9000 → s.tiu.calPhase = 2 → ∃ t, exec (.calReconnect k moved) s = .next t ∧ t.tiu.calPhase = 3 ∧
      (t.interp (s.calTarget k.val)).stale = false ∧
      (t.interp (s.calTarget k.val)).fails = (if moved then (s.interp (s.calTarget k.val)).fails + 1 else 0) ∧
      (moved = true → 2 ≤ (s.interp (s.calTarget k.val)).fails → t.flag F.CAL_STATUS_NO_SPARE = true ∧
        (s.calTarget k.val < 32 → (t.rv Reg.CAL_RETIRED).testBit (s.calTarget k.val) = true) ∧
        (k.val < 24 → t.serving k.val = s.spare))) ∧
    (at_ = 9500 → s.tiu.calPhase = 3 → ∃ t, exec (.calTakeoverBack k) s = .next t ∧ t.tiu.calPhase = 0 ∧ t.regs = s.regs ∧
      (k.val < 24 → (t.chan k.val).onSpare = false ∧ (t.chan k.val).swap = true))) ∧
  (∀ (n : Fin 24) (s : State), s.tclkOn = true → ∃ t, exec (.calStale n) s = .next t ∧ (t.interp (s.serving n.val)).stale = true ∧
    (s.chPowered n.val = true → t.flag F.CAL_STATUS_STALE = true)) ∧
  (∀ (n : Fin 24) (e : Nat) (s : State), s.chRuns n.val = true → s.flag (F.REG_CFG_EN n.val) = true → e < 2 ^ 56 → s.gateDue n.val e = true →
    (s.regr n.val).ahead = [] →
    ∃ t, exec (.regGateEnd n e) s = .next t ∧
      let g := (s.regr n.val).cur.getD (Gate.new true)
      t.sameBut (s.setRegr n.val ⟨some (Gate.new false), some (gateNext (s.gateLen n.val) e), [], some ({ g with part := g.part || e == 0 }, e)⟩)) ∧
  (∀ (n : Fin 24) (s : State) (g : Gate) (e : Nat), s.chRuns n.val = true → (s.regr n.val).closing = some (g, e) →
    ∃ t, exec (.regPublish n) s = .next t ∧ (t.regr n.val).closing = none ∧ t.reg (Reg.REG_SEQ n.val) = s.reg (Reg.REG_SEQ n.val) + 1 ∧
      t.quant (Reg.REG_Y n.val) 2 = unsigned 64 (clampS 48 (g.y (s.quant (Reg.NOM_PERIOD n.val) 2))) ∧
      t.rv (Reg.REG_RESID n.val) = g.resid) ∧
  (∀ (g : Fin 8) (ch : Fin 24) (s : State) (a : GStamp) (rest : List GStamp), s.tclkOn = true → s.flag (F.GRP_CFG_EN g.val) = true →
    s.flag (F.GRP_CFG_MODE g.val) = true → (GPairs.get (s.group g.val).pair ch.val).starts = a :: rest →
    (s.group g.val).fifo.length < 64 → (∀ k, k < 8 → s.statOn k = false) →
    ∃ t, exec (.groupWindowTimeout g ch) s = .next t ∧ (GPairs.get (t.group g.val).pair ch.val).starts = rest ∧
      (t.group g.val).fifo = (s.group g.val).fifo ++ [nearestResult (s.grpWin g.val) ch.val a (GPairs.get (s.group g.val).pair ch.val).stops] ∧
      t.reg (Reg.GRP_CNT g.val) = s.reg (Reg.GRP_CNT g.val) + 1)

/-- While TE0 runs: without the selection routine a selection tick only reports NONE of every selector; with it, once in a lap, the tick is the routine's work on what the engine has read. A closed activity window ends the reference's activity and fails its activity test where it is enabled; at the end of its holdoff an enabled reference goes to QUALIFIED if its activity is back and to FAILED, with REF_EVT, if not; at the end of wait-to-restore it goes to QUALIFIED, with JUMPED cleared and REF_EVT, if every test passes and to FAILED if not; a switch of an enabled selector whose target is fit and whose remaining phase is zero ends with SELECTED the target, TARGET none, PENDING 0 and SEL_EVT. A write of SEL_FORCE is stored and, with FORCE_EN, clears FORCE_DROPPED; in the cycle of the routine's own update the routine wins and LOST_WRITES counts. (R69, R111, R116, R120, R121, R123, R124.) Completes: selectionTick, activityWindowClose, holdoffExpiry, wtrExpiry, switchComplete, selForceWrite. -/
def Obligations.SelectionCommands : Prop :=
  (∀ (pkt : List PktOut) (delta : List (Fin 4 × Int)) (s : State), s.teRuns 0 = true →
    (s.rv Reg.SEL_VER = 0 → ∃ t, exec (.selectionTick pkt delta) s = .next t ∧ (∀ d, d < 8 → t.flag (F.SEL_STATUS_NONE d) = true) ∧
      ∀ x, (∀ d, d < 8 → x ≠ Reg.SEL_STATUS d) → t.reg x = s.reg x) ∧
    (s.rv Reg.SEL_VER ≠ 0 → s.tiu.selDone = false → s.bus.held = [] →
      ∃ t, exec (.selectionTick pkt delta) s = .next t ∧ t.sameBut (selectionWork pkt delta (stockReads 0 s)) ∧ t.tiu.selDone = true ∧
        t.tiu.selAt = (s.tiu.count :: s.tiu.selAt).take 2)) ∧
  (∀ s : State, s.teRuns 0 = true → s.rv Reg.SEL_VER ≠ 0 →
    (∀ (i : Fin 22) (p a : Nat), (s.refp i.val).lastAct = some a → (s.refp i.val).act = true →
      0 ≤ tdiff p ((a + s.actWin i.val : Nat) : Int) →
      ∃ t, exec (.activityWindowClose i p) s = .next t ∧ (t.refp i.val).act = false ∧
        (s.flag (F.REF_CFG_EN i.val) = true → t.flag (F.REF_STATUS_ACT_FAIL i.val) = true) ∧
        ∀ x, x ≠ Reg.REF_STATUS i.val → t.reg x = s.reg x) ∧
    (∀ i : Fin 22, s.bus.held = [] → s.flag (F.REF_CFG_EN i.val) = true → s.refIsTimebase i.val = false → s.refState i.val = 4 →
      (s.refActive i.val = true → ∃ t, exec (.holdoffExpiry i) s = .next t ∧ t.refState i.val = 3 ∧
        (t.refp i.val).start = s.tiu.count ∧ t.rv (Reg.REF_TIMER i.val) = 0) ∧
      (s.refActive i.val = false → ∃ t, exec (.holdoffExpiry i) s = .next t ∧ t.refState i.val = 1 ∧
        t.reg (Reg.REF_EVT i.val) = s.reg (Reg.REF_EVT i.val) + 1)) ∧
    (∀ i : Fin 22, s.bus.held = [] → s.refState i.val = 2 →
      ((refTests s i.val).refPasses i.val = true → ∃ t, exec (.wtrExpiry i) s = .next t ∧
        t.refState i.val = 3 ∧ t.flag (F.REF_STATUS_JUMPED i.val) = false ∧ t.reg (Reg.REF_EVT i.val) = s.reg (Reg.REF_EVT i.val) + 1) ∧
      ((refTests s i.val).refPasses i.val = false → ∃ t, exec (.wtrExpiry i) s = .next t ∧ t.refState i.val = 1)) ∧
    (∀ d : Fin 8, s.flag (F.SEL_CFG_EN d.val) = true → s.refGone (s.fld (F.SEL_STATUS_TARGET d.val)) = false →
      s.fld (F.SEL_STATUS_STATE d.val) = 2 → (s.dpll_ d.val).slew = 0 →
      ∃ t, exec (.switchComplete d) s = .next t ∧ t.fld (F.SEL_STATUS_SELECTED d.val) = s.fld (F.SEL_STATUS_TARGET d.val) ∧
        t.fld (F.SEL_STATUS_TARGET d.val) = 0x1f ∧ t.fld (F.SEL_STATUS_STATE d.val) = 1 ∧ t.flag (F.SEL_STATUS_PENDING d.val) = false ∧
        t.reg (Reg.SEL_EVT d.val) = s.reg (Reg.SEL_EVT d.val) + 1 ∧
        ∀ x, x ≠ Reg.SEL_STATUS d.val → x ≠ Reg.SEL_EVT d.val → t.reg x = s.reg x)) ∧
  (∀ (d : Fin 8) (v : Word) (s : State), s.blockOn 3 = true →
    (∃ t, exec (.selForceWrite d v false) s = .next t ∧ t.reg (Reg.SEL_FORCE d.val) = v &&& 0x1f01 ∧
      t.flag (F.SEL_STATUS_FORCE_DROPPED d.val) = (s.flag (F.SEL_STATUS_FORCE_DROPPED d.val) && !v.getLsbD 0) ∧
      ∀ x, x ≠ Reg.SEL_FORCE d.val → x ≠ Reg.SEL_STATUS d.val → t.reg x = s.reg x) ∧
    (∃ t, exec (.selForceWrite d v true) s = .next t ∧ t.flag (F.SEL_FORCE_FORCE_EN d.val) = false ∧
      t.flag (F.SEL_STATUS_FORCE_DROPPED d.val) = true ∧
      t.fld ⟨lostWrites 3, 0, 16⟩ = min (s.fld ⟨lostWrites 3, 0, 16⟩ + 1) 65535))

/-- One tick of an enabled reference that is not the external timebase, from its state and its tests: FAILED stays FAILED while any test fails; QUALIFIED fails on any test but activity, with REF_EVT; on lost activity alone it goes to HOLDOFF, or fails at once where HOLDOFF_MS is 0; HOLDOFF returns to QUALIFIED when activity is back, and fails when another test fails or its time has run; wait-to-restore returns to FAILED when any test fails, stays until its time has run, and is left at once for QUALIFIED, with REF_EVT, where its time is 0 and every test passes. A disabled reference is OFF. (R115, R118, R120.) -/
def Obligations.ReferenceStateRows : Prop :=
  ∀ (s : State) (i : Fin 22),
    (s.flag (F.REF_CFG_EN i.val) = false → (refRow s i.val).refState i.val = 0) ∧
    (s.flag (F.REF_CFG_EN i.val) = true → s.refIsTimebase i.val = true → (refRow s i.val).refState i.val = 5) ∧
    (s.flag (F.REF_CFG_EN i.val) = true → s.refIsTimebase i.val = false →
      (s.refState i.val = 0 → (refRow s i.val).refState i.val = 1) ∧
      (s.refState i.val = 1 → (s.flag (F.REF_STATUS_ACT_FAIL i.val) = true ∨ s.otherFail i.val = true) → refRow s i.val = s) ∧
      (s.refState i.val = 2 → (s.flag (F.REF_STATUS_ACT_FAIL i.val) = true ∨ s.otherFail i.val = true) →
        (refRow s i.val).refState i.val = 1) ∧
      (s.refState i.val = 3 → s.otherFail i.val = true →
        (refRow s i.val).refState i.val = 1 ∧ (refRow s i.val).reg (Reg.REF_EVT i.val) = s.reg (Reg.REF_EVT i.val) + 1) ∧
      (s.refState i.val = 3 → s.otherFail i.val = false → s.flag (F.REF_STATUS_ACT_FAIL i.val) = true →
        (refRow s i.val).refState i.val = (if s.fld (F.REF_HOLDOFF_HOLDOFF_MS i.val) = 0 then 1 else 4)) ∧
      (s.refState i.val = 3 → s.otherFail i.val = false → s.flag (F.REF_STATUS_ACT_FAIL i.val) = false → refRow s i.val = s) ∧
      (s.refState i.val = 4 → s.flag (F.REF_STATUS_ACT_FAIL i.val) = false → (refRow s i.val).refState i.val = 3) ∧
      (s.refState i.val = 4 → s.flag (F.REF_STATUS_ACT_FAIL i.val) = true →
        (refRow s i.val).refState i.val =
          (if s.otherFail i.val = true ∨ s.holdTime i.val ≤ s.since (s.refp i.val).start then 1 else 4)) ∧
      (s.refState i.val = 1 ∨ s.refState i.val = 2 → s.refPasses i.val = true → s.wtrTime i.val = 0 →
        (refRow s i.val).refState i.val = 3 ∧ (refRow s i.val).reg (Reg.REF_EVT i.val) = s.reg (Reg.REF_EVT i.val) + 1) ∧
      (s.refState i.val = 2 → s.refPasses i.val = true → s.since (s.refp i.val).start < s.wtrTime i.val →
        (refRow s i.val).refState i.val = 2))

/-- While a DPLL's loop code runs: a tick, once in a lap of its own engine, with EN = 0 leaves it in FREERUN; a tick of DPLL 0 to 3 in LOCKED with no reference, no command and no forced holdover enters HOLDOVER and counts DPLL_EVT. Where no RESET or HOLD waits and the DPLL is enabled: lock is declared in ACQUIRING with a reference, no slew or step left and the phase error within LOCK_THR, and lost in LOCKED beyond four times it, each counting DPLL_EVT; the limit on estimate or duration takes an unforced HOLDOVER to LOST where no reference is selected and to ACQUIRING where one is. The absence limit takes HOLDOVER with an absent servo to LOST. With its block on, STEP, RESET, HOLD or RELEASE that the state refuses counts DPLL_CMD_REF and, where none waited, does nothing else; any other waits for the lap boundary. A command that waited is dropped and counted when the next one reaches the TE, taken or refused (the second is the model's reading, log entry 211). (R129, R137, R138, R147, R148.) Completes: dpllTick, dpllLock, dpllUnlock, holdoverLimit, absenceLimit, dpllStep, dpllReset, dpllHold, dpllRelease. -/
def Obligations.DpllCommands : Prop :=
  (∀ (d : Fin 8) (m : Fin 2) (s : State), m.val ≠ dpllTe d.val → ∃ t, exec (.dpllTick d m) s = .next t ∧ t.sameBut s) ∧
  (∀ (d : Fin 8) (m : Fin 2) (s : State), m.val = dpllTe d.val → s.dpllRuns d.val = true → (s.dpll_ d.val).ticked = false → s.bus.held = [] →
    (s.flag (F.DPLL_CFG_EN d.val) = false → ∃ t, exec (.dpllTick d m) s = .next t ∧ t.dpllState d.val = 0 ∧ (t.dpll_ d.val).ticked = true) ∧
    (d.val < 4 → s.flag (F.DPLL_CFG_EN d.val) = true → (s.dpll_ d.val).now = none → s.dpllState d.val = 2 →
      s.flag (F.DPLL_STATUS_HO_FORCED d.val) = false → s.dpllRef d.val = none →
      ∃ t, exec (.dpllTick d m) s = .next t ∧ t.dpllState d.val = 3 ∧ t.reg (Reg.DPLL_EVT d.val) = s.reg (Reg.DPLL_EVT d.val) + 1)) ∧
  (∀ (d : Fin 8) (s : State), s.dpllRuns d.val = true → s.flag (F.DPLL_CFG_EN d.val) = true → (s.dpll_ d.val).now ≠ some 2 →
    (s.dpll_ d.val).now ≠ some 3 →
    (s.dpllState d.val = 1 → (s.dpllRef d.val).isSome = true → (s.dpll_ d.val).slew = 0 → s.flag (F.DPLL_STATUS_STEP_WAIT d.val) = false →
      (s.phErr d.val).natAbs ≤ s.lockThr d.val →
      ∃ t, exec (.dpllLock d) s = .next t ∧ t.dpllState d.val = 2 ∧ t.reg (Reg.DPLL_EVT d.val) = s.reg (Reg.DPLL_EVT d.val) + 1) ∧
    (s.dpllState d.val = 2 → (s.dpllRef d.val).isSome = true → 4 * s.lockThr d.val < (s.phErr d.val).natAbs →
      ∃ t, exec (.dpllUnlock d) s = .next t ∧ t.dpllState d.val = 1 ∧ t.reg (Reg.DPLL_EVT d.val) = s.reg (Reg.DPLL_EVT d.val) + 1) ∧
    (s.dpllState d.val = 3 → s.flag (F.DPLL_STATUS_HO_FORCED d.val) = false → s.hoLimit d.val = true →
      ∃ t, exec (.holdoverLimit d) s = .next t ∧ t.dpllState d.val = (if (s.dpllRef d.val).isSome then 1 else 4) ∧
        t.reg (Reg.DPLL_EVT d.val) = s.reg (Reg.DPLL_EVT d.val) + 1)) ∧
  (∀ (d : Fin 8) (s : State), s.tclkOn = true → s.dpllState d.val = 3 → s.flag (F.DPLL_STATUS_SERVO_ABSENT d.val) = true →
    s.rv (Reg.DPLL_LOST_S d.val) ≠ 0 →
    ∃ t, exec (.absenceLimit d) s = .next t ∧ t.dpllState d.val = 4 ∧ t.reg (Reg.DPLL_EVT d.val) = s.reg (Reg.DPLL_EVT d.val) + 1) ∧
  (∀ (d : Fin 8) (s : State), s.blockOn 4 = true →
    ∀ x ∈ [(Instr.dpllStep d, 1), (Instr.dpllReset d, 2), (Instr.dpllHold d, 3), (Instr.dpllRelease d, 4)],
    (s.cmdRefused d.val x.2 = true → ∃ t, exec x.1 s = .next t ∧ (t.dpll_ d.val).cmd = none ∧
      ((s.dpll_ d.val).cmd = none → t.sameBut (s.bump16 (Reg.DPLL_CMD_REF d.val))) ∧
      ((s.dpll_ d.val).cmd ≠ none → t.fld ⟨Reg.DPLL_CMD_REF d.val, 0, 16⟩ = min (s.fld ⟨Reg.DPLL_CMD_REF d.val, 0, 16⟩ + 2) 65535)) ∧
    (s.cmdRefused d.val x.2 = false → ∃ t, exec x.1 s = .next t ∧ (t.dpll_ d.val).cmd = some x.2 ∧
      ((s.dpll_ d.val).cmd = none → t.sameBut (s.setDpll d.val { s.dpll_ d.val with cmd := some x.2 })) ∧
      ((s.dpll_ d.val).cmd ≠ none → t.fld ⟨Reg.DPLL_CMD_REF d.val, 0, 16⟩ = min (s.fld ⟨Reg.DPLL_CMD_REF d.val, 0, 16⟩ + 1) 65535)))

/-- A DPLL's steering word is the loop's offset limited to its pull range (50 ppm for DPLL0, 200 ppm for the others), PULL_LIM telling whether it was limited; in one tick the remaining slew moves toward zero by at most PSL / 8 ps and never passes it, and what the filter puts out differs from its integrator by no more than PSL; an offset folded into a period lies in (−P/2, P/2] and differs from the offset by whole periods; entry to HOLDOVER ends in state HOLDOVER with no reference shown and no step waiting, and a change of state, and only a change, counts DPLL_EVT. (R125, R126, R130, R137, R193.) -/
def Obligations.DpllLoopLaws : Prop :=
  (∀ (d : Fin 8) (y : Int), (pullClamp d.val y).natAbs * 10 ^ 6 ≤ (if d.val = 0 then 50 else 200) * 2 ^ 48 ∧
    (y.natAbs * 10 ^ 6 ≤ (if d.val = 0 then 50 else 200) * 2 ^ 48 → pullClamp d.val y = y)) ∧
  (∀ (d : Fin 8) (y : Int) (s : State), ((steerTick d.val y s).dpll_ d.val).y = pullClamp d.val y ∧
    (steerTick d.val y s).flag (F.DPLL_STATUS_PULL_LIM d.val) = (pullClamp d.val y != y)) ∧
  (∀ (d : Fin 8) (s : State),
    (((slewTick d.val 1 s).dpll_ d.val).slew.natAbs : Int) = max 0 ((s.dpll_ d.val).slew.natAbs - max 1 (s.fld (F.SEL_CFG_PSL d.val) : Int)) ∧
    0 ≤ ((slewTick d.val 1 s).dpll_ d.val).slew * (s.dpll_ d.val).slew) ∧
  (∀ (d : Fin 8) (n : Nat) (new : Bool) (moved : Int) (s : State),
    ((loopTick d.val n new moved s).1 - roundDiv ((loopTick d.val n new moved s).2.dpll_ d.val).integ (2 ^ 64)).natAbs * 10 ^ 9 ≤
      max 1 (s.fld (F.SEL_CFG_PSL d.val)) * 2 ^ 48) ∧
  (∀ (x : Int) (p : Nat), 0 < p → -(p : Int) < 2 * foldInto x p ∧ 2 * foldInto x p ≤ p ∧ (p : Int) ∣ x - foldInto x p) ∧
  (∀ (d : Fin 8) (short : Bool) (s : State), (hoEnter d.val short s).dpllState d.val = 3 ∧
    (hoEnter d.val short s).fld (F.DPLL_STATUS_REF d.val) = 0x1f ∧ (hoEnter d.val short s).flag (F.DPLL_STATUS_STEP_WAIT d.val) = false ∧
    ((hoEnter d.val short s).dpll_ d.val).slew = 0) ∧
  (∀ (d : Fin 8) (k : Nat) (s : State), k < 8 → (dpllTo d.val k s).reg (Reg.DPLL_EVT d.val) =
    s.reg (Reg.DPLL_EVT d.val) + (if s.dpllState d.val = k then 0 else 1))

/-- A step on an empty queue outside reset in rungs L0 to L2 advances the MTC by its increment, modulo 2^120, and each running timescale by the MTC's increment times one plus its rate, modulo its range; in L3, where TBCLK runs ten times slower, each by ten times that, and the rung term of every DPLL's error grows; a stopped timescale keeps its value. (R151, R155, R163.) -/
def Obligations.ClockEdgeAdvancesTime : Prop :=
  ∀ s : State, s.pending = [] → s.inReset = false → s.rung ≤ 3 → ∃ t, step s = .next t ∧
    t.tm.mtc = (((s.tm.mtc : Int) + (if s.rung = 3 then 10 else 1) * s.mtcInc) % (2 ^ 120 : Nat)).toNat ∧
    (∀ i, i < 16 → (t.tsp i).run = (s.tsp i).run ∧ (t.tsp i).acc =
      (if (s.tsp i).run then tsWrap ((s.tsp i).acc + s.tsAdvance i (if s.rung = 3 then 10 else 1)) else (s.tsp i).acc)) ∧
    (∀ d, d < 8 → (t.dpll_ d).rung = (s.dpll_ d).rung + (if s.rung = 3 then 6 else 0))

/-- With the block on, SET and ADJ of a running timescale with NS below a second (ADJ: with a result that is not negative), and HRATE where no DPLL owns the rate, wait for the lap boundary with the argument of TS_ARG or TS_HRATE; at a stopped timescale where no command waits all three are only counted as refused; TS_CFG is stored; a snapshot stores the MTC and every running timescale and sets DONE. A steering update takes the word one thousandth of its change further. A port clock is loaded from the MTC of the tie at its first tie, SYNC 0; later it loses SYNC beyond 40 ps and has it from the eighth lap within 15 ps, and where the servo code runs its next increment is 16/25 of the MTC's with a correction for the error (open: the law of the code). At the boundary of a running engine's lap a word it wrote for an APLL, the MTC or a port clock starts to be spread, and no LOOP goes on. A tie table takes the entry for the coming boundary as its newest. (R131, R154, R155, R157, R161, R288, R294.) Completes: tsSet, tsAdj, tsHrate, tsCfgWrite, timeSnapGo, steeringUpdate, pcTieLatch, teLapBoundary, tieTablePublish. -/
def Obligations.TimescaleCommands : Prop :=
  (∀ (i : Fin 16) (s : State), s.blockOn 5 = true →
    ((s.tsp i.val).run = true → s.quant (Reg.TS_ARG i.val) 4 / 2 ^ 32 % 2 ^ 30 < 10 ^ 9 →
      (∃ t, exec (.tsSet i) s = .next t ∧
        (t.tsp i.val).cmd = some (1, tsOfWords (s.quant (Reg.TS_ARG i.val) 4) (s.quant (Reg.TS_ARG i.val) 4 / 2 ^ 64 : Nat)) ∧
        ((s.tsp i.val).cmd = none → t.regs = s.regs)) ∧
      (0 ≤ ((s.tsp i.val).acc : Int) + tsOfWords (s.quant (Reg.TS_ARG i.val) 4) (signed 64 (s.quant (Reg.TS_ARG i.val) 4 / 2 ^ 64)) →
        ∃ t, exec (.tsAdj i) s = .next t ∧
          (t.tsp i.val).cmd = some (2, tsOfWords (s.quant (Reg.TS_ARG i.val) 4) (signed 64 (s.quant (Reg.TS_ARG i.val) 4 / 2 ^ 64))))) ∧
    ((s.tsp i.val).run = true → s.tsOwner i.val = none →
      ∃ t, exec (.tsHrate i) s = .next t ∧ (t.tsp i.val).cmd = some (3, signed 64 (s.quant (Reg.TS_HRATE i.val) 2))) ∧
    ((s.tsp i.val).run = false → (s.tsp i.val).cmd = none → ∀ c ∈ [Instr.tsSet i, Instr.tsAdj i, Instr.tsHrate i],
      ∃ t, exec c s = .next t ∧ t.sameBut (s.bump16 (Reg.TS_CMD_REF i.val))) ∧
    (∀ v : Word, ∃ t, exec (.tsCfgWrite i v) s = .next t ∧ t.sameBut (s.setReg (Reg.TS_CFG i.val) (v &&& 7)))) ∧
  (∀ s : State, s.blockOn 5 = true → ∃ t, exec .timeSnapGo s = .next t ∧ t.flag F.TIME_SNAP_DONE = true ∧
    t.quant Reg.SNAP_MTC 4 = s.tm.mtc % 2 ^ 128 ∧
    ∀ i, i < 16 → t.quant (Reg.SNAP_TS i) 4 = (if (s.tsp i).run then tsWords (s.tsp i).acc else 0)) ∧
  (∀ (k : Fin 32) (s : State), s.tclkOn = true → (s.port k.val).j < 1000 →
    ∃ t, exec (.steeringUpdate k) s = .next t ∧ (t.port k.val).j = (s.port k.val).j + 1 ∧
      (t.port k.val).cur = (s.port k.val).old + ((s.port k.val).new - (s.port k.val).old) * ((s.port k.val).j + 1) / 1000 ∧
      t.sameBut { s with steer := t.steer }) ∧
  (∀ (p : Fin 4) (ph : Nat) (s : State), s.fclkOn = true →
    ((s.pcp p.val).loaded = false → ∃ t, exec (.pcTieLatch p ph) s = .next t ∧ (t.pcp p.val).loaded = true ∧
      (t.pcp p.val).val = (((s.tm.ring.head?.map (·.mtc)).getD s.tm.mtc + psToMtc (4 * ph : Nat)) % (2 ^ 120 : Nat)).toNat ∧
      t.flag (F.PC_TRACK_SYNC p.val) = false) ∧
    ((s.pcp p.val).loaded = true → ∃ t, exec (.pcTieLatch p ph) s = .next t ∧ (t.pcp p.val).val = (s.pcp p.val).val ∧
      let err := roundDiv (((s.pcp p.val).val - ((s.tm.ring.head?.map (·.mtc)).getD s.tm.mtc + psToMtc (4 * ph : Nat) : Int)) * 1000) (2 ^ 40)
      (t.flag (F.PC_TRACK_SYNC p.val) = (if 40 < err.natAbs then false
        else if err.natAbs ≤ 15 ∧ 7 ≤ (s.pcp p.val).laps then true else s.flag (F.PC_TRACK_SYNC p.val))) ∧
      (s.teRuns 0 = true → s.rv Reg.DPLL_VER ≠ 0 →
        (t.port (5 + p.val)).pend = some (0, roundDiv (s.mtcInc * 16) 25 + Config.pcCorrection err)))) ∧
  (∀ (e : Fin 2) (s : State), s.tclkOn = true → s.rung ≤ 1 → s.teRuns e.val = true →
    ∃ t, exec (.teLapBoundary e) s = .next t ∧ (t.eng_ (4 + e.val)).loops = [] ∧
      ∀ k w, k < 9 → (s.port k).pend = some (e.val, w) → t.port k = ⟨(s.port k).new, (s.port k).new, w, 0, none⟩) ∧
  (∀ (i : Fin 16) (s : State), s.tclkOn = true → ∃ t, exec (.tieTablePublish i) s = .next t ∧
    t.sameBut (s.setTs i.val { s.tsp i.val with table := (s.nextTie i.val :: (s.tsp i.val).table).take 256 }))

/-- With the block on: ARM at a time of a running timescale with NS below a second, on time and not periodic, arms the trigger at that time with LATE and ARM_REF 0; at a malformed time or on a stopped timescale it only sets ARM_REF. DISARM clears ARMED only. ALIGN clears MISALIGNED and the skew, and moves an armed periodic trigger to the first point of its grid that leaves 100 TCLK. An armed trigger whose timescale runs and reaches its time before the next edge fires, in rungs L0 to L3: TRG_EVT counts, the pins that name it become active, its event goes to the engines that it named when armed, a ONCE trigger disarms and a periodic one moves on by its period. A trigger pin's pulse ends. (R164, R165, R166, R167, R169.) Completes: trgArm, trgDisarm, trgAlign, triggerFire, trigPinPulseEnd. -/
def Obligations.TriggerCommands : Prop :=
  (∀ (i : Fin 16) (s : State), s.blockOn 5 = true →
    (10 ^ 9 ≤ s.quant (Reg.TRG_AT i.val) 4 / 2 ^ 32 % 2 ^ 30 ∨ (s.tsp (s.fld (F.TRG_CFG_TS i.val))).run = false →
      ∃ t, exec (.trgArm i) s = .next t ∧ t.sameBut (s.setFlag (F.TRG_STATUS_ARM_REF i.val) true)) ∧
    (s.quant (Reg.TRG_AT i.val) 4 / 2 ^ 32 % 2 ^ 30 < 10 ^ 9 → (s.tsp (s.fld (F.TRG_CFG_TS i.val))).run = true →
      s.flag (F.TRG_CFG_PERIODIC i.val) = false →
      ((s.tsp (s.fld (F.TRG_CFG_TS i.val))).acc : Int) + s.tsAdvance (s.fld (F.TRG_CFG_TS i.val)) 100 ≤
        tsOfWords (s.quant (Reg.TRG_AT i.val) 4) (s.quant (Reg.TRG_AT i.val) 4 / 2 ^ 64 : Nat) →
      ∃ t, exec (.trgArm i) s = .next t ∧ t.flag (F.TRG_STATUS_ARMED i.val) = true ∧ t.flag (F.TRG_STATUS_LATE i.val) = false ∧
        t.flag (F.TRG_STATUS_ARM_REF i.val) = false ∧ (t.trg i.val).ts = s.fld (F.TRG_CFG_TS i.val) ∧ (t.trg i.val).per = false ∧
        (t.trg i.val).pe = s.fld (F.TRG_CFG_PE i.val) ∧ (t.trg i.val).te = s.flag (F.TRG_CFG_TE i.val) ∧
        (t.trg i.val).f = tsOfWords (s.quant (Reg.TRG_AT i.val) 4) (s.quant (Reg.TRG_AT i.val) 4 / 2 ^ 64 : Nat)) ∧
    (∃ t, exec (.trgDisarm i) s = .next t ∧ t.sameBut (s.setFlag (F.TRG_STATUS_ARMED i.val) false)) ∧
    (∃ t, exec (.trgAlign i) s = .next t ∧ t.flag (F.TRG_STATUS_MISALIGNED i.val) = false ∧ t.quant (Reg.TRG_SKEW i.val) 2 = 0 ∧
      (s.flag (F.TRG_STATUS_ARMED i.val) = true → (s.trg i.val).per = true → 0 < (s.trg i.val).period →
        let need := (s.tsp (s.trg i.val).ts).acc + s.tsAdvance (s.trg i.val).ts 100
        need ≤ (t.trg i.val).f ∧ ∃ k : Nat, (t.trg i.val).f = (s.trg i.val).anchor + k * (s.trg i.val).period ∧
          (k = 0 ∨ (t.trg i.val).f - (s.trg i.val).period < need)))) ∧
  (∀ (i : Fin 16) (s : State), s.flag (F.TRG_STATUS_ARMED i.val) = true → (s.tsp (s.trg i.val).ts).run = true → s.rung ≤ 3 →
    (s.trg i.val).f < s.tsNext (s.trg i.val).ts →
    ∃ t, exec (.triggerFire i) s = .next t ∧ t.reg (Reg.TRG_EVT i.val) = s.reg (Reg.TRG_EVT i.val) + 1 ∧
      (∀ k, k < 4 → s.flag (F.TRIG_PIN_EN k) = true → s.fld (F.TRIG_PIN_TRG k) = i.val → Tbl.get (fun _ => false) t.tm.pin k = true) ∧
      t.tm.evGate = s.tm.evGate ++ ((if s.fclkOn then (List.range 4).filter (fun p => (s.trg i.val).pe.testBit p) else []) ++
        (if (s.trg i.val).te && s.tclkOn then [4, 5] else [])).map (fun e => (e, i.val, (s.trg i.val).f.toNat)) ∧
      ((s.trg i.val).per = false → t.flag (F.TRG_STATUS_ARMED i.val) = false) ∧
      ((s.trg i.val).per = true → t.flag (F.TRG_STATUS_ARMED i.val) = true ∧ (t.trg i.val).f = (s.trg i.val).f + (s.trg i.val).period)) ∧
  (∀ (k : Fin 4) (s : State), ∃ t, exec (.trigPinPulseEnd k) s = .next t ∧ Tbl.get (fun _ => false) t.tm.pin k.val = false ∧
    (∀ j, j ≠ k.val → Tbl.get (fun _ => false) t.tm.pin j = Tbl.get (fun _ => false) s.tm.pin j) ∧ t.regs = s.regs)

/-- With the block on, for APLL1 to APLL3: an illegal nominal frequency is refused and counted in APLL_REF and APLL_EVT; a legal one is stored, waits (FREQ_PEND) in OFF or SEARCH, and when locked starts a slew within 1,000 ppm of the searched frequency and else a relock; APLL0's never changes. CFG with EN 0 turns the APLL off. A COMMIT is refused and counted, or waits for the alignment tick. A RELOCK takes a locked or slewing APLL to WAIT_LOW, does nothing when OFF, and is refused for APLL0 in L0. A search starts where every output of the group is low or handed over and the searches are released; a slew whose DCO has reached its target is LOCKED; the VCO check, with y zero where no DPLL steers the APLL, sets VCO_RANGE beyond 0.2 % and counts its rise. A DCO moves toward its target by no more than APLL_SLOPE and never beyond it. (R170, R172, R174, R175, R176, R178, R180, R184, R185, R203.) Completes: apllFreqWrite, apllCfgWrite, apllCommit, apllRelock, bandSearchStart, apllSlewDone, vcoRangeCheck. -/
def Obligations.ApllCommands : Prop :=
  (∀ (a : Fin 4) (v : Nat) (s : State), s.blockOn 6 = true →
    (a.val = 0 → ∃ t, exec (.apllFreqWrite a v) s = .next t ∧ t.sameBut s) ∧
    (a.val ≠ 0 → freqLegal (pfdUnits (s.fld (F.APLL_CFG_PFDSEL a.val)) * nOfFreq v) = false →
      ∃ t, exec (.apllFreqWrite a v) s = .next t ∧ t.sameBut ((s.bump16 (Reg.APLL_REF a.val)).bump (Reg.APLL_EVT a.val))) ∧
    (a.val ≠ 0 → freqLegal (pfdUnits (s.fld (F.APLL_CFG_PFDSEL a.val)) * nOfFreq v) = true →
      ∃ t, exec (.apllFreqWrite a v) s = .next t ∧ nOfFreq (t.quant (Reg.APLL_FREQ a.val) 3) = nOfFreq v ∧
        (s.apllState a.val = 0 ∨ s.apllState a.val = 2 → t.flag (F.APLL_STATUS_FREQ_PEND a.val) = true ∧ t.apllState a.val = s.apllState a.val) ∧
        (3 ≤ s.apllState a.val → t.apllState a.val =
          (if within1000ppm (pfdUnits (s.fld (F.APLL_CFG_PFDSEL a.val)) * nOfFreq v) (s.apll a.val).searched then 4 else 1) ∧
          (t.apll a.val).nom = nOfFreq v))) ∧
  (∀ (a : Fin 4) (v : Word) (s : State), s.blockOn 6 = true → a.val ≠ 0 →
    (v.getLsbD 2 = false → ∃ t, exec (.apllCfgWrite a v) s = .next t ∧ t.reg (Reg.APLL_CFG a.val) = v &&& 7 ∧ t.apllState a.val = 0) ∧
    (v.getLsbD 2 = true → s.apllState a.val = 0 → ∃ t, exec (.apllCfgWrite a v) s = .next t ∧ t.reg (Reg.APLL_CFG a.val) = v &&& 7 ∧
      t.apllState a.val = (if s.apllAllowed a.val then 1 else 0))) ∧
  (∀ (a : Fin 4) (s : State), s.blockOn 6 = true →
    (s.commitRefused a.val = true → ∃ t, exec (.apllCommit a) s = .next t ∧
      t.sameBut ((s.bump16 (Reg.APLL_REF a.val)).bump (Reg.APLL_EVT a.val))) ∧
    (s.commitRefused a.val = false → ∃ t, exec (.apllCommit a) s = .next t ∧
      t.sameBut (s.setFlag (F.APLL_STATUS_COMMIT_PEND a.val) true)) ∧
    (a.val = 0 → s.rung = 0 → ∃ t, exec (.apllRelock a) s = .next t ∧
      t.sameBut ((s.bump16 (Reg.APLL_REF a.val)).bump (Reg.APLL_EVT a.val))) ∧
    (a.val ≠ 0 → 3 ≤ s.apllState a.val → ∃ t, exec (.apllRelock a) s = .next t ∧ t.apllState a.val = 1) ∧
    (a.val ≠ 0 → s.apllState a.val = 0 → ∃ t, exec (.apllRelock a) s = .next t ∧ t.sameBut s)) ∧
  (∀ (a : Fin 4) (s : State),
    (s.apllState a.val = 1 → s.apllAllowed a.val = true → s.bandGate = true →
      (∀ o, o < 16 → (s.outp o).grp = a.val → s.running o = true → s.flag (F.OUT_STATUS_HANDED_OVER o) = true) →
      ∃ t, exec (.bandSearchStart a) s = .next t ∧ t.apllState a.val = 2 ∧ t.flag F.BOOT_STATUS_GATED = false ∧
        (t.apll a.val).nom = nOfFreq (s.quant (Reg.APLL_FREQ a.val) 3)) ∧
    (s.apllState a.val = 4 → (s.apll a.val).dco = s.dcoTarget a.val → ∃ t, exec (.apllSlewDone a) s = .next t ∧ t.sameBut (s.setFld (F.APLL_STATUS_STATE a.val) 3)) ∧
    (∀ hz : Nat, 3 ≤ s.apllState a.val →
      let want : Int := pfdUnits (s.apll a.val).pfd * (s.apll a.val).nom * 25000000 * (2 ^ 48 + (if s.apllSteered a.val then (s.port a.val).cur else 0))
      let bad := decide (want.natAbs < ((hz : Int) * 2 ^ 96 - want).natAbs * 500)
      ∃ t, exec (.vcoRangeCheck a hz) s = .next t ∧ t.flag (F.APLL_STATUS_VCO_RANGE a.val) = bad ∧
        t.reg (Reg.APLL_EVT a.val) = s.reg (Reg.APLL_EVT a.val) + (if bad && !s.flag (F.APLL_STATUS_VCO_RANGE a.val) then 1 else 0)) ∧
    (∀ ps : Nat, 3 ≤ s.apllState a.val →
      let x := (s.apll a.val).dco
      let y := ((dcoStep a.val ps s).apll a.val).dco
      (x ≤ s.dcoTarget a.val → x ≤ y ∧ y ≤ s.dcoTarget a.val) ∧ (s.dcoTarget a.val ≤ x → s.dcoTarget a.val ≤ y ∧ y ≤ x) ∧
      (y - x).natAbs * 10 ^ 18 ≤ (s.apll a.val).searched * 2 ^ 48 * max 1 (s.fld ⟨Reg.APLL_SLOPE a.val, 0, 16⟩) * ps))

/-- With the block on: OUT_CFG is stored; enabling a stopped output makes it wait, in its present group and in L0, for an alignment tick where that group's APLL is locked or slewing, and disabling makes a running one stop after its high phase; OUT_PHASE is stored and STEPPING tells an output whose applied phase differs. At an alignment tick of an APLL that is locked or slewing, every waiting output of its group runs and counts OUT_EVT, and a pending COMMIT has ended with the alignment divider in force, and with the dividers of the outputs that name that APLL, which are now of its group. An output that was stopping is stopped and counts OUT_EVT; a running clock output's phase moves one step toward its setting; a pending handover is made and counts OUT_EVT; a pulse ends. A fire that reaches a running pulse output starts its pulse at F plus OUT_PHASE. The pins are at the levels of the format while a disabled output has stopped, high impedance for the reserved formats, and else carry the clock or the pulse, inverted by INV, _N complementary, in phase for 3 and low for 5. (R181, R184, R186, R188, R189, R190, R194, R200, R203.) Completes: outCfgWrite, outPhaseWrite, alignmentTick, outputStop, phaseStep, handoverSwitch, pulseEnd. -/
def Obligations.OutputCommands : Prop :=
  (∀ (o : Fin 16) (v : Word) (s : State), s.blockOn 6 = true →
    (∃ t, exec (.outCfgWrite o v) s = .next t ∧ t.reg (Reg.OUT_CFG o.val) = v &&& 0xff3ff ∧
      (s.flag (F.OUT_CFG_EN o.val) = false → v.getLsbD 0 = true → s.running o.val = false →
        (t.outp o.val).grp = (s.outp o.val).grp ∧ (s.rung = 0 → s.lad.step = none →
          (t.outp o.val).waiting = decide (3 ≤ s.apllState (s.outp o.val).grp))) ∧
      (s.flag (F.OUT_CFG_EN o.val) = true → v.getLsbD 0 = false →
        (t.outp o.val).stopping = s.running o.val ∧ (t.outp o.val).waiting = false)) ∧
    (∃ t, exec (.outPhaseWrite o v) s = .next t ∧ t.reg (Reg.OUT_PHASE o.val) = v ∧
      t.flag (F.OUT_STATUS_STEPPING o.val) = (v != s.reg (Reg.OUT_PHASE_ACT o.val)))) ∧
  (∀ (a : Fin 4) (s : State), 3 ≤ s.apllState a.val →
    ∃ t, exec (.alignmentTick a) s = .next t ∧ t.flag (F.APLL_STATUS_COMMIT_PEND a.val) = false ∧
      (s.flag (F.APLL_STATUS_COMMIT_PEND a.val) = true → t.rv (Reg.ALIGN_DIV_ACT a.val) = s.rv (Reg.ALIGN_DIV a.val) ∧
        ∀ o, o < 16 → s.fld (F.OUT_CFG_APLL o) = a.val → (t.outp o).grp = a.val ∧ t.rv (Reg.OUT_DIV_ACT o) = max 2 (s.rv (Reg.OUT_DIV o) % 2 ^ 24)) ∧
      (s.flag (F.APLL_STATUS_COMMIT_PEND a.val) = false → ∀ o, o < 16 → (s.outp o).grp = a.val → (s.outp o).waiting = true →
        t.running o = true ∧ t.flag (F.OUT_STATUS_HANDED_OVER o) = false ∧ (t.outp o).waiting = false ∧
        t.reg (Reg.OUT_EVT o) = s.reg (Reg.OUT_EVT o) + 1)) ∧
  (∀ (o : Fin 16) (s : State),
    ((s.outp o.val).stopping = true → ∃ t, exec (.outputStop o) s = .next t ∧ t.running o.val = false ∧ (t.outp o.val).stopping = false ∧
      t.reg (Reg.OUT_EVT o.val) = s.reg (Reg.OUT_EVT o.val) + 1 ∧
      ∀ x, x ≠ Reg.OUT_STATUS o.val → x ≠ Reg.OUT_EVT o.val → t.reg x = s.reg x) ∧
    (s.running o.val = true → s.flag (F.OUT_CFG_MODE o.val) = false → ∃ t, exec (.phaseStep o) s = .next t ∧
      (s.srv (Reg.OUT_PHASE_ACT o.val) < s.srv (Reg.OUT_PHASE o.val) → t.srv (Reg.OUT_PHASE_ACT o.val) = s.srv (Reg.OUT_PHASE_ACT o.val) + 1) ∧
      (s.srv (Reg.OUT_PHASE o.val) < s.srv (Reg.OUT_PHASE_ACT o.val) → t.srv (Reg.OUT_PHASE_ACT o.val) = s.srv (Reg.OUT_PHASE_ACT o.val) - 1) ∧
      (s.srv (Reg.OUT_PHASE o.val) = s.srv (Reg.OUT_PHASE_ACT o.val) → t.srv (Reg.OUT_PHASE_ACT o.val) = s.srv (Reg.OUT_PHASE_ACT o.val))) ∧
    ((s.outp o.val).hoPend = true → ∃ t, exec (.handoverSwitch o) s = .next t ∧ t.flag (F.OUT_STATUS_HANDED_OVER o.val) = true ∧
      t.flag (F.OUT_STATUS_HO_FAILED o.val) = false ∧ (t.outp o.val).hoPend = false ∧
      t.reg (Reg.OUT_EVT o.val) = s.reg (Reg.OUT_EVT o.val) + 1) ∧
    (∃ t, exec (.pulseEnd o) s = .next t ∧ t.sameBut (s.setOut o.val { s.outp o.val with high := false }))) ∧
  (∀ (i : Nat) (x : Int) (y : Nat) (o : Fin 16) (s : State), s.flag (F.OUT_CFG_EN o.val) = true → s.flag (F.OUT_CFG_MODE o.val) = true →
    s.fld (F.OUT_CFG_TRG o.val) = i → s.running o.val = true → 3 ≤ s.apllState (s.outp o.val).grp →
    let t := outFire i x y s
    (t.outp o.val).high = true ∧ t.reg (Reg.OUT_PHASE_ACT o.val) = s.reg (Reg.OUT_PHASE o.val) ∧
      (t.outp o.val).edge = vcoSteps (s.vcoNom (s.outVco o.val)) x y + s.srv (Reg.OUT_PHASE o.val)) ∧
  (∀ (o : Fin 16) (s : State),
    (s.flag (F.OUT_CFG_EN o.val) = false → s.running o.val = false → s.fld (F.OUT_CFG_FMT o.val) < 6 →
      s.outPins o.val = (.low, if s.fld (F.OUT_CFG_FMT o.val) = 0 ∨ s.fld (F.OUT_CFG_FMT o.val) = 2 then .high else .low)) ∧
    (6 ≤ s.fld (F.OUT_CFG_FMT o.val) → s.outPins o.val = (.highZ, .highZ)) ∧
    (s.running o.val = true → s.fld (F.OUT_CFG_FMT o.val) < 6 → (s.outPins o.val).1 =
      (if s.flag (F.OUT_CFG_MODE o.val) then (if (s.outp o.val).high = s.flag (F.OUT_CFG_INV o.val) then .low else .high)
        else .clock (s.flag (F.OUT_CFG_INV o.val))) ∧
      (s.outPins o.val).2 = (if s.fld (F.OUT_CFG_FMT o.val) = 3 then (s.outPins o.val).1
        else if s.fld (F.OUT_CFG_FMT o.val) = 5 then .low else (s.outPins o.val).1.inv)))

/-- A GFE_CTRL write is stored, its DIV, EDGE and FMT taken only where EN rises. GFE_CLK is TBCLK divided by 1, 2 or 5 as taken, in L0 to L2 with EN 1 and outside reset, and low else; a sample code stands for its odd level in sign and magnitude or two's complement, and is captured on the selected edge alone. A GNSS_CTRL write with BB_EN 1 changes that register alone; with BB_EN 0 the receiver is OFF and every channel idle. The frequency check sets FREQ_ERR beyond 1 ppm and counts its changes; the loss and the return of GSCLK clear and set ACTIVE and count, a loss turning the receiver OFF. A channel that pulls in or tracks runs its loops on the correlators' outputs, takes their result, and is idle when lost, but in track goes on down to 24 dB-Hz in L0 and L1; a search that has had its time hands a satellite whose strongest cell lies in the window to the idle channel it names, and the next search begins. HOLD_FIXED and RESURVEY wait for the next epoch, and are counted as refused in OFF. Ten seconds without a fix, or without a satellite in HOLD, take the receiver to ACQUIRE. (R205, R206, R207, R209, R211, R212, R217, R220.) Completes: gfeCtrlWrite, gnssCtrlWrite, gsclkFreqCheck, gsclkLost, gsclkReturn, trackingLoopUpdate, acquisitionDone, holdFixed, resurvey, fixTimeout, noSatelliteTimeout. -/
def Obligations.GnssReceiverCommands : Prop :=
  (∀ (v : Word) (s : State), s.hostOn = true →
    ∃ t, exec (.gfeCtrlWrite v) s = .next t ∧ t.reg Reg.GFE_CTRL = v &&& 0x1f ∧ t.onlyRegs { s with gnss := t.gnss } [Reg.GFE_CTRL] ∧
      t.gnss = { s.gnss with gfe := if v.getLsbD 0 && !s.flag F.GFE_CTRL_EN then v.toNat / 2 % 16 else s.gnss.gfe }) ∧
  (∀ s : State, s.gfeDiv = (if s.inReset = true ∨ 3 ≤ s.rung ∨ s.flag F.GFE_CTRL_EN = false then none
    else some (if s.gnss.gfe % 4 = 0 then 1 else if s.gnss.gfe % 4 = 1 then 2 else 5))) ∧
  ((List.range 8).map (sampleLevel false) = [1, 3, 5, 7, -1, -3, -5, -7] ∧ (List.range 8).map (sampleLevel true) = [1, 3, 5, 7, -7, -5, -3, -1]) ∧
  (∀ (i q : Nat) (s : State), s.capture (s.gnss.gfe.testBit 2) i q = none ∧
    s.capture (!s.gnss.gfe.testBit 2) i q = some (sampleLevel (s.gnss.gfe.testBit 3) i, sampleLevel (s.gnss.gfe.testBit 3) q)) ∧
  (∀ (v : Word) (s : State), s.blockOn 7 = true →
    ∃ t, exec (.gnssCtrlWrite v) s = .next t ∧ t.reg Reg.GNSS_CTRL = v &&& 0x703 ∧
      (v.getLsbD 0 = true → t.sameBut (s.setReg Reg.GNSS_CTRL (v &&& 0x703))) ∧
      (v.getLsbD 0 = false → t.rxState = 0 ∧ (∀ c, c < 48 → t.gch c = 0) ∧ t.gnss.stamp = none ∧
        t.reg Reg.GNSS_EVT = s.reg Reg.GNSS_EVT + (if s.rxState = 0 then 0 else 1))) ∧
  (∀ (e : Nat) (s : State), s.tclkOn = true →
    ∃ t, exec (.gsclkFreqCheck e) s = .next t ∧
      t.flag F.GSCLK_MON_FREQ_ERR = decide (40920000 < ((e : Int) - 40920000).natAbs * 10 ^ 6) ∧
      t.reg Reg.GNSS_EVT = s.reg Reg.GNSS_EVT + (if t.flag F.GSCLK_MON_FREQ_ERR = s.flag F.GSCLK_MON_FREQ_ERR then 0 else 1) ∧
      t.onlyRegs { s with gnss := t.gnss } [Reg.GSCLK_MON, Reg.GNSS_EVT]) ∧
  (∀ s : State, s.tclkOn = true →
    (s.flag F.GSCLK_MON_ACTIVE = true → ∃ t, exec .gsclkLost s = .next t ∧ t.flag F.GSCLK_MON_ACTIVE = false ∧ t.rxState = 0 ∧
      t.reg Reg.GNSS_EVT = s.reg Reg.GNSS_EVT + (if s.rxState = 0 then 1 else 2)) ∧
    (s.flag F.GSCLK_MON_ACTIVE = false → ∃ t, exec .gsclkReturn s = .next t ∧
      t.sameBut ((s.setFlag F.GSCLK_MON_ACTIVE true).bump Reg.GNSS_EVT))) ∧
  (∀ (c : Fin 48) (cn0 : Fin 256) (taps : Taps) (s : State), s.bbOn = true → s.gch c.val = 1 ∨ s.gch c.val = 2 →
    (∀ lock : Bool, ∃ t, exec (.trackingLoopUpdate c (some lock) cn0 taps) s = .next t ∧ t.gch c.val = (if lock then 2 else 1) ∧
      t.fld ⟨Reg.GNSS_CH_STATUS c.val, 16, 8⟩ = cn0.val ∧
      (Tbl.get (fun _ => GnssChan.reset) t.gnss.chan c.val).taps = taps ∧
      t.onlyRegs { s with gnss := t.gnss } [Reg.GNSS_CH_STATUS c.val, Reg.RX_STATUS]) ∧
    (s.gch c.val = 2 ∧ s.rung ≤ 1 ∧ 24 ≤ cn0.val →
      ∃ t, exec (.trackingLoopUpdate c none cn0 taps) s = .next t ∧ t.gch c.val = 2) ∧
    (¬ (s.gch c.val = 2 ∧ s.rung ≤ 1 ∧ 24 ≤ cn0.val) →
      ∃ t, exec (.trackingLoopUpdate c none cn0 taps) s = .next t ∧ t.reg (Reg.GNSS_CH_STATUS c.val) = 0 ∧
        t.reg Reg.GNSS_EVT = s.reg Reg.GNSS_EVT + 1)) ∧
  (∀ (c : Fin 48) (k : Fin 3) (sat : Fin 256) (aided : Bool) (s : State), s.acqEnds k.val aided = true →
    (∀ x : AcqCell, s.gch c.val = 0 → 2 * x.bin.natAbs < acqBins k.val s.acqWindow → x.phase < (constellation k.val).points →
      ∃ t, exec (.acquisitionDone c k sat ⟨aided, some x⟩) s = .next t ∧
        t.rv (Reg.GNSS_CH_STATUS c.val) = 1 + k.val * 4 + sat.val * 256 ∧ t.gnss.acqFrom = s.tiu.count ∧
        Tbl.get (fun _ => GnssChan.reset) t.gnss.chan c.val = ⟨x.bin * (constellation k.val).step, x.phase, Vector.replicate 7 (0, 0)⟩ ∧
        t.onlyRegs { s with gnss := t.gnss } [Reg.GNSS_CH_STATUS c.val]) ∧
    (∃ t, exec (.acquisitionDone c k sat ⟨aided, none⟩) s = .next t ∧ t.sameBut (s.setGnss { s.gnss with acqFrom := s.tiu.count }))) ∧
  (∀ s : State, s.blockOn 7 = true →
    (s.rxState = 0 → (∃ t, exec .holdFixed s = .next t ∧ t.sameBut (s.bump16 Reg.POS_CMD_REF)) ∧
      ∃ t, exec .resurvey s = .next t ∧ t.sameBut (s.bump16 Reg.POS_CMD_REF)) ∧
    (s.rxState ≠ 0 → (∃ t, exec .holdFixed s = .next t ∧ t.sameBut { s with gnss := { s.gnss with cmd := 1 } }) ∧
      ∃ t, exec .resurvey s = .next t ∧ t.sameBut { s with gnss := { s.gnss with cmd := 2 } })) ∧
  (∀ s : State, s.bbOn = true →
    (s.rxState = 2 ∨ s.rxState = 3 → s.tenSecs s.gnss.lastFix = true → ∃ t, exec .fixTimeout s = .next t ∧
      t.sameBut (((s.setGnss { s.gnss with acqFrom := s.tiu.count }).setFld F.RX_STATUS_STATE 1).bump Reg.GNSS_EVT)) ∧
    (s.rxState = 4 → s.tenSecs s.gnss.lastSat = true → ∃ t, exec .noSatelliteTimeout s = .next t ∧
      t.sameBut (((s.setGnss { s.gnss with acqFrom := s.tiu.count }).setFld F.RX_STATUS_STATE 1).bump Reg.GNSS_EVT)))

/-- At an epoch of a running receiver: OFF becomes ACQUIRE; a waiting HOLD_FIXED makes it HOLD and a waiting RESURVEY makes it ACQUIRE with no position stored; in ACQUIRE a stored position and a satellite with ephemeris make it HOLD, and a fix without a stored position makes it NAV where no survey is configured and SURVEY else; a survey whose minimum time is reached, accurate enough, writes its mean to POS_X to POS_Z, stores it and makes it HOLD. The pulse at the edge nearest a predicted top of second is an edge on channel 22, PPS_PATH later. A published record counts SOL_SEQ, gives SOL_TAI in TAI, the quality code and the quality level of reference 16, the correction of the pulse less ANT_DELAY, and where the pulse's stamp waits for this record takes it as activity of that reference and gives the top of second; a stamp that waits for another record stays. 900 ms after it a stamp's last servo tick is noted. A burst window takes coasting channels to PULL_IN; at its end each channel coasts, and one below 28 dB-Hz for the third time is idle. (R26, R112, R208, R212, R213, R214, R215, R216, R218.) Completes: solutionEpoch, pps, solutionPublish, recordDeadline, burstWindowOpen, burstWindowClose. -/
def Obligations.GnssEpochsAndSolutions : Prop :=
  (∀ (e : GnssEpoch) (tie : Bool) (s : State), s.bbOn = true →
    (s.rxState = 0 → ∃ t, exec (.solutionEpoch e tie) s = .next t ∧ t.rxState = 1 ∧ t.reg Reg.GNSS_EVT = s.reg Reg.GNSS_EVT + 1) ∧
    (s.rxState ≠ 0 → s.gnss.cmd = 1 → ∃ t, exec (.solutionEpoch e tie) s = .next t ∧ t.rxState = 4 ∧ t.gnss.stored = true ∧
      t.gnss.cmd = 0 ∧ t.reg Reg.POS_X = s.reg Reg.POS_X) ∧
    (s.rxState ≠ 0 → s.gnss.cmd = 2 → ∃ t, exec (.solutionEpoch e tie) s = .next t ∧ t.rxState = 1 ∧ t.gnss.stored = false ∧
      t.gnss.survS = 0 ∧ t.gnss.cmd = 0) ∧
    (s.rxState = 1 → s.gnss.cmd = 0 → s.gnss.stored = false → e.fix = true →
      ∃ t, exec (.solutionEpoch e tie) s = .next t ∧ t.rxState = (if s.rv Reg.SURVEY_CFG = 0 then 2 else 3) ∧
        t.reg Reg.GNSS_EVT = s.reg Reg.GNSS_EVT + 1) ∧
    (s.rxState = 1 → s.gnss.cmd = 0 → s.gnss.stored = true → 1 ≤ e.eph →
      ∃ t, exec (.solutionEpoch e tie) s = .next t ∧ t.rxState = 4 ∧ t.gnss.lastSat = s.tiu.count) ∧
    (s.rxState = 3 → s.gnss.cmd = 0 → e.fix = true → s.rv Reg.SURVEY_CFG ≤ s.gnss.survS + 1 → (surveyAdd e s).surveyed = true →
      ∃ t, exec (.solutionEpoch e tie) s = .next t ∧ t.rxState = 4 ∧ t.gnss.stored = true ∧
        t.rv Reg.POS_X = unsigned 32 (roundDiv (s.gnss.sum.1 + e.x) (10 * (s.gnss.survS + 1))) ∧
        t.rv Reg.POS_Y = unsigned 32 (roundDiv (s.gnss.sum.2.1 + e.y) (10 * (s.gnss.survS + 1))) ∧
        t.rv Reg.POS_Z = unsigned 32 (roundDiv (s.gnss.sum.2.2 + e.z) (10 * (s.gnss.survS + 1))))) ∧
  (∀ (t0 : Nat) (s : State), s.bbOn = true → s.flag F.GNSS_CTRL_PPS_EN = true → s.ppsAt t0 = true →
    ∃ t, exec (.pps t0) s = .next t ∧ t.gnss.edge = some t0 ∧
      exec (.tiuEdge 22 true (unsigned 72 ((t0 : Int) + psToStamp s.ppsPath))) (s.setGnss { s.gnss with edge := some t0 }) = .next t) ∧
  (∀ (r : GnssSol) (s : State), s.bbOn = true → s.rxState ≠ 0 →
    ∃ t, exec (.solutionPublish r) s = .next t ∧ t.reg Reg.SOL_SEQ = s.reg Reg.SOL_SEQ + 1 ∧ t.quant Reg.SOL_TAI 2 = (r.sec + (constellation r.k.val).toTai) % 2 ^ 64 ∧
      t.fld (F.REF_QL_QL_RANK 16) = gnssRank (s.solQual r.pdop) ∧ t.rv Reg.SOL_QUAL % 8 = s.solQual r.pdop ∧ (t.refp 16).pub = s.tiu.count ∧
      (∀ p e, s.gnss.sol = some p → s.gnss.edge = some e →
        t.rv Reg.SOL_PPS_CORR = unsigned 32 (roundDiv (tdiff p.1 e * 125) 4096 - s.srv Reg.ANT_DELAY) ∧ t.quant Reg.SOL_DRIFT 2 = unsigned 64 p.2) ∧
      (s.gnss.stamp = none → t.gnss.top = s.gnss.top) ∧
      (∀ p, s.gnss.stamp = some p → s.ppsPairs p = false → t.gnss.stamp = some p ∧ t.gnss.top = s.gnss.top) ∧
      (∀ p, s.gnss.stamp = some p → s.ppsPairs p = true → t.gnss.stamp = none ∧
        t.gnss.top = some (unsigned 72 ((p.t : Int) - psToStamp s.ppsPath + psToStamp (t.srv Reg.SOL_PPS_CORR))) ∧
        ((∀ q, (s.refp 16).lastAct = some q → 0 ≤ tdiff p.t q) → (t.refp 16).lastAct = some p.t))) ∧
  (∀ (s : State) (p : PpsStamp), s.gnss.stamp = some p → 450000000 ≤ s.since (p.t / 65536) → p.due = none →
    ∃ t, exec .recordDeadline s = .next t ∧ t.sameBut (s.setGnss { s.gnss with stamp := some { p with due := some (s.tiu.count / 62500) } })) ∧
  (∀ s : State, s.bbOn = true → s.rung = 2 →
    (∃ t, exec .burstWindowOpen s = .next t ∧ t.flag F.RX_STATUS_BURST = true ∧ (∀ c, c < 48 → s.gch c = 3 → t.gch c = 1) ∧
      ∀ c, c < 48 → s.gch c ≠ 3 → t.gch c = s.gch c) ∧
    (∃ t, exec .burstWindowClose s = .next t ∧ ∀ c, c < 48 → s.gch c ≠ 0 →
      (28 ≤ s.fld ⟨Reg.GNSS_CH_STATUS c, 16, 8⟩ → t.gch c = 3 ∧ Tbl.get (fun _ => 0) t.gnss.weak c = 0) ∧
      (s.fld ⟨Reg.GNSS_CH_STATUS c, 16, 8⟩ < 28 → 2 ≤ Tbl.get (fun _ => 0) s.gnss.weak c → t.gch c = 0)))

/-- With the block on, a PORT_CFG write that changes EN, MODE or FEC_ALLOW, or follows one that waits, asks for a transfer; another is stored. RESTART takes a port that is not DISABLED to AN or LOCKING with TRAIN_COEF invalid; RETRAIN takes one that is UP at 25G or 10G with training enabled to TRAIN and is refused otherwise. AN_COMPLETE stores the partner's page and goes to TRAIN, to LOCKING, or, nothing resolved, restarts. TRAIN_COMPLETE stores the coefficients and the receive equaliser's state and goes to LOCKING; its timeout goes to AN where enabled and else trains again. The lock conditions make the port UP with its recovered clock valid; the timeout of LOCKING restarts; a loss of an UP port takes it back to LOCKING, discards and counts a frame in progress, and a local fault starts sending remote fault. Each change and each restart counts PORT_EVT. A remote fault sets and clears its bit. (R221, R223, R224, R225, R226, R227, R228, R241, R242.) Completes: portCfgWrite, portRestart, portRetrain, anComplete, trainComplete, trainTimeout, linkUp, lockingTimeout, linkLoss, remoteFault, remoteFaultClear. -/
def Obligations.PortBringUp : Prop :=
  (∀ (p : Fin 4) (v : Word) (s : State), s.blockOn 8 = true →
    ((s.rat.xfers.any (fun x => x.addr == Reg.PORT_CFG p.val) || (v &&& 0xffff137f).toNat % 32 != s.rv (Reg.PORT_CFG p.val) % 32) = true →
      ∃ t, exec (.portCfgWrite p v) s = .next t ∧ t.sameBut (s.askXfer (Reg.PORT_CFG p.val) (v &&& 0xffff137f))) ∧
    ((s.rat.xfers.any (fun x => x.addr == Reg.PORT_CFG p.val) || (v &&& 0xffff137f).toNat % 32 != s.rv (Reg.PORT_CFG p.val) % 32) = false →
      ∃ t, exec (.portCfgWrite p v) s = .next t ∧ t.sameBut (s.setReg (Reg.PORT_CFG p.val) (v &&& 0xffff137f)))) ∧
  (∀ (p : Fin 4) (s : State), s.blockOn 8 = true →
    (s.portState p.val ≠ 0 → ∃ t, exec (.portRestart p) s = .next t ∧
      t.portState p.val = (if s.flag (F.PORT_CFG_AN_EN p.val) then 1 else 3) ∧ t.flag (F.TRAIN_COEF_VALID p.val) = false ∧
      t.flag (F.PORT_STATUS_RXC_VALID p.val) = false ∧ t.reg (Reg.PORT_EVT p.val) = s.reg (Reg.PORT_EVT p.val) + 1) ∧
    (s.portState p.val = 0 → ∃ t, exec (.portRestart p) s = .next t ∧ t.sameBut s) ∧
    (s.portState p.val = 4 → s.fld (F.PORT_STATUS_MODE_RES p.val) ≤ 1 → s.portCfg p.val F.PORT_CFG_TRAIN_EN = 1 →
      ∃ t, exec (.portRetrain p) s = .next t ∧ t.portState p.val = 2 ∧ t.flag (F.PORT_STATUS_BLOCK_LOCK p.val) = false ∧
        t.reg (Reg.PORT_EVT p.val) = s.reg (Reg.PORT_EVT p.val) + 1) ∧
    (s.portState p.val ≠ 4 ∨ 2 ≤ s.fld (F.PORT_STATUS_MODE_RES p.val) ∨ s.portCfg p.val F.PORT_CFG_TRAIN_EN = 0 →
      ∃ t, exec (.portRetrain p) s = .next t ∧ t.sameBut (s.bump16 (Reg.PORT_CMD_REF p.val)))) ∧
  (∀ (p : Fin 4) (lp : Fin 64) (s : State), s.fclkOn = true → s.portState p.val = 1 →
    let r := if portMode (s.portCfg p.val F.PORT_CFG_MODE) = 2 then some (2, 0)
      else anResolve (portMode (s.portCfg p.val F.PORT_CFG_MODE)) (s.portCfg p.val F.PORT_CFG_FEC_ALLOW) (s.rv (Reg.PORT_AN_ADV p.val)) lp.val
    ∃ t, exec (.anComplete p lp) s = .next t ∧ t.rv (Reg.PORT_AN_LP p.val) = (lp.val &&& 0x33) ||| 0x100 ∧
      t.reg (Reg.PORT_EVT p.val) = s.reg (Reg.PORT_EVT p.val) + 1 ∧
      (r = none → t.portState p.val = 1) ∧
      (∀ m fec, r = some (m, fec) → m ≤ 1 ∧ s.portCfg p.val F.PORT_CFG_TRAIN_EN = 1 → t.portState p.val = 2 ∧
        t.fld (F.PORT_STATUS_MODE_RES p.val) = m ∧ t.fld (F.PORT_STATUS_FEC_RES p.val) = fec) ∧
      (∀ m fec, r = some (m, fec) → ¬ (m ≤ 1 ∧ s.portCfg p.val F.PORT_CFG_TRAIN_EN = 1) → t.portState p.val = 3)) ∧
  (∀ (p : Fin 4) (s : State), s.fclkOn = true → s.portState p.val = 2 →
    (∀ pre main post : Fin 64, ∃ t, exec (.trainComplete p pre main post) s = .next t ∧ t.portState p.val = 3 ∧
      t.rv (Reg.TRAIN_COEF p.val) = pre.val + 2 ^ 8 * main.val + 2 ^ 16 * post.val + 2 ^ 24 ∧
      (t.prt_ p.val).rxEq = some (t.prt_ p.val).eq ∧ (t.prt_ p.val).offer = none ∧
      t.reg (Reg.PORT_EVT p.val) = s.reg (Reg.PORT_EVT p.val) + 1) ∧
    (s.portCfg p.val F.PORT_CFG_AN_EN = 1 → s.flag (F.PORT_CFG_AN_EN p.val) = true →
      ∃ t, exec (.trainTimeout p) s = .next t ∧ t.portState p.val = 1 ∧ t.reg (Reg.PORT_EVT p.val) = s.reg (Reg.PORT_EVT p.val) + 1) ∧
    (s.portCfg p.val F.PORT_CFG_AN_EN = 0 → ∃ t, exec (.trainTimeout p) s = .next t ∧ t.sameBut (s.bump (Reg.PORT_EVT p.val)))) ∧
  (∀ (p : Fin 4) (s : State), s.fclkOn = true → s.portState p.val = 3 →
    (∀ gear : Fin 128, ∃ t, exec (.linkUp p gear) s = .next t ∧ t.portState p.val = 4 ∧ t.flag (F.PORT_STATUS_BLOCK_LOCK p.val) = true ∧
      t.flag (F.PORT_STATUS_FEC_LOCK p.val) = (s.fld (F.PORT_STATUS_FEC_RES p.val) != 0) ∧ t.flag (F.PORT_STATUS_RXC_VALID p.val) = true ∧
      t.fld (F.PORT_RX_PHASE_GEARBOX p.val) = gear.val ∧ t.onlyRegs s [Reg.PORT_STATUS p.val, Reg.PORT_RX_PHASE p.val, Reg.PORT_EVT p.val]) ∧
    (∃ t, exec (.lockingTimeout p) s = .next t ∧ t.reg (Reg.PORT_EVT p.val) = s.reg (Reg.PORT_EVT p.val) + 1 ∧
      (s.portCfg p.val F.PORT_CFG_AN_EN = 0 → t.portState p.val = 3) ∧
      (s.portCfg p.val F.PORT_CFG_AN_EN = 1 → s.flag (F.PORT_CFG_AN_EN p.val) = true → t.portState p.val = 1))) ∧
  (∀ (p : Fin 4) (block fec lf frame : Bool) (s : State), s.fclkOn = true → s.portState p.val = 4 →
    ∃ t, exec (.linkLoss p block fec lf frame) s = .next t ∧ t.portState p.val = 3 ∧ t.flag (F.PORT_STATUS_BLOCK_LOCK p.val) = !block ∧
      t.flag (F.PORT_STATUS_RXC_VALID p.val) = false ∧ t.flag (F.PORT_STATUS_LOCAL_FAULT p.val) = lf ∧
      (t.pe_ p.val).rx = [] ∧ (t.pe_ p.val).cur = none ∧
      (s.flag (F.PORT_STATUS_LOCAL_FAULT p.val) = false → lf = true → Out.remoteFault p.val true ∈ t.out) ∧
      t.rv (Reg.RX_CODE_ERR p.val) = min (2 ^ 32 - 1) (s.rv (Reg.RX_CODE_ERR p.val) +
        if frame = true ∨ (s.pe_ p.val).cur ≠ none ∨ (s.pe_ p.val).rx ≠ [] then 1 else 0) ∧
      t.reg (Reg.PORT_EVT p.val) = s.reg (Reg.PORT_EVT p.val) + 1) ∧
  (∀ (p : Fin 4) (s : State), s.fclkOn = true →
    (s.portState p.val ≠ 0 → ∃ t, exec (.remoteFault p) s = .next t ∧ t.sameBut (s.setFlag (F.PORT_STATUS_REMOTE_FAULT p.val) true)) ∧
    (∃ t, exec (.remoteFaultClear p) s = .next t ∧ t.sameBut (s.setFlag (F.PORT_STATUS_REMOTE_FAULT p.val) false)))

/-- A whole frame received by an UP port, within MAX_FRAME and at least 64 octets, waits last at the receive gate with its octets, the outcome of its FCS and its stamp, and counts in RX_FRAMES and RX_OCTETS; one that is cut waits too and counts in neither. A read of BASKET_REC word 0, the block being on, answers the oldest record's lowest word, latches its four and removes it; an empty basket answers zeros. Five seconds without an information PDU give the port's reference the lowest rank. (R222, R230, R240, R242, R251, R377.) Completes: rxFrame, basketPop, esmcTimeout. -/
def Obligations.PortFramesAndBasket : Prop :=
  (∀ (p : Fin 4) (r : RxIn) (s : State), s.fclkOn = true → s.portState p.val = 4 →
    (∃ t f, exec (.rxFrame p r) s = .next t ∧ (t.pe_ p.val).rx = (s.pe_ p.val).rx ++ [f] ∧ f.octets = r.octets ∧ f.cut = r.cut ∧
      f.good = fcsGood r.octets ∧ f.stamp = s.rxStamp p.val r.phi r.bit ∧ f.uncal = !s.calValid p.val ∧
      (r.cut = true → t.quant (Reg.RX_FRAMES p.val) 2 = s.quant (Reg.RX_FRAMES p.val) 2) ∧
      (r.cut = false → 64 ≤ r.octets.length → r.octets.length ≤ s.maxFrame p.val →
        t.quant (Reg.RX_FRAMES p.val) 2 = (s.quant (Reg.RX_FRAMES p.val) 2 + 1) % 2 ^ 48 ∧
        t.quant (Reg.RX_OCTETS p.val) 2 = (s.quant (Reg.RX_OCTETS p.val) 2 + r.octets.length) % 2 ^ 48 ∧
        t.rv (Reg.RX_FCS_ERR p.val) = (if fcsGood r.octets then s.rv (Reg.RX_FCS_ERR p.val) else min (s.rv (Reg.RX_FCS_ERR p.val) + 1) (2 ^ 32 - 1))))) ∧
  (∀ (p : Fin 4) (m : Master) (s : State), s.reaches m 2 → s.blockOn 8 = true →
    (∀ b rest, (s.prt_ p.val).basket = b :: rest →
      ∃ t, exec (.basketPop p m) s = .next t ∧ (t.prt_ p.val).basket = rest ∧ t.snapOf m 8 = some ⟨Reg.BASKET_REC p.val, BasketRec.words (some b)⟩ ∧
        t.bus.reply = ⟨.ok, (BasketRec.words (some b)).take 1⟩ ∧ t.onlyRegs { s.tlp m 2 with prt := t.prt, bus := t.bus } [Reg.BASKET_STATUS p.val]) ∧
    ((s.prt_ p.val).basket = [] →
      ∃ t, exec (.basketPop p m) s = .next t ∧ t.bus.reply = ⟨.ok, [0]⟩ ∧ t.sameBut { s.tlp m 2 with bus := t.bus })) ∧
  (∀ (p : Fin 4) (s : State), s.blockOn 3 = true → 2500000000 ≤ s.since (s.prt_ p.val).esmcRx →
    ∃ t, exec (.esmcTimeout p) s = .next t ∧ t.sameBut (s.setFld (F.REF_QL_QL_RANK (12 + p.val)) 15))

/-- At a phase of the port's receive gate, with FCLK running and a frame waiting, beat 0 of the head frame is released: where no reason forbids it, and the frame has more than one beat, the next instance number is taken, the cycle noted, the frame becomes the one being released and PE_INIT counts; where a reason forbids it the frame leaves the gate and no instance starts: a dark port's frame is counted in DARK_FRAMES and one that comes before II has passed in TOO_SOON. A later beat that is not the last is added to its instance; one that misses its phase ends the frame and counts RX_GATE_LATE. At a lap boundary a whistled PE that runs stops and backfills; one that is not whistled, whose itinerary runs, resumes; and one that runs stock services does their work of the lap. (R247, R251, R253, R329, R334, R336, R338.) Completes: instanceStart, beatRelease, peLapBoundary. -/
def Obligations.FabricFramesIn : Prop :=
  (∀ (p : Fin 4) (c grid : Nat) (s : State) (f : RxFrame) (rest : List RxFrame), s.fclkOn = true → c % gatePeriod (s.modeIdx p.val) = 0 →
    c = s.cycle ∨ c + 1 = s.cycle →
    (s.pe_ p.val).rx = f :: rest →
    (startBlock p.val c s = none → 1 < beatsOf f.octets → (∀ i ∈ (s.pe_ p.val).insts, i.k < (s.pe_ p.val).k) →
      ∃ t, exec (.instanceStart p c grid) s = .next t ∧ (t.pe_ p.val).rx = rest ∧ (t.pe_ p.val).k = (s.pe_ p.val).k + 1 ∧
        (t.pe_ p.val).last = some c ∧ (t.pe_ p.val).cur = some (s.pe_ p.val).k ∧
        t.quant (Reg.PE_INIT p.val) 2 = (s.quant (Reg.PE_INIT p.val) 2 + 1) % 2 ^ 48) ∧
    ((startBlock p.val c s).isSome = true →
      ∃ t, exec (.instanceStart p c grid) s = .next t ∧ (t.pe_ p.val).rx = rest ∧ (t.pe_ p.val).k = (s.pe_ p.val).k ∧
        (t.pe_ p.val).cur = none ∧ t.quant (Reg.PE_INIT p.val) 2 = s.quant (Reg.PE_INIT p.val) 2 ∧
        (s.wHeld 2 p.val = true → t.rv (Reg.DARK_FRAMES p.val) = min (s.rv (Reg.DARK_FRAMES p.val) + 1) (2 ^ 32 - 1)) ∧
        (s.wHeld 2 p.val = false → (s.pe_ p.val).runs = true → s.served p.val = true → s.itin.arm = none →
          t.quant (Reg.TOO_SOON p.val) 2 = (s.quant (Reg.TOO_SOON p.val) 2 + 1) % 2 ^ 48))) ∧
  (∀ (p : Fin 4) (k grid : Nat) (s : State) (i : Inst), s.fclkOn = true → s.cycle % gatePeriod (s.modeIdx p.val) ≤ 1 → (s.pe_ p.val).cur = some k →
    s.inst? p.val k = some i →
    (i.rel + 1 < beatsOf i.frame.octets → ∃ t, exec (.beatRelease p false grid) s = .next t ∧ (t.pe_ p.val).cur = some k ∧
      t.inst? p.val k = some { i with rel := i.rel + 1 } ∧ t.sameBut { s with fab := t.fab }) ∧
    (∃ t, exec (.beatRelease p true grid) s = .next t ∧ (t.pe_ p.val).cur = none ∧ t.inst? p.val k = some { i with late := true } ∧
      t.rv (Reg.RX_GATE_LATE p.val) = min (s.rv (Reg.RX_GATE_LATE p.val) + 1) (2 ^ 32 - 1))) ∧
  (∀ (p : Fin 4) (s : State), s.fclkOn = true → s.cycle % (s.pe_ p.val).lap ≤ 1 →
    (s.wHeld 1 0 = true → (s.pe_ p.val).runs = true → ∃ t, exec (.peLapBoundary p) s = .next t ∧ (t.pe_ p.val).runs = false ∧
      t.flag (F.PE_STATUS_RUNNING p.val) = false ∧ t.flag F.RATION_STATUS_FABRIC_BACKFILL = true ∧
      t.onlyRegs { s with fab := t.fab } [Reg.PE_STATUS p.val, Reg.RATION_STATUS]) ∧
    (s.wHeld 1 0 = false → (s.pe_ p.val).runs = false → s.itinRuns = true → s.stock p.val (s.pe_ p.val).bank = none →
      ∃ t, exec (.peLapBoundary p) s = .next t ∧ (t.pe_ p.val).runs = true ∧ t.flag (F.PE_STATUS_RUNNING p.val) = true ∧
        t.flag F.RATION_STATUS_FABRIC_BACKFILL = false) ∧
    (s.wHeld 1 0 = false → (s.pe_ p.val).runs = true → s.hamDark = false → (s.stock p.val (s.pe_ p.val).bank).isSome = true →
      ∃ t, exec (.peLapBoundary p) s = .next t ∧ t.sameBut (fwSlotsLap p.val (fwLap p.val (injectLap p.val (sessLap p.val (cfgLap p.val (lapBundle0 p.val s))))))))

/-- The committed reply with the lowest timestamp point leaves the list; it is sent at that point and counted in TX_REPLIES where the transmitter is on and no swap forbids it, and is counted in TX_SUPPRESSED where the transmitter withholds frames. With credit for its length and 20 octets, on a running PE, the head of the originated queue takes a place and its credit is used; without the credit it stays. The first reserved frame leaves: sent at its timestamp point with its FCS and counted in TX_ORIGINATED, or counted in TX_SUPPRESSED. (R225, R227, R254, R258, R259, R331, R377.) Completes: replyDeparture, origReservation, origDeparture. -/
def Obligations.FabricFramesOut : Prop :=
  (∀ (p : Fin 4) (s : State) (c : Commit), s.fclkOn = true → firstCommit (s.pe_ p.val).commits = some c → swapClash p.val c s = false →
    (s.txOff p.val = false → ∃ t, exec (.replyDeparture p) s = .next t ∧ (t.pe_ p.val).commits = (s.pe_ p.val).commits.erase c ∧
      Out.frame p.val c.tp c.octets ∈ t.out ∧ t.quant (Reg.TX_REPLIES p.val) 2 = (s.quant (Reg.TX_REPLIES p.val) 2 + 1) % 2 ^ 48 ∧
      t.quant (Reg.TX_FRAMES p.val) 2 = (s.quant (Reg.TX_FRAMES p.val) 2 + 1) % 2 ^ 48) ∧
    (s.txOff p.val = true → ∃ t, exec (.replyDeparture p) s = .next t ∧ (t.pe_ p.val).commits = (s.pe_ p.val).commits.erase c ∧
      t.rv (Reg.TX_SUPPRESSED p.val) = min (s.rv (Reg.TX_SUPPRESSED p.val) + 1) (2 ^ 32 - 1) ∧
      t.onlyRegs { s with fab := t.fab } [Reg.TX_SUPPRESSED p.val, Reg.ERR_EVT p.val])) ∧
  (∀ (p : Fin 4) (s : State) (c : Commit), s.fclkOn = true → firstCommit (s.pe_ p.val).commits = some c → swapClash p.val c s = true →
    ∃ t, exec (.replyDeparture p) s = .next t ∧ (t.pe_ p.val).commits = (s.pe_ p.val).commits.erase c ∧
      t.onlyRegs { s with fab := t.fab } [Reg.SWAP_REFUSED p.val]) ∧
  (∀ (p : Fin 4) (grid : Nat) (s : State) (d : Desc) (rest : List Desc), s.fclkOn = true → (s.pe_ p.val).queue = d :: rest →
    ((d.len + 20) * 25600 ≤ (s.pe_ p.val).credit → (s.pe_ p.val).runs = true →
      ∃ t x, exec (.origReservation p grid) s = .next t ∧ (t.pe_ p.val).queue = rest ∧
        (t.pe_ p.val).credit + (d.len + 20) * 25600 = (s.pe_ p.val).credit ∧ (t.pe_ p.val).resv = (s.pe_ p.val).resv ++ [⟨d, x⟩] ∧
        t.onlyRegs { s.turnAt p.val grid with fab := t.fab } [Reg.ORIG_LEVEL p.val]) ∧
    ((s.pe_ p.val).credit < (d.len + 20) * 25600 → ∃ t, exec (.origReservation p grid) s = .next t ∧ t.sameBut (s.turnAt p.val grid))) ∧
  (∀ (p : Fin 4) (s : State) (r : Resv) (rest : List Resv), s.fclkOn = true → (s.pe_ p.val).resv = r :: rest →
    (s.txOff p.val = false → ∃ t, exec (.origDeparture p) s = .next t ∧ (t.pe_ p.val).resv = rest ∧
      (r.d.mode ≠ 2 → Out.frame p.val r.tp
        ((s.pe_ p.val).orig.bytes r.d.off (r.d.len - 4) ++ fcsOf ((s.pe_ p.val).orig.bytes r.d.off (r.d.len - 4))) ∈ t.out) ∧
      t.quant (Reg.TX_ORIGINATED p.val) 2 = (s.quant (Reg.TX_ORIGINATED p.val) 2 + 1) % 2 ^ 48) ∧
    (s.txOff p.val = true → ∃ t, exec (.origDeparture p) s = .next t ∧ (t.pe_ p.val).resv = rest ∧
      t.quant (Reg.TX_ORIGINATED p.val) 2 = s.quant (Reg.TX_ORIGINATED p.val) 2 ∧
      t.rv (Reg.TX_SUPPRESSED p.val) = min (s.rv (Reg.TX_SUPPRESSED p.val) + 1) (2 ^ 32 - 1)))

/-- A BAR 2 request of the host, of which each TLP draws its charge, queues at the hamper gate while FCLK runs, and is counted while it does not, a read then being completed with completer abort; a malformed one changes only BAD_ACCESS and the answer. In a cycle of its phase the gate lets one request of each ring pass, those that stay behind being marked as waiting; a request alone at the gate takes effect: a write stores its word, a read answers it. The end of the hamper's initialisation, 16,384 cycles after FCLK started, makes it READY and tells the four PEs. A TE's hamper operation, 40 TCLK after its issue, performs its store or answers its result, and gives zero and a count where the fabric is dark or its delivery is late. A result whose time has come is delivered to its registers and predicate. A sample joins the TE copy, which keeps the last 64, a late one being counted. A trigger event waits at its engine, at most four of them. A doorbell word lands, or is counted while one is pending. (R21, R23, R39, R264, R266, R276, R295, R296, R306, R334, R339, R409.) Completes: bar2Read, bar2Write, hostHamperGateRelease, hamperInitDone, teHamperDelivery, resultDelivery, sampleDelivery, triggerEventDelivery, doorbellWrite. -/
def Obligations.FabricDeliveries : Prop :=
  (∀ (a : BitVec 24) (ecc : Ecc) (s : State), s.reaches .hostPcie 2 →
    (a.toNat % 4 = 0 → s.fclkOn = true → ∃ t, exec (.bar2Read a true ecc) s = .next t ∧
      t.sameBut { s.tlp .hostPcie 2 with fab := { s.fab with gateQ := s.fab.gateQ ++ [⟨a.toNat, none, ecc, false, false⟩] } }) ∧
    (a.toNat % 4 = 0 → s.fclkOn = false → ∃ t, exec (.bar2Read a true ecc) s = .next t ∧
      t.sameBut (answer .completerAbort [] ((s.tlp .hostPcie 2).bump16 Reg.OFF_ACCESS))) ∧
    (∃ t, exec (.bar2Read a false ecc) s = .next t ∧ t.sameBut (answer .completerAbort [] ((s.tlp .hostPcie 2).bump16 Reg.BAD_ACCESS)))) ∧
  (∀ (a : BitVec 24) (v : Word) (s : State), s.hears .hostPcie →
    (a.toNat % 4 = 0 → s.fclkOn = true → ∃ t, exec (.bar2Write a v true) s = .next t ∧
      t.sameBut { s.tlp .hostPcie 1 with fab := { s.fab with gateQ := s.fab.gateQ ++ [⟨a.toNat, some v, .good, false, false⟩] } }) ∧
    (a.toNat % 4 = 0 → s.fclkOn = false → ∃ t, exec (.bar2Write a v true) s = .next t ∧
      t.sameBut ((s.tlp .hostPcie 1).bump16 Reg.OFF_ACCESS)) ∧
    (∃ t, exec (.bar2Write a v false) s = .next t ∧ t.sameBut ((s.tlp .hostPcie 1).bump16 Reg.BAD_ACCESS))) ∧
  (∀ s : State, s.hamDark = false → s.cycle % 16 = 4 ∨ s.cycle % 16 = 5 →
    (∃ t, exec .hostHamperGateRelease s = .next t ∧ t.fab.gateQ = (gatePick s.fab.gateQ 0).2.map (fun r => { r with waited := true })) ∧
    (∀ (a : Nat) (w : Word), s.fab.gateQ = [⟨a, some w, .good, false, false⟩] →
      ∃ t, exec .hostHamperGateRelease s = .next t ∧ t.sameBut { s with fab := { s.fab with mem := s.fab.mem.setLe a 4 w.toNat, gateQ := [] } }) ∧
    (∀ a : Nat, s.fab.gateQ = [⟨a, none, .good, false, false⟩] →
      ∃ t, exec .hostHamperGateRelease s = .next t ∧ t.bus.reply = ⟨.ok, [BitVec.ofNat 32 (s.fab.mem.le a 4)]⟩ ∧
        t.sameBut { s with bus := t.bus, fab := { s.fab with gateQ := [] } })) ∧
  (∀ s : State, s.fclkOn = true → s.flag F.HAMPER_STATUS_INIT = true → 16384 ≤ s.cycle →
    ∃ t, exec .hamperInitDone s = .next t ∧ t.flag F.HAMPER_STATUS_READY = true ∧ t.flag F.HAMPER_STATUS_INIT = false ∧
      ∀ p, p < 4 → (t.eng_ p).ev16 = true) ∧
  (∀ (k : Fin 2) (ecc : Ecc) (s : State) (o : TeOp) (rest : List TeOp), s.tclkOn = true → (s.eng_ (4 + k.val)).teOps = o :: rest →
    40 ≤ s.since o.at_ →
    (s.hamDark = false → (∃ t, exec (.teHamperDelivery k false ecc) s = .next t ∧ (t.eng_ (4 + k.val)).teOps = rest ∧
        (o.kind = 1 → t.fab.mem = s.fab.mem.setLe (o.addr % 2 ^ 24 / 8 * 8) 8 o.data.toNat) ∧
        (∀ r, o.dst = some r → s.wHeld 7 k.val = false → ecc = .good →
          (t.eng_ (4 + k.val)).reg r = BitVec.ofNat 64 (hamOp o.kind o.addr o.data.toNat .good s).1)) ∧
      ∃ t, exec (.teHamperDelivery k true ecc) s = .next t ∧
        t.rv (Reg.GATE_LATE_TE k.val) = min (s.rv (Reg.GATE_LATE_TE k.val) + 1) (2 ^ 32 - 1) ∧
        (∀ r, o.dst = some r → s.wHeld 7 k.val = false → (t.eng_ (4 + k.val)).reg r = 0)) ∧
    (s.hamDark = true → ∀ late, ∃ t, exec (.teHamperDelivery k late ecc) s = .next t ∧ t.fab = s.fab ∧
      t.rv (Reg.TE_DARK k.val) = min (s.rv (Reg.TE_DARK k.val) + 1) (2 ^ 32 - 1) ∧
      (∀ r, o.dst = some r → s.wHeld 7 k.val = false → (t.eng_ (4 + k.val)).reg r = 0))) ∧
  (∀ (e : Eng) (n : Nat) (s : State) (f : Flight), (s.eng_ e.num).fly[n]? = some f → s.flightDue e.num f = true →
    (∀ p, e = .pe p → (s.pe_ p.val).runs = true) → (∀ k, e = .te k → s.wHeld 7 k.val = false) →
    ∃ t, exec (.resultDelivery e n) s = .next t ∧ (t.eng_ e.num).fly = (s.eng_ e.num).fly.eraseIdx n ∧
      (∀ r v, f.regs = [(r, v)] → (t.eng_ e.num).reg r = v) ∧ (∀ q b, f.pred = some (q, b) → q ≠ 0 → (t.eng_ e.num).pr q = b) ∧
      t.sameBut { s with eng := t.eng }) ∧
  (∀ (p : Fin 4) (s : State) (x : DWord), s.tclkOn = true → s.fab.smpWay.find? (fun e => e.1 == p.val) = some (p.val, x) →
    ∀ late, ∃ t, exec (.sampleDelivery ⟨p, late⟩) s = .next t ∧ t.fab.smpWay = s.fab.smpWay.erase (p.val, x) ∧
      Tbl.get (fun _ => 0) t.bus.late 1 = Tbl.get (fun _ => 0) s.bus.late 1 + (if late then 1 else 0) ∧
      Tbl.get (fun _ => []) t.fab.smp p.val = (Tbl.get (fun _ => []) s.fab.smp p.val ++ [x]).drop ((Tbl.get (fun _ => []) s.fab.smp p.val).length - 63)) ∧
  (∀ (p : Fin 4) (i : Fin 16) (late : Bool) (s : State) (f : Nat), s.fclkOn = true →
    s.tm.evGate.find? (fun e => e.1 == p.val && e.2.1 == i.val) = some (p.val, i.val, f) →
    ∃ t, exec (.triggerEventDelivery p i late) s = .next t ∧ t.tm.evGate = s.tm.evGate.erase (p.val, i.val, f) ∧
      ((Tbl.get (fun _ => []) s.tm.evq (p.val * 16 + i.val)).length < 4 →
        Tbl.get (fun _ => []) t.tm.evq (p.val * 16 + i.val) = Tbl.get (fun _ => []) s.tm.evq (p.val * 16 + i.val) ++ [f]) ∧
      (4 ≤ (Tbl.get (fun _ => []) s.tm.evq (p.val * 16 + i.val)).length → t.tm.evq = s.tm.evq) ∧
      (late = true → t.rv Reg.GATE_LATE_TRG = min (s.rv Reg.GATE_LATE_TRG + 1) (2 ^ 32 - 1))) ∧
  (∀ (p : Fin 4) (v : Word) (s : State), s.blockOn 9 = true →
    (s.flag (F.DB_STATUS_PEND p.val) = false →
      ∃ t, exec (.doorbellWrite p v) s = .next t ∧ t.reg (Reg.DOORBELL p.val) = v ∧ t.flag (F.DB_STATUS_PEND p.val) = true ∧
        (t.pe_ p.val).dbAt = s.cycle ∧ t.onlyRegs { s with fab := t.fab } [Reg.DOORBELL p.val, Reg.DB_STATUS p.val]) ∧
    (s.flag (F.DB_STATUS_PEND p.val) = true →
      ∃ t, exec (.doorbellWrite p v) s = .next t ∧ t.sameBut (s.bumpFld (F.DB_STATUS_DB_OVERRUN p.val))))

/-- With the host island running, every reset of the endpoint leaves MSI-X disabled, every vector masked, the table empty and the function out of D3hot; a fundamental or a hot reset and link down take the link out of L0, a fundamental reset holding PCIE_PERST_N low. Link up, in rungs L0 to L2, brings the link into L0 with PCIE_PERST_N high and changes no register. The loss of the reference clock, which happens once, is a link down. The configuration space names vendor 0x1F0B, device 0x9240, revision 0xB0. (R2, R13, R71, R399, R408, R514, R519.) Completes: pcieReset, pcieLinkDown, pcieLinkUp, hostClockFailover. -/
def Obligations.PcieEndpointCommands : Prop :=
  (∀ (k : Fin 3) (s : State), s.hostOn = true →
    ∃ t, exec (.pcieReset k) s = .next t ∧ t.irq.enabled = false ∧ t.irq.mask = 0xffffffff ∧ t.irq.table = [] ∧ t.irq.d3hot = false ∧
      t.irq.linkL0 = (decide (k.val = 2) && s.irq.linkL0) ∧ t.irq.perstLow = (decide (k.val = 0) || s.irq.perstLow)) ∧
  (∀ s : State, s.hostOn = true →
    (∃ t, exec .pcieLinkDown s = .next t ∧ t.irq.enabled = false ∧ t.irq.linkL0 = false ∧ t.irq.table = [] ∧ t.irq.perstLow = s.irq.perstLow) ∧
    (s.rung ≤ 2 → ∃ t, exec .pcieLinkUp s = .next t ∧ t.irq.linkL0 = true ∧ t.irq.perstLow = false ∧ t.regs = s.regs ∧
      t.irq.enabled = s.irq.enabled ∧ t.irq.mask = s.irq.mask) ∧
    (s.irq.refClk = true → ∃ t, exec .hostClockFailover s = .next t ∧ t.irq.refClk = false ∧ t.irq.linkL0 = false ∧ t.irq.enabled = false) ∧
    (s.irq.refClk = false → ∃ t, exec .hostClockFailover s = .next t ∧ t.sameBut s)) ∧
  (pcieIdentity 0x00 = 0x92401f0b ∧ pcieIdentity 0x08 = 0x118000b0 ∧ pcieIdentity 0x2c = 0x92401f0b)

/-- Each ALU operation that issues as a well-formed bundle of its own, its predicate allowing it, writes its destination with the value that the table of ALU operations gives, modulo 2 to the 64, at the end of its bundle, and changes nothing else but the SE's next bundle; a compare writes its destination predicate, combined with its old value as MOD says. SEL writes whichever operand its predicate chooses. A destination that the stream does not own keeps its value. (R270, R273, R274, R275, R276, R278, R279, R281, R285.) Completes: add, sub, and, or, xor, shl, shr, sar, extr, insr, bswap, csum16, movi, sel, cmpeq, cmplt, cmpltu. -/
def Obligations.AluOperations : Prop :=
  ∀ (y : Syl) (s : State),
    (∀ x ∈ [(Instr.add y, 0x01, s.opA y + s.opB y), (Instr.sub y, 0x02, s.opA y + 2 ^ 64 - s.opB y), (Instr.and y, 0x03, s.opA y &&& s.opB y),
        (Instr.or y, 0x04, s.opA y ||| s.opB y), (Instr.xor y, 0x05, s.opA y ^^^ s.opB y), (Instr.shl y, 0x06, s.opA y * 2 ^ (s.opB y % 64)),
        (Instr.shr y, 0x07, s.opA y / 2 ^ (s.opB y % 64)), (Instr.sar y, 0x08, unsigned 64 (signed 64 (s.opA y) / (2 ^ (s.opB y % 64) : Nat))),
        (Instr.extr y, 0x0d,
          let v := s.opA y / 2 ^ (s.opB y % 64) % 2 ^ (min (s.opB y / 64 % 64 + 1) (64 - s.opB y % 64))
          if 4 ≤ y.md.val then unsigned 64 (signed (min (s.opB y / 64 % 64 + 1) (64 - s.opB y % 64)) v) else v),
        (Instr.insr y, 0x0e, insr (s.rg y y.dst.val).toNat (s.opA y) (s.opB y)),
        (Instr.bswap y, 0x0f, bswap (if y.md.val / 2 = 1 then 4 else if y.md.val / 2 = 2 then 2 else 8) (s.opA y)),
        (Instr.csum16 y, 0x10, csum16 (y.md.val / 2) (s.opA y) (s.src y y.b.val).toNat),
        (Instr.movi y, 0x11, unsigned 64 (signed 15 (y.a.val * 512 + y.b.val * 8 + y.md.val)))],
      s.runs1 y x.2.1 y.md.val → ∃ t, exec x.1 s = .next t ∧ t.gives s y x.2.1 y.md.val 1 [(y.dst.val, x.2.2)] none) ∧
    (s.solo y 0x0c y.md.val → ∃ t, exec (.sel y) s = .next t ∧
      t.gives s y 0x0c y.md.val 1 [(y.dst.val, if s.predOn y then s.opA y else (s.src y y.b.val).toNat)] none) ∧
    (∀ x ∈ [(Instr.cmpeq y, 0x09, decide (s.opA y = s.opB y)), (Instr.cmplt y, 0x0a, decide (signed 64 (s.opA y) < signed 64 (s.opB y))),
        (Instr.cmpltu y, 0x0b, decide (s.opA y < s.opB y))],
      s.runs1 y x.2.1 y.md.val → ∃ t, exec x.1 s = .next t ∧
        t.gives s y x.2.1 y.md.val 1 [] (some (y.dst.val, if y.md.val / 2 = 0 then x.2.2 else if y.md.val / 2 = 1 then s.rp y y.dst.val && x.2.2
          else if y.md.val / 2 = 2 then s.rp y y.dst.val || x.2.2 else !x.2.2)))

/-- Each TIME operation that issues as a well-formed bundle of its own, its predicate allowing it, gives the time, duration, predicate or reading of its rule three cycles later, the SE at once, and changes nothing else. MUL, MULH, HASH and CRC32 give their value after 8 cycles, DIVU after 34 (all ones, or the dividend as remainder, where the divisor is zero), DBL after one, an AES block after 16 as a block of its pipeline. HASH_SEED changes one seed. AESK writes half a working slot and its length, and of a master slot nothing: it sends LOCKED_WRITE. (R276, R286, R287, R288, R290, R299, R300, R301, R302, R303.) Completes: tadd, tsub, tconv, tscale, tread, tcmp, mul, mulh, crc32, divu, hash, hashSeed, dbl, aesb, aesk. -/
def Obligations.TimeAndExtendedOperations : Prop :=
  ∀ (y : Syl) (s : State),
    (∀ x ∈ [(Instr.tadd y, 0x14, pairRegs y (tadd y.md.val (s.pairV y y.a.val) (signed 64 (s.src y y.b.val).toNat))),
        (Instr.tsub y, 0x15, [(y.dst.val, unsigned 64 (tsub y.md.val (s.pairV y y.a.val) (s.pairV y y.b.val)))]),
        (Instr.tconv y, 0x16, pairRegs y (tconv y.md.val (s.pairV y y.a.val) ((s.src y y.b.val).toNat % 16) s)),
        (Instr.tscale y, 0x17, if y.md.val = 2 then [(y.dst.val, ntpShort (signed 64 (s.src y y.a.val).toNat))]
          else pairRegs y (tscale y.md.val (s.pairV y y.a.val) ((s.src y y.b.val).toNat % 16) s)),
        (Instr.tread y, 0x18, if y.md.val = 3 then
            [(y.dst.val, match y.e with
              | .pe _ => s.cycle
              | _ => s.rv (if sylTe y = 0 then Reg.SERVO_ITER0 else Reg.SERVO_ITER1))]
          else pairRegs y (tread y ((s.src y y.b.val).toNat % 16) s))],
      s.runs1 y x.2.1 y.md.val → ∃ t, exec x.1 s = .next t ∧ t.gives s y x.2.1 y.md.val 3 x.2.2 none) ∧
    (s.runs1 y 0x19 y.md.val → ∃ t, exec (.tcmp y) s = .next t ∧ t.gives s y 0x19 y.md.val 3 [] (some (y.dst.val,
      let v := tcmp (y.md.val % 4) (s.pairV y y.a.val) (s.pairV y y.b.val)
      if y.md.val < 4 then decide (v.1 < v.2) else decide (v.1 = v.2)))) ∧
    (∀ x ∈ [(Instr.mul y, 0x2c, 8, s.opA y * (s.src y y.b.val).toNat),
        (Instr.mulh y, 0x2d, 8, if 4 ≤ y.md.val then
            unsigned 64 (signed 64 (s.opA y) * signed 64 (s.src y y.b.val).toNat / (2 ^ 64 : Nat)) else s.opA y * (s.src y y.b.val).toNat / 2 ^ 64),
        (Instr.crc32 y, 0x2f, 8, crcBytes (s.opA y % 2 ^ 32)
          (if 4 ≤ y.md.val then (beBytes 8 (s.src y y.b.val).toNat).take 4 else beBytes 8 (s.src y y.b.val).toNat)),
        (Instr.divu y, 0x33, 34,
          let b := (s.src y y.b.val).toNat
          if 4 ≤ y.md.val then (if b = 0 then s.opA y else s.opA y % b) else (if b = 0 then 2 ^ 64 - 1 else s.opA y / b))],
      s.runs1 y x.2.1 y.md.val → ∃ t, exec x.1 s = .next t ∧ t.gives s y x.2.1 y.md.val x.2.2.1 [(y.dst.val, x.2.2.2)] none) ∧
    (s.runs1 y 0x2e (y.md.val % 4) →
      (∃ t, exec (.hash y) s = .next t ∧
        t.gives s y 0x2e (y.md.val % 4) 8 [(y.dst.val, hashMix (s.seed y.e.num (y.md.val % 4)).toNat (s.opA y) (s.src y y.b.val).toNat)] none)) ∧
    (s.runs1 y 0x2e (4 + y.md.val % 4) →
      ∃ t, exec (.hashSeed y) s = .next t ∧ t.seed y.e.num (y.md.val % 4) = s.src y y.a.val ∧
        (∀ k, k ≠ y.md.val % 4 → t.seed y.e.num k = s.seed y.e.num k) ∧ (t.eng_ y.e.num).g = (s.eng_ y.e.num).g ∧ t.regs = s.regs) ∧
    (s.runs1 y 0x32 y.md.val →
      ∃ t, exec (.dbl y) s = .next t ∧ t.gives s y 0x32 y.md.val 1 (pairRegs y
        (let d := dbl128 ((s.rg y y.a.val).toNat * 2 ^ 64 + (s.rg y (y.a.val + 1)).toNat)
         d / 2 ^ 64 + d % 2 ^ 64 * 2 ^ 64)) none) ∧
    (s.runs1 y 0x30 y.md.val →
      ∃ t, exec (.aesb y) s = .next t ∧ (t.eng_ y.e.num).fly = (s.eng_ y.e.num).fly ++
        [{ s.flight y 16 (pairRegs y (aesb y s)) none with aes := true }] ∧ (t.eng_ y.e.num).g = (s.eng_ y.e.num).g ∧ t.regs = s.regs) ∧
    (s.runs1 y 0x31 y.md.val → s.wHeld 3 y.e.num = false →
      (aesIndex y (s.src y y.b.val).toNat < 16 → ∃ t, exec (.aesk y) s = .next t ∧ (∀ k, t.eng_ k = s.eng_ k) ∧
        t.flt = (s.sendFault (srcPe y.e.num) kLockedWrite
          (y.e.num * 2 ^ 16 + y.md.val % 2 * 128 + aesIndex y (s.src y y.b.val).toNat)).flt) ∧
      (16 ≤ aesIndex y (s.src y y.b.val).toNat → ∃ t, exec (.aesk y) s = .next t ∧
        let sl := y.md.val % 2 * 128 + aesIndex y (s.src y y.b.val).toNat
        let new := Tbl.get (fun _ => AesSlot.zero) (t.eng_ y.e.num).aes sl
        let half := beBytes 8 (s.rg y y.a.val).toNat ++ beBytes 8 (s.rg y (y.a.val + 1)).toNat
        new.long = decide (4 ≤ y.md.val) ∧ (y.md.val / 2 % 2 = 0 → new.key.take 16 = half) ∧
          (∀ k, k ≠ sl → Tbl.get (fun _ => AesSlot.zero) (t.eng_ y.e.num).aes k = Tbl.get (fun _ => AesSlot.zero) (s.eng_ y.e.num).aes k) ∧
          t.flt = s.flt))

/-- On a port engine an instance that issues one of these as a bundle of its own reads a released beat of its frame (else zero), its length, its status word or whether it is good, and its stamp; writes a beat of its reply or a checksum into it; claims a start opportunity and gets its stamp; and decides its reply, which is committed where it has a claim that neither the originated share nor the echo meter refuses. On a timekeeping engine it reads a doubleword of the TIU's registers, takes the record of a channel (removed in FIFO mode), writes a steering word for the next boundary, which TE1 does not take from TE0, and asks for a step. (R235, R291, R292, R293, R294.) Completes: rxb, rxlen, rxstat, rxts, txb, txcsum, txts, txgo, teRxb, teRxts, teTxb, teTxgo. -/
def Obligations.ParseAndEmitOperations : Prop :=
  (∀ (y : Syl) (s : State) (p : Fin 4) (k : Nat) (i : Inst), y.e = .pe p → y.inst = some k → s.inst? p.val k = some i →
    (s.runs1 y 0x1c y.md.val → ∃ t, exec (.rxb y) s = .next t ∧
      t.gives s y 0x1c y.md.val 1 [(y.dst.val, if y.a.val + 64 * y.md.val < i.rel then (frameBeat i.frame.octets (y.a.val + 64 * y.md.val)).toNat else 0)] none) ∧
    (s.runs1 y 0x1d y.md.val → ∃ t, exec (.rxlen y) s = .next t ∧
      t.gives s y 0x1d y.md.val 1 [(y.dst.val, if i.late = false ∧ beatsOf i.frame.octets ≤ i.rel then i.frame.octets.length else 8 * i.rel)] none) ∧
    (s.runs1 y 0x1e y.md.val → ∃ t, exec (.rxstat y) s = .next t ∧
      (y.md.val = 4 → t.gives s y 0x1e y.md.val 1 [] (some (y.dst.val, rxOk i))) ∧ (y.md.val ≠ 4 → t.gives s y 0x1e y.md.val 1 [(y.dst.val, rxStatus i)] none)) ∧
    (s.runs1 y 0x1f y.md.val → ∃ t, exec (.rxts y) s = .next t ∧
      t.gives s y 0x1f y.md.val 1 (pairRegs y (mFlags i.frame.stamp i.frame.unsync i.frame.uncal)) none) ∧
    (s.runs1 y 0x20 y.md.val → ∃ t, exec (.txb y) s = .next t ∧
      (t.inst? p.val k).map (fun j => Tbl.get (fun _ => (0 : DWord)) j.reply y.a.val) =
        some (BitVec.ofNat 64 (txb y.md.val (i.beat y.a.val) (s.rg y y.b.val).toNat)) ∧
      (∀ b, b ≠ y.a.val → (t.inst? p.val k).map (fun j => Tbl.get (fun _ => (0 : DWord)) j.reply b) = some (Tbl.get (fun _ => (0 : DWord)) i.reply b)) ∧
      t.does { s with fab := t.fab } y) ∧
    (s.runs1 y 0x22 y.md.val → ∃ t, exec (.txcsum y) s = .next t ∧
      (t.inst? p.val k).map (fun j => Tbl.get (fun _ => (0 : DWord)) j.reply y.a.val) =
        some (BitVec.ofNat 64 (txcsum (y.md.val % 4) (decide (4 ≤ y.md.val)) (i.beat y.a.val) (s.rg y y.b.val).toNat)) ∧
      t.does { s with fab := t.fab } y) ∧
    (s.runs1 y 0x21 y.md.val → ∀ grid, ∃ t, exec (.txts y grid) s = .next t ∧
      let c := claimFor p.val k ((s.pairV y y.a.val % 2 ^ 120 : Nat) : Int) (s.turnAt p.val grid)
      t.inst? p.val k = some { i with claim := some c } ∧
      t.eng_ y.e.num = (s.eng_ y.e.num).take (s.flight y 1 (pairRegs y (mFlags c.tp (!s.flag (F.PC_TRACK_SYNC p.val)) (!s.calValid p.val))) none)) ∧
    (s.runs1 y 0x23 y.md.val →
      (i.done = true → ∃ t, exec (.txgo y) s = .next t ∧ t.does s y) ∧
      (i.done = false → ∃ t, exec (.txgo y) s = .next t ∧ (t.inst? p.val k).map (·.done) = some true ∧
        (i.claim = none → t.inst? p.val k = some { i with done := true }) ∧
        (∀ c, i.claim = some c →
          let r := replyFrame i ((s.rg y y.b.val).toNat % 2 ^ 14)
          clash p.val (c.tp - s.octs p.val 8) (c.tp + s.octs p.val r.1.length) s = false →
          echoRefuses p.val c.tp (c.tp + s.octs p.val r.1.length) s = false →
          (t.inst? p.val k) = some { i with done := true, claim := none } ∧
            (t.pe_ p.val).commits = (s.pe_ p.val).commits ++ [⟨k, i.bank, c.tp, (s.rg y y.b.val).toNat % 2 ^ 14, r.1, r.2⟩])))) ∧
  (∀ (y : Syl) (s : State) (k : Fin 2), y.e = .te k →
    (s.runs1 y 0x1c y.md.val → ∃ t, exec (.teRxb y) s = .next t ∧
      t.gives s y 0x1c y.md.val 1 [(y.dst.val, (s.live (5 + k.val) (0x20000 + 8 * (y.a.val + 64 * y.md.val))).toNat +
        2 ^ 32 * (s.live (5 + k.val) (0x20000 + 8 * (y.a.val + 64 * y.md.val) + 4)).toNat)] none) ∧
    (s.runs1 y 0x1f y.md.val → y.a.val < 24 → ∀ late, ∃ t, exec (.teRxts ⟨y, late⟩) s = .next t ∧
      (∀ r, (s.chan y.a.val).buf.head? = some r → Tbl.get (fun _ => none) t.tiu.recs (24 * k.val + y.a.val) = some r) ∧
      (late = false → t.regs = s.regs) ∧
      (t.chan y.a.val).buf = (if s.flag (F.CH_CFG_LATEST y.a.val) then (s.chan y.a.val).buf else (s.chan y.a.val).buf.tail) ∧
      t.eng_ y.e.num = (s.eng_ y.e.num).take (s.flight y 1 (pairRegs y
        (((TiuRec.words (s.chan y.a.val).buf.head?).map BitVec.toNat).foldr (fun w acc => w + 2 ^ 32 * acc) 0)) none)) ∧
    (s.runs1 y 0x20 y.md.val → ∃ t, exec (.teTxb y) s = .next t ∧
      (t.port y.a.val).pend = (match (s.port y.a.val).pend with
        | some (0, w) => if k.val = 0 then some (0, steerWord y.a.val (s.rg y y.b.val).toNat) else some (0, w)
        | _ => some (k.val, steerWord y.a.val (s.rg y y.b.val).toNat)) ∧
      (t.port y.a.val).cur = (s.port y.a.val).cur ∧ (∀ n, n ≠ y.a.val → t.port n = s.port n) ∧ t.regs = s.regs) ∧
    (s.runs1 y 0x23 y.md.val → ∃ t, exec (.teTxgo y) s = .next t ∧
      ((k.val, y.a.val, signed 64 (s.rg y y.b.val).toNat) ∈ t.tm.stepReq ∨ (k.val = 1 ∧ ∃ d e, e ≠ 1 ∧ (e, y.a.val, d) ∈ s.tm.stepReq)) ∧
      t.does { s with tm := t.tm } y))

/-- A PE's hamper read or leaky-bucket update gives its result 36 cycles later and its store writes the addressed doubleword of the ring that MOD names; a TE's operation goes on its way with its address, its data and its destination, and no byte of the hamper changes. A local load of a static engine from its data segment, or of a PE from its instance scratch, gives the doubleword after two cycles and changes nothing; a local store changes just the addressed doubleword of the data segment, the scratch or the originated buffer, and a PE's store to the sample window sends a sample. On the SE a load or store of the data SRAM, its check bits good, does the same at once and goes on; a load of a register answers what the register reads. (R262, R276, R294, R295, R296, R380.) Completes: hld, hst, hbkt, lld, lst. -/
def Obligations.MemoryOperations : Prop :=
  (∀ (y : Syl) (s : State) (p : Fin 4) (ecc : Ecc), y.e = .pe p →
    let a := ((s.src y y.a.val).toNat % 2 ^ 22 + y.md.val % 4 * 2 ^ 22) % 2 ^ 24 / 8 * 8
    (s.runs1 y 0x24 y.md.val → ecc = .good → ∃ t, exec (.hld y ecc) s = .next t ∧
      t.gives s y 0x24 y.md.val 36 [(y.dst.val, s.fab.mem.le a 4 + 2 ^ 32 * s.fab.mem.le (a + 4) 4)] none) ∧
    (s.runs1 y 0x25 y.md.val → ∃ t, exec (.hst y) s = .next t ∧
      t.does { s with fab := { s.fab with mem := s.fab.mem.setLe a 8 (s.src y y.b.val).toNat } } y) ∧
    (s.runs1 y 0x26 y.md.val → ecc = .good → ∃ t, exec (.hbkt y ecc) s = .next t ∧
      let b := bucket (s.fab.mem.le a 4 + 2 ^ 32 * s.fab.mem.le (a + 4) 4) (s.src y y.b.val).toNat
      t.fab.mem = s.fab.mem.setLe a 8 b.1 ∧ (t.eng_ p.val).fly = (s.eng_ p.val).fly ++ [s.flight y 36 [(y.dst.val, b.2)] none])) ∧
  (∀ (y : Syl) (s : State) (k : Fin 2) (ecc : Ecc), y.e = .te k →
    (∀ x ∈ [(Instr.hld y ecc, 0x24, 0), (Instr.hst y, 0x25, 1), (Instr.hbkt y ecc, 0x26, 2)], s.runs1 y x.2.1 y.md.val →
      ∃ t, exec x.1 s = .next t ∧ (t.eng_ (4 + k.val)).teOps = (s.eng_ (4 + k.val)).teOps ++
        [⟨x.2.2, (s.src y y.a.val).toNat % 2 ^ 24, BitVec.ofNat 64 (s.src y y.b.val).toNat, if x.2.2 = 1 then none else some y.dst.val, s.tiu.count⟩] ∧
        t.sameBut { s with eng := t.eng })) ∧
  (∀ (y : Syl) (s : State) (ecc : Ecc) (late : Bool), y.e ≠ .se →
    (s.runs1 y 0x27 y.md.val → y.md.val = 0 → ∃ t, exec (.lld y ecc late) s = .next t ∧ t.gives s y 0x27 0 2
      [(y.dst.val, (s.eng_ y.e.num).data.le (localAddr y y.b.val s % dataSize y.e.num / 8 * 8) 8)] none) ∧
    (∀ p, y.e = .pe p → s.runs1 y 0x27 y.md.val → y.md.val = 1 → ∃ t, exec (.lld y ecc late) s = .next t ∧ t.gives s y 0x27 1 2
      [(y.dst.val, (s.eng_ p.val).scratch.le (scratchAddr y (localAddr y y.b.val s)) 8)] none) ∧
    (s.runs1 y 0x28 y.md.val → y.md.val = 0 → ∃ t, exec (.lst y) s = .next t ∧
      t.eng_ y.e.num = { s.eng_ y.e.num with
        data := (s.eng_ y.e.num).data.setLe (localAddr y y.dst.val s % dataSize y.e.num / 8 * 8) 8 (s.src y y.b.val).toNat } ∧
      t.sameBut { s with eng := t.eng }) ∧
    (∀ p, y.e = .pe p → s.runs1 y 0x28 y.md.val → y.md.val = 1 → ∃ t, exec (.lst y) s = .next t ∧
      t.eng_ p.val = { s.eng_ p.val with
        scratch := (s.eng_ p.val).scratch.setLe (scratchAddr y (localAddr y y.dst.val s)) 8 (s.src y y.b.val).toNat } ∧
      t.sameBut { s with eng := t.eng }) ∧
    (∀ p, y.e = .pe p → s.runs1 y 0x28 y.md.val → y.md.val = 2 → localAddr y y.dst.val s % 2 ^ 15 < 0x4000 →
      ∃ t, exec (.lst y) s = .next t ∧ (t.pe_ p.val).orig =
        (s.pe_ p.val).orig.setLe (localAddr y y.dst.val s % 2 ^ 15 / 8 * 8) 8 (s.src y y.b.val).toNat) ∧
    (∀ p, y.e = .pe p → s.runs1 y 0x28 y.md.val → y.md.val = 3 → localAddr y y.dst.val s % 0x400 / 8 * 8 = 0x100 →
      ∃ t, exec (.lst y) s = .next t ∧ t.fab.smpWay = s.fab.smpWay ++ [(p.val, BitVec.ofNat 64 (s.src y y.b.val).toNat)])) ∧
  (∀ (y : Syl) (late : Bool) (s : State), y.e = .se →
    (s.runs1 y 0x27 y.md.val → y.md.val = 0 → ∃ t, exec (.lld y .good late) s = .next t ∧
      t.gives s y 0x27 0 2 [(y.dst.val, (s.eng_ 6).data.le (localAddr y y.b.val s % 2 ^ 18 / 8 * 8) 8)] none) ∧
    (s.runs1 y 0x27 y.md.val → y.md.val = 1 → s.masterOn .se = true → nearReg (localAddr y y.b.val s % 2 ^ 20 / 4 * 4) = true →
      quantAt (localAddr y y.b.val s % 2 ^ 20 / 4 * 4) = none → localAddr y y.b.val s % 2 ^ 20 / 4 * 4 ≠ Reg.HWIN_DATA →
      ∃ t, exec (.lld y .good late) s = .next t ∧
        t.eng_ 6 = (s.eng_ 6).take (s.flight y 2 [(y.dst.val, (s.live 4 (localAddr y y.b.val s % 2 ^ 20 / 4 * 4)).toNat)] none) ∧
        t.se.pc = (s.se.pc + 1) % 4096 ∧ t.regs = s.regs) ∧
    (s.runs1 y 0x28 y.md.val → y.md.val = 0 → ∃ t, exec (.lst y) s = .next t ∧
      t.eng_ 6 = { s.eng_ 6 with data := (s.eng_ 6).data.setLe (localAddr y y.dst.val s % 2 ^ 18 / 8 * 8) 8 (s.src y y.b.val).toNat } ∧
      t.sameBut { seBook 0x28 0 y s with eng := t.eng, se := { (seBook 0x28 0 y s).se with pc := (s.se.pc + 1) % 4096 } }))

/-- As a bundle of its own each does this: LIMM holds its sign-extended payload for its stream; PSET, PAND and POR write their predicate; LOOP sets its level's counters; EVT tests a source, or takes the oldest event of a trigger in S format; FAULT sends its message unless its code is 0. On the SE, BR and JMP go to their bundle, CALL pushes the next bundle and RET pops it, and return from trap goes to the bundle in g62 and clears TRAP_ACTIVE; CALL on a full stack, RET on an empty one and TRAP, while no trap is active, take their trap: g62 and g63 hold the return bundle and the record, TRAP_ACTIVE is 1 and the SE goes to the vector. (R281, R304, R305, R306, R307, R308, R495.) Completes: limm, pset, pand, por, loop, evtTest, evtTake, fault, br, jmp, call, ret, returnFromTrap, trap. -/
def Obligations.ControlOperations : Prop :=
  ∀ (y : Syl) (s : State),
    (s.solo y 0x34 y.md.val → ∃ t, exec (.limm y) s = .next t ∧
      Tbl.get (fun _ => (0 : DWord)) (t.eng_ y.e.num).limm (sylStream y) = BitVec.ofInt 64 (signed 26 (sylPayload y)) ∧
      (t.eng_ y.e.num).g = (s.eng_ y.e.num).g ∧
      t.sameBut { seBook 0x34 y.md.val y s with eng := t.eng, se := { (seBook 0x34 y.md.val y s).se with pc := s.nextPc y } }) ∧
    (s.runs1 y 0x35 y.md.val → ∃ t, exec (.pset y) s = .next t ∧
      t.gives s y 0x35 y.md.val 1 [] (some (y.dst.val, if y.md.val % 2 = 1 then decide (2 ≤ y.md.val) else s.rg y y.a.val != 0))) ∧
    (∀ x ∈ [(Instr.pand y, 0x36, fun (p q : Bool) => p && q), (Instr.por y, 0x37, fun (p q : Bool) => p || q)], s.runs1 y x.2.1 y.md.val →
      ∃ t, exec x.1 s = .next t ∧ t.gives s y x.2.1 y.md.val 1 []
        (some (y.dst.val, x.2.2 (s.rp y y.a.val != decide (y.md.val % 2 = 1)) (s.rp y y.b.val != decide (y.md.val / 2 % 2 = 1))))) ∧
    (s.solo y 0x38 y.md.val → ∃ t, exec (.loop y) s = .next t ∧
      Tbl.get (fun _ => LoopCtx.zero) (t.eng_ y.e.num).loops (y.md.val % 4) = ⟨sylPayload y / 2 ^ 15 % 2048 + 1, sylPayload y / 8 % 4096 + 1⟩ ∧
      (t.eng_ y.e.num).g = (s.eng_ y.e.num).g) ∧
    (s.runs1 y 0x39 0 → ∃ t, exec (.evtTest y) s = .next t ∧ t.gives s y 0x39 0 1 [] (some (y.dst.val, s.evPending y y.a.val))) ∧
    (s.runs1 y 0x39 1 →
      (y.e = .se → ∃ t, exec (.evtTake y) s = .next t ∧ t.gives s y 0x39 1 1 (pairRegs y 0) none) ∧
      (y.e ≠ .se → y.a.val < 16 → ∀ f rest, s.evq y.e.num y.a.val = f :: rest →
        ∃ t, exec (.evtTake y) s = .next t ∧ t.evq y.e.num y.a.val = rest ∧
          t.eng_ y.e.num = (s.eng_ y.e.num).take (s.flight y 1 (pairRegs y (tsWords f)) none) ∧ t.regs = s.regs) ∧
      (y.e ≠ .se → y.a.val = 16 → ∃ t, exec (.evtTake y) s = .next t ∧ (t.eng_ y.e.num).ev16 = false)) ∧
    (s.runs1 y 0x3a y.md.val → ∃ t, exec (.fault y) s = .next t ∧
      let b := seBook 0x3a y.md.val y s
      t.does (if y.a.val = 0 then b else b.sendFault (engSrc y.e) y.a.val ((s.rg y y.b.val).toNat % 2 ^ 24)) y) ∧
    (y.e = .se →
      (s.runs1 y 0x3b y.md.val → ∃ t, exec (.br y) s = .next t ∧ t.se.pc = (((s.se.pc : Int) + sylOffset y) % 4096).toNat ∧
        t.se.stack = s.se.stack ∧ (∀ k, t.eng_ k = s.eng_ k) ∧ t.regs = s.regs) ∧
      (s.runs1 y 0x3c y.md.val → ∃ t, exec (.jmp y) s = .next t ∧ t.se.pc = (s.rg y y.a.val).toNat % 4096 ∧ t.se.stack = s.se.stack) ∧
      (s.runs1 y 0x3d y.md.val → s.se.stack.length < 16 → ∃ t, exec (.call y) s = .next t ∧
        t.se.pc = (((s.se.pc : Int) + sylOffset y) % 4096).toNat ∧ t.se.stack = (s.se.pc + 1) % 4096 :: s.se.stack) ∧
      (s.runs1 y 0x3e 0 → ∀ a rest, s.se.stack = a :: rest → ∃ t, exec (.ret y) s = .next t ∧ t.se.pc = a % 4096 ∧ t.se.stack = rest) ∧
      (s.runs1 y 0x3e 1 → ∃ t, exec (.returnFromTrap y) s = .next t ∧ t.se.pc = (s.rg y 62).toNat % 4096 ∧
        t.regs = (s.setFlag F.SE_STATUS_TRAP_ACTIVE false).regs ∧ t.se.stack = s.se.stack ∧ ∀ k, t.eng_ k = s.eng_ k) ∧
      (s.flag F.SE_STATUS_TRAP_ACTIVE = false →
        (∀ x ∈ [(Instr.call y, 0x3d, y.md.val, decide (16 ≤ s.se.stack.length), 2, s.se.pc, 2),
            (Instr.ret y, 0x3e, 0, decide (s.se.stack = []), 3, s.se.pc, 3),
            (Instr.trap y, 0x3f, y.md.val, true, 1, (s.se.pc + 1) % 4096, 1 + 256 * y.a.val)],
          s.runs1 y x.2.1 x.2.2.1 → x.2.2.2.1 = true → ∃ t, exec x.1 s = .next t ∧ t.se.pc = 4 * x.2.2.2.2.1 ∧
            t.flag F.SE_STATUS_TRAP_ACTIVE = true ∧ (t.eng_ 6).reg 62 = BitVec.ofNat 64 x.2.2.2.2.2.1 ∧
            (t.eng_ 6).reg 63 = BitVec.ofNat 64 x.2.2.2.2.2.2 ∧ t.se.stack = s.se.stack)))

/-- A NOP changes nothing itself; where it ends its bundle the results that its stream holds take effect, in order, and those of other streams stay. A syllable whose predicate forbids it has no effect as a bundle of its own beyond the SE's next bundle. An ALU syllable that does not end its bundle holds its result, its register keeping its value until then. On the SE a malformed syllable, while no trap is active, takes the trap ILLEGAL with its slot in the record. A syllable of an engine that does not run changes nothing. (R273, R274, R276, R277, R282, R308, R325.) Completes: nop. -/
def Obligations.BundlesAndPredicates : Prop :=
  (∀ (y : Syl) (s : State), s.issues y = true → s.fits y 0 y.md.val = true → s.seGrants y 0 y.md.val = true → (y.e = .se → s.se.mem = none) →
    ∃ t, exec (.nop y none) s = .next t ∧
      (y.last = true → t.eng_ y.e.num = ((s.eng_ y.e.num).hold.filter (fun f => f.inst = y.inst)).foldl EngPart.take
        { s.eng_ y.e.num with hold := (s.eng_ y.e.num).hold.filter (fun f => f.inst ≠ y.inst) }) ∧
      (y.last = false → t.eng_ y.e.num = s.eng_ y.e.num) ∧ (∀ k, k ≠ y.e.num → t.eng_ k = s.eng_ k) ∧
      t.sameBut { seBook 0 y.md.val y s with eng := t.eng, se := { (seBook 0 y.md.val y s).se with pc := t.se.pc } }) ∧
  (∀ (y : Syl) (s : State) (ecc : Ecc) (grid : Nat), s.predOn y = false →
    ∀ x ∈ [(Instr.add y, 0x01), (Instr.sub y, 0x02), (Instr.cmpeq y, 0x09), (Instr.movi y, 0x11), (Instr.tadd y, 0x14), (Instr.tread y, 0x18),
        (Instr.rxb y, 0x1c), (Instr.txts y grid, 0x21), (Instr.txgo y, 0x23), (Instr.teTxb y, 0x20), (Instr.teTxgo y, 0x23), (Instr.hld y ecc, 0x24),
        (Instr.hst y, 0x25), (Instr.hbkt y ecc, 0x26), (Instr.mul y, 0x2c), (Instr.aesk y, 0x31), (Instr.divu y, 0x33), (Instr.pset y, 0x35),
        (Instr.fault y, 0x3a), (Instr.br y, 0x3b), (Instr.jmp y, 0x3c), (Instr.call y, 0x3d), (Instr.trap y, 0x3f)],
      s.solo y x.2 y.md.val → ∃ t, exec x.1 s = .next t ∧ t.does (seBook x.2 y.md.val y s) y) ∧
  (∀ (y : Syl) (s : State), s.issues y = true → s.fits y 0x01 y.md.val = true → s.predOn y = true → y.last = false →
    ∃ t, exec (.add y) s = .next t ∧
      t.eng_ y.e.num = { s.eng_ y.e.num with hold := (s.eng_ y.e.num).hold ++ [s.flight y 1 [(y.dst.val, s.opA y + s.opB y)] none] } ∧
      t.sameBut { seBook 0x01 y.md.val y s with eng := t.eng }) ∧
  (∀ (y : Syl) (s : State), y.e = .se → s.issues y = true → s.flag F.SE_STATUS_TRAP_ACTIVE = false →
    ∀ x ∈ [(Instr.add y, 0x01), (Instr.tadd y, 0x14), (Instr.rxb y, 0x1c), (Instr.hld y .good, 0x24), (Instr.mul y, 0x2c), (Instr.br y, 0x3b)],
      s.fits y x.2 y.md.val = false → ∃ t, exec x.1 s = .next t ∧ t.se.pc = 0 ∧ t.flag F.SE_STATUS_TRAP_ACTIVE = true ∧
        (t.eng_ 6).reg 62 = BitVec.ofNat 64 s.se.pc ∧ (t.eng_ 6).reg 63 = BitVec.ofNat 64 (256 * y.slot.val)) ∧
  (∀ (y : Syl) (s : State), s.issues y = false →
    (∃ t, exec (.add y) s = .next t ∧ t.sameBut s) ∧ (∃ t, exec (.nop y none) s = .next t ∧ t.sameBut s) ∧ ∃ t, exec (.lst y) s = .next t ∧ t.sameBut s)

/-- With the block on: a write to a bank that is neither verifying, running, draining nor armed stores its octets, makes the bank LOADED and clears its BANK_ registers; another is refused, counted in STORE_REFUSED and stores nothing. VERIFY makes a bank that may be verified VERIFYING and sets BUSY, and is counted as refused elsewhere. When the verification ends BUSY is 0 and VER_TIME holds the time since VERIFY; an accepted image makes the bank VERIFIED, fills its registers and counts VER_EVT, a rejected one makes it REJECTED, with the code, place and bank in the REJ_ registers. CLEAR empties a bank. A drained bank is VERIFIED again, or REJECTED below the security version. The scrub, which waits while the verifier is busy, counts corrected words, and a bad word of a verified bank rejects it and cancels its armed swap. (R320, R321, R322, R323, R324, R325, R333, R340, R472.) Completes: storeWrite, verify, clear, verifyDone, drainEnd, storeScrub. -/
def Obligations.ItineraryBanks : Prop :=
  (∀ (b : Fin 2) (o : Nat) (l : List Byte) (s : State), s.blockOn 9 = true →
    (s.bank b.val ≠ 2 → s.bank b.val ≠ 5 → s.bank b.val ≠ 6 → s.armed b.val = false →
      ∃ t, exec (.storeWrite b o l) s = .next t ∧ t.bank b.val = 1 ∧ t.bank (1 - b.val) = s.bank (1 - b.val) ∧
        t.itin.store = s.itin.store.setBytes (b.val * 1048576 + o % 2 ^ 20) l ∧ (∀ k, k < 7 → t.rv (Reg.BANK_SECVER b.val + 4 * k) = 0)) ∧
    (s.bank b.val = 2 ∨ s.bank b.val = 5 ∨ s.bank b.val = 6 ∨ s.armed b.val = true →
      ∃ t, exec (.storeWrite b o l) s = .next t ∧
        t.sameBut ((s.bumpSat Reg.STORE_REFUSED).sendFault srcVerifier kLockedWrite (o % 2 ^ 20 + b.val * 2 ^ 20)))) ∧
  (∀ (b : Fin 2) (s : State), s.blockOn 9 = true →
    (s.bank b.val = 1 ∨ s.bank b.val = 3 ∨ s.bank b.val = 4 → s.armed b.val = false → s.bank (1 - b.val) ≠ 2 → s.secServes = true →
      ∃ t, exec (.verify b) s = .next t ∧ t.sameBut { (s.setBank b.val 2).setFlag F.ITIN_STATUS_BUSY true with itin := { s.itin with verAt := s.now } }) ∧
    (s.bank b.val = 0 ∨ s.bank b.val = 2 ∨ s.bank b.val = 5 ∨ s.bank b.val = 6 ∨ s.armed b.val = true ∨ s.bank (1 - b.val) = 2 ∨ s.secServes = false →
      ∃ t, exec (.verify b) s = .next t ∧ t.sameBut (s.bump16 Reg.ITIN_CMD_REF)) ∧
    (s.bank b.val ≠ 2 → s.bank b.val ≠ 5 → s.bank b.val ≠ 6 → s.armed b.val = false →
      ∃ t, exec (.clear b) s = .next t ∧ t.bank b.val = 0 ∧ t.bank (1 - b.val) = s.bank (1 - b.val) ∧ t.itin = s.itin ∧
        ∀ k, k < 7 → t.rv (Reg.BANK_SECVER b.val + 4 * k) = 0) ∧
    (s.bank b.val = 2 ∨ s.bank b.val = 5 ∨ s.bank b.val = 6 ∨ s.armed b.val = true →
      ∃ t, exec (.clear b) s = .next t ∧ t.sameBut (s.bump16 Reg.ITIN_CMD_REF)) ∧
    (s.bank b.val = 2 → (b.val = 1 → s.bank 0 ≠ 2) →
      ∀ us, ∃ t, exec (.verifyDone us) s = .next t ∧ t.flag F.ITIN_STATUS_BUSY = false ∧
        t.rv Reg.VER_TIME = min (max us ((s.now - s.itin.verAt) / 1000000)) 65535 ∧
        match s.verdict b.val with
        | none => t.bank b.val = 3 ∧ t.rv (Reg.BANK_SECVER b.val) = (s.img b.val).secver % 2 ^ 32 ∧ t.reg Reg.VER_EVT = s.reg Reg.VER_EVT + 1
        | some r => t.bank b.val = 4 ∧ t.rv Reg.REJ_CODE = (r.code % 65536 + 65536 * b.val + 2 ^ 31) ∧ t.rv Reg.REJ_WHERE = r.whr % 2 ^ 32 ∧
            t.rv Reg.REJ_OFFSET = r.off % 2 ^ 20 ∧ t.rv (Reg.BANK_SECVER b.val) = 0) ∧
    (s.itin.teWait = 0 → s.itin.drainTo ≤ s.cycle → s.bank b.val = 6 → (b.val = 1 → s.bank 0 ≠ 6) →
      ∃ t, exec .drainEnd s = .next t ∧ t.bank b.val = (if (s.img b.val).secver < s.ctr 1 then 4 else 3))) ∧
  (∀ (corr : Nat) (bad : List Nat) (s : State), s.blockOn 9 = true → s.flag F.ITIN_STATUS_BUSY = true →
    ∃ t, exec (.storeScrub corr bad) s = .next t ∧ t.sameBut s) ∧
  (∀ (corr : Nat) (s : State), s.blockOn 9 = true → s.flag F.ITIN_STATUS_BUSY = false →
    (∃ t, exec (.storeScrub corr []) s = .next t ∧ t.rv Reg.STORE_CORR = min (s.rv Reg.STORE_CORR + min corr 524288) (2 ^ 32 - 1) ∧
      t.onlyRegs s [Reg.STORE_CORR]) ∧
    (∀ (b : Fin 2) (a : Nat), a % 2 ^ 21 / 4 * 4 / 2 ^ 20 = b.val → s.bank b.val = 3 →
      ∃ t, exec (.storeScrub corr [a]) s = .next t ∧ t.bank b.val = 4 ∧
        Tbl.get (fun _ => false) t.itin.ue (a % 2 ^ 21 / 4 * 4) = true ∧ t.rv Reg.REJ_CODE = 0x1007 + 65536 * b.val + 2 ^ 31 ∧
        (s.armed b.val = true → t.itin.arm = none ∧ t.fld F.SWAP_RESULT_CODE = 4)))

/-- With the block on, SWAP of a verified bank, none armed and the other not draining, arms it: its cycle is at least 2,048 cycles ahead and a multiple of its lap; where its charge does not fit, nothing is armed and SWAP_RESULT says so; elsewhere it is refused. CANCEL before the commit point, 1,024 cycles before the swap cycle, disarms, and is refused else. At the commit point the swap is committed, or disarmed where its charge no longer fits. The gap of a port found incompatible opens the old bank's reply-delay interval before a committed swap. At the swap cycle of a committed swap the bank is RUNNING, an old one DRAINING, every PE has taken the new bank and SWAP_EVT counts; each TE takes it at its own boundary, TE0 with the versions of its routines. (R44, R326, R327, R328, R330, R331, R332, R333, R335, R340.) Completes: swap, cancel, swapCommitPoint, swapGapOpen, swapCycle, teSwap. -/
def Obligations.ItinerarySwaps : Prop :=
  (∀ (b : Fin 2) (s : State), s.blockOn 9 = true →
    (s.bank b.val = 3 → s.itin.arm = none → s.bank (1 - b.val) ≠ 6 →
      ∃ t, exec (.swap b) s = .next t ∧
        match s.swapCheck b.val with
        | some c => t.itin.arm = none ∧ t.fld F.SWAP_RESULT_CODE = 6 ∧ t.rv Reg.REJ_CODE = c % 65536 + 65536 * b.val + 2 ^ 31
        | none => ∃ a, t.itin.arm = some a ∧ a.bank = b.val ∧ a.committed = false ∧ s.cycle + 2048 ≤ a.cs ∧
            t.flag F.ITIN_STATUS_ARMED = true ∧ t.quant Reg.SWAP_CYCLE 2 = a.cs % 2 ^ 64 ∧
            ((s.img b.val).peLap ≠ 0 → (s.itinRuns = true → (s.img s.runBank).peLap ≠ 0) → a.cs % (s.img b.val).peLap = 0)) ∧
    (s.bank b.val ≠ 3 ∨ s.itin.arm.isSome = true ∨ s.bank (1 - b.val) = 6 →
      ∃ t, exec (.swap b) s = .next t ∧ t.sameBut (s.bump16 Reg.ITIN_CMD_REF))) ∧
  (∀ s : State, s.blockOn 9 = true →
    (∀ a, s.itin.arm = some a → a.committed = false → s.cycle + 1024 < a.cs →
      ∃ t, exec .cancel s = .next t ∧ t.itin.arm = none ∧ t.flag F.ITIN_STATUS_ARMED = false ∧ t.fld F.SWAP_RESULT_CODE = 2 ∧
        t.reg Reg.SWAP_EVT = s.reg Reg.SWAP_EVT + 1 ∧ t.onlyRegs { s with itin := t.itin } [Reg.ITIN_STATUS, Reg.SWAP_RESULT, Reg.SWAP_EVT]) ∧
    (∀ a, s.itin.arm = some a → a.committed = false → a.cs ≤ s.cycle + 1024 →
      (∃ t, exec .cancel s = .next t ∧ t.sameBut (s.bump16 Reg.ITIN_CMD_REF)) ∧
      ∃ t, exec .swapCommitPoint s = .next t ∧
        match s.swapCheck a.bank with
        | none => t.sameBut { s with itin := { s.itin with arm := some { a with committed := true } } }
        | some _ => t.itin.arm = none ∧ t.fld F.SWAP_RESULT_CODE = 4 ∧ t.flag F.ITIN_STATUS_ARMED = false) ∧
    (s.itin.arm = none → ∃ t, exec .cancel s = .next t ∧ t.sameBut (s.bump16 Reg.ITIN_CMD_REF)) ∧
    (∀ a, s.itin.arm = some a → a.committed = true →
      (∃ t, exec .cancel s = .next t ∧ t.sameBut (s.bump16 Reg.ITIN_CMD_REF)) ∧
      (a.bank < 2 → a.cs ≤ s.cycle → ∃ t, exec .swapCycle s = .next t ∧ t.itin.arm = none ∧ t.bank a.bank = 5 ∧ t.runBank = a.bank ∧ t.itinRuns = true ∧
        t.fld F.SWAP_RESULT_CODE = 1 ∧ t.reg Reg.SWAP_EVT = s.reg Reg.SWAP_EVT + 1 ∧ t.flag F.ITIN_STATUS_ARMED = false ∧ t.itin.teWait = 3 ∧
        (s.itinRuns = true → s.runBank ≠ a.bank → t.bank s.runBank = 6) ∧
        ∀ p, p < 4 → (t.pe_ p).bank = a.bank ∧ (t.pe_ p).runs = !s.wHeld 1 0)) ∧
    (∀ (p : Fin 4) (a : Arm), s.itin.arm = some a → a.committed = true →
      a.cs ≤ s.cycle + dcyc ((s.pe_ p.val).hdr.d.getD (s.modeIdx p.val) 0) → s.fld (F.COMPAT_COND p.val) ≠ 0 → s.itin.gap.testBit p.val = false →
      ∃ t, exec (.swapGapOpen p) s = .next t ∧ t.itin.gap.testBit p.val = true ∧ t.flag (F.COMPAT_GAP p.val) = true ∧
        (t.fld F.SWAP_RESULT_GAPS).testBit p.val = true)) ∧
  (∀ (k : Fin 2) (s : State), s.tclkOn = true → s.itin.teWait.testBit k.val = true →
    ∃ t, exec (.teSwap k) s = .next t ∧ Tbl.get (fun _ => none) t.itin.teBank k.val = some s.runBank ∧
      t.itin.teWait = s.itin.teWait - 2 ^ k.val ∧
      (k.val = 0 → t.rv Reg.SEL_VER = (s.img s.runBank).selVer % 2 ^ 32 ∧ t.rv Reg.DPLL_VER = (s.img s.runBank).dpllVer % 2 ^ 32) ∧
      (k.val = 1 → t.regs = s.regs))

/-- Where firmware serves a queue channel on which a whole message waits and its answer fits, the message leaves the queue and the answer's header (code, sequence number, length, status) and its words are posted: PING gives its arguments back, VERSION the three versions, STATUS the counts of cut messages and of bad commands, BIND binds an unbound channel of a valid pair and denies a bound one, KEY_SELECT of the CO's channel selects a loaded slot, KEY_RETIRE and CO_CHALLENGE answer as the security command they issue does. A whole message of one block on a block channel is released and answered with its status and its first block: PTP_DATASET holds the octets, KEY_LOAD, COOKIE_MINT and CO_RESPONSE do their work. A message whose words do not follow is dropped and counted as cut. (R361, R390, R402, R403, R404, R405, R461.) Completes: ping, version, status, bind, keySelect, keyRetire, coChallenge, cutMessage, ptpDataset, keyLoad, cookieMint, coResponse. -/
def Obligations.HostCommandsAnswered : Prop :=
  let answered := fun (t s : State) (n d : Nat) (h : Word) (rest : List (Option Word)) (st : Nat) (res : List Nat) =>
    (t.mbDir n d).q = rest ∧ (t.mbDir n (1 - d)).q = (s.mbDir n (1 - d)).q ++
      ((h.toNat % 256 + h.toNat / 256 % 256 * 2 ^ 8 + res.length * 2 ^ 16 + st * 2 ^ 24) :: res).map (fun w => some (BitVec.ofNat 32 w))
  (∀ (n : Fin 12) (d : Nat) (s : State) (h : Word) (args : List Word) (rest : List (Option Word)), s.fwDir n.val = some d →
    (s.mbDir n.val d).q = some h :: (args.map some ++ rest) → h.toNat / 2 ^ 16 % 8 = args.length →
    let p := popN n.val d (args.length + 1) s
    (h.toNat % 256 = 0x01 → s.mbLevel n.val (1 - d) + args.length < 8 →
      ∃ t, exec (.ping n) s = .next t ∧ answered t s n.val d h rest 0 (args.map BitVec.toNat)) ∧
    (h.toNat % 256 = 0x02 → s.mbLevel n.val (1 - d) + 3 < 8 →
      ∃ t, exec (.version n) s = .next t ∧ answered t s n.val d h rest 0 [s.rv Reg.FW_VERSION, s.rv Reg.FW_SECVER, s.rv Reg.ROM_VER]) ∧
    (h.toNat % 256 = 0x03 → s.mbLevel n.val (1 - d) + 3 < 8 →
      ∃ t x, exec (.status n) s = .next t ∧ answered t s n.val d h rest 0 [x, s.se.cut, s.se.badCmd]) ∧
    (h.toNat % 256 = 0x08 → s.mbLevel n.val (1 - d) < 8 → ∀ c a b, args = [c, a, b] → c.toNat < 16 →
      (s.mbBound c.toNat = true → ∃ t, exec (.bind n) s = .next t ∧ answered t s n.val d h rest stDenied []) ∧
      (s.mbBound c.toNat = false → s.bindOk c.toNat (a.toNat % 256) (b.toNat % 256) = true →
        ∃ t, exec (.bind n) s = .next t ∧ answered t s n.val d h rest 0 [] ∧
          t.rv (Reg.MB_BIND c.toNat) = a.toNat % 256 + 256 * (b.toNat % 256) + 2 ^ 31)) ∧
    (h.toNat % 256 = 0x12 → s.mbLevel n.val (1 - d) < 8 → ∀ i, args = [i] → s.coChannel n.val = true → i.toNat < 16 →
      (s.keyRec i.toNat).isSome = true → ∃ t, exec (.keySelect n) s = .next t ∧ answered t s n.val d h rest 0 [] ∧ t.se.cur = i.toNat) ∧
    (h.toNat % 256 = 0x11 → s.mbLevel n.val (1 - d) + 1 < 8 → ∀ i, args = [i] → s.coChannel n.val = true → i.toNat < 16 →
      let r := seSec 0x13 i.toNat 0 (cfgPublish (0x300 + 4 * i.toNat) 4 0 p)
      ∃ t, exec (.keyRetire n) s = .next t ∧ answered t s n.val d h rest (if r.1 = 0 then stOk else stFailed) (if r.1 = 0 then [] else [r.1]) ∧
        t.sec = r.2.sec) ∧
    (h.toNat % 256 = 0x18 → s.mbLevel n.val (1 - d) + 4 < 8 →
      let r := seSec 0x10 0 0 p
      ∃ t, exec (.coChallenge n) s = .next t ∧ t.sec = r.2.sec ∧ answered t s n.val d h rest (if r.1 = 0 then stOk else stFailed)
        (if r.1 = 0 then (List.range 4).map (fun j => r.2.rv (Reg.SEC_CHAL + 4 * j)) else [r.1]))) ∧
  (∀ (n : Fin 12) (d : Nat) (s : State) (h : Word) (ws : List Word), s.fwDir n.val = some d → (s.mbDir n.val d).q = some h :: ws.map some →
    ws.length < h.toNat / 2 ^ 16 % 8 → ∃ t, exec (.cutMessage n) s = .next t ∧ (t.mbDir n.val d).q = [] ∧ t.se.cut = s.se.cut + 1) ∧
  (∀ (c : Fin 4) (d : Nat) (s : State), s.fwDir (12 + c.val) = some d → s.mbGo (12 + c.val) d = true → s.mbGo (12 + c.val) (1 - d) = false →
    Tbl.get (fun _ => []) s.se.resp (12 + c.val) = [] → s.fwMsg (12 + c.val) = none → s.rv (Reg.CTL (12 + c.val) d) % 8 = 7 →
    let n := 12 + c.val
    let ctl := s.rv (Reg.CTL n d)
    let l := s.blkOctets n d
    let p := (mbRelease n d s).setFwMsg n none
    (∀ x ∈ [(Instr.ptpDataset c, 0x20, (⟨stOk, [], { p with se := { p.se with ptp := l } }⟩ : BAns)),
        (Instr.keyLoad c, 0x10, doKeyLoad n (ctl / 2 ^ 24 % 256) l p), (Instr.cookieMint c, 0x13, doMint (ctl / 2 ^ 24 % 256) l p),
        (Instr.coResponse c, 0x19, doResponse n l p)], ctl / 2 ^ 16 % 256 = x.2.1 →
      ∃ t, exec x.1 s = .next t ∧ t.mbGo n d = false ∧ t.mbGo n (1 - d) = true ∧ t.sec = x.2.2.s.sec ∧ t.se.ptp = x.2.2.s.se.ptp ∧
        t.rv (Reg.CTL n (1 - d)) = 3 + (if x.2.2.octets.length ≤ 64 then 4 else 0) + ctl / 2 ^ 8 % 256 * 2 ^ 8 + x.2.1 * 2 ^ 16 + x.2.2.st * 2 ^ 24))

/-- With the block on: BOOT in LOADING makes the SE VERIFYING and clears FW_REJ, and is counted as refused elsewhere; RESTART from LOADING, RUNNING, HALTED or FAILED makes it ROM_TEST with an empty return stack and no trap, and is refused while whistled. When the tests' results are known, ROM_TEST becomes LOADING where they passed and FAILED where not. When the checks of the firmware end, an accepted image makes the SE RUNNING at its entry with its versions shown, a rejected one makes it LOADING with its code in FW_REJ. A word written to the window lands in the staging area in LOADING and moves the window on, and is discarded with a LOCKED_WRITE message elsewhere. (R382, R383, R384, R385, R386, R406, R464.) Completes: boot, seRestart, romTestDone, firmwareVerifyDone, fwWinDataWrite. -/
def Obligations.SupervisorBoot : Prop :=
  (∀ (m : Master) (s : State), s.blockOn 10 = true →
    (s.seState = 2 → ∃ t, exec (.boot m) s = .next t ∧ t.seState = 3 ∧ t.reg Reg.FW_REJ = 0 ∧ t.se.booter = m.id ∧
      t.reg Reg.SE_EVT = s.reg Reg.SE_EVT + 1) ∧
    (s.seState ≠ 2 → ∃ t, exec (.boot m) s = .next t ∧ t.sameBut (s.bump16 Reg.SE_CMD_REF)) ∧
    (s.wHeld 6 0 = true → ∃ t, exec (.seRestart m) s = .next t ∧ t.sameBut (s.bump16 Reg.SE_CMD_REF)) ∧
    (s.wHeld 6 0 = false → s.seState = 2 ∨ s.seState = 4 ∨ s.seState = 5 ∨ s.seState = 6 →
      ∃ t, exec (.seRestart m) s = .next t ∧ t.seState = 1 ∧ t.se.stack = [] ∧ t.flag F.SE_STATUS_TRAP_ACTIVE = false ∧
        t.flag F.SE_STATUS_DOUBLE_TRAP = false ∧ t.flag F.SEC_STATUS_CO_ACTIVE = false)) ∧
  (∀ (f : BitVec 8) (s : State), s.blockOn 10 = true → s.flag F.NVS_STATUS_READY = true → s.seState = 1 →
    (s.flag F.SELFTEST_DONE = true → ∃ t, exec (.romTestDone f) s = .next t ∧
      t.seState = (if s.flag F.SELFTEST_PASS then 2 else 6) ∧ t.reg Reg.SE_EVT = s.reg Reg.SE_EVT + 1 ∧
      (s.flag F.SELFTEST_PASS = true → ∀ a, 0x10000 ≤ a → (t.eng_ 6).data.byte a = 0)) ∧
    (s.flag F.SELFTEST_DONE = false → s.flag F.SEC_STATUS_ST_RUNNING = true → ∃ t, exec (.romTestDone f) s = .next t ∧
      t.flag F.SELFTEST_DONE = true ∧ t.flag F.SELFTEST_PASS = decide (f = 0) ∧ t.flag F.SEC_STATUS_ST_RUNNING = false ∧
      t.seState = (if f = 0 then 2 else 6))) ∧
  (∀ (ue : Bool) (s : State), s.blockOn 10 = true → s.seState = 3 →
    ∃ t, exec (.firmwareVerifyDone ue) s = .next t ∧ t.reg Reg.SE_EVT = s.reg Reg.SE_EVT + 1 ∧
      match s.fwCheck ue with
      | none => t.seState = 4 ∧ t.se.pc = s.fw 0x28 4 ∧ t.rv Reg.FW_VERSION = s.fw 0x14 4 % 2 ^ 32 ∧ t.rv Reg.FW_SECVER = s.fw 0x10 4 % 2 ^ 32 ∧
          t.se.code = Memory.setBytes [] 0 ((s.eng_ 6).data.bytes (0x10000 + s.fw 0x18 4) (s.fw 0x1c 4))
      | some c => t.seState = 2 ∧ t.rv Reg.FW_REJ = (c + 2 ^ 31) % 2 ^ 32 ∧ t.eng = s.eng) ∧
  (∀ (v : Word) (s : State), s.blockOn 10 = true →
    (s.seState = 2 → ∃ t, exec (.fwWinDataWrite v) s = .next t ∧ (t.eng_ 6).data = (s.eng_ 6).data.setBytes s.fwWin (leBytes 4 v.toNat) ∧
      t.rv Reg.FW_WIN_ADDR = (s.fwWin + 4) % 2 ^ 18 ∧ t.onlyRegs { s with eng := t.eng } [Reg.FW_WIN_ADDR]) ∧
    (s.seState ≠ 2 → ∃ t, exec (.fwWinDataWrite v) s = .next t ∧ t.flt = (s.sendFault srcSe kLockedWrite s.fwWin).flt ∧
      t.rv Reg.FW_WIN_ADDR = (s.fwWin + 4) % 2 ^ 18 ∧ t.onlyRegs { s with flt := t.flt } [Reg.FW_WIN_ADDR]))

/-- A master on the bus, whose access is granted: a side of a queue channel whose other side is on posts a word behind the others and counts IN, or counts MB_OVERRUN where eight wait; takes the oldest word, or zero from an empty queue; an access by a master that is no side counts MB_FOREIGN and one whose other side is off counts OFF_CNT, and neither changes the channel. On a block channel a side writes its control word, which posts the block where GO is 1, or counts MB_OVERRUN while its block is posted; the receiver's release clears GO and counts EMPTY where no further answer waits. The SE binds an unbound channel to a valid pair; an invalid one counts BIND_REF, a bound channel sends LOCKED_WRITE and a host's write changes nothing. Two directions that both have held content for more than 1 ms cross: CROSSED is 1 and is counted. (R389, R390, R391, R392, R393, R396, R400, R407.) Completes: mailboxPost, mailboxTake, blockPost, blockRelease, mbBindWrite, mailboxCrossed. -/
def Obligations.MailboxChannels : Prop :=
  (∀ (m : Master) (n : Fin 12) (v : Word) (s : State), s.sends m →
    (∀ d, d < 2 → s.mbAccess n.val m.id = .side d →
      (s.mbLevel n.val d < 8 → ∃ t, exec (.mailboxPost m n v) s = .next t ∧ (t.mbDir n.val d).q = (s.mbDir n.val d).q ++ [some v] ∧
        t.mbDir n.val (1 - d) = s.mbDir n.val (1 - d) ∧ t.reg (Reg.MB_IN n.val d) = s.reg (Reg.MB_IN n.val d) + 1) ∧
      (8 ≤ s.mbLevel n.val d → ∃ t, exec (.mailboxPost m n v) s = .next t ∧ t.sameBut ((s.tlp m 1).bump16 (Reg.MB_OVERRUN n.val)))) ∧
    (s.mbAccess n.val m.id = .foreign → ∃ t, exec (.mailboxPost m n v) s = .next t ∧ t.sameBut ((s.tlp m 1).bump16 Reg.MB_FOREIGN)) ∧
    (s.mbAccess n.val m.id = .off → ∃ t, exec (.mailboxPost m n v) s = .next t ∧ t.mb = s.mb ∧
      t.onlyRegs { s.tlp m 1 with flt := t.flt } [Reg.OFF_CNT n.val])) ∧
  (∀ (m : Master) (n : Fin 12) (s : State), s.masterOn m = true → s.tlpOk m 2 = true →
    (∀ d, d < 2 → s.mbAccess n.val m.id = .side d →
      (∀ w rest, (s.mbDir n.val (1 - d)).q = some w :: rest →
        ∃ t, exec (.mailboxTake m n) s = .next t ∧ t.bus.reply = ⟨.ok, [w]⟩ ∧ (t.mbDir n.val (1 - d)).q = rest ∧
          t.reg (Reg.MB_EMPTY n.val (1 - d)) = s.reg (Reg.MB_EMPTY n.val (1 - d)) + (if rest = [] then 1 else 0)) ∧
      ((s.mbDir n.val (1 - d)).q = [] → ∃ t, exec (.mailboxTake m n) s = .next t ∧ t.bus.reply = ⟨.ok, [0]⟩ ∧ t.sameBut { s.tlp m 2 with bus := t.bus }))) ∧
  (∀ (m : Master) (c : Fin 4) (v : Word) (s : State) (d : Nat), s.sends m → d < 2 → s.mbAccess (12 + c.val) m.id = .side d →
    (s.mbGo (12 + c.val) d = false → ∃ t, exec (.blockPost m c v) s = .next t ∧ t.reg (Reg.CTL (12 + c.val) d) = v ∧
      t.reg (Reg.MB_IN (12 + c.val) d) = s.reg (Reg.MB_IN (12 + c.val) d) + (if v.getLsbD 0 then 1 else 0)) ∧
    (s.mbGo (12 + c.val) d = true → ∃ t, exec (.blockPost m c v) s = .next t ∧ t.sameBut ((s.tlp m 1).bump16 (Reg.MB_OVERRUN (12 + c.val)))) ∧
    (s.mbGo (12 + c.val) (1 - d) = true → Tbl.get (fun _ => []) s.se.resp (12 + c.val) = [] →
      ∃ t, exec (.blockRelease m c) s = .next t ∧ t.mbGo (12 + c.val) (1 - d) = false ∧
        t.reg (Reg.MB_EMPTY (12 + c.val) (1 - d)) = s.reg (Reg.MB_EMPTY (12 + c.val) (1 - d)) + 1)) ∧
  (∀ (n : Fin 16) (v : Word) (s : State), s.sends .se →
    (s.mbBound n.val = false → s.bindOk n.val (v.toNat % 256) (v.toNat / 256 % 256) = true →
      ∃ t, exec (.mbBindWrite .se n v) s = .next t ∧ t.rv (Reg.MB_BIND n.val) = v.toNat % 65536 + 2 ^ 31 ∧ t.mbBound n.val = true ∧
        ∀ x, x ≠ Reg.MB_BIND n.val → t.reg x = s.reg x) ∧
    (s.mbBound n.val = false → s.bindOk n.val (v.toNat % 256) (v.toNat / 256 % 256) = false →
      ∃ t, exec (.mbBindWrite .se n v) s = .next t ∧ t.sameBut (s.bump16 Reg.BIND_REF)) ∧
    (s.mbBound n.val = true → ∃ t, exec (.mbBindWrite .se n v) s = .next t ∧ t.sameBut (s.sendFault srcHostDecode kLockedWrite (Reg.MB_BIND n.val))) ∧
    (∀ m, m ≠ .se → s.sends m → ∃ t, exec (.mbBindWrite m n v) s = .next t ∧ t.sameBut (s.tlp m 1))) ∧
  (∀ (n : Fin 16) (s : State), s.hostOn = true →
    (s.mbFull n.val 0 = true → s.mbFull n.val 1 = true → 10 ^ 9 < s.now - max (s.mbDir n.val 0).since (s.mbDir n.val 1).since →
      s.flag (F.MB_CROSSED n.val) = false →
      ∃ t, exec (.mailboxCrossed n) s = .next t ∧ t.flag (F.MB_CROSSED n.val) = true ∧ t.mb = s.mb ∧
        t.fld ⟨Reg.CROSSED_CNT n.val, 0, 16⟩ = min (s.fld ⟨Reg.CROSSED_CNT n.val, 0, 16⟩ + 1) 65535))

/-- The owner's START on an idle, unheld, unhalted channel with the link in L0 makes it FETCHING with PROGRESS and RESULT 0; without the link it is refused with RESULT NO_LINK and counted as done; on a channel that is not idle, held or halted it is counted as refused; another master's is counted as foreign. ABORT ends a transfer with RESULT ABORTED and does nothing on an idle channel. The list's checks passed make the channel MOVING with its entries, failed they end it with their RESULT. A burst of the arbiter's channel moves the bytes up to the entry's end or the 256-byte boundary between host memory and the hamper, adds them to PROGRESS and ends the transfer as DONE with its last; a space that is not reachable ends it with DEV_ERROR. A halt, by a failed request or a completion timeout, sets HALTED, the tags and the address, counts, and ends every transfer with RESULT HALTED; its clearing waits for the tags. Only the SE changes an owner, while the channel is idle. A burst whose TLPs, or whose own operation, the governor does not grant stalls that block and is given again. (R39, R40, R414, R415, R418, R419, R420, R421, R422, R424, R425.) Completes: dmaStart, dmaAbort, dmaListCheck, dmaBurst, dmaHalt, completionTimeout, dmaHaltClr, dmaOwnerWrite. -/
def Obligations.DmaTransfers : Prop :=
  let stRegs := fun (c : Nat) => [Reg.DMA_STATUS c, Reg.DMA_PROGRESS c]
  (∀ (m : Master) (c : Fin 8) (s : State), s.sends m →
    (s.rv (Reg.DMA_OWNER c.val) ≠ m.id → (∃ t, exec (.dmaStart m c) s = .next t ∧ t.sameBut ((s.tlp m 1).bump16 Reg.DMA_FOREIGN)) ∧
      (∃ t, exec (.dmaAbort m c) s = .next t ∧ t.sameBut ((s.tlp m 1).bump16 Reg.DMA_FOREIGN))) ∧
    (s.rv (Reg.DMA_OWNER c.val) = m.id →
      (s.dmaState c.val = 0 → s.flag F.DMA_HALT_HALTED = false → s.wHeld 5 c.val = false →
        (s.irq.linkL0 = true → ∃ t, exec (.dmaStart m c) s = .next t ∧ t.dmaState c.val = 1 ∧ t.rv (Reg.DMA_PROGRESS c.val) = 0 ∧
          t.fld (F.DMA_STATUS_RESULT c.val) = 0 ∧ t.dmaCh c.val = .reset ∧ t.onlyRegs { s.tlp m 1 with dma := t.dma } (stRegs c.val)) ∧
        (s.irq.linkL0 = false → ∃ t, exec (.dmaStart m c) s = .next t ∧ t.dmaState c.val = 0 ∧ t.fld (F.DMA_STATUS_RESULT c.val) = dNoLink ∧
          t.reg (Reg.DONE_EVT c.val) = s.reg (Reg.DONE_EVT c.val) + 1 ∧
          t.fld ⟨Reg.DMA_CMD_REF, 0, 16⟩ = min (s.fld ⟨Reg.DMA_CMD_REF, 0, 16⟩ + 1) 65535 ∧
          t.onlyRegs (s.tlp m 1) [Reg.DMA_STATUS c.val, Reg.DONE_EVT c.val, Reg.DMA_CMD_REF])) ∧
      (s.dmaState c.val ≠ 0 ∨ s.flag F.DMA_HALT_HALTED = true ∨ s.wHeld 5 c.val = true →
        ∃ t, exec (.dmaStart m c) s = .next t ∧ t.sameBut ((s.tlp m 1).bump16 Reg.DMA_CMD_REF)) ∧
      (s.dmaState c.val ≠ 0 → ∃ t, exec (.dmaAbort m c) s = .next t ∧ t.dmaState c.val = 0 ∧ t.fld (F.DMA_STATUS_RESULT c.val) = dAborted ∧
        t.reg (Reg.DONE_EVT c.val) = s.reg (Reg.DONE_EVT c.val) + 1 ∧ t.onlyRegs (s.tlp m 1) [Reg.DMA_STATUS c.val, Reg.DONE_EVT c.val]) ∧
      (s.dmaState c.val = 0 → ∃ t, exec (.dmaAbort m c) s = .next t ∧ t.sameBut (s.tlp m 1)))) ∧
  (∀ (c : Fin 8) (l : List (Nat × Nat × Nat)) (b0 b2 b4 : Nat) (s : State), s.hostOn = true → s.dmaState c.val = 1 →
    let bank := if s.dmaWrites c.val then s.fld F.ITIN_CTRL_LOAD_BANK else s.fld (F.DMA_CFG_BANK c.val)
    let l' := l.take (s.rv (Reg.DMA_LIST_CNT c.val))
    ∃ t, exec (.dmaListCheck c l b0 b2 b4) s = .next t ∧ (∀ x ∉ [Reg.DMA_STATUS c.val, Reg.DONE_EVT c.val], t.reg x = s.reg x) ∧
      match dmaCheck c.val bank l' b0 b2 b4 s with
      | none => t.dmaState c.val = 2 ∧ t.dmaCh c.val = ⟨l'.map (fun e => (e.1, e.2.1)), 0, 0, bank, false⟩ ∧ t.flt = s.flt
      | some f => t.dmaState c.val = 0 ∧ t.fld (F.DMA_STATUS_RESULT c.val) = f.result % 16 ∧ t.dma = s.dma ∧
          t.reg (Reg.DONE_EVT c.val) = s.reg (Reg.DONE_EVT c.val) + 1 ∧ t.flt = (dmaFault c.val f s).flt) ∧
  (∀ (data : List Byte) (s : State) (c host len : Nat), s.hostOn = true → s.dmaPick = some c →
    (s.dmaCh c).entries[(s.dmaCh c).ent]? = some (host, len) →
    let h := host + (s.dmaCh c).off
    let n := min (len - (s.dmaCh c).off) (256 - h % 256)
    let dev := s.rv (Reg.DMA_DEV_ADDR c) + s.rv (Reg.DMA_PROGRESS c)
    let full := (s.dmaCh c).off + n = len
    (s.dmaReach (s.dmaSpace c) = false → ∃ t, exec (.dmaBurst data) s = .next t ∧ t.dmaState c = 0 ∧ t.fld (F.DMA_STATUS_RESULT c) = dDevError ∧
      t.fab.mem = s.fab.mem ∧ t.reg (Reg.DMA_PROGRESS c) = s.reg (Reg.DMA_PROGRESS c)) ∧
    (s.dmaReach (s.dmaSpace c) = true → s.govGrants 2 (s.burstTlps c * tlpCharge) = false →
      ∃ t, exec (.dmaBurst data) s = .next t ∧ t.sameBut (govStall 2 s)) ∧
    (s.dmaReach (s.dmaSpace c) = true → s.govGrants 2 (s.burstTlps c * tlpCharge) = true → s.govGrants 1 9600000 = false →
      ∃ t, exec (.dmaBurst data) s = .next t ∧ t.sameBut (govStall 1 s)) ∧
    (s.dmaReach (s.dmaSpace c) = true → s.govGrants 2 (s.burstTlps c * tlpCharge) = true → s.govGrants 1 9600000 = true → s.dmaSpace c = 0 →
      ∃ t, exec (.dmaBurst data) s = .next t ∧ t.rv (Reg.DMA_PROGRESS c) = (s.rv (Reg.DMA_PROGRESS c) + n) % 2 ^ 32 ∧ t.dma.last = c ∧
        t.quant Reg.DMA_BURSTS 2 = (s.quant Reg.DMA_BURSTS 2 + 1) % 2 ^ 48 ∧
        (s.dmaWrites c = true → t.fab.mem = s.fab.mem.setBytes dev (data.take n ++ List.replicate (n - data.length) 0)) ∧
        (s.dmaWrites c = false → t.fab.mem = s.fab.mem ∧ .hostWrite h (s.fab.mem.bytes dev n) (s.flag (F.DMA_CFG_NOSNOOP c)) ∈ t.out) ∧
        (full → (s.dmaCh c).entries.length ≤ (s.dmaCh c).ent + 1 → t.dmaState c = 0 ∧ t.fld (F.DMA_STATUS_RESULT c) = dDone) ∧
        (full → (s.dmaCh c).ent + 1 < (s.dmaCh c).entries.length → t.dmaState c = 2 ∧ (t.dmaCh c).ent = (s.dmaCh c).ent + 1 ∧ (t.dmaCh c).off = 0) ∧
        (¬ full → t.dmaState c = 2 ∧ (t.dmaCh c).ent = (s.dmaCh c).ent ∧ (t.dmaCh c).off = (s.dmaCh c).off + n))) ∧
  (∀ (cause : Fin 7) (tag : BitVec 8) (addr : DWord) (tags : Fin 17) (s : State), s.hostOn = true →
    ∀ x ∈ [(Instr.dmaHalt cause tag addr tags, cause.val), (Instr.completionTimeout tag addr tags, 5)],
      ∃ t, exec x.1 s = .next t ∧ t.flag F.DMA_HALT_HALTED = true ∧ t.fld F.DMA_HALT_TAGS = min 15 tags.val ∧
        t.quant Reg.DMA_HALT_ADDR 2 = addr.toNat ∧ t.reg Reg.HALT_EVT = s.reg Reg.HALT_EVT + 1 ∧
        t.flt = (s.sendFault srcDma kDmaBusError (tag.toNat + x.2 * 256)).flt ∧
        ∀ c, c < 8 → t.dmaState c = 0 ∧ t.reg (Reg.DMA_PROGRESS c) = s.reg (Reg.DMA_PROGRESS c) ∧
          (s.dmaState c ≠ 0 → t.fld (F.DMA_STATUS_RESULT c) = dHalted ∧ t.reg (Reg.DONE_EVT c) = s.reg (Reg.DONE_EVT c) + 1)) ∧
  (∀ (s : State), s.hostOn = true →
    (s.dmaTags = 0 → ∃ t, exec .dmaHaltClr s = .next t ∧ t.flag F.DMA_HALT_HALTED = false ∧ t.onlyRegs s [Reg.DMA_HALT]) ∧
    (s.dmaTags ≠ 0 → ∃ t, exec .dmaHaltClr s = .next t ∧ t.sameBut (s.bump16 Reg.DMA_CMD_REF))) ∧
  (∀ (m : Master) (c : Fin 8) (v : Word) (s : State), s.sends m →
    (m.id ≠ 4 → ∃ t, exec (.dmaOwnerWrite m c v) s = .next t ∧ t.sameBut (s.tlp m 1)) ∧
    (m.id = 4 → s.dmaState c.val = 0 → ∃ t, exec (.dmaOwnerWrite m c v) s = .next t ∧ t.rv (Reg.DMA_OWNER c.val) = v.toNat % 256 ∧
      t.onlyRegs (s.tlp m 1) [Reg.DMA_OWNER c.val]) ∧
    (m.id = 4 → s.dmaState c.val ≠ 0 → ∃ t, exec (.dmaOwnerWrite m c v) s = .next t ∧ t.sameBut ((s.tlp m 1).bump16 Reg.DMA_CMD_REF)))

/-- Out of reset IDCODE completes, and the data register it selects reads 0x2924_0BC7, whose fields are version 0x2 in [31:28], part number 0x9240 in [27:12], manufacturer code 0x5E3 in [11:1] and 1 in [0]. (R549.) Completes: idcode. -/
def Obligations.IdentificationRegister : Prop :=
  ∀ (s : State), s.inReset = false → ∃ t, exec .idcode s = .next t ∧ t.tst.dr = 0x29240bc7 ∧ t.tst.dr / 2 ^ 28 % 2 ^ 4 = 0x2 ∧
    t.tst.dr / 2 ^ 12 % 2 ^ 16 = 0x9240 ∧ t.tst.dr / 2 % 2 ^ 11 = 0x5e3 ∧ t.tst.dr % 2 = 1

/-- A selection is stored; in Maintenance a change then waits for the old signal's low phase, or takes effect at once where that is a level or the pin is in its hold, which it restarts, and the other pins stay. At the low phase the selection takes effect and the pin is held low, and 20 ns later it is shown. The meter of a comparator selection keeps whether its last 10 µs lie within the pin's limit. Out of reset the TAP loads each instruction: its code is in force, or BYPASS where it is not open; EXT shows with EXTEST, CLAMP and HIGHZ, and the TMUX and TRIG pins then show their cells. Else a TMUX pin is low outside Maintenance, in its hold and while too fast, and shows a level selection as it is, complemented with INV. A boundary scan captures the cells and takes the word shifted in while the instruction is in force, and leaves the register as it is while it acts as BYPASS. Test-Logic-Reset selects IDCODE. Only the test part changes. (R542, R543, R544, R545, R548, R549, R550, R551.) Completes: tmuxSelWrite, tmuxSwitch, tmuxMeter, samplePreload, extest, clamp, highz, bypass, testLogicReset. -/
def Obligations.TestAccessCommands : Prop :=
  let onlyTst := fun (t s : State) => t.sameBut { s with tst := t.tst }
  (∀ (m : Master) (k : Fin 4) (v : Word) (s : State), s.hears m →
    ∃ t, exec (.tmuxSelWrite m k v) s = .next t ∧ t.rv (Reg.TMUX_SEL k.val) = v.toNat % 2 ^ 13 ∧
      t.onlyRegs { s.tlp m 1 with tst := t.tst } [Reg.TMUX_SEL k.val] ∧ (∀ j, j ≠ k.val → t.tmux j = s.tmux j) ∧
      (s.flag F.SEC_STATUS_MAINT = false → t.tst = s.tst) ∧
      (s.flag F.SEC_STATUS_MAINT = true → (s.tmux k.val).phase = 2 ∨ ((s.tmux k.val).sel ≠ v.toNat % 2 ^ 13 ∧ isLevel ((s.tmux k.val).sel % 256) = true) →
        t.tmux k.val = ⟨v.toNat % 2 ^ 13, 2, none⟩) ∧
      (s.flag F.SEC_STATUS_MAINT = true → (s.tmux k.val).phase ≠ 2 → (s.tmux k.val).sel = v.toNat % 2 ^ 13 ∨ isLevel ((s.tmux k.val).sel % 256) = false →
        t.tmux k.val = { s.tmux k.val with phase := if (s.tmux k.val).sel = v.toNat % 2 ^ 13 then 0 else 1 })) ∧
  (∀ (k : Fin 4) (s : State),
    ((s.tmux k.val).phase = 1 → ∃ t, exec (.tmuxSwitch k) s = .next t ∧ onlyTst t s ∧
      t.tmux k.val = ⟨s.rv (Reg.TMUX_SEL k.val) % 2 ^ 13, 2, none⟩ ∧ t.tmuxLow k.val = true) ∧
    ((s.tmux k.val).phase = 2 → ∃ t, exec (.tmuxSwitch k) s = .next t ∧ onlyTst t s ∧ t.tmux k.val = { s.tmux k.val with phase := 0 }) ∧
    ((s.tmux k.val).phase = 0 → ∃ t, exec (.tmuxSwitch k) s = .next t ∧ t.sameBut s) ∧
    (∀ edges, s.tclkOn = true → s.flag F.SEC_STATUS_MAINT = true → isComparator ((s.tmux k.val).sel % 256) = true →
      ∃ t, exec (.tmuxMeter k edges) s = .next t ∧ onlyTst t s ∧ (∀ j, j ≠ k.val → t.tmux j = s.tmux j) ∧
        t.tmux k.val = { s.tmux k.val with metered := some (decide (edges * 100000 ≤ tmuxLimit)) } ∧
        t.tooFast k.val = decide (tmuxLimit < edges * 100000))) ∧
  (∀ (s : State), s.inReset = false →
    (∀ x ∈ [(Instr.idcode, 1, 0x29240bc7), (Instr.samplePreload none, 2, 0), (Instr.extest none, 3, 0), (Instr.clamp, 4, 0), (Instr.highz, 5, 0),
        (Instr.bypass, 0xff, 0)],
      ∃ t, exec x.1 s = .next t ∧ t.tst = { s.tst with inst := x.2.1, dr := x.2.2 } ∧ onlyTst t s ∧
        t.jtagInst = (if x.2.1 = 1 ∨ s.flag F.SEC_STATUS_MAINT = true then x.2.1 else 0xff) ∧
        t.jtagExt = (s.flag F.SEC_STATUS_MAINT && decide (3 ≤ x.2.1 ∧ x.2.1 ≤ 5))) ∧
    (∀ pins load, ∀ x ∈ [(Instr.samplePreload (some (pins, load)), 2), (Instr.extest (some (pins, load)), 3)],
      (s.flag F.SEC_STATUS_MAINT = true → ∃ t, exec x.1 s = .next t ∧ onlyTst t s ∧
        t.tst = { s.tst with inst := x.2, dr := pins.toNat, bound := load.toNat }) ∧
      (s.flag F.SEC_STATUS_MAINT = false → ∃ t, exec x.1 s = .next t ∧ onlyTst t s ∧ t.tst = { s.tst with inst := x.2, dr := 0 }))) ∧
  (∀ (s : State), ∃ t, exec .testLogicReset s = .next t ∧ onlyTst t s ∧ t.tst = { s.tst with inst := 1, dr := 0x29240bc7 } ∧ t.jtagInst = 1 ∧
    t.jtagExt = false) ∧
  (∀ (s : State) (k : Nat), k < 4 →
    (s.jtagExt = true → s.tmuxPin k = s.extBall (27 + 2 * k) ∧ s.trigPin k = s.extBall (19 + 2 * k)) ∧
    (s.jtagExt = false → (s.flag F.SEC_STATUS_MAINT = false ∨ s.inReset = true ∨ (s.tmux k).phase = 2 ∨ s.tooFast k = true → s.tmuxPin k = .low) ∧
      (s.flag F.SEC_STATUS_MAINT = true → s.inReset = false → (s.tmux k).phase ≠ 2 → isLevel ((s.tmux k).sel % 256) = true →
        s.tmuxPin k = if xor (s.tmuxLevel ((s.tmux k).sel % 256)) ((s.tmux k).sel.testBit 12) then .high else .low)))

/-- While the store is up: a read of the window drains its master's buffered words, then returns the four bytes at NVS_ADDR and moves on where the stream's region is readable and holds them, and is refused and counted elsewhere; a write to an open region enters the buffer and moves on, is refused with LOCKED_WRITE elsewhere, counted as refused once the stream has stopped, and answered by BUSY_WRITE while sixteen words wait; a new address starts a stream. Draining writes the oldest word's selected bytes up to the end of its region, which stops the stream with NVS_REGION_END. A matching password opens access for its master and clears the failures; a wrong one counts and is reported, and the eighth locks the region and closes it to all; a locked region refuses. Closing ends the master's access; a new password, set by a master with write access, ends every other's of that kind. Power failure discards the buffer and what is in progress, completes the bytes of them whose writes have started, whose number is open (on a board that fails R444 the last of them is open too), writes no other byte and leaves the store down. (R431, R433, R434, R435, R438, R439, R440, R442, R443.) Completes: nvsRdataRead, nvsWdataWrite, nvsAddrWrite, nvsBufferDrain, openRead, openWrite, close, setReadPw, setWritePw, powerFail. -/
def Obligations.NvsWindowAndPasswords : Prop :=
  let pwTbl := fun (s : State) (m r k : Nat) => Tbl.get (fun _ => false) s.nvs.opened (8 * m + 2 * r + k)
  (∀ (m : Master) (s : State), s.reaches m 2 → s.nvsUp = true →
    let u := nvsDrainOf m.id 16 (s.tlp m 2)
    let b := u.nvsBank m.id
    (u.nvsMayRead m.id b.start = true → b.addr + 4 ≤ nvsEnd (nvsRegion b.start) → ∃ t, exec (.nvsRdataRead m) s = .next t ∧
      t.bus.reply = ⟨.ok, [BitVec.ofNat 32 (u.nvs.mem.le b.addr 4)]⟩ ∧ t.nvsBank m.id = { b with addr := b.addr + 4 } ∧ t.nvs.mem = u.nvs.mem) ∧
    (u.nvsMayRead m.id b.start = false ∨ nvsEnd (nvsRegion b.start) < b.addr + 4 → ∃ t, exec (.nvsRdataRead m) s = .next t ∧
      t.bus.reply = ⟨if m = .hostPcie then .completerAbort else .refused, []⟩ ∧ t.nvsBank m.id = b ∧ t.nvs.mem = u.nvs.mem ∧
      t.fld ⟨Reg.NVS_REFUSED, 0, 16⟩ = min (u.fld ⟨Reg.NVS_REFUSED, 0, 16⟩ + 1) 65535)) ∧
  (∀ (m : Master) (v : Word) (s0 : State), s0.hears m → s0.nvsUp = true →
    let s := s0.tlp m 1
    let b := s.nvsBank m.id
    (16 ≤ s.nvs.buf.length → ∃ t, exec (.nvsWdataWrite m v) s0 = .next t ∧ t.sameBut (s.sendFault srcHostDecode kBusyWrite Reg.NVS_WDATA)) ∧
    (s.nvs.buf.length < 16 → b.stopped = true → ∃ t, exec (.nvsWdataWrite m v) s0 = .next t ∧ t.sameBut (s.bump16 Reg.NVS_REFUSED)) ∧
    (s.nvs.buf.length < 16 → b.stopped = false → s.nvsMayWrite m.id b.start = false → ∃ t, exec (.nvsWdataWrite m v) s0 = .next t ∧
      t.sameBut ((s.bump16 Reg.NVS_REFUSED).sendFault srcNvs kLockedWrite (b.addr % 2 ^ 18 + 2 ^ 20))) ∧
    (s.nvs.buf.length < 16 → b.stopped = false → s.nvsMayWrite m.id b.start = true → ∃ t, exec (.nvsWdataWrite m v) s0 = .next t ∧
      t.nvs.buf = s.nvs.buf ++ [⟨m.id, b.addr, b.start, b.be, v⟩] ∧ t.nvsBank m.id = { b with addr := (b.addr + 4) % 2 ^ 18 } ∧
      t.nvs.mem = s.nvs.mem ∧ t.onlyRegs { s with nvs := t.nvs } [Reg.NVS_STATUS])) ∧
  (∀ (m : Master) (v : Word) (s : State), s.nvsUp = true → ∃ t, exec (.nvsAddrWrite m v) s = .next t ∧
    t.nvsBank m.id = { s.nvsBank m.id with addr := v.toNat % 2 ^ 18, start := v.toNat % 2 ^ 18, stopped := false } ∧
    (∀ j, j ≠ m.id → t.nvsBank j = s.nvsBank j) ∧ t.sameBut { s with nvs := { s.nvs with bank := t.nvs.bank } }) ∧
  (∀ (w : NvsWrite) (rest : List NvsWrite) (s : State), s.nvsUp = true → s.nvs.buf = w :: rest → (s.nvsBank w.master).stopped = false →
    let e := nvsEnd (nvsRegion w.start)
    ∃ t, exec .nvsBufferDrain s = .next t ∧ t.nvs.buf = rest ∧
      (∀ a, t.nvs.mem.byte a = (((laneBytes w).find? (fun x => x.1 == a && decide (x.1 < e))).map Prod.snd).getD (s.nvs.mem.byte a)) ∧
      ((laneBytes w).any (fun x => decide (e ≤ x.1)) = true → (t.nvsBank w.master).stopped = true ∧
        t.reg Reg.NVS_EVT = s.reg Reg.NVS_EVT + 1 ∧ t.flt = (s.sendFault srcNvs kNvsRegionEnd (e % 2 ^ 18 + w.master % 16 * 2 ^ 20)).flt) ∧
      ((laneBytes w).any (fun x => decide (e ≤ x.1)) = false → t.nvs.bank = s.nvs.bank ∧ t.flt = s.flt)) ∧
  (∀ (m : Master) (r : Fin 2) (s : State), s.nvsUp = true →
    (∀ x ∈ [(Instr.openRead m r, 0), (Instr.openWrite m r, 1)],
      (Tbl.get (fun _ => false) s.nvs.locked r.val = true → ∃ t, exec x.1 s = .next t ∧ t.sameBut (s.bump16 Reg.NVS_REFUSED)) ∧
      (Tbl.get (fun _ => false) s.nvs.locked r.val = false → (s.nvsBank m.id).pw = s.nvsPw r.val x.2 → ∃ t, exec x.1 s = .next t ∧
        t.nvsOpen m.id r.val x.2 = true ∧ Tbl.get (fun _ => 0) t.nvs.fails r.val = 0 ∧ t.fld ⟨Reg.NVS_PW_FAIL, 4 * r.val, 4⟩ = 0 ∧
        t.nvs.mem = s.nvs.mem ∧ t.flt = s.flt) ∧
      (Tbl.get (fun _ => false) s.nvs.locked r.val = false → (s.nvsBank m.id).pw ≠ s.nvsPw r.val x.2 →
        let n := Tbl.get (fun _ => 0) s.nvs.fails r.val + 1
        ∃ t, exec x.1 s = .next t ∧ Tbl.get (fun _ => 0) t.nvs.fails r.val = n ∧ t.fld ⟨Reg.NVS_PW_FAIL, 4 * r.val, 4⟩ = n % 16 ∧
          t.flt = (s.sendFault srcNvs kNvsPassword (r.val + 2 * x.2 + 16 * (n % 16) + 256 * (m.id % 16))).flt ∧
          (n < 8 → t.nvs.opened = s.nvs.opened ∧ t.nvs.locked = s.nvs.locked) ∧
          (8 ≤ n → Tbl.get (fun _ => false) t.nvs.locked r.val = true ∧ (∀ j k, k < 2 → pwTbl t j r.val k = false) ∧
            t.flag ⟨Reg.NVS_STATUS, 8 + r.val, 1⟩ = true ∧ t.reg Reg.NVS_EVT = s.reg Reg.NVS_EVT + 1))) ∧
    (∃ t, exec (.close m r) s = .next t ∧ pwTbl t m.id r.val 0 = false ∧ pwTbl t m.id r.val 1 = false ∧
      (∀ x, x ≠ 8 * m.id + 2 * r.val → x ≠ 8 * m.id + 2 * r.val + 1 → Tbl.get (fun _ => false) t.nvs.opened x =
        Tbl.get (fun _ => false) s.nvs.opened x) ∧ t.sameBut { s with nvs := { s.nvs with opened := t.nvs.opened } }) ∧
    (∀ x ∈ [(Instr.setReadPw m r, 0), (Instr.setWritePw m r, 1)],
      (s.nvsOpen m.id r.val 1 = false → ∃ t, exec x.1 s = .next t ∧ t.sameBut (s.bump16 Reg.NVS_REFUSED)) ∧
      (s.nvsOpen m.id r.val 1 = true → ∃ t, exec x.1 s = .next t ∧ t.nvsPw r.val x.2 = (s.nvsBank m.id).pw ∧
        (∀ j, j ≠ m.id → pwTbl t j r.val x.2 = false) ∧ pwTbl t m.id r.val x.2 = pwTbl s m.id r.val x.2 ∧ t.regs = s.regs ∧
        t.nvs.mem = s.nvs.mem ∧ ∀ j, j ≠ 2 * r.val + x.2 → Tbl.get (fun _ => 0) t.nvs.pw j = Tbl.get (fun _ => 0) s.nvs.pw j))) ∧
  (∀ s : State, s.blockOn 12 = true → let b := s.nvsBytes
    ∃ t w c l, exec .powerFail s = .next t ∧
    t.nvs = { s.nvs with buf := [], jobs := [], log := none, mem := (s.started w b.1 ++ s.started c b.2.1 ++ s.started l b.2.2).foldl (fun m x => m.setByte x.1 x.2) s.nvs.mem } ∧
    t.flag F.NVS_STATUS_PF = true ∧ t.nvsUp = false ∧ t.onlyRegs { s with nvs := t.nvs, free := t.free } [Reg.NVS_STATUS])

/-- While the store is up, an increment by the SE, or by a host of a counter from 32 on, starts by invalidating its target copy, queues behind one in progress, and is refused at the largest value, which sets SAT; any other is refused. Its end stores the value one higher with its commit byte, raises the shadow and starts the next; a commit whose target is reached ends, and one that is not makes a running SE increment again. An append invalidates the next page's flag byte, is refused while one runs, and its end stores the whole record, advances LOG_SEQ and LOG_OVERWRITES and counts; a record that firmware owes then starts. The recall's end settles every counter from its two copies, sets READY, clears RECALL and counts. (R441, R445, R446, R447, R448, R449, R471, R472.) Completes: counterIncrement, counterIncrementDone, logAppend, logAppendDone, recallDone. -/
def Obligations.NvsCountersAndLog : Prop :=
  (∀ (m : Master) (n : Fin 256) (s : State), s.nvsUp = true →
    let may := m.id ≤ 4 ∧ (n.val < 32 → m.id = 4)
    (¬ may → ∃ t, exec (.counterIncrement m n) s = .next t ∧ t.sameBut (s.bump16 Reg.NVS_REFUSED)) ∧
    (may → s.nvs.jobs = [] → s.ctr n.val ≠ 2 ^ 64 - 1 → ∃ t, exec (.counterIncrement m n) s = .next t ∧ t.sameBut { s with nvs := { s.nvs with
      jobs := [n.val], mem := s.nvs.mem.setByte (ctrAddr n.val + 16 * s.ctrTarget n.val + 8) 0 } }) ∧
    (may → s.nvs.jobs = [] → s.ctr n.val = 2 ^ 64 - 1 → ∃ t, exec (.counterIncrement m n) s = .next t ∧ t.nvs.jobs = [] ∧
      Tbl.get (fun _ => false) t.nvs.sat n.val = true ∧ t.nvs.mem = s.nvs.mem ∧ t.nvs.ctr = s.nvs.ctr ∧
      t.fld ⟨Reg.NVS_REFUSED, 0, 16⟩ = min (s.fld ⟨Reg.NVS_REFUSED, 0, 16⟩ + 1) 65535) ∧
    (may → s.nvs.jobs ≠ [] → ∃ t, exec (.counterIncrement m n) s = .next t ∧
      t.sameBut { s with nvs := { s.nvs with jobs := s.nvs.jobs ++ [n.val] } })) ∧
  (∀ (n : Nat) (s : State), s.blockOn 12 = true → s.nvs.jobs = [n] →
    let a := ctrAddr n + 16 * s.ctrTarget n
    let ctr := fun c => if c = n then s.ctr n + 1 else s.ctr c
    ∃ t, exec .counterIncrementDone s = .next t ∧ (∀ j, t.ctr j = ctr j) ∧
      ((∀ c g, s.sec.commit = some (c, g) → ctr c < g → s.seState ≠ 4) → t.nvs.jobs = [] ∧
        t.nvs.mem = (s.nvs.mem.setLe a 8 (s.ctr n + 1)).setByte (a + 8) 0x5a) ∧
      (∀ c g, s.sec.commit = some (c, g) → ctr c < g → s.seState = 4 → s.nvsUp = true → ctr c ≠ 2 ^ 64 - 1 → t.nvs.jobs = [c]) ∧
      (∀ g, s.sec.commit = some (n, g) → g ≤ s.ctr n + 1 → t.sec.commit = none ∧ t.flag F.SEC_STATUS_COMMIT_PEND = false) ∧
      (∀ g, s.sec.commit = some (n, g) → s.ctr n + 1 < g → t.sec.commit = s.sec.commit) ∧
      (n = 1 → ∀ b, b < 2 → s.bank b = 3 → s.rv (Reg.BANK_SECVER b) < s.ctr 1 + 1 → t.bank b = 4)) ∧
  (∀ (n j : Nat) (rest : List Nat) (s : State), s.blockOn 12 = true → s.nvs.jobs = n :: j :: rest → j ≠ n → s.ctr j ≠ 2 ^ 64 - 1 →
    ∃ t, exec .counterIncrementDone s = .next t ∧ t.ctr n = s.ctr n + 1 ∧ (j :: rest) <+: t.nvs.jobs ∧
      (s.sec.commit = none → t.nvs.jobs = j :: rest)) ∧
  (∀ (s : State), s.nvsUp = true →
    (s.nvs.log ≠ none → ∃ t, exec .logAppend s = .next t ∧ t.sameBut (s.bump16 Reg.NVS_REFUSED)) ∧
    (s.nvs.log = none → ∃ t, exec .logAppend s = .next t ∧ t.sameBut { s with nvs := { s.nvs with
      log := some ((List.range 13).flatMap (fun j => leBytes 4 (s.rv (Reg.LOG_BUF + 4 * j))))
      mem := s.nvs.mem.setByte (logPage (s.quant Reg.LOG_SEQ 2) + 6) 0 } })) ∧
  (∀ (pay : List Byte) (s : State), s.blockOn 12 = true → s.nvs.log = some pay →
    let q := s.quant Reg.LOG_SEQ 2
    let q1 := (q + 1) % 2 ^ 48
    (s.se.owed = 0 → ∃ t, exec .logAppendDone s = .next t ∧ t.nvs = { s.nvs with log := none, mem := s.nvs.mem.setBytes (logPage q) (logRecord q pay) } ∧
      t.quant Reg.LOG_SEQ 2 = q1 ∧ t.quant Reg.LOG_OVERWRITES 2 = q1 - 1280 ∧ t.reg Reg.LOG_EVT = s.reg Reg.LOG_EVT + 1 ∧
      t.onlyRegs { s with nvs := t.nvs } [Reg.LOG_SEQ, Reg.LOG_SEQ + 4, Reg.LOG_OVERWRITES, Reg.LOG_OVERWRITES + 4, Reg.LOG_EVT]) ∧
    (s.se.owed ≠ 0 → s.nvsUp = true → s.seState = 4 → ∃ t, exec .logAppendDone s = .next t ∧ t.se.owed = s.se.owed - 1 ∧
      t.nvs.log.isSome = true ∧ t.quant Reg.LOG_SEQ 2 = q1 ∧
      t.nvs.mem = (s.nvs.mem.setBytes (logPage q) (logRecord q pay)).setByte (logPage q1 + 6) 0)) ∧
  (∀ (s : State), s.blockOn 12 = true → s.flag F.NVS_STATUS_RECALL = true → s.sec.tamperOwed = false →
    ∃ t, exec .recallDone s = .next t ∧ t.flag F.NVS_STATUS_RECALL = false ∧ t.flag F.NVS_STATUS_READY = true ∧
      (∀ n, n < 256 → t.ctr n = s.ctrSettled n) ∧ t.nvs.mem = s.nvs.mem ∧ t.nvs.recallRef = 0 ∧
      t.reg Reg.NVS_EVT = s.reg Reg.NVS_EVT + 1)

/-- With the block on, every command names its result, its code and its issuer in SEC_RESULT, and a refused one changes nothing else but the count of refusals: BUSY while tests run, DENIED to a master that may not issue it. In their own conditions: ZEROISE ends the session and clears secret, keys, passwords and key scratch; SELFTEST starts the tests; CO_LOGOUT ends the session; ENTER_MAINT zeroises and enters Maintenance; CO_SET stores the unwrapped secret and ends the session; OTP_PROG programs an empty slot and OTP_REVOKE revokes a programmed one that is not its bank's last; COMMIT raises its target unless it is reached or too far, and a running SE then increments; CHALLENGE shows 16 fresh octets, for 10 s; VERIFY_CO uses the challenge up and starts the session on a match, or counts the failure and locks at the eighth; KEY_LOAD puts the unwrapped key in an empty slot and into every pipeline that passed its test, and KEY_RETIRE empties a slot. (R456, R457, R460, R461, R462, R463, R467, R468, R469, R471, R473, R478.) Completes: zeroise, selftest, coLogout, enterMaint, coSet, otpProg, otpRevoke, commitFw, commitItin, challenge, verifyCo, secKeyLoad, secKeyRetire. -/
def Obligations.SecurityCommands : Prop :=
  let word := fun (m : Master) (r code : Nat) => r + 256 * code + 65536 * (m.id % 256)
  let refused := fun (t s : State) (m : Master) (r code : Nat) => t.sameBut ((s.setRv Reg.SEC_RESULT (word m r code)).bump16 Reg.SEC_CMD_REF)
  let ok := fun (t : State) (m : Master) (code : Nat) => t.rv Reg.SEC_RESULT = word m 0 code
  let aes := fun (t : State) (p u i : Nat) => Tbl.get (fun _ => AesSlot.zero) (t.eng_ p).aes (u * 128 + i)
  ∀ (m : Master) (s : State), s.blockOn 13 = true → onBus m = true →
    (∀ (a b : BitVec 8), ∀ x ∈ [(Instr.zeroise m, 0x01, 0), (Instr.selftest m, 0x02, 0), (Instr.coLogout m, 0x03, 1), (Instr.enterMaint m, 0x04, 1),
        (Instr.coSet m, 0x05, 1), (Instr.otpProg m a, 0x06, 1), (Instr.otpRevoke m a, 0x07, 1), (Instr.commitFw m, 0x08, 1), (Instr.commitItin m, 0x09, 1),
        (Instr.challenge m, 0x10, 2), (Instr.verifyCo m a b, 0x11, 2), (Instr.secKeyLoad m a, 0x12, 2), (Instr.secKeyRetire m a, 0x13, 2)],
      (s.flag F.SEC_STATUS_ST_RUNNING = true → ∃ t, exec x.1 s = .next t ∧ refused t s m rBusy x.2.1) ∧
      (s.flag F.SEC_STATUS_ST_RUNNING = false → (x.2.2 = 1 ∧ (s.flag F.SEC_STATUS_CO_ACTIVE = false ∨ s.fld F.CO_SESSION_CO_ID ≠ m.id ∨
          s.flag F.SEC_STATUS_MAINT = true)) ∨ (x.2.2 = 2 ∧ m.id ≠ 4) ∨ (s.sec.dead = true ∧ (x.2.2 = 1 ∨ 0x12 ≤ x.2.1)) ∨
          (s.seState = 6 ∧ s.flag F.SEC_STATUS_ST_FAIL = true) →
        ∃ t, exec x.1 s = .next t ∧ refused t s m rDenied x.2.1)) ∧
    (s.flag F.SEC_STATUS_ST_RUNNING = false → ¬ (s.seState = 6 ∧ s.flag F.SEC_STATUS_ST_FAIL = true) →
      (∃ t, exec (.zeroise m) s = .next t ∧ ok t m 0x01 ∧ t.flag F.SEC_STATUS_ZEROISING = true ∧ t.flag F.SEC_STATUS_POOL_FULL = false ∧
        t.flag F.SEC_STATUS_CO_ACTIVE = false ∧ t.sec.secret = none ∧ t.sec.keys = [] ∧ t.sec.stage = [] ∧ t.sec.chal = none ∧ t.nvs.pw = [] ∧
        ∀ a, 0x3f000 ≤ a → a < 0x40000 → (t.eng_ 6).data.byte a = 0) ∧
      (∃ t, exec (.selftest m) s = .next t ∧ ok t m 0x02 ∧ t.flag F.SEC_STATUS_ST_RUNNING = true ∧
        t.onlyRegs s [Reg.SEC_STATUS, Reg.SEC_RESULT]) ∧
      (s.sec.dead = false → s.flag F.SEC_STATUS_MAINT = false → s.flag F.SEC_STATUS_CO_ACTIVE = true → s.fld F.CO_SESSION_CO_ID = m.id →
        (∃ t, exec (.coLogout m) s = .next t ∧ ok t m 0x03 ∧ t.flag F.SEC_STATUS_CO_ACTIVE = false ∧ t.fld F.CO_SESSION_CO_ID = 0 ∧
          t.reg Reg.SEC_EVT = s.reg Reg.SEC_EVT + 1 ∧ t.onlyRegs s [Reg.SEC_STATUS, Reg.CO_SESSION, Reg.SEC_EVT, Reg.SEC_RESULT]) ∧
        (∃ t, exec (.enterMaint m) s = .next t ∧ ok t m 0x04 ∧ t.flag F.SEC_STATUS_MAINT = true ∧ t.flag F.SEC_STATUS_ZEROISING = true ∧
          t.flag F.SEC_STATUS_APPROVED = false ∧ t.flag F.SEC_STATUS_CO_ACTIVE = false ∧ t.sec.keys = [] ∧ t.sec.secret = none) ∧
        (match kwUnwrap s.kWrap (nats (s.staged m.id 40)) with
          | none => ∃ t, exec (.coSet m) s = .next t ∧ refused t s m rUnwrapFail 0x05
          | some k => ∃ t, exec (.coSet m) s = .next t ∧ ok t m 0x05 ∧ t.sec = { s.sec with secret := some (octetsOf k) } ∧
              t.flag F.SEC_STATUS_CO_ACTIVE = false) ∧
        (∀ a : BitVec 8,
          (8 ≤ a.toNat → (∃ t, exec (.otpProg m a) s = .next t ∧ refused t s m rBadArg 0x06) ∧
            (∃ t, exec (.otpRevoke m a) s = .next t ∧ refused t s m rBadArg 0x07)) ∧
          (a.toNat < 8 → s.otp a.toNat = 0 → ∃ t, exec (.otpProg m a) s = .next t ∧ ok t m 0x06 ∧ t.otp a.toNat = 1 ∧
            Tbl.get (fun _ => []) t.sec.hash a.toNat = s.staged m.id 48 ∧ t.onlyRegs { s with sec := t.sec } [Reg.OTP_SLOT a.toNat, Reg.SEC_RESULT]) ∧
          (a.toNat < 8 → s.otp a.toNat ≠ 0 → ∃ t, exec (.otpProg m a) s = .next t ∧ refused t s m rOtpState 0x06) ∧
          (a.toNat < 8 → s.otp a.toNat ≠ 1 → ∃ t, exec (.otpRevoke m a) s = .next t ∧ refused t s m rOtpState 0x07) ∧
          (a.toNat < 8 → s.otp a.toNat = 1 →
            let n := ((List.range 4).filter (fun j => s.otp (a.toNat / 4 * 4 + j) == 1)).length
            (n ≤ 1 → ∃ t, exec (.otpRevoke m a) s = .next t ∧ refused t s m rOtpLast 0x07) ∧
            (1 < n → ∃ t, exec (.otpRevoke m a) s = .next t ∧ ok t m 0x07 ∧ t.otp a.toNat = 2 ∧ t.sec.hash = s.sec.hash))) ∧
        (s.itin.arm.isSome = true → ∃ t, exec (.commitItin m) s = .next t ∧ refused t s m rSwapArmed 0x09) ∧
        (∀ x ∈ [(Instr.commitFw m, 0x08, 0, s.rv Reg.FW_SECVER), (Instr.commitItin m, 0x09, 1, if s.itinRuns then s.rv (Reg.BANK_SECVER s.runBank) else 0)],
          x.2.1 = 0x08 ∨ s.itin.arm = none →
          (x.2.2.2 ≤ s.ctr x.2.2.1 → ∃ t, exec x.1 s = .next t ∧ ok t m x.2.1 ∧ t.onlyRegs s [Reg.SEC_RESULT]) ∧
          (s.ctr x.2.2.1 + 65536 < x.2.2.2 → ∃ t, exec x.1 s = .next t ∧ refused t s m rBadArg x.2.1) ∧
          (s.ctr x.2.2.1 < x.2.2.2 → x.2.2.2 ≤ s.ctr x.2.2.1 + 65536 → ∃ t, exec x.1 s = .next t ∧ ok t m x.2.1 ∧
            t.sec = { s.sec with commit := some x.2.2 } ∧ t.flag F.SEC_STATUS_COMMIT_PEND = true ∧
            (s.seState = 4 → s.nvsUp = true → s.nvs.jobs = [] → s.ctr x.2.2.1 ≠ 2 ^ 64 - 1 → t.nvs.jobs = [x.2.2.1]) ∧
            (s.seState ≠ 4 → t.nvs = s.nvs)))) ∧
      (m.id = 4 →
        (s.flag F.CO_SESSION_AUTH_LOCK = true ∨ s.flag F.SEC_STATUS_TAMPER_HELD = true ∨ s.flag F.SEC_STATUS_MAINT = true →
          ∃ t, exec (.challenge m) s = .next t ∧ refused t s m rDenied 0x10) ∧
        (s.flag F.CO_SESSION_AUTH_LOCK = false → s.flag F.SEC_STATUS_TAMPER_HELD = false → s.flag F.SEC_STATUS_MAINT = false →
          (s.drbgOk = false → ∃ t, exec (.challenge m) s = .next t ∧ refused t s m rEsFail 0x10) ∧
          (s.drbgOk = true → ∃ t c, exec (.challenge m) s = .next t ∧ ok t m 0x10 ∧ c.length = 16 ∧ t.sec = { s.sec with chal := some (c, s.now) } ∧
            ∀ j, j < 4 → t.rv (Reg.SEC_CHAL + 4 * j) = leVal ((c.drop (4 * j)).take 4))) ∧
        (∀ a b : BitVec 8,
          (s.sec.chal = none → ∃ t, exec (.verifyCo m a b) s = .next t ∧ refused t s m rDenied 0x11) ∧
          (∀ c at_, s.sec.chal = some (c, at_) → at_ + 10 ^ 13 < s.now → ∃ t, exec (.verifyCo m a b) s = .next t ∧
            t.rv Reg.SEC_RESULT = word m rDenied 0x11 ∧ t.sec = { s.sec with chal := none } ∧
            t.flag F.SEC_STATUS_CO_ACTIVE = s.flag F.SEC_STATUS_CO_ACTIVE ∧ t.fld F.CO_SESSION_FAILS = s.fld F.CO_SESSION_FAILS) ∧
          (∀ c at_, s.sec.chal = some (c, at_) → s.now ≤ at_ + 10 ^ 13 →
            (nats (s.staged m.id 32) = s.coResponse c a.toNat b.toNat → ∃ t, exec (.verifyCo m a b) s = .next t ∧ ok t m 0x11 ∧
              t.sec = { s.sec with chal := none } ∧ t.flag F.SEC_STATUS_CO_ACTIVE = true ∧ t.fld F.CO_SESSION_CO_ID = a.toNat ∧
              t.fld F.CO_SESSION_CH = (b.toNat - 12) % 16 ∧ t.fld F.CO_SESSION_FAILS = 0) ∧
            (nats (s.staged m.id 32) ≠ s.coResponse c a.toNat b.toNat →
              let n := min 8 (s.fld F.CO_SESSION_FAILS + 1)
              ∃ t, exec (.verifyCo m a b) s = .next t ∧ t.rv Reg.SEC_RESULT = word m rAuthFail 0x11 ∧ t.sec = { s.sec with chal := none } ∧
                t.fld F.CO_SESSION_FAILS = n ∧ t.flag F.SEC_STATUS_CO_ACTIVE = s.flag F.SEC_STATUS_CO_ACTIVE ∧
                t.flag F.CO_SESSION_AUTH_LOCK = (decide (n = 8) || s.flag F.CO_SESSION_AUTH_LOCK))))) ∧
      (s.sec.dead = false → m.id = 4 →
        (∀ a : BitVec 8,
          let i := a.toNat
          let msg := s.staged m.id 76
          let id := beVal (msg.take 4)
          let dup := (List.range 16).any (fun k => (s.keyRec k).map Prod.fst == some id)
          let r := if s.flag F.SEC_STATUS_ZEROISING then rZeroised else if !s.flag F.SEC_STATUS_CO_ACTIVE || s.flag F.SEC_STATUS_MAINT ||
            s.flag F.SEC_STATUS_TAMPER_HELD then rDenied else if !s.flag F.SEC_STATUS_POOL_FULL then rPoolShort else if 16 ≤ i ∨ id = 0 then rBadArg
            else if (s.keyRec i).isSome then rSlotInUse else if dup then rDuplicateId else 0
          (r ≠ 0 → ∃ t, exec (.secKeyLoad m a) s = .next t ∧ refused t s m r 0x12) ∧
          (r = 0 → match kwUnwrap s.kWrap (nats (msg.drop 4)) with
            | none => ∃ t, exec (.secKeyLoad m a) s = .next t ∧ refused t s m rUnwrapFail 0x12
            | some k => ∃ t, exec (.secKeyLoad m a) s = .next t ∧ ok t m 0x12 ∧ t.keyRec i = some (id, octetsOf k) ∧
                (∀ j, j ≠ i → t.keyRec j = s.keyRec j) ∧ t.rv (Reg.SEC_KEYID i) = id % 2 ^ 32 ∧ t.flag ⟨Reg.SEC_KEYMAP, i, 1⟩ = true ∧
                ∀ p u, p < 4 → u < 2 → s.fabPowered = true → s.pipeOk p u = true → aes t p u i = ⟨((octetsOf k).drop (32 * u)).take 32, true⟩) ∧
          (s.flag F.SEC_STATUS_ZEROISING = false → s.flag F.SEC_STATUS_CO_ACTIVE = true → s.flag F.SEC_STATUS_MAINT = false →
            (16 ≤ i → ∃ t, exec (.secKeyRetire m a) s = .next t ∧ refused t s m rBadArg 0x13) ∧
            (i < 16 → ∃ t, exec (.secKeyRetire m a) s = .next t ∧ ok t m 0x13 ∧ t.keyRec i = none ∧ (∀ j, j ≠ i → t.keyRec j = s.keyRec j) ∧
              t.rv (Reg.SEC_KEYID i) = 0 ∧ t.flag ⟨Reg.SEC_KEYMAP, i, 1⟩ = false ∧
              ∀ p u, p < 4 → u < 2 → s.fabPowered = true → (aes t p u i).long = true ∧
                (s.drbgOk = false → aes t p u i = ⟨derivedOctets u i, true⟩))))))

/-- A side's reset empties what was addressed to it, marks what it had posted but on a channel under a whistle, closes its access to the store and ends its CO session. Once the pool is refilled ZEROISING clears and is counted. The end of the tests shows their outcome, sets or clears ES_FAIL and, for a failed function, withdraws the CO services; a failed entropy test sets ES_FAIL, withdraws APPROVED and is reported. A challenge expires unused after its 10 s, and its octets are no longer shown. A latched tamper is counted, reported with the rung and held, with zeroisation at once in L0 to L2, and owed to the end of the recall with a move to L2 in L3 and L4; it is released when the pin has been high. The end of the fill writes each loaded master key into every pipeline that passed its test. (R397, R398, R399, R438, R441, R462, R463, R464, R465, R467, R470, R474.) Completes: mbSideReset, zeroDone, challengeExpiry, esFail, selftestDone, keyFillDone, tamperRelease, tamper. -/
def Obligations.SecurityEvents : Prop :=
  let aes := fun (t : State) (p u i : Nat) => Tbl.get (fun _ => AesSlot.zero) (t.eng_ p).aes (u * 128 + i)
  (∀ (m : Master) (s : State), s.sends m → ∃ t, exec (.mbSideReset m) s = .next t ∧
    (∀ n d, n < 16 → d < 2 → s.mbSide n m.id = some d → t.mbDir n (1 - d) = .reset ∧ t.flag (F.MB_PEER_RESET n (1 - d)) = true ∧
      t.reg (Reg.MB_EMPTY n (1 - d)) = s.reg (Reg.MB_EMPTY n (1 - d)) + 1 ∧
      (s.wHeld 10 n = true → t.mbDir n d = s.mbDir n d) ∧
      (s.wHeld 10 n = false → isBlockCh n = false → (t.mbDir n d).q.any (fun w => w.isNone) = true) ∧
      (s.wHeld 10 n = false → isBlockCh n = true → (t.mbDir n d).mark = true)) ∧
    (∀ k, k < 4 → Tbl.get (fun _ => false) t.nvs.opened (8 * m.id + k) = false) ∧
    t.flag F.SEC_STATUS_CO_ACTIVE = (s.flag F.SEC_STATUS_CO_ACTIVE && s.fld F.CO_SESSION_CO_ID != m.id)) ∧
  (∀ (s : State), s.blockOn 13 = true →
    (s.flag F.SEC_STATUS_ZEROISING = true → ∃ t, exec .zeroDone s = .next t ∧ t.flag F.SEC_STATUS_ZEROISING = false ∧
      t.flag F.SEC_STATUS_POOL_FULL = s.drbgOk ∧ t.reg Reg.SEC_EVT = s.reg Reg.SEC_EVT + 1 ∧ t.onlyRegs s [Reg.SEC_STATUS, Reg.SEC_EVT]) ∧
    (s.flag F.SEC_STATUS_ZEROISING = false → ∃ t, exec .zeroDone s = .next t ∧ t.sameBut s) ∧
    (∀ c at_, s.sec.chal = some (c, at_) →
      (at_ + 10 ^ 13 ≤ s.now → ∃ t, exec .challengeExpiry s = .next t ∧ t.sec = { s.sec with chal := none } ∧
        (∀ j, j < 4 → t.rv (Reg.SEC_CHAL + 4 * j) = 0) ∧ t.onlyRegs { s with sec := t.sec } ((List.range 4).map (fun j => Reg.SEC_CHAL + 4 * j))) ∧
      (s.now < at_ + 10 ^ 13 → ∃ t, exec .challengeExpiry s = .next t ∧ t.sameBut s)) ∧
    (∀ prop, ∃ t, exec (.esFail prop) s = .next t ∧ t.flag F.SEC_STATUS_ES_FAIL = true ∧ t.flag F.SEC_STATUS_APPROVED = false ∧
      t.flt = (s.sendFault srcSec kSelftestFail 0x01).flt ∧
      t.reg Reg.SEC_EVT = s.reg Reg.SEC_EVT + (if s.flag F.SEC_STATUS_ES_FAIL then 0 else 1) ∧
      let f := if prop then F.ES_HEALTH_PROP else F.ES_HEALTH_REP
      t.fld f = min 65535 (s.fld f + 1)) ∧
    (∀ f : BitVec 8, s.flag F.SEC_STATUS_ST_RUNNING = true → ∃ t, exec (.selftestDone f) s = .next t ∧ t.flag F.SELFTEST_DONE = true ∧
      t.flag F.SELFTEST_PASS = decide (f = 0) ∧ t.flag F.SEC_STATUS_ST_RUNNING = false ∧ t.flag F.SEC_STATUS_ST_FAIL = decide (f ≠ 0) ∧
      t.flag F.SEC_STATUS_ES_FAIL = decide (f.toNat % 4 ≠ 0) ∧ t.sec.dead = (s.sec.dead || decide (f.toNat / 4 % 64 ≠ 0))) ∧
    (s.flag F.SEC_STATUS_KEYS_FILLING = true → s.fabPowered = true → ∃ t, exec .keyFillDone s = .next t ∧ t.flag F.SEC_STATUS_KEYS_FILLING = false ∧
      t.sec = s.sec ∧ ∀ p u i, p < 4 → u < 2 → i < 16 → (aes t p u i).long = true ∧ ∀ id k, s.keyRec i = some (id, k) → s.pipeOk p u = true →
        aes t p u i = ⟨(k.drop (32 * u)).take 32, true⟩)) ∧
  (∀ (s : State),
    (∃ t, exec .tamperRelease s = .next t ∧ t.flag F.SEC_STATUS_TAMPER_HELD = false ∧ t.sec = { s.sec with tamperLow := false } ∧
      t.onlyRegs { s with sec := t.sec } [Reg.SEC_STATUS]) ∧
    (s.inReset = true → ∃ t, exec .tamper s = .next t ∧ t.sameBut { s with sec := { s.sec with tamperLow := true, tamperOwed := true } }) ∧
    (s.inReset = false → ∃ t, exec .tamper s = .next t ∧ t.reg Reg.TAMPER_EVT = s.reg Reg.TAMPER_EVT + 1 ∧
      t.flt = (s.sendFault srcSec kTamper s.rung).flt ∧ t.flag F.SEC_STATUS_TAMPER_HELD = true ∧ t.flag F.SEC_STATUS_APPROVED = false ∧
      t.sec.tamperLow = true ∧ t.rung = s.rung ∧
      (s.rung ≤ 2 → t.flag F.SEC_STATUS_ZEROISING = true ∧ t.sec.keys = [] ∧ t.sec.secret = none ∧ t.nvs.pw = []) ∧
      (2 < s.rung → t.sec.tamperOwed = true ∧ t.moving = true ∧ t.target = 2 ∧ t.fld F.RUNG_STATUS_CAUSE = 3)) ∧
    (s.blockOn 12 = true → s.flag F.NVS_STATUS_RECALL = true → s.sec.tamperOwed = true → ∃ t, exec .recallDone s = .next t ∧
      t.flag F.NVS_STATUS_READY = true ∧ t.flag F.SEC_STATUS_ZEROISING = true ∧ t.sec.keys = [] ∧ t.sec.secret = none ∧ t.nvs.pw = [] ∧
      t.sec.tamperOwed = false))

/-- A request for a rung beyond L4, for L3 or L4 while the supervisor island is needed, or one that a wake ties with, is refused and counted; one for the present rung with no move in progress changes nothing; any other sets the target and cause and starts or retargets the move. In L3 and L4 a due wake timer, and in L4 the I2C address where enabled, move the device up to WAKE_RUNG with their own cause and change nothing where that is no ascent. In L2 a rest lap counts a servo iteration and restarts TE0's lap. In L3 one step of the heater governor moves the current toward the demand, or toward zero on the way to L4, with an oven no longer warm, by at most RAMP for 160 ns. A declared lock reports band and frequency, counts, and makes the APLL LOCKED where nothing staged waits; that of APLL0 starts FCLK, and unless L1 kept the fabric the hamper is zeroed, test 0x09 shown and the key slots wait for their fill. (R42, R266, R464, R470, R481, R482, R485, R486, R488, R175.) Completes: rungReq, wakeTimer, i2cWake, heaterGovernorUpdate, restLap, lockDeclared. -/
def Obligations.LadderRequestsAndWakes : Prop :=
  let moved := fun (t s : State) (r cause : Nat) => t.target = r ∧ t.fld F.RUNG_STATUS_CAUSE = cause ∧ t.rung = s.rung ∧
    t.moving = (s.lad.step.isSome || r != s.rung) ∧ t.flag F.RUNG_STATUS_WARM_WAIT = false ∧ t.lad.step = s.lad.step ∧
    t.lad.moveAt = (if s.moving then s.lad.moveAt else s.now) ∧ t.onlyRegs { s with lad := t.lad } [Reg.RUNG_STATUS]
  (∀ (m : Master) (r : Fin 8) (tie : Bool) (s0 : State), s0.hears m →
    let s := s0.tlp m 1
    let refused := 5 ≤ r.val ∨ (3 ≤ r.val ∧ s.supvNeeded = true) ∨ (tie = true ∧ s.rung < r.val)
    (refused → ∃ t, exec (.rungReq m r tie) s0 = .next t ∧ t.sameBut (s.bump16 Reg.RUNG_REF)) ∧
    (¬ refused → r.val = s.rung → s.moving = false → ∃ t, exec (.rungReq m r tie) s0 = .next t ∧ t.sameBut s) ∧
    (¬ refused → r.val ≠ s.rung ∨ s.moving = true → ∃ t, exec (.rungReq m r tie) s0 = .next t ∧ moved t s r.val 0)) ∧
  (∀ (s : State), s.inReset = false →
    let up := s.wakeRung < s.rung ∨ (s.wakeRung = s.rung ∧ s.moving = true)
    (3 ≤ s.rung → s.timerDue = true → (up → ∃ t, exec .wakeTimer s = .next t ∧ moved t s s.wakeRung 1) ∧
      (¬ up → ∃ t, exec .wakeTimer s = .next t ∧ t.sameBut s)) ∧
    (s.rung = 4 → s.flag F.WAKE_CFG_I2C_EN = true → s.jtagExt = false → ∃ t, exec .i2cWake s = .next t ∧ moved t s s.wakeRung 2) ∧
    (∀ mv, s.rung = 3 →
      let st := min (s.fld F.HTR_CTRL_RAMP) 50 * 160000
      let want := if s.lad.step = some 4 then 0 else min s.tb.demandMw s.htrCap * 10 ^ 12 / mv
      ∃ t, exec (.heaterGovernorUpdate mv) s = .next t ∧
        t.rat.htrPa = (if s.rat.htrPa < want then min want (s.rat.htrPa + st) else max want (s.rat.htrPa - st)) ∧
        (s.lad.step ≠ some 4 → t.sameBut { s with rat := { s.rat with htrPa := t.rat.htrPa }, tb := t.tb }) ∧
        (s.lad.step = some 4 → s.tbExt = false → t.flag F.TB_STATUS_TB_WARM = false))) ∧
  (∀ (pkt : List PktOut) (delta : List (Fin 4 × Int)) (s : State), s.rung = 2 → s.teRuns 0 = true →
    ∃ t, exec (.restLap pkt delta 0) s = .next t ∧ t.reg Reg.SERVO_ITER0 = s.reg Reg.SERVO_ITER0 + 1 ∧ (t.eng_ 4).loops = [] ∧ t.rung = 2) ∧
  (∀ (a : Fin 4) (band : Fin 64) (t9 : BitVec 8) (s : State), s.apllState a.val = 2 → s.apllAllowed a.val = true →
    ∃ t, exec (.lockDeclared a band t9) s = .next t ∧ t.fld (F.APLL_STATUS_BAND a.val) = band.val ∧
      t.rv (Reg.APLL_VCO a.val) = pfdUnits (s.apll a.val).pfd * (s.apll a.val).nom * 25000 / 2 ^ 48 % 2 ^ 24 ∧
      (pfdUnits (s.fld (F.APLL_CFG_PFDSEL a.val)) = pfdUnits (s.apll a.val).pfd → s.flag (F.APLL_STATUS_FREQ_PEND a.val) = false →
        t.apllState a.val = 3 ∧ t.reg (Reg.APLL_EVT a.val) = s.reg (Reg.APLL_EVT a.val) + 1) ∧
      (a.val = 0 → s.fclkOn = false → t.fclkOn = true ∧ t.flag F.HAMPER_STATUS_INIT = !s.fab.keep ∧
        (s.fab.keep = true → t.fab.mem = s.fab.mem) ∧ (s.fab.keep = false → t.fab.mem = [] ∧ t.fld F.SELFTEST_T9 = t9.toNat ∧
          t.flag F.SEC_STATUS_KEYS_FILLING = true)))

/-- A step starts only from its own rung while a move beyond or to its end is in progress, and at the move's target MOVING clears and the arrival counts. L0 to L1 stops FCLK, APLL0, the ports and the engines' instances, keeping the fabric, and ends once the level stands. L1 to L2 loses the fabric island and suspends the ration contract. L2 to L3, refused while the supervisor island is needed, drains the store, loses the engines and the itinerary banks and takes the link down. L3 to L4 ends when the heater current is zero, with the crystal count latched. At the end of these two a wake timer that is already due moves the device up to WAKE_RUNG. L4 to L3 rebuilds the time, with the oven cold. L3 to L2 starts ROM_TEST (HALTED under a whistle that holds) with the recall and the tests, and ends when they have. L2 to L1 waits for the oven, then raises the SE's clock and resumes the contract. L1 to L0 ramps the level and ends when every condition of the return holds. (R43, R163, R382, R441, R482, R483, R484, R486, R487, R488, R489, R491.) Completes: stepL0ToL1, stepL1ToL2, stepL2ToL3, stepL3ToL4, stepL4ToL3, stepL3ToL2, stepL2ToL1, stepL1ToL0. -/
def Obligations.LadderSteps : Prop :=
  let arrived := fun (t s : State) (b : Nat) => t.rung = b ∧ t.lad.step = none ∧ t.moving = decide (s.target ≠ b) ∧
    t.reg Reg.RUNG_EVT = s.reg Reg.RUNG_EVT + (if s.target = b then 1 else 0)
  let landed := fun (t s : State) (b : Nat) => t.rung = b ∧ t.lad.step = none ∧
    t.reg Reg.RUNG_EVT = s.reg Reg.RUNG_EVT + (if s.target = b then 1 else 0) ∧
    (s.timerDue = false → t.moving = decide (s.target ≠ b)) ∧
    (s.timerDue = true → s.wakeRung < b → t.moving = true ∧ t.target = s.wakeRung ∧ t.fld F.RUNG_STATUS_CAUSE = 1)
  ∀ (s : State), s.moving = true →
    (s.mayStep 0 1 = true → ∃ t, exec .stepL0ToL1 s = .next t ∧ t.fclkOn = false ∧ t.apllState 0 = 0 ∧ t.fab.keep = true ∧
      (∀ p, p < 4 → t.portState p = 0 ∧ (t.pe_ p).runs = false ∧ (t.pe_ p).insts = []) ∧ t.fld F.RATION_LEVEL_TARGET_MA = s.l1Level ∧
      (t.levelled = false → t.rung = 0 ∧ t.lad.step = some 1) ∧ (t.levelled = true → arrived t s 1)) ∧
    (s.lad.step = some 1 → s.rung = 0 → s.levelled = true → ∃ t, exec .stepL0ToL1 s = .next t ∧ arrived t s 1) ∧
    (s.mayStep 1 2 = true → ∃ t, exec .stepL1ToL2 s = .next t ∧ arrived t s 2 ∧ t.fab.mem = [] ∧ (∀ p, p < 4 → t.eng_ p = .reset) ∧
      t.fld F.SE_CLK_SE = 25 ∧ t.flag F.RATION_STATUS_SUSPENDED = true ∧ t.itin.store = s.itin.store) ∧
    (s.mayStep 2 3 = true → s.supvNeeded = true → ∃ t, exec .stepL2ToL3 s = .next t ∧ t.sameBut s) ∧
    (s.mayStep 2 3 = true → s.supvNeeded = false → ∃ t, exec .stepL2ToL3 s = .next t ∧ landed t s 3 ∧ t.nvs.buf = [] ∧ t.nvs.jobs = [] ∧
      t.nvs.log = none ∧ (∀ e, 4 ≤ e → e ≤ 6 → t.eng_ e = .reset) ∧ t.itin.store = [] ∧ t.bank 0 = 0 ∧ t.bank 1 = 0 ∧ t.irq.linkL0 = false ∧
      t.flag F.MTC_STATUS_SLOW = true) ∧
    (s.mayStep 3 4 = true → s.rat.htrPa ≠ 0 → ∃ t, exec .stepL3ToL4 s = .next t ∧ t.rung = 3 ∧ t.lad = { s.lad with step := some 4 } ∧
      t.tb.demandMw = 0 ∧ (s.tbExt = false → t.flag F.TB_STATUS_TB_WARM = false) ∧ t.rat = s.rat) ∧
    (s.mayStep 3 4 = true ∨ (s.lad.step = some 4 ∧ s.rung = 3) → s.rat.htrPa = 0 → ∃ t, exec .stepL3ToL4 s = .next t ∧ landed t s 4 ∧
      t.mb = [] ∧ t.lad.aoTicks = s.aoTicks ∧ t.bus.guard = [] ∧ t.bus.posted = []) ∧
    (s.mayStep 4 3 = true → ∃ t, exec .stepL4ToL3 s = .next t ∧ arrived t s 3 ∧ t.flag F.TB_STATUS_TB_WARM = false ∧
      t.flag F.MTC_STATUS_RESTORED = true) ∧
    (s.mayStep 3 2 = true → ∃ t, exec .stepL3ToL2 s = .next t ∧ t.rung = 2 ∧ t.lad.step = some 2 ∧ t.seState = (if s.wHeld 6 0 then 5 else 1) ∧
      t.flag F.NVS_STATUS_RECALL = true ∧ t.flag F.SEC_STATUS_ST_RUNNING = true ∧ t.flag F.MTC_STATUS_SLOW = false) ∧
    (s.lad.step = some 2 → s.rung = 2 → s.seState ≠ 1 → s.flag F.SELFTEST_DONE = true → ∃ t, exec .stepL3ToL2 s = .next t ∧ arrived t s 2) ∧
    (s.mayStep 2 1 = true → s.flag F.TB_STATUS_TB_WARM = false → ∃ t, exec .stepL2ToL1 s = .next t ∧ t.rung = 2 ∧
      t.flag F.RUNG_STATUS_WARM_WAIT = true ∧ t.onlyRegs s [Reg.RUNG_STATUS]) ∧
    (s.mayStep 2 1 = true → s.flag F.TB_STATUS_TB_WARM = true → ∃ t, exec .stepL2ToL1 s = .next t ∧ arrived t s 1 ∧ t.fld F.SE_CLK_SE = 400 ∧
      t.flag F.RATION_STATUS_SUSPENDED = false) ∧
    (s.mayStep 1 0 = true → (up10 s).hikeReady = false → ∃ t, exec .stepL1ToL0 s = .next t ∧ t.rung = 1 ∧ t.lad.step = some 0 ∧
      t.fld F.RATION_LEVEL_TARGET_MA = s.l0Level % 8192 ∧ t.flag F.RATION_STATUS_FABRIC_BACKFILL = true) ∧
    (s.lad.step = some 0 → s.rung = 1 → s.hikeReady = true → ∃ t, exec .stepL1ToL0 s = .next t ∧ arrived t s 0) ∧
    (s.lad.step = some 0 → s.rung = 1 → s.inReset = false → s.levelled = true → s.apllState 0 = 0 → s.flag (F.APLL_CFG_EN 0) = true →
      ∃ t, exec .stepL1ToL0 s = .next t ∧ t.rung = 1 ∧ t.lad.step = some 0 ∧ t.apllState 0 = 1)

/-- A power-on reset leaves every register at its reset value but the OTP slots (one whose programming the power failure cut is DAMAGED) and what the two watched pins show, every memory, engine, queue and loop at its reset state, time at zero and the password failures cleared, and keeps the store, its passwords, the CO secret, the master keys and the key hashes. RESET_N and a rail reset do the same but keep also the wake configuration, the reset count (which counts it), the failure counts and lockouts, and time, complete the bytes of the store whose writes had started, as a power failure does, and name their cause, RESET_N with the rails of the last rail reset; in reset they do nothing. Release takes the device out of reset with its straps, a strap error where master and ID disagree, the SE in ROM_TEST (HALTED under a whistle that holds), or whistled again by a WHISTLE_N that is still low, the store in recall and APLL0 waiting. COLD_GO, with the timebase locked and FCLK not yet started, opens the searches, and is counted as refused otherwise. (R64, R382, R399, R441, R457, R509, R514, R515, R516, R521, R524, R525.) Completes: powerOnReset, resetN, railReset, resetRelease, coldGo. -/
def Obligations.ResetsAndRelease : Prop :=
  let cleared := fun (t : State) => t.inReset = true ∧ t.eng = State.reset.eng ∧ t.itin = State.reset.itin ∧ t.mb = State.reset.mb ∧
    t.se = State.reset.se ∧ t.fab = State.reset.fab ∧ t.dma = State.reset.dma ∧ t.dz = State.reset.dz ∧ t.syn = State.reset.syn ∧ t.tm = State.reset.tm ∧
    t.flt = State.reset.flt ∧ t.lad = State.reset.lad
  let keeps := fun (t s : State) => t.nvs.pw = s.nvs.pw ∧ t.nvs.buf = [] ∧ t.nvs.opened = [] ∧ t.sec.secret = s.sec.secret ∧
    t.sec.keys = s.sec.keys ∧ t.sec.hash = s.sec.hash ∧ t.sec.chal = none ∧ t.flag F.WHISTLE_PIN_LEVEL = s.flag F.WHISTLE_PIN_LEVEL ∧
    t.flag F.SEC_STATUS_TAMPER_HELD = s.sec.tamperLow
  let otp := (List.range 8).map Reg.OTP_SLOT
  (∀ (cut : Bool) (s : State), ∃ t, exec (.powerOnReset cut) s = .next t ∧ cleared t ∧ keeps t s ∧ t.nvs.mem = s.nvs.mem ∧ t.now = 0 ∧ t.nvs.fails = [] ∧ t.nvs.locked = [] ∧
    (∀ a ∉ otp ++ [Reg.WHISTLE_PIN, Reg.SEC_STATUS], t.reg a = State.reset.reg a) ∧
    (∀ k, k < 8 → (cut = false ∨ s.sec.otpAt.map Prod.fst ≠ some k → t.reg (Reg.OTP_SLOT k) = s.reg (Reg.OTP_SLOT k)) ∧
      (∀ at_, cut = true → s.sec.otpAt = some (k, at_) → s.now ≤ at_ + 10 ^ 9 → t.otp k = 3))) ∧
  (∀ (rails : BitVec 5) (s : State), ∀ x ∈ [(Instr.resetN, 4 + 256 * s.fld F.RST_CAUSE_RAIL_ID),
      (Instr.railReset rails, 2 + 256 * rails.toNat)],
    (s.inReset = true → ∃ t, exec x.1 s = .next t ∧ t.sameBut s) ∧
    (s.inReset = false → ∃ t w c l, exec x.1 s = .next t ∧ cleared t ∧ keeps t s ∧ t.nvs.mem = (powerFail w c l s).nvs.mem ∧ t.now = s.now ∧ t.nvs.fails = s.nvs.fails ∧ t.nvs.locked = s.nvs.locked ∧
      (∀ a ∉ otp ++ [Reg.WAKE_CFG, Reg.WAKE_AT, Reg.WHISTLE_PIN, Reg.SEC_STATUS, Reg.CO_SESSION, Reg.RST_CAUSE, Reg.RST_COUNT],
        t.reg a = State.reset.reg a) ∧
      (∀ a ∈ otp ++ [Reg.WAKE_CFG, Reg.WAKE_AT], t.reg a = s.reg a) ∧ t.fld F.CO_SESSION_FAILS = s.fld F.CO_SESSION_FAILS ∧
      t.flag F.CO_SESSION_AUTH_LOCK = s.flag F.CO_SESSION_AUTH_LOCK ∧ t.rv Reg.RST_CAUSE = x.2 ∧
      t.fld ⟨Reg.RST_COUNT, 0, 16⟩ = min 65535 (s.fld ⟨Reg.RST_COUNT, 0, 16⟩ + 1))) ∧
  (∀ (ms : Bool) (id : Fin 8) (rc ph : Bool) (s : State),
    (s.inReset = false → ∃ t, exec (.resetRelease ms id rc ph) s = .next t ∧ t.sameBut s) ∧
    (s.inReset = true → ∃ t, exec (.resetRelease ms id rc ph) s = .next t ∧ t.inReset = false ∧ t.relAt = s.now ∧ t.dzMaster = ms ∧ t.casc = id.val ∧
      (ms ≠ (id.val == 0) → t.flag F.DZ_STATUS_STRAP_ERR = true ∧ t.reg Reg.DZ_ERR_EVT = s.reg Reg.DZ_ERR_EVT + 1) ∧
      (s.flag F.WHISTLE_PIN_LEVEL = true → t.seState = (if s.wHeld 6 0 then 5 else 1)) ∧
      (s.flag F.WHISTLE_PIN_LEVEL = false → t.flag F.WHISTLE_PIN_HOLDING = true ∧ t.wHeld 6 0 = true ∧ t.flt.pinLow = true) ∧
      t.flag F.NVS_STATUS_RECALL = true ∧ t.flag F.NVS_STATUS_READY = false ∧ t.flag F.SEC_STATUS_ST_RUNNING = true ∧ t.apllState 0 = 1 ∧
      t.irq.perstLow = !ph ∧ t.irq.refClk = (rc && ph) ∧ t.nvs.mem = s.nvs.mem)) ∧
  (∀ (m : Master) (s : State), s.hears m →
    (s.tbLocked = true → s.flag F.BOOT_STATUS_FCLK_RUN = false → ∃ t, exec (.coldGo m) s = .next t ∧ t.flag F.BOOT_STATUS_COLD = true ∧
      t.onlyRegs (s.tlp m 1) [Reg.BOOT_STATUS]) ∧
    (s.tbLocked = false ∨ s.flag F.BOOT_STATUS_FCLK_RUN = true → ∃ t, exec (.coldGo m) s = .next t ∧ t.sameBut ((s.tlp m 1).bump16 Reg.BOOT_REF)))

/-- The collector takes a source's oldest message into its record, or marks an overflow where one is held, counts it, sets the sticky bit, shows it as the last and, on a member, sends it on; a clear empties the record and its sticky bit. A whistle to a target of this device holds it and is refused only where the SE names its own SE; one already held is left, one whose island is off is idle at once and counted, any other drains from its acceptance: the SE to HALTED, a port to DISABLED, a DMA channel to IDLE with RESULT WHISTLED. One to another device leaves on a READY ring that has it and is counted as refused otherwise. A release frees an idle index and counts, waits on one that drains, and is refused where nothing is held or the pin holds the SE. Completion makes a drained index idle and counts, and a release that waited follows. The low pin shows its level and, out of reset, holds the SE; its return clears HOLDING alone. (R490, R496, R497, R498, R499, R501, R502, R503, R505, R506, R507, R509.) Completes: faultMessage, fltClear, fltClearAll, whistleFabric, whistleTemplates, whistleAes, whistleTiuChannel, whistleDma, whistleSe, whistleTe, whistleGnss, whistlePort, whistleMailbox, whistleNvs, release, whistleComplete, whistleN, whistleNReturnHigh. -/
def Obligations.FaultsAndWhistles : Prop :=
  (∀ (c : Fin 32) (s : State), s.hostOn = true →
    ((s.fbuf c.val).q = [] → ∃ t, exec (.faultMessage c) s = .next t ∧ t.sameBut s) ∧
    (∀ f rest, (s.fbuf c.val).q = f :: rest →
      let k := 32 * s.casc + c.val
      ∃ t, exec (.faultMessage c) s = .next t ∧ (t.fbuf c.val).q = rest ∧ t.flag (F.FLT_VALID k) = true ∧ t.flag (F.FLT_STICKY k) = true ∧
        t.fld (F.FLT_COUNT k) = min 65535 (s.fld (F.FLT_COUNT k) + 1) ∧ t.rv Reg.FLT_LAST = f.addr % 2 ^ 32 ∧
        t.reg Reg.FLT_EVT = s.reg Reg.FLT_EVT + 1 ∧
        (s.flag (F.FLT_VALID k) = false → t.rv (Reg.FLT_REC k) = f.addr % 2 ^ 32 ∧ t.fld (F.FLT_KIND k) = f.kind % 64 ∧
          t.flag (F.FLT_OVERFLOW k) = (f.afterLoss || s.flag (F.FLT_OVERFLOW k))) ∧
        (s.flag (F.FLT_VALID k) = true → t.flag (F.FLT_OVERFLOW k) = true ∧ t.reg (Reg.FLT_REC k) = s.reg (Reg.FLT_REC k)) ∧
        (s.flag (F.FLT_STICKY k) = false → s.fld F.FLT_STATUS_NSET < 256 → t.fld F.FLT_STATUS_NSET = s.fld F.FLT_STATUS_NSET + 1 ∧
          t.flag F.FLT_STATUS_ANY = true) ∧
        (s.dzMaster = false → s.dzReady = true → .daisy 0 (.fault k f.kind f.addr f.afterLoss false) ∈ t.out))) ∧
  (∀ (m : Master) (s : State), s.hears m →
    (∀ c : Fin 256, ∃ t, exec (.fltClear m c) s = .next t ∧ t.reg (Reg.FLT_REC c.val) = 0 ∧ t.reg (Reg.FLT_REC1 c.val) = 0 ∧
      t.flag (F.FLT_STICKY c.val) = false ∧ t.onlyRegs (s.tlp m 1) [Reg.FLT_REC c.val, Reg.FLT_REC1 c.val, Reg.FLT_STICKY (c.val / 32), Reg.FLT_STATUS]) ∧
    (∃ t, exec (.fltClearAll m) s = .next t ∧ ∀ c, c < 256 → t.reg (Reg.FLT_REC c) = 0 ∧ t.reg (Reg.FLT_REC1 c) = 0 ∧ t.flag (F.FLT_STICKY c) = false)) ∧
  (∀ (m : Master) (s : State) (p : Fin 4) (n : Fin 24) (c : Fin 8) (te : Fin 2) (mb : Fin 16), s.hears m →
    let one := fun (peer : Option (Fin 8)) => [(Instr.whistleFabric m peer, 1, 0), (Instr.whistleTemplates m p peer, 2, p.val),
      (Instr.whistleAes m (some p) peer, 3, p.val), (Instr.whistleTiuChannel m n peer, 4, n.val), (Instr.whistleDma m (some c) peer, 5, c.val),
      (Instr.whistleSe m peer, 6, 0), (Instr.whistleTe m te peer, 7, te.val), (Instr.whistleGnss m peer, 8, 0), (Instr.whistlePort m p peer, 9, p.val),
      (Instr.whistleMailbox m mb peer, 10, mb.val), (Instr.whistleNvs m peer, 11, 0)]
    (∀ x ∈ one none,
      let w := wWord x.2.1 x.2.2 1 none
      (m.id = 4 → x.2.1 = 6 → ∃ t, exec x.1 s = .next t ∧ t.sameBut ((s.tlp m 1).bump16 Reg.WHISTLE_REF)) ∧
      (m.id ≠ 4 ∨ x.2.1 ≠ 6 →
        (s.wHeld x.2.1 x.2.2 = true → ∃ t, exec x.1 s = .next t ∧ t.sameBut (s.tlp m 1)) ∧
        (s.wHeld x.2.1 x.2.2 = false → s.wOn x.2.1 x.2.2 = true → ¬ (x.2.1 = 6 ∧ (s.seState = 5 ∨ s.seState = 6)) →
          ∃ t, exec x.1 s = .next t ∧ t.wHeld x.2.1 x.2.2 = true ∧ t.wIdle x.2.1 x.2.2 = s.wIdle x.2.1 x.2.2 ∧
            t.wHold x.2.1 x.2.2 = ⟨s.now, w, none, none⟩ ∧ t.reg Reg.WHISTLE_EVT = s.reg Reg.WHISTLE_EVT) ∧
        (s.wHeld x.2.1 x.2.2 = false → s.wOn x.2.1 x.2.2 = false → ∃ t, exec x.1 s = .next t ∧ t.wHeld x.2.1 x.2.2 = true ∧
          t.wIdle x.2.1 x.2.2 = true ∧ t.reg Reg.WHISTLE_EVT = s.reg Reg.WHISTLE_EVT + 1 ∧ t.rv Reg.WHISTLE_LAST = w ∧ t.rv Reg.WHISTLE_TIME = 0))) ∧
    (∃ t, exec (Instr.whistleAes m none none) s = .next t ∧ ∀ j, j < 4 → t.wHeld 3 j = true) ∧
    (∃ t, exec (Instr.whistleDma m none none) s = .next t ∧ ∀ j, j < 8 → t.wHeld 5 j = true) ∧
    (m.id ≠ 4 → s.wHeld 6 0 = false → s.blockOn 10 = true → 1 ≤ s.seState → s.seState ≤ 4 →
      ∃ t, exec (Instr.whistleSe m none) s = .next t ∧ t.seState = 5 ∧ t.rv Reg.SE_PC = s.se.pc % 4096) ∧
    (s.wHeld 9 p.val = false → s.fclkOn = true → ∃ t, exec (Instr.whistlePort m p none) s = .next t ∧ t.portState p.val = 0) ∧
    (s.wHeld 5 c.val = false → s.dmaState c.val ≠ 0 → s.hostOn = true → ∃ t, exec (Instr.whistleDma m (some c) none) s = .next t ∧ t.dmaState c.val = 0 ∧
      t.fld (F.DMA_STATUS_RESULT c.val) = dWhistled) ∧
    (∀ k : Fin 8, ∀ x ∈ one (some k) ++ [(Instr.whistleAes m none (some k), 3, 31), (Instr.whistleDma m none (some k), 5, 31)],
      let w := wWord x.2.1 x.2.2 1 (some k.val)
      let ok := s.dzReady = true ∧ k.val < s.fld F.DZ_STATUS_SIZE ∧ ¬ (m.id = 4 ∧ x.2.1 = 6 ∧ k.val = s.casc)
      (ok → ∃ t, exec x.1 s = .next t ∧ .daisy k.val (.whistle w) ∈ t.out ∧ t.sameBut { s.tlp m 1 with dz := { s.dz with cmds := s.dz.cmds ++ [w] } }) ∧
      (¬ ok → ∃ t, exec x.1 s = .next t ∧ t.sameBut ((s.tlp m 1).bump16 Reg.WHISTLE_REF)))) ∧
  (∀ (m : Master) (g : Fin 16) (i : Fin 32) (s : State), s.hears m →
    let w := wWord g.val i.val 2 none
    ((wNames g.val i.val).any (fun j => s.wHeld g.val j) = false ∨ (g.val = 6 ∧ s.flt.pinLow = true) →
      ∃ t, exec (.release m g i none) s = .next t ∧ t.sameBut ((s.tlp m 1).bump16 Reg.WHISTLE_REF)) ∧
    (i.val < wCount g.val → s.wHeld g.val i.val = true → ¬ (g.val = 6 ∧ s.flt.pinLow = true) →
      (s.wIdle g.val i.val = true → ∃ t, exec (.release m g i none) s = .next t ∧ t.wHeld g.val i.val = false ∧ t.wIdle g.val i.val = false ∧
        t.wHold g.val i.val = .reset ∧ t.reg Reg.WHISTLE_EVT = s.reg Reg.WHISTLE_EVT + 1 ∧ t.rv Reg.WHISTLE_LAST = w ∧ t.rv Reg.WHISTLE_TIME = 0) ∧
      (s.wIdle g.val i.val = false → ∃ t, exec (.release m g i none) s = .next t ∧ t.regs = s.regs ∧
        t.wHold g.val i.val = { s.wHold g.val i.val with rel := some (s.now, w, none) })) ∧
    (∀ k : Fin 8, s.dzReady = true → k.val < s.fld F.DZ_STATUS_SIZE → wNames g.val i.val ≠ [] →
      ∃ t, exec (.release m g i (some k)) s = .next t ∧ .daisy k.val (.whistle (wWord g.val i.val 2 (some k.val))) ∈ t.out)) ∧
  (∀ (g : Fin 16) (i : Fin 32) (s : State), i.val < wCount g.val → s.wHeld g.val i.val = true → s.wIdle g.val i.val = false →
    (s.wDrained g.val i.val = false → ∃ t, exec (Instr.whistleComplete g i) s = .next t ∧ t.sameBut s) ∧
    (s.wDrained g.val i.val = true →
      ((s.wHold g.val i.val).rel = none → ∃ t, exec (Instr.whistleComplete g i) s = .next t ∧ t.wHeld g.val i.val = true ∧ t.wIdle g.val i.val = true ∧
        t.reg Reg.WHISTLE_EVT = s.reg Reg.WHISTLE_EVT + 1 ∧ t.rv Reg.WHISTLE_LAST = (s.wHold g.val i.val).cmd % 2 ^ 32) ∧
      ((s.wHold g.val i.val).rel.isSome = true → ∃ t, exec (Instr.whistleComplete g i) s = .next t ∧ t.wHeld g.val i.val = false ∧
        t.wIdle g.val i.val = false ∧ t.reg Reg.WHISTLE_EVT = s.reg Reg.WHISTLE_EVT + 2))) ∧
  (∀ (s : State),
    (s.inReset = true → ∃ t, exec .whistleN s = .next t ∧ t.flag F.WHISTLE_PIN_LEVEL = false ∧ t.onlyRegs s [Reg.WHISTLE_PIN]) ∧
    (s.inReset = false → ∃ t, exec .whistleN s = .next t ∧ t.flag F.WHISTLE_PIN_LEVEL = false ∧ t.flag F.WHISTLE_PIN_HOLDING = true ∧
      t.flt.pinLow = true ∧ t.wHeld 6 0 = true ∧ (s.wHeld 6 0 = false → s.blockOn 10 = true → 1 ≤ s.seState → s.seState ≤ 4 → t.seState = 5)) ∧
    (∃ t, exec .whistleNReturnHigh s = .next t ∧ t.flag F.WHISTLE_PIN_LEVEL = true ∧ t.flag F.WHISTLE_PIN_HOLDING = false ∧
      t.sameBut { s with regs := t.regs, flt := { s.flt with pinLow := false } } ∧ ∀ x, x ≠ Reg.WHISTLE_PIN → t.reg x = s.reg x))

/-- EN starts the lane and its clearing turns it off. The lane goes from SIGNAL to BITLOCK, WORDLOCK, TRAIN, CAL and READY on its events, each counted, and an event in another state does nothing; DISCOVER closes the ring with its size, and a wrong size or order sends it back with a fault. The end of CAL takes the hop delays. A broken ring is passed on and drops to WORDLOCK, a lost lock and a limit that has expired since the state began to SIGNAL with a fault; CAL takes what the device declares as it begins. RESTART and RECAL work in their states and are refused elsewhere. On a READY ring the master sends the mark and its time block, a member passes both on and adds its path; a block from the tunnel is posted or returned, a release frees; a member's fault is recorded by the master, clears and whistles take effect on the device named, and reports are counted; a mark 900 ms old serves no time block. (R399, R525, R527, R529, R531, R533, R534, R537, R538, R539, R541.) Completes: dzCtrlWrite, dzSignalPresent, dzBitlock, dzWordlock, dzTrainDone, discover, dzCalDone, ringBroken, dzLockLost, dzStateTimeout, dzRestart, dzRecal, dzFltClear, secondMark, timeBlockSend, secondMarkArrival, markReturn, timeBlock, tunnelBlockArrival, tunnelReleaseArrival, remoteCommandArrival, remoteCompletionReport, dsyDeadline, remoteFaultArrival. -/
def Obligations.DaisyCascade : Prop :=
  let sends := fun (t : State) (k : Nat) (d : DzMsg) => Out.daisy k d ∈ t.out
  let broken := fun (t : State) => t.flag F.DZ_STATUS_RING_CLOSED = false ∧ t.dz.cmds = []
  let stop := fun (i : Instr) (s : State) => ∃ t, exec i s = .next t ∧ t.sameBut s
  (∀ (v : Word) (lost : Nat) (s : State), s.blockOn 15 = true →
    (v.getLsbD 0 = true → s.dzState = 0 → s.flag F.DZ_STATUS_STRAP_ERR = false → 3 ≤ s.apllState 0 → ∃ t, exec (.dzCtrlWrite v lost) s = .next t ∧
      t.reg Reg.DZ_CTRL = v &&& 0x1f ∧ t.dzState = 1 ∧ t.reg Reg.DZ_EVT = s.reg Reg.DZ_EVT + 1) ∧
    (v.getLsbD 0 = true → s.dzState ≠ 0 ∨ s.flag F.DZ_STATUS_STRAP_ERR = true → ∃ t, exec (.dzCtrlWrite v lost) s = .next t ∧
      t.reg Reg.DZ_CTRL = v &&& 0x1f ∧ t.onlyRegs s [Reg.DZ_CTRL]) ∧
    (v.getLsbD 0 = false → ∃ t, exec (.dzCtrlWrite v lost) s = .next t ∧ t.reg Reg.DZ_CTRL = v &&& 0x1f ∧ t.dzState = 0 ∧
      (s.dzState ≠ 0 → broken t))) ∧
  (∀ (s : State),
    (∀ x ∈ [(Instr.dzSignalPresent, 1, 2), (Instr.dzBitlock, 2, 3)], (s.dzState = x.2.1 → ∃ t, exec x.1 s = .next t ∧ t.dzState = x.2.2 ∧
      t.reg Reg.DZ_EVT = s.reg Reg.DZ_EVT + 1 ∧ t.onlyRegs { s with dz := { s.dz with since := s.now } } [Reg.DZ_STATUS, Reg.DZ_EVT]) ∧ (s.dzState ≠ x.2.1 → stop x.1 s)) ∧
    (s.dzState = 3 → ∃ t, exec .dzWordlock s = .next t ∧ t.sameBut { s with dz := { s.dz with locked := true } } ∧
      (s.dzMaster = true → sends t toAll (.discover 1))) ∧
    (s.dzState ≠ 3 → stop .dzWordlock s) ∧
    (∀ pre main post : BitVec 6, (s.dzState = 4 → ∃ t, exec (.dzTrainDone pre main post) s = .next t ∧ t.dzState = 5 ∧ t.dz.self = s.dzSelf ∧ t.dz.since = s.now ∧
      t.rv Reg.DZ_COEF = pre.toNat + 2 ^ 8 * main.toNat + 2 ^ 16 * post.toNat + 2 ^ 24) ∧ (s.dzState ≠ 4 → stop (.dzTrainDone pre main post) s)) ∧
    (∀ (count : BitVec 8) (size : Fin 9) (coef : Bool), s.dzState = 3 → s.dz.locked = true →
      let next := if coef && s.flag F.DZ_COEF_VALID then 5 else 4
      let bad := ∃ t, exec (.discover count size coef) s = .next t ∧ t.dzState = 1 ∧ t.dz.locked = false ∧ t.reg Reg.DZ_ERR_EVT = s.reg Reg.DZ_ERR_EVT + 1
      (s.dzMaster = true → s.fld F.DZ_CTRL_EXPECT ≠ 0 → count.toNat ≠ s.fld F.DZ_CTRL_EXPECT → bad) ∧
      (s.dzMaster = true → s.fld F.DZ_CTRL_EXPECT = 0 ∨ count.toNat = s.fld F.DZ_CTRL_EXPECT → ∃ t, exec (.discover count size coef) s = .next t ∧
        t.dzState = next ∧ t.fld F.DZ_STATUS_SIZE = count.toNat % 16 ∧ t.flag F.DZ_STATUS_RING_CLOSED = true) ∧
      (s.dzMaster = false → count.toNat ≠ s.casc → bad) ∧
      (s.dzMaster = false → count.toNat = s.casc → ∃ t, exec (.discover count size coef) s = .next t ∧ sends t toAll (.discover (count.toNat + 1)) ∧
        (size.val = 0 → t.dzState = 3) ∧ (size.val ≠ 0 → t.dzState = next ∧ t.fld F.DZ_STATUS_SIZE = size.val))) ∧
    (∀ (trip : Int) (res : List Int) (members : List (Nat × Nat × Nat)) (hop : Nat), s.dzState = 5 →
      (s.dzMaster = true →
        let devs := s.dz.self :: members.map (fun d => ⟨d.1, d.2.1, d.2.2⟩)
        let eps := roundEps devs trip res
        ∃ t, exec (.dzCalDone trip res members hop) s = .next t ∧ t.dzState = 6 ∧ t.dz.devs = devs ∧ t.dz.hops = hopDelays devs eps ∧
          t.rv Reg.DZ_EPS = unsigned 32 eps ∧ t.flag F.DZ_STATUS_EPS_HIGH = decide (s.residMax < eps.natAbs)) ∧
      (s.dzMaster = false → ∃ t, exec (.dzCalDone trip res members hop) s = .next t ∧ t.dzState = 6 ∧ t.dz.target = hop ∧ t.rv Reg.DZ_EPS = 0)) ∧
    (∀ lost, (4 ≤ s.dzState → s.dzState ≤ 6 → ∃ t, exec (.ringBroken lost) s = .next t ∧ t.dzState = 3 ∧ broken t ∧ sends t toAll .ringBroken) ∧
      (s.dzState < 4 → stop (.ringBroken lost) s) ∧
      (s.dzState = 3 → s.dz.locked = true → ∃ t, exec (.ringBroken lost) s = .next t ∧ t.sameBut s ∧ sends t toAll .ringBroken) ∧
      (s.dzState = 6 → ∃ t, exec (.dzLockLost lost) s = .next t ∧ t.dzState = 1 ∧ t.dz.locked = false ∧ broken t ∧ sends t toAll .ringBroken ∧
        t.reg Reg.DZ_ERR_EVT = s.reg Reg.DZ_ERR_EVT + 1) ∧ (s.dzState ≠ 6 → stop (.dzLockLost lost) s)) ∧
    (∀ st : Fin 8, 2 ≤ st.val → st.val ≤ 5 → 
      (s.dzState = st.val → st.val ≠ 3 ∨ s.dz.locked = false → s.dz.since + s.dzLimit ≤ s.now → ∃ t, exec (.dzStateTimeout st) s = .next t ∧
      t.dzState = 1 ∧ t.reg Reg.DZ_ERR_EVT = s.reg Reg.DZ_ERR_EVT + 1 ∧
      t.fld ⟨Reg.DZ_RETRY, 0, 16⟩ = min 65535 (s.fld ⟨Reg.DZ_RETRY, 0, 16⟩ + 1)) ∧ (s.dzState ≠ st.val ∨ s.now < s.dz.since + s.dzLimit → stop (.dzStateTimeout st) s))) ∧
  (∀ (m : Master) (lost : Nat) (s : State), s.hears m →
    (s.rung ≠ 0 → ∃ t, exec (.dzRestart m lost) s = .next t ∧ t.sameBut ((s.tlp m 1).bump16 Reg.DZ_CMD_REF)) ∧
    (s.rung = 0 → s.dzState = 0 → ∃ t, exec (.dzRestart m lost) s = .next t ∧ t.sameBut (s.tlp m 1)) ∧
    (s.rung = 0 → s.dzState ≠ 0 → ∃ t, exec (.dzRestart m lost) s = .next t ∧ t.dzState = 1 ∧ t.flag F.DZ_COEF_VALID = false ∧ broken t ∧
      sends t toAll .ringBroken)) ∧
  (∀ (s : State), s.blockOn 15 = true →
    (s.dzReady = false ∨ s.dzMaster = false → ∃ t, exec (.dzRecal false) s = .next t ∧ t.sameBut (s.bump16 Reg.DZ_CMD_REF)) ∧
    (s.dzReady = true → s.dzMaster = true → ∃ t, exec (.dzRecal false) s = .next t ∧ t.dzState = 5 ∧ sends t toAll .recal) ∧
    (s.dzReady = true → s.dzMaster = false → ∃ t, exec (.dzRecal true) s = .next t ∧ t.dzState = 5) ∧
    (∀ (c : Fin 256) (all lost : Bool),
      (s.dzReady = false ∨ s.dzMaster = false → ∃ t, exec (.dzFltClear c all lost) s = .next t ∧ t.sameBut (s.bump16 Reg.DZ_CMD_REF)) ∧
      (s.dzReady = true → s.dzMaster = true → (lost = true → ∃ t, exec (.dzFltClear c all lost) s = .next t ∧ t.sameBut (s.bump16 Reg.DZ_CMD_LOST)) ∧
        (lost = false → ∃ t, exec (.dzFltClear c all lost) s = .next t ∧ t.reg (Reg.FLT_REC c.val) = 0 ∧ t.flag (F.FLT_STICKY c.val) = false ∧
          (32 ≤ c.val → sends t (c.val / 32) (.fltClear c.val all)))))) ∧
  (∀ (s : State), s.dzReady = true →
    (∀ ofs, s.dzMaster = true → (s.tsp 0).run = true → ∃ t, exec (.secondMark ofs) s = .next t ∧ sends t toAll .mark ∧
      t.sameBut { s with dz := { s.dz with sent := some (s.dz.seq, tsSecOf (s.tsp 0).acc * 2 ^ 64 + ofs % dzBlock), seq := (s.dz.seq + 1) % 2 ^ 16 } }) ∧
    (∀ seq at_, s.dzMaster = true → s.dz.sent = some (seq, at_) → ∃ t, exec .timeBlockSend s = .next t ∧ t.dz = { s.dz with sent := none } ∧
      t.rv Reg.DZ_SEQ = seq % 2 ^ 32 ∧ sends t toAll (.time (timeBlock seq at_ s))) ∧
    (∀ at_ res, s.dzMaster = false → ∃ t, exec (.secondMarkArrival at_ res) s = .next t ∧ sends t toAll .mark ∧
      t.dz.mark = some (if s.chRuns 23 then some at_ else none, res)) ∧
    (∀ at_ trip res, s.dzMaster = true → ∃ t, exec (.markReturn at_ trip res) s = .next t ∧
      t.dz.eps = (roundEps s.dz.devs trip res :: s.dz.eps).take 16) ∧
    (∀ b freq hop stamp res, s.dzMaster = false → s.dz.mark = some (stamp, res) → ∃ t, exec (.timeBlock b freq hop) s = .next t ∧ t.dz.mark = none ∧
      t.rv Reg.DZ_SEQ = leVal (b.take 2) ∧
      (hop = none → s.fld ⟨Reg.DZ_HOP_IN, 0, 24⟩ = s.dz.target → sends t toAll (.time (b.take 24 ++
        leBytes 8 (unsigned 64 (signed 64 (leVal ((b.drop 24).take 8)) + roundDiv ((s.dz.target : Int) * 65536) 1000 + res)) ++ b.drop 32)))) ∧
    (∀ (x : Fin 8) (c : Fin 4) (octets : List Byte) (ctl : Word), let n := 12 + c.val
      (s.mbAccess n (16 + x.val) = .foreign → ∀ mk, ∃ t, exec (.tunnelBlockArrival x c mk octets ctl) s = .next t ∧ t.sameBut s ∧
        sends t x.val (.peerReset n)) ∧
      (∀ d, d < 2 → s.mbAccess n (16 + x.val) = .side d → (∃ t, exec (.tunnelBlockArrival x c true octets ctl) s = .next t ∧ (t.mbDir n d).mark = true) ∧
        (s.mbGo n d = false → ∃ t, exec (.tunnelBlockArrival x c false octets ctl) s = .next t ∧ t.mbGo n d = true ∧
          t.rv (Reg.CTL n d) = ctl.toNat / 2 * 2 + 1 ∧ t.reg (Reg.MB_IN n d) = s.reg (Reg.MB_IN n d) + 1 ∧
          ∀ j, j < 16 → t.rv (Reg.BLK n d j) = leVal ((octets.drop (4 * j)).take 4))) ∧
      (∀ d, d < 2 → s.mbSide n (16 + x.val) = some d → Tbl.get (fun _ => []) s.se.resp n = [] →
        (s.mbGo n (1 - d) = true → ∃ t, exec (.tunnelReleaseArrival x c false) s = .next t ∧ t.mbGo n (1 - d) = false ∧
          t.reg (Reg.MB_EMPTY n (1 - d)) = s.reg (Reg.MB_EMPTY n (1 - d)) + 1) ∧
        (∃ t, exec (.tunnelReleaseArrival x c true) s = .next t ∧ t.mbGo n (1 - d) = false ∧ t.flag (F.MB_PEER_RESET n (1 - d)) = true))) ∧
    (∀ (x : Fin 8) (v : Word), (v.getLsbD 8 = false → ∃ t, exec (.remoteCommandArrival x v true) s = .next t ∧ t.reg (Reg.FLT_REC (v.toNat % 256)) = 0 ∧
        t.flag (F.FLT_STICKY (v.toNat % 256)) = false) ∧
      (∀ g i, v.toNat = wWord g i 1 (some s.casc) → g < 16 → i < wCount g → s.wHeld g i = false → s.wOn g i = true →
        ¬ (g = 6 ∧ (s.seState = 5 ∨ s.seState = 6)) → ∃ t, exec (.remoteCommandArrival x v false) s = .next t ∧ t.wHeld g i = true ∧
          t.wHold g i = ⟨s.now, v.toNat, some x.val, none⟩)) ∧
    (∀ (v : Word) (ns : BitVec 16), ∃ t, exec (.remoteCompletionReport v ns) s = .next t ∧ t.reg Reg.WHISTLE_EVT = s.reg Reg.WHISTLE_EVT + 1 ∧
      t.reg Reg.WHISTLE_LAST = v ∧ t.rv Reg.WHISTLE_TIME = ns.toNat ∧ t.dz.cmds = s.dz.cmds.erase v.toNat)) ∧
  (∀ (s : State), 
    (∃ t, exec .dsyDeadline s = .next t ∧ t.sameBut { s with dz := { s.dz with mark := s.dz.mark.map (fun m => (m.1.filter (fun x => !s.dsyOver x), m.2)) } }) ∧
    (∀ (c : Fin 256) (kind : BitVec 6) (addr : BitVec 24) (loss again : Bool), s.hostOn = true →
      (s.dzMaster = false ∨ c.val < 32 → stop (.remoteFaultArrival c kind addr loss again) s) ∧
      (s.dzMaster = true → 32 ≤ c.val → again = false ∨ s.flag (F.FLT_VALID c.val) = false →
        ∃ t, exec (.remoteFaultArrival c kind addr loss again) s = .next t ∧ t.flag (F.FLT_VALID c.val) = true ∧ t.flag (F.FLT_STICKY c.val) = true ∧
          t.reg Reg.FLT_EVT = s.reg Reg.FLT_EVT + 1)))
end

