-- ==== Sys2Proof/Laws/Tbl.lean ====
section
/-! SUPPORT. Laws of the sparse tables and of the memories: what a read gives after a write, and that every write keeps the canonical form. -/

namespace Sys2Proof.Machine

variable {α : Type} [DecidableEq α] (d : Nat → α)

omit [DecidableEq α] in
theorem Tbl.get_erase_ne (m : Tbl α) {k k' : Nat} (h : k' ≠ k) : Tbl.get d (Tbl.erase m k) k' = Tbl.get d m k' := by
  induction m with
  | nil => rfl
  | cons x t ih =>
    obtain ⟨a, v⟩ := x
    simp only [Tbl.erase]
    split
    · rename_i e
      subst e
      simp [Tbl.get, ih, Ne.symm h]
    · simp [Tbl.get, ih]

omit [DecidableEq α] in
theorem Tbl.get_erase_same (m : Tbl α) (k : Nat) : Tbl.get d (Tbl.erase m k) k = d k := by
  induction m with
  | nil => rfl
  | cons x t ih =>
    obtain ⟨a, v⟩ := x
    simp only [Tbl.erase]
    split
    · exact ih
    · rename_i e
      simp [Tbl.get, ih, e]

omit [DecidableEq α] in
theorem Tbl.get_insert_ne (m : Tbl α) {k k' : Nat} (v : α) (h : k' ≠ k) : Tbl.get d (Tbl.insert m k v) k' = Tbl.get d m k' := by
  induction m with
  | nil => simp [Tbl.insert, Tbl.get, Ne.symm h]
  | cons x t ih =>
    obtain ⟨a, w⟩ := x
    simp only [Tbl.insert]
    split
    · simp [Tbl.get, Ne.symm h]
    · simp [Tbl.get, ih]

omit [DecidableEq α] in
theorem Tbl.get_insert_erase (m : Tbl α) (k : Nat) (v : α) : Tbl.get d (Tbl.insert (Tbl.erase m k) k v) k = v := by
  induction m with
  | nil => simp [Tbl.erase, Tbl.insert, Tbl.get]
  | cons x t ih =>
    obtain ⟨a, w⟩ := x
    simp only [Tbl.erase]
    split
    · exact ih
    · rename_i e
      simp only [Tbl.insert]
      split
      · simp [Tbl.get]
      · simp [Tbl.get, e, ih]

/-- A read at the key written gives the value written. -/
@[simp] theorem Tbl.get_set_same (m : Tbl α) (k : Nat) (v : α) : Tbl.get d (Tbl.set d m k v) k = v := by
  unfold Tbl.set
  split
  · rename_i e
    rw [Tbl.get_erase_same, e]
  · exact Tbl.get_insert_erase d m k v

/-- A write leaves every other key alone. -/
theorem Tbl.get_set_ne (m : Tbl α) {k k' : Nat} (v : α) (h : k' ≠ k) : Tbl.get d (Tbl.set d m k v) k' = Tbl.get d m k' := by
  unfold Tbl.set
  split
  · exact Tbl.get_erase_ne d m h
  · rw [Tbl.get_insert_ne d _ v h, Tbl.get_erase_ne d m h]

theorem Tbl.wfFrom_weaken {m : Tbl α} {b c : Nat} (h : Tbl.wfFrom d (some c) m = true) (hb : b ≤ c) : Tbl.wfFrom d (some b) m = true := by
  cases m with
  | nil => rfl
  | cons x t =>
    obtain ⟨a, v⟩ := x
    simp only [Tbl.wfFrom, Bool.and_eq_true, decide_eq_true_eq] at h ⊢
    exact ⟨⟨by omega, h.1.2⟩, h.2⟩

theorem Tbl.wfFrom_erase {m : Tbl α} {b : Nat} (k : Nat) (h : Tbl.wfFrom d (some b) m = true) :
    Tbl.wfFrom d (some b) (Tbl.erase m k) = true := by
  induction m generalizing b with
  | nil => rfl
  | cons x t ih =>
    obtain ⟨a, v⟩ := x
    simp only [Tbl.wfFrom, Bool.and_eq_true, decide_eq_true_eq] at h
    simp only [Tbl.erase]
    split
    · exact ih (Tbl.wfFrom_weaken d h.2 (by omega))
    · simp [Tbl.wfFrom, h.1.1, h.1.2, ih h.2]

theorem Tbl.wfFrom_insert {m : Tbl α} {b : Nat} {k : Nat} {v : α} (h : Tbl.wfFrom d (some b) (Tbl.erase m k) = true) (hb : b < k)
    (hv : v ≠ d k) : Tbl.wfFrom d (some b) (Tbl.insert (Tbl.erase m k) k v) = true := by
  induction m generalizing b with
  | nil => simp [Tbl.erase, Tbl.insert, Tbl.wfFrom, hb, hv]
  | cons x t ih =>
    obtain ⟨a, w⟩ := x
    simp only [Tbl.erase] at h ⊢
    split
    · rename_i e
      simp only [e, if_true] at h
      exact ih h hb
    · rename_i e
      simp only [e, if_false, Tbl.wfFrom, Bool.and_eq_true, decide_eq_true_eq] at h
      simp only [Tbl.insert]
      split
      · rename_i lt
        simp [Tbl.wfFrom, hb, hv, lt, h.1.2, h.2]
      · simp only [Tbl.wfFrom, Bool.and_eq_true, decide_eq_true_eq]
        exact ⟨h.1, ih h.2 (by omega)⟩

/-- The canonical form says the same with any bound below the first key. -/
theorem Tbl.wf_iff (m : Tbl α) : Tbl.wf d m = true ↔ m = [] ∨ ∃ k v t, m = (k, v) :: t ∧ v ≠ d k ∧ Tbl.wfFrom d (some k) t = true := by
  cases m with
  | nil => simp [Tbl.wf, Tbl.wfFrom]
  | cons x t =>
    obtain ⟨a, v⟩ := x
    simp only [Tbl.wf, Tbl.wfFrom, Bool.and_eq_true, decide_eq_true_eq, List.cons.injEq, Prod.mk.injEq, reduceCtorEq, false_or]
    constructor
    · intro h
      exact ⟨a, v, t, ⟨⟨rfl, rfl⟩, rfl⟩, h.1, h.2⟩
    · rintro ⟨k, w, u, ⟨⟨rfl, rfl⟩, rfl⟩, hv, ht⟩
      exact ⟨hv, ht⟩

theorem Tbl.wf_erase {m : Tbl α} (k : Nat) (h : Tbl.wf d m = true) : Tbl.wf d (Tbl.erase m k) = true := by
  induction m with
  | nil => rfl
  | cons x t ih =>
    obtain ⟨a, v⟩ := x
    simp only [Tbl.wf, Tbl.wfFrom, Bool.and_eq_true, decide_eq_true_eq] at h
    simp only [Tbl.erase]
    split
    · have ht : Tbl.wf d t = true := by
        cases t with
        | nil => rfl
        | cons y u =>
          obtain ⟨c, w⟩ := y
          have := h.2
          simp only [Tbl.wfFrom, Bool.and_eq_true, decide_eq_true_eq] at this
          simp [Tbl.wf, Tbl.wfFrom, this.1.2, this.2]
      exact ih ht
    · simp [Tbl.wf, Tbl.wfFrom, h.1, Tbl.wfFrom_erase d k h.2]

/-- A write keeps the canonical form. -/
theorem Tbl.wf_set {m : Tbl α} (k : Nat) (v : α) (h : Tbl.wf d m = true) : Tbl.wf d (Tbl.set d m k v) = true := by
  unfold Tbl.set
  split
  · exact Tbl.wf_erase d k h
  · rename_i hv
    have he := Tbl.wf_erase d k h
    cases m with
    | nil => simp [Tbl.erase, Tbl.insert, Tbl.wf, Tbl.wfFrom, hv]
    | cons x t =>
      obtain ⟨a, w⟩ := x
      simp only [Tbl.wf, Tbl.wfFrom, Bool.and_eq_true, decide_eq_true_eq] at h
      simp only [Tbl.erase] at he ⊢
      split
      · rename_i e
        subst e
        have h1 := Tbl.wfFrom_erase d a h.2
        generalize Tbl.erase t a = u at h1 ⊢
        cases u with
        | nil => simp [Tbl.insert, Tbl.wf, Tbl.wfFrom, hv]
        | cons y u =>
          obtain ⟨c, z⟩ := y
          simp only [Tbl.wfFrom, Bool.and_eq_true, decide_eq_true_eq] at h1
          simp [Tbl.insert, h1.1.1, Tbl.wf, Tbl.wfFrom, hv, h1.1.2, h1.2]
      · rename_i e
        simp only [Tbl.insert]
        split
        · rename_i lt
          simp [Tbl.wf, Tbl.wfFrom, hv, lt, h.1, Tbl.wfFrom_erase d k h.2]
        · simp only [Tbl.wf, Tbl.wfFrom, Bool.and_eq_true, decide_eq_true_eq]
          exact ⟨h.1, Tbl.wfFrom_insert d (Tbl.wfFrom_erase d k h.2) (by omega) hv⟩

/-! ### Memories -/

@[simp] theorem Memory.byte_setByte_same (m : Memory) (a : Nat) (b : Byte) : (m.setByte a b).byte a = b := Tbl.get_set_same _ m a b

theorem Memory.byte_setByte_ne (m : Memory) {a a' : Nat} (b : Byte) (h : a' ≠ a) : (m.setByte a b).byte a' = m.byte a' :=
  Tbl.get_set_ne _ m b h

theorem Memory.wf_setByte {m : Memory} (a : Nat) (b : Byte) (h : m.wf = true) : (m.setByte a b).wf = true := Tbl.wf_set _ a b h

theorem Memory.wf_setBytes {m : Memory} (a : Nat) (l : List Byte) (h : m.wf = true) : (m.setBytes a l).wf = true := by
  induction l generalizing m a with
  | nil => exact h
  | cons b t ih => exact ih (a + 1) (Memory.wf_setByte a b h)

theorem Memory.wf_setLe {m : Memory} (a n v : Nat) (h : m.wf = true) : (m.setLe a n v).wf = true := Memory.wf_setBytes a _ h

/-- A byte outside the bytes written reads as before. -/
theorem Memory.byte_setBytes_out (m : Memory) (a : Nat) (l : List Byte) {x : Nat} (h : x < a ∨ a + l.length ≤ x) :
    (m.setBytes a l).byte x = m.byte x := by
  induction l generalizing m a with
  | nil => rfl
  | cons b t ih =>
    simp only [Memory.setBytes, List.length_cons] at h ⊢
    rw [ih (m.setByte a b) (a + 1) (by omega), Memory.byte_setByte_ne m b (by omega)]

/-- A byte among the bytes written reads as written. -/
theorem Memory.byte_setBytes_in (m : Memory) (a : Nat) (l : List Byte) {k : Nat} (h : k < l.length) :
    (m.setBytes a l).byte (a + k) = l.getD k 0 := by
  induction l generalizing m a k with
  | nil => simp at h
  | cons b t ih =>
    cases k with
    | zero => simp only [Memory.setBytes, Nat.add_zero]; rw [Memory.byte_setBytes_out _ _ _ (by omega)]; simp
    | succ k =>
      simp only [List.length_cons] at h
      have := ih (m.setByte a b) (a + 1) (k := k) (by omega)
      simp only [Memory.setBytes]
      rw [show a + (k + 1) = a + 1 + k by omega, this]
      simp

end Sys2Proof.Machine
end

