-- ==== Sys2Proof/Laws/Reg.lean ====
section
/-! SUPPORT. Laws of the register file: words, fields and counters. -/

namespace Sys2Proof.Machine

/-! ### Words -/

@[simp] theorem State.reg_setReg (s : State) (a : Nat) (v : Word) : (s.setReg a v).reg a = v := Tbl.get_set_same _ _ _ _

theorem State.reg_setReg_ne (s : State) {a b : Nat} (v : Word) (h : b ≠ a) : (s.setReg a v).reg b = s.reg b := Tbl.get_set_ne _ _ _ h

@[simp] theorem State.reg_setRv (s : State) (a v : Nat) : (s.setRv a v).reg a = BitVec.ofNat 32 v := State.reg_setReg s a _

theorem State.reg_setRv_ne (s : State) {a b : Nat} (v : Nat) (h : b ≠ a) : (s.setRv a v).reg b = s.reg b := State.reg_setReg_ne s _ h

@[simp] theorem State.rv_setReg (s : State) (a : Nat) (v : Word) : (s.setReg a v).rv a = v.toNat := by simp [State.rv]

theorem State.rv_setReg_ne (s : State) {a b : Nat} (v : Word) (h : b ≠ a) : (s.setReg a v).rv b = s.rv b := by
  simp [State.rv, State.reg_setReg_ne s v h]

@[simp] theorem State.rv_setRv (s : State) (a v : Nat) : (s.setRv a v).rv a = v % 2 ^ 32 := by simp [State.rv]

theorem State.rv_setRv_ne (s : State) {a b : Nat} (v : Nat) (h : b ≠ a) : (s.setRv a v).rv b = s.rv b := by
  simp [State.rv, State.reg_setRv_ne s v h]

theorem State.rv_lt (s : State) (a : Nat) : s.rv a < 2 ^ 32 := (s.reg a).isLt

/-! ### Fields -/

/-- A digit and what lies below it stay below the next place. -/
theorem digit_lt {a l V L : Nat} (ha : a < V) (hl : l < L) : a * L + l < L * V := by
  calc a * L + l < a * L + L := by omega
    _ = (a + 1) * L := by ring
    _ ≤ V * L := Nat.mul_le_mul_right L ha
    _ = L * V := Nat.mul_comm V L

/-- A number split at a field: what lies above it, the field, and what lies below. -/
theorem Fld.split (f : Fld) (w : Nat) : w = w / 2 ^ (f.lo + f.w) * 2 ^ (f.lo + f.w) + f.of w * 2 ^ f.lo + w % 2 ^ f.lo := by
  unfold Fld.of
  have h1 := Nat.div_add_mod w (2 ^ f.lo)
  have h2 := Nat.div_add_mod (w / 2 ^ f.lo) (2 ^ f.w)
  rw [Nat.div_div_eq_div_mul, ← pow_add] at h2
  calc w = 2 ^ f.lo * (w / 2 ^ f.lo) + w % 2 ^ f.lo := h1.symm
    _ = 2 ^ f.lo * (2 ^ f.w * (w / 2 ^ (f.lo + f.w)) + w / 2 ^ f.lo % 2 ^ f.w) + w % 2 ^ f.lo := by rw [h2]
    _ = _ := by ring

/-- A field put in a word, as what lies above it, the new value and what lies below. -/
theorem Fld.put_eq (f : Fld) (w v : Nat) :
    f.put w v = w / 2 ^ (f.lo + f.w) * 2 ^ (f.lo + f.w) + v % 2 ^ f.w * 2 ^ f.lo + w % 2 ^ f.lo := by
  have h := Fld.split f w
  unfold Fld.put
  omega

/-- The field reads what was put. -/
@[simp] theorem Fld.of_put (f : Fld) (w v : Nat) : f.of (f.put w v) = v % 2 ^ f.w := by
  rw [Fld.put_eq]
  unfold Fld.of
  have hl : w % 2 ^ f.lo < 2 ^ f.lo := Nat.mod_lt _ (by positivity)
  rw [pow_add, show w / (2 ^ f.lo * 2 ^ f.w) * (2 ^ f.lo * 2 ^ f.w) + v % 2 ^ f.w * 2 ^ f.lo + w % 2 ^ f.lo
    = w % 2 ^ f.lo + 2 ^ f.lo * (v % 2 ^ f.w + 2 ^ f.w * (w / (2 ^ f.lo * 2 ^ f.w))) by ring,
    Nat.add_mul_div_left _ _ (by positivity), Nat.div_eq_of_lt hl, zero_add, Nat.add_mul_mod_self_left, Nat.mod_mod]

/-- Another field of the word, above or below, reads as before. -/
theorem Fld.of_put_disjoint (f g : Fld) (w v : Nat) (h : f.lo + f.w ≤ g.lo ∨ g.lo + g.w ≤ f.lo) : g.of (f.put w v) = g.of w := by
  rw [Fld.put_eq]
  have hl : w % 2 ^ f.lo < 2 ^ f.lo := Nat.mod_lt _ (by positivity)
  have hv : v % 2 ^ f.w < 2 ^ f.w := Nat.mod_lt _ (by positivity)
  unfold Fld.of
  rcases h with h | h
  · obtain ⟨k, hk⟩ := Nat.exists_eq_add_of_le h
    have hm : v % 2 ^ f.w * 2 ^ f.lo + w % 2 ^ f.lo < 2 ^ (f.lo + f.w) := by
      rw [pow_add]
      exact digit_lt hv hl
    rw [hk, pow_add (2 : Nat) (f.lo + f.w) k, ← Nat.div_div_eq_div_mul, ← Nat.div_div_eq_div_mul]
    congr 2
    rw [add_assoc, Nat.add_comm, Nat.add_mul_div_right _ _ (by positivity), Nat.div_eq_of_lt hm, zero_add]
  · obtain ⟨k, hk⟩ := Nat.exists_eq_add_of_le h
    rw [← Nat.mod_mul_right_div_self, ← Nat.mod_mul_right_div_self, ← pow_add]
    congr 1
    rw [hk, pow_add (2 : Nat) (g.lo + g.w + k) f.w, pow_add (2 : Nat) (g.lo + g.w) k,
      show w / (2 ^ (g.lo + g.w) * 2 ^ k * 2 ^ f.w) * (2 ^ (g.lo + g.w) * 2 ^ k * 2 ^ f.w)
        + v % 2 ^ f.w * (2 ^ (g.lo + g.w) * 2 ^ k) + w % (2 ^ (g.lo + g.w) * 2 ^ k)
        = w % (2 ^ (g.lo + g.w) * 2 ^ k)
          + 2 ^ (g.lo + g.w) * (2 ^ k * (v % 2 ^ f.w + w / (2 ^ (g.lo + g.w) * 2 ^ k * 2 ^ f.w) * 2 ^ f.w)) by ring,
      Nat.add_mul_mod_self_left, Nat.mod_mul_right_mod]

/-- A field put in a word of 32 bits leaves a word of 32 bits. -/
theorem Fld.put_lt (f : Fld) {w : Nat} (v : Nat) (h : f.lo + f.w ≤ 32) (hw : w < 2 ^ 32) : f.put w v < 2 ^ 32 := by
  rw [Fld.put_eq]
  have hl : w % 2 ^ f.lo < 2 ^ f.lo := Nat.mod_lt _ (by positivity)
  have hv : v % 2 ^ f.w < 2 ^ f.w := Nat.mod_lt _ (by positivity)
  have hm : v % 2 ^ f.w * 2 ^ f.lo + w % 2 ^ f.lo < 2 ^ (f.lo + f.w) := by
    rw [pow_add]
    exact digit_lt hv hl
  have hq : w / 2 ^ (f.lo + f.w) < 2 ^ (32 - (f.lo + f.w)) := by
    rw [Nat.div_lt_iff_lt_mul (by positivity), ← pow_add]
    rw [show 32 - (f.lo + f.w) + (f.lo + f.w) = 32 by omega]
    exact hw
  have : (2 : Nat) ^ 32 = 2 ^ (32 - (f.lo + f.w)) * 2 ^ (f.lo + f.w) := by
    rw [← pow_add]
    congr 1
    omega
  rw [this, add_assoc, Nat.mul_comm (2 ^ (32 - (f.lo + f.w)))]
  exact digit_lt hq hm

/-- A field of the file reads what was set. -/
theorem State.fld_setFld (s : State) (f : Fld) (v : Nat) (h : f.lo + f.w ≤ 32) : (s.setFld f v).fld f = v % 2 ^ f.w := by
  unfold State.fld State.setFld
  rw [State.rv_setRv, Nat.mod_eq_of_lt (Fld.put_lt f v h (s.rv_lt _)), Fld.of_put]

/-- Another field of the same word reads as before. -/
theorem State.fld_setFld_disjoint (s : State) (f g : Fld) (v : Nat) (ha : g.addr = f.addr) (hf : f.lo + f.w ≤ 32)
    (h : f.lo + f.w ≤ g.lo ∨ g.lo + g.w ≤ f.lo) : (s.setFld f v).fld g = s.fld g := by
  unfold State.fld State.setFld
  rw [ha, State.rv_setRv, Nat.mod_eq_of_lt (Fld.put_lt f v hf (s.rv_lt _)), Fld.of_put_disjoint f g _ _ h]

/-- A field of another word reads as before. -/
theorem State.fld_setFld_ne (s : State) (f g : Fld) (v : Nat) (h : g.addr ≠ f.addr) : (s.setFld f v).fld g = s.fld g := by
  unfold State.fld State.setFld
  rw [State.rv_setRv_ne s _ h]

theorem State.reg_setFld_ne (s : State) (f : Fld) {a : Nat} (v : Nat) (h : a ≠ f.addr) : (s.setFld f v).reg a = s.reg a :=
  State.reg_setRv_ne s _ h

theorem State.rv_setFld_ne (s : State) (f : Fld) {a : Nat} (v : Nat) (h : a ≠ f.addr) : (s.setFld f v).rv a = s.rv a :=
  State.rv_setRv_ne s _ h

theorem State.fld_setReg_ne (s : State) {a : Nat} (v : Word) (g : Fld) (h : g.addr ≠ a) : (s.setReg a v).fld g = s.fld g := by
  unfold State.fld
  rw [State.rv_setReg_ne s v h]

theorem State.fld_setRv_ne (s : State) {a : Nat} (v : Nat) (g : Fld) (h : g.addr ≠ a) : (s.setRv a v).fld g = s.fld g := by
  unfold State.fld
  rw [State.rv_setRv_ne s v h]

theorem State.fld_lt (s : State) (f : Fld) : s.fld f < 2 ^ f.w := by
  unfold State.fld Fld.of
  exact Nat.mod_lt _ (by positivity)

/-- A flag reads what was set. -/
theorem State.flag_setFlag (s : State) (f : Fld) (b : Bool) (h : f.lo + f.w ≤ 32) (hw : f.w = 1) : (s.setFlag f b).flag f = b := by
  unfold State.flag State.setFlag
  rw [State.fld_setFld s f _ h, hw]
  cases b <;> simp

theorem State.flag_setFlag_ne (s : State) (f g : Fld) (b : Bool) (h : g.addr ≠ f.addr) : (s.setFlag f b).flag g = s.flag g := by
  unfold State.flag State.setFlag
  rw [State.fld_setFld_ne s f g _ h]

theorem State.flag_setFlag_disjoint (s : State) (f g : Fld) (b : Bool) (ha : g.addr = f.addr) (hf : f.lo + f.w ≤ 32)
    (h : f.lo + f.w ≤ g.lo ∨ g.lo + g.w ≤ f.lo) : (s.setFlag f b).flag g = s.flag g := by
  unfold State.flag State.setFlag
  rw [State.fld_setFld_disjoint s f g _ ha hf h]

/-! ### Counters (R67) -/

/-- An event counter advances by one and wraps. -/
@[simp] theorem State.reg_bump (s : State) (a : Nat) : (s.bump a).reg a = s.reg a + 1 := by
  unfold State.bump
  rw [State.reg_setRv]
  simp [State.rv]
  bv_omega

theorem State.reg_bump_ne (s : State) {a b : Nat} (h : b ≠ a) : (s.bump a).reg b = s.reg b := State.reg_setRv_ne s _ h

/-- An error counter advances by one and stops at its largest value. -/
theorem State.rv_bumpSat (s : State) (a : Nat) : (s.bumpSat a).rv a = min (s.rv a + 1) (2 ^ 32 - 1) := by
  have := s.rv_lt a
  unfold State.bumpSat
  split
  · rw [State.rv_setRv]
    omega
  · omega

theorem State.reg_bumpSat_ne (s : State) {a b : Nat} (h : b ≠ a) : (s.bumpSat a).reg b = s.reg b := by
  unfold State.bumpSat
  split
  · exact State.reg_setRv_ne s _ h
  · rfl

/-- A counter in a field advances by one and stops at its largest value. -/
theorem State.fld_bumpFld (s : State) (f : Fld) (h : f.lo + f.w ≤ 32) : (s.bumpFld f).fld f = min (s.fld f + 1) (2 ^ f.w - 1) := by
  have := s.fld_lt f
  unfold State.bumpFld
  split
  · rw [State.fld_setFld s f _ h, Nat.mod_eq_of_lt (by omega)]
    omega
  · omega

theorem State.reg_bumpFld_ne (s : State) (f : Fld) {a : Nat} (h : a ≠ f.addr) : (s.bumpFld f).reg a = s.reg a := by
  unfold State.bumpFld
  split
  · exact State.reg_setFld_ne s f _ h
  · rfl

theorem State.reg_bump16_ne (s : State) {a b : Nat} (h : b ≠ a) : (s.bump16 a).reg b = s.reg b := State.reg_bumpFld_ne s _ h

end Sys2Proof.Machine
end

