-- ==== Sys2Proof/Laws/State.lean ====
section
/-! SUPPORT. What each named update of the state leaves alone: one lemma per field per update, each true by rfl; and what the indexed parts
read after an update. -/

namespace Sys2Proof.Machine

/-! ### setReg -/

@[simp] theorem State.setReg_pending (s : State) (a : Nat) (v : Word) : (s.setReg a v).pending = s.pending := rfl
@[simp] theorem State.setReg_now (s : State) (a : Nat) (v : Word) : (s.setReg a v).now = s.now := rfl
@[simp] theorem State.setReg_free (s : State) (a : Nat) (v : Word) : (s.setReg a v).free = s.free := rfl
@[simp] theorem State.setReg_inReset (s : State) (a : Nat) (v : Word) : (s.setReg a v).inReset = s.inReset := rfl
@[simp] theorem State.setReg_relAt (s : State) (a : Nat) (v : Word) : (s.setReg a v).relAt = s.relAt := rfl
@[simp] theorem State.setReg_out (s : State) (a : Nat) (v : Word) : (s.setReg a v).out = s.out := rfl
@[simp] theorem State.setReg_bus (s : State) (a : Nat) (v : Word) : (s.setReg a v).bus = s.bus := rfl
@[simp] theorem State.setReg_irq (s : State) (a : Nat) (v : Word) : (s.setReg a v).irq = s.irq := rfl
@[simp] theorem State.setReg_flt (s : State) (a : Nat) (v : Word) : (s.setReg a v).flt = s.flt := rfl
@[simp] theorem State.setReg_rat (s : State) (a : Nat) (v : Word) : (s.setReg a v).rat = s.rat := rfl
@[simp] theorem State.setReg_tb (s : State) (a : Nat) (v : Word) : (s.setReg a v).tb = s.tb := rfl
@[simp] theorem State.setReg_tiu (s : State) (a : Nat) (v : Word) : (s.setReg a v).tiu = s.tiu := rfl
@[simp] theorem State.setReg_ref (s : State) (a : Nat) (v : Word) : (s.setReg a v).ref = s.ref := rfl
@[simp] theorem State.setReg_steer (s : State) (a : Nat) (v : Word) : (s.setReg a v).steer = s.steer := rfl
@[simp] theorem State.setReg_dpll (s : State) (a : Nat) (v : Word) : (s.setReg a v).dpll = s.dpll := rfl
@[simp] theorem State.setReg_tm (s : State) (a : Nat) (v : Word) : (s.setReg a v).tm = s.tm := rfl
@[simp] theorem State.setReg_syn (s : State) (a : Nat) (v : Word) : (s.setReg a v).syn = s.syn := rfl
@[simp] theorem State.setReg_gnss (s : State) (a : Nat) (v : Word) : (s.setReg a v).gnss = s.gnss := rfl
@[simp] theorem State.setReg_prt (s : State) (a : Nat) (v : Word) : (s.setReg a v).prt = s.prt := rfl
@[simp] theorem State.setReg_fab (s : State) (a : Nat) (v : Word) : (s.setReg a v).fab = s.fab := rfl
@[simp] theorem State.setReg_itin (s : State) (a : Nat) (v : Word) : (s.setReg a v).itin = s.itin := rfl
@[simp] theorem State.setReg_eng (s : State) (a : Nat) (v : Word) : (s.setReg a v).eng = s.eng := rfl
@[simp] theorem State.setReg_nvs (s : State) (a : Nat) (v : Word) : (s.setReg a v).nvs = s.nvs := rfl
@[simp] theorem State.setReg_mb (s : State) (a : Nat) (v : Word) : (s.setReg a v).mb = s.mb := rfl
@[simp] theorem State.setReg_sec (s : State) (a : Nat) (v : Word) : (s.setReg a v).sec = s.sec := rfl
@[simp] theorem State.setReg_se (s : State) (a : Nat) (v : Word) : (s.setReg a v).se = s.se := rfl
@[simp] theorem State.setReg_svc (s : State) (a : Nat) (v : Word) : (s.setReg a v).svc = s.svc := rfl
@[simp] theorem State.setReg_dma (s : State) (a : Nat) (v : Word) : (s.setReg a v).dma = s.dma := rfl
@[simp] theorem State.setReg_dz (s : State) (a : Nat) (v : Word) : (s.setReg a v).dz = s.dz := rfl
@[simp] theorem State.setReg_lad (s : State) (a : Nat) (v : Word) : (s.setReg a v).lad = s.lad := rfl
@[simp] theorem State.setReg_tst (s : State) (a : Nat) (v : Word) : (s.setReg a v).tst = s.tst := rfl

/-! ### setRv -/

@[simp] theorem State.setRv_pending (s : State) (a v : Nat) : (s.setRv a v).pending = s.pending := rfl
@[simp] theorem State.setRv_now (s : State) (a v : Nat) : (s.setRv a v).now = s.now := rfl
@[simp] theorem State.setRv_free (s : State) (a v : Nat) : (s.setRv a v).free = s.free := rfl
@[simp] theorem State.setRv_inReset (s : State) (a v : Nat) : (s.setRv a v).inReset = s.inReset := rfl
@[simp] theorem State.setRv_relAt (s : State) (a v : Nat) : (s.setRv a v).relAt = s.relAt := rfl
@[simp] theorem State.setRv_out (s : State) (a v : Nat) : (s.setRv a v).out = s.out := rfl
@[simp] theorem State.setRv_bus (s : State) (a v : Nat) : (s.setRv a v).bus = s.bus := rfl
@[simp] theorem State.setRv_irq (s : State) (a v : Nat) : (s.setRv a v).irq = s.irq := rfl
@[simp] theorem State.setRv_flt (s : State) (a v : Nat) : (s.setRv a v).flt = s.flt := rfl
@[simp] theorem State.setRv_rat (s : State) (a v : Nat) : (s.setRv a v).rat = s.rat := rfl
@[simp] theorem State.setRv_tb (s : State) (a v : Nat) : (s.setRv a v).tb = s.tb := rfl
@[simp] theorem State.setRv_tiu (s : State) (a v : Nat) : (s.setRv a v).tiu = s.tiu := rfl
@[simp] theorem State.setRv_ref (s : State) (a v : Nat) : (s.setRv a v).ref = s.ref := rfl
@[simp] theorem State.setRv_steer (s : State) (a v : Nat) : (s.setRv a v).steer = s.steer := rfl
@[simp] theorem State.setRv_dpll (s : State) (a v : Nat) : (s.setRv a v).dpll = s.dpll := rfl
@[simp] theorem State.setRv_tm (s : State) (a v : Nat) : (s.setRv a v).tm = s.tm := rfl
@[simp] theorem State.setRv_syn (s : State) (a v : Nat) : (s.setRv a v).syn = s.syn := rfl
@[simp] theorem State.setRv_gnss (s : State) (a v : Nat) : (s.setRv a v).gnss = s.gnss := rfl
@[simp] theorem State.setRv_prt (s : State) (a v : Nat) : (s.setRv a v).prt = s.prt := rfl
@[simp] theorem State.setRv_fab (s : State) (a v : Nat) : (s.setRv a v).fab = s.fab := rfl
@[simp] theorem State.setRv_itin (s : State) (a v : Nat) : (s.setRv a v).itin = s.itin := rfl
@[simp] theorem State.setRv_eng (s : State) (a v : Nat) : (s.setRv a v).eng = s.eng := rfl
@[simp] theorem State.setRv_nvs (s : State) (a v : Nat) : (s.setRv a v).nvs = s.nvs := rfl
@[simp] theorem State.setRv_mb (s : State) (a v : Nat) : (s.setRv a v).mb = s.mb := rfl
@[simp] theorem State.setRv_sec (s : State) (a v : Nat) : (s.setRv a v).sec = s.sec := rfl
@[simp] theorem State.setRv_se (s : State) (a v : Nat) : (s.setRv a v).se = s.se := rfl
@[simp] theorem State.setRv_svc (s : State) (a v : Nat) : (s.setRv a v).svc = s.svc := rfl
@[simp] theorem State.setRv_dma (s : State) (a v : Nat) : (s.setRv a v).dma = s.dma := rfl
@[simp] theorem State.setRv_dz (s : State) (a v : Nat) : (s.setRv a v).dz = s.dz := rfl
@[simp] theorem State.setRv_lad (s : State) (a v : Nat) : (s.setRv a v).lad = s.lad := rfl
@[simp] theorem State.setRv_tst (s : State) (a v : Nat) : (s.setRv a v).tst = s.tst := rfl

/-! ### setFld -/

@[simp] theorem State.setFld_pending (s : State) (f : Fld) (v : Nat) : (s.setFld f v).pending = s.pending := rfl
@[simp] theorem State.setFld_now (s : State) (f : Fld) (v : Nat) : (s.setFld f v).now = s.now := rfl
@[simp] theorem State.setFld_free (s : State) (f : Fld) (v : Nat) : (s.setFld f v).free = s.free := rfl
@[simp] theorem State.setFld_inReset (s : State) (f : Fld) (v : Nat) : (s.setFld f v).inReset = s.inReset := rfl
@[simp] theorem State.setFld_relAt (s : State) (f : Fld) (v : Nat) : (s.setFld f v).relAt = s.relAt := rfl
@[simp] theorem State.setFld_out (s : State) (f : Fld) (v : Nat) : (s.setFld f v).out = s.out := rfl
@[simp] theorem State.setFld_bus (s : State) (f : Fld) (v : Nat) : (s.setFld f v).bus = s.bus := rfl
@[simp] theorem State.setFld_irq (s : State) (f : Fld) (v : Nat) : (s.setFld f v).irq = s.irq := rfl
@[simp] theorem State.setFld_flt (s : State) (f : Fld) (v : Nat) : (s.setFld f v).flt = s.flt := rfl
@[simp] theorem State.setFld_rat (s : State) (f : Fld) (v : Nat) : (s.setFld f v).rat = s.rat := rfl
@[simp] theorem State.setFld_tb (s : State) (f : Fld) (v : Nat) : (s.setFld f v).tb = s.tb := rfl
@[simp] theorem State.setFld_tiu (s : State) (f : Fld) (v : Nat) : (s.setFld f v).tiu = s.tiu := rfl
@[simp] theorem State.setFld_ref (s : State) (f : Fld) (v : Nat) : (s.setFld f v).ref = s.ref := rfl
@[simp] theorem State.setFld_steer (s : State) (f : Fld) (v : Nat) : (s.setFld f v).steer = s.steer := rfl
@[simp] theorem State.setFld_dpll (s : State) (f : Fld) (v : Nat) : (s.setFld f v).dpll = s.dpll := rfl
@[simp] theorem State.setFld_tm (s : State) (f : Fld) (v : Nat) : (s.setFld f v).tm = s.tm := rfl
@[simp] theorem State.setFld_syn (s : State) (f : Fld) (v : Nat) : (s.setFld f v).syn = s.syn := rfl
@[simp] theorem State.setFld_gnss (s : State) (f : Fld) (v : Nat) : (s.setFld f v).gnss = s.gnss := rfl
@[simp] theorem State.setFld_prt (s : State) (f : Fld) (v : Nat) : (s.setFld f v).prt = s.prt := rfl
@[simp] theorem State.setFld_fab (s : State) (f : Fld) (v : Nat) : (s.setFld f v).fab = s.fab := rfl
@[simp] theorem State.setFld_itin (s : State) (f : Fld) (v : Nat) : (s.setFld f v).itin = s.itin := rfl
@[simp] theorem State.setFld_eng (s : State) (f : Fld) (v : Nat) : (s.setFld f v).eng = s.eng := rfl
@[simp] theorem State.setFld_nvs (s : State) (f : Fld) (v : Nat) : (s.setFld f v).nvs = s.nvs := rfl
@[simp] theorem State.setFld_mb (s : State) (f : Fld) (v : Nat) : (s.setFld f v).mb = s.mb := rfl
@[simp] theorem State.setFld_sec (s : State) (f : Fld) (v : Nat) : (s.setFld f v).sec = s.sec := rfl
@[simp] theorem State.setFld_se (s : State) (f : Fld) (v : Nat) : (s.setFld f v).se = s.se := rfl
@[simp] theorem State.setFld_svc (s : State) (f : Fld) (v : Nat) : (s.setFld f v).svc = s.svc := rfl
@[simp] theorem State.setFld_dma (s : State) (f : Fld) (v : Nat) : (s.setFld f v).dma = s.dma := rfl
@[simp] theorem State.setFld_dz (s : State) (f : Fld) (v : Nat) : (s.setFld f v).dz = s.dz := rfl
@[simp] theorem State.setFld_lad (s : State) (f : Fld) (v : Nat) : (s.setFld f v).lad = s.lad := rfl
@[simp] theorem State.setFld_tst (s : State) (f : Fld) (v : Nat) : (s.setFld f v).tst = s.tst := rfl

/-! ### setFlag -/

@[simp] theorem State.setFlag_pending (s : State) (f : Fld) (b : Bool) : (s.setFlag f b).pending = s.pending := rfl
@[simp] theorem State.setFlag_now (s : State) (f : Fld) (b : Bool) : (s.setFlag f b).now = s.now := rfl
@[simp] theorem State.setFlag_free (s : State) (f : Fld) (b : Bool) : (s.setFlag f b).free = s.free := rfl
@[simp] theorem State.setFlag_inReset (s : State) (f : Fld) (b : Bool) : (s.setFlag f b).inReset = s.inReset := rfl
@[simp] theorem State.setFlag_relAt (s : State) (f : Fld) (b : Bool) : (s.setFlag f b).relAt = s.relAt := rfl
@[simp] theorem State.setFlag_out (s : State) (f : Fld) (b : Bool) : (s.setFlag f b).out = s.out := rfl
@[simp] theorem State.setFlag_bus (s : State) (f : Fld) (b : Bool) : (s.setFlag f b).bus = s.bus := rfl
@[simp] theorem State.setFlag_irq (s : State) (f : Fld) (b : Bool) : (s.setFlag f b).irq = s.irq := rfl
@[simp] theorem State.setFlag_flt (s : State) (f : Fld) (b : Bool) : (s.setFlag f b).flt = s.flt := rfl
@[simp] theorem State.setFlag_rat (s : State) (f : Fld) (b : Bool) : (s.setFlag f b).rat = s.rat := rfl
@[simp] theorem State.setFlag_tb (s : State) (f : Fld) (b : Bool) : (s.setFlag f b).tb = s.tb := rfl
@[simp] theorem State.setFlag_tiu (s : State) (f : Fld) (b : Bool) : (s.setFlag f b).tiu = s.tiu := rfl
@[simp] theorem State.setFlag_ref (s : State) (f : Fld) (b : Bool) : (s.setFlag f b).ref = s.ref := rfl
@[simp] theorem State.setFlag_steer (s : State) (f : Fld) (b : Bool) : (s.setFlag f b).steer = s.steer := rfl
@[simp] theorem State.setFlag_dpll (s : State) (f : Fld) (b : Bool) : (s.setFlag f b).dpll = s.dpll := rfl
@[simp] theorem State.setFlag_tm (s : State) (f : Fld) (b : Bool) : (s.setFlag f b).tm = s.tm := rfl
@[simp] theorem State.setFlag_syn (s : State) (f : Fld) (b : Bool) : (s.setFlag f b).syn = s.syn := rfl
@[simp] theorem State.setFlag_gnss (s : State) (f : Fld) (b : Bool) : (s.setFlag f b).gnss = s.gnss := rfl
@[simp] theorem State.setFlag_prt (s : State) (f : Fld) (b : Bool) : (s.setFlag f b).prt = s.prt := rfl
@[simp] theorem State.setFlag_fab (s : State) (f : Fld) (b : Bool) : (s.setFlag f b).fab = s.fab := rfl
@[simp] theorem State.setFlag_itin (s : State) (f : Fld) (b : Bool) : (s.setFlag f b).itin = s.itin := rfl
@[simp] theorem State.setFlag_eng (s : State) (f : Fld) (b : Bool) : (s.setFlag f b).eng = s.eng := rfl
@[simp] theorem State.setFlag_nvs (s : State) (f : Fld) (b : Bool) : (s.setFlag f b).nvs = s.nvs := rfl
@[simp] theorem State.setFlag_mb (s : State) (f : Fld) (b : Bool) : (s.setFlag f b).mb = s.mb := rfl
@[simp] theorem State.setFlag_sec (s : State) (f : Fld) (b : Bool) : (s.setFlag f b).sec = s.sec := rfl
@[simp] theorem State.setFlag_se (s : State) (f : Fld) (b : Bool) : (s.setFlag f b).se = s.se := rfl
@[simp] theorem State.setFlag_svc (s : State) (f : Fld) (b : Bool) : (s.setFlag f b).svc = s.svc := rfl
@[simp] theorem State.setFlag_dma (s : State) (f : Fld) (b : Bool) : (s.setFlag f b).dma = s.dma := rfl
@[simp] theorem State.setFlag_dz (s : State) (f : Fld) (b : Bool) : (s.setFlag f b).dz = s.dz := rfl
@[simp] theorem State.setFlag_lad (s : State) (f : Fld) (b : Bool) : (s.setFlag f b).lad = s.lad := rfl
@[simp] theorem State.setFlag_tst (s : State) (f : Fld) (b : Bool) : (s.setFlag f b).tst = s.tst := rfl

/-! ### bump -/

@[simp] theorem State.bump_pending (s : State) (a : Nat) : (s.bump a).pending = s.pending := rfl
@[simp] theorem State.bump_now (s : State) (a : Nat) : (s.bump a).now = s.now := rfl
@[simp] theorem State.bump_free (s : State) (a : Nat) : (s.bump a).free = s.free := rfl
@[simp] theorem State.bump_inReset (s : State) (a : Nat) : (s.bump a).inReset = s.inReset := rfl
@[simp] theorem State.bump_relAt (s : State) (a : Nat) : (s.bump a).relAt = s.relAt := rfl
@[simp] theorem State.bump_out (s : State) (a : Nat) : (s.bump a).out = s.out := rfl
@[simp] theorem State.bump_bus (s : State) (a : Nat) : (s.bump a).bus = s.bus := rfl
@[simp] theorem State.bump_irq (s : State) (a : Nat) : (s.bump a).irq = s.irq := rfl
@[simp] theorem State.bump_flt (s : State) (a : Nat) : (s.bump a).flt = s.flt := rfl
@[simp] theorem State.bump_rat (s : State) (a : Nat) : (s.bump a).rat = s.rat := rfl
@[simp] theorem State.bump_tb (s : State) (a : Nat) : (s.bump a).tb = s.tb := rfl
@[simp] theorem State.bump_tiu (s : State) (a : Nat) : (s.bump a).tiu = s.tiu := rfl
@[simp] theorem State.bump_ref (s : State) (a : Nat) : (s.bump a).ref = s.ref := rfl
@[simp] theorem State.bump_steer (s : State) (a : Nat) : (s.bump a).steer = s.steer := rfl
@[simp] theorem State.bump_dpll (s : State) (a : Nat) : (s.bump a).dpll = s.dpll := rfl
@[simp] theorem State.bump_tm (s : State) (a : Nat) : (s.bump a).tm = s.tm := rfl
@[simp] theorem State.bump_syn (s : State) (a : Nat) : (s.bump a).syn = s.syn := rfl
@[simp] theorem State.bump_gnss (s : State) (a : Nat) : (s.bump a).gnss = s.gnss := rfl
@[simp] theorem State.bump_prt (s : State) (a : Nat) : (s.bump a).prt = s.prt := rfl
@[simp] theorem State.bump_fab (s : State) (a : Nat) : (s.bump a).fab = s.fab := rfl
@[simp] theorem State.bump_itin (s : State) (a : Nat) : (s.bump a).itin = s.itin := rfl
@[simp] theorem State.bump_eng (s : State) (a : Nat) : (s.bump a).eng = s.eng := rfl
@[simp] theorem State.bump_nvs (s : State) (a : Nat) : (s.bump a).nvs = s.nvs := rfl
@[simp] theorem State.bump_mb (s : State) (a : Nat) : (s.bump a).mb = s.mb := rfl
@[simp] theorem State.bump_sec (s : State) (a : Nat) : (s.bump a).sec = s.sec := rfl
@[simp] theorem State.bump_se (s : State) (a : Nat) : (s.bump a).se = s.se := rfl
@[simp] theorem State.bump_svc (s : State) (a : Nat) : (s.bump a).svc = s.svc := rfl
@[simp] theorem State.bump_dma (s : State) (a : Nat) : (s.bump a).dma = s.dma := rfl
@[simp] theorem State.bump_dz (s : State) (a : Nat) : (s.bump a).dz = s.dz := rfl
@[simp] theorem State.bump_lad (s : State) (a : Nat) : (s.bump a).lad = s.lad := rfl
@[simp] theorem State.bump_tst (s : State) (a : Nat) : (s.bump a).tst = s.tst := rfl

/-! ### emit -/

@[simp] theorem State.emit_pending (s : State) (o : Out) : (s.emit o).pending = s.pending := rfl
@[simp] theorem State.emit_now (s : State) (o : Out) : (s.emit o).now = s.now := rfl
@[simp] theorem State.emit_free (s : State) (o : Out) : (s.emit o).free = s.free := rfl
@[simp] theorem State.emit_inReset (s : State) (o : Out) : (s.emit o).inReset = s.inReset := rfl
@[simp] theorem State.emit_relAt (s : State) (o : Out) : (s.emit o).relAt = s.relAt := rfl
@[simp] theorem State.emit_regs (s : State) (o : Out) : (s.emit o).regs = s.regs := rfl
@[simp] theorem State.emit_bus (s : State) (o : Out) : (s.emit o).bus = s.bus := rfl
@[simp] theorem State.emit_irq (s : State) (o : Out) : (s.emit o).irq = s.irq := rfl
@[simp] theorem State.emit_flt (s : State) (o : Out) : (s.emit o).flt = s.flt := rfl
@[simp] theorem State.emit_rat (s : State) (o : Out) : (s.emit o).rat = s.rat := rfl
@[simp] theorem State.emit_tb (s : State) (o : Out) : (s.emit o).tb = s.tb := rfl
@[simp] theorem State.emit_tiu (s : State) (o : Out) : (s.emit o).tiu = s.tiu := rfl
@[simp] theorem State.emit_ref (s : State) (o : Out) : (s.emit o).ref = s.ref := rfl
@[simp] theorem State.emit_steer (s : State) (o : Out) : (s.emit o).steer = s.steer := rfl
@[simp] theorem State.emit_dpll (s : State) (o : Out) : (s.emit o).dpll = s.dpll := rfl
@[simp] theorem State.emit_tm (s : State) (o : Out) : (s.emit o).tm = s.tm := rfl
@[simp] theorem State.emit_syn (s : State) (o : Out) : (s.emit o).syn = s.syn := rfl
@[simp] theorem State.emit_gnss (s : State) (o : Out) : (s.emit o).gnss = s.gnss := rfl
@[simp] theorem State.emit_prt (s : State) (o : Out) : (s.emit o).prt = s.prt := rfl
@[simp] theorem State.emit_fab (s : State) (o : Out) : (s.emit o).fab = s.fab := rfl
@[simp] theorem State.emit_itin (s : State) (o : Out) : (s.emit o).itin = s.itin := rfl
@[simp] theorem State.emit_eng (s : State) (o : Out) : (s.emit o).eng = s.eng := rfl
@[simp] theorem State.emit_nvs (s : State) (o : Out) : (s.emit o).nvs = s.nvs := rfl
@[simp] theorem State.emit_mb (s : State) (o : Out) : (s.emit o).mb = s.mb := rfl
@[simp] theorem State.emit_sec (s : State) (o : Out) : (s.emit o).sec = s.sec := rfl
@[simp] theorem State.emit_se (s : State) (o : Out) : (s.emit o).se = s.se := rfl
@[simp] theorem State.emit_svc (s : State) (o : Out) : (s.emit o).svc = s.svc := rfl
@[simp] theorem State.emit_dma (s : State) (o : Out) : (s.emit o).dma = s.dma := rfl
@[simp] theorem State.emit_dz (s : State) (o : Out) : (s.emit o).dz = s.dz := rfl
@[simp] theorem State.emit_lad (s : State) (o : Out) : (s.emit o).lad = s.lad := rfl
@[simp] theorem State.emit_tst (s : State) (o : Out) : (s.emit o).tst = s.tst := rfl
@[simp] theorem State.emit_reg (s : State) (o : Out) (x : Nat) : (s.emit o).reg x = s.reg x := rfl
@[simp] theorem State.emit_rv (s : State) (o : Out) (x : Nat) : (s.emit o).rv x = s.rv x := rfl
@[simp] theorem State.emit_fld (s : State) (o : Out) (x : Fld) : (s.emit o).fld x = s.fld x := rfl
@[simp] theorem State.emit_flag (s : State) (o : Out) (x : Fld) : (s.emit o).flag x = s.flag x := rfl

/-! ### setGuard -/

@[simp] theorem State.setGuard_pending (s : State) (m : Master) (g : Option Guard) : (s.setGuard m g).pending = s.pending := rfl
@[simp] theorem State.setGuard_now (s : State) (m : Master) (g : Option Guard) : (s.setGuard m g).now = s.now := rfl
@[simp] theorem State.setGuard_free (s : State) (m : Master) (g : Option Guard) : (s.setGuard m g).free = s.free := rfl
@[simp] theorem State.setGuard_inReset (s : State) (m : Master) (g : Option Guard) : (s.setGuard m g).inReset = s.inReset := rfl
@[simp] theorem State.setGuard_relAt (s : State) (m : Master) (g : Option Guard) : (s.setGuard m g).relAt = s.relAt := rfl
@[simp] theorem State.setGuard_regs (s : State) (m : Master) (g : Option Guard) : (s.setGuard m g).regs = s.regs := rfl
@[simp] theorem State.setGuard_out (s : State) (m : Master) (g : Option Guard) : (s.setGuard m g).out = s.out := rfl
@[simp] theorem State.setGuard_irq (s : State) (m : Master) (g : Option Guard) : (s.setGuard m g).irq = s.irq := rfl
@[simp] theorem State.setGuard_flt (s : State) (m : Master) (g : Option Guard) : (s.setGuard m g).flt = s.flt := rfl
@[simp] theorem State.setGuard_rat (s : State) (m : Master) (g : Option Guard) : (s.setGuard m g).rat = s.rat := rfl
@[simp] theorem State.setGuard_tb (s : State) (m : Master) (g : Option Guard) : (s.setGuard m g).tb = s.tb := rfl
@[simp] theorem State.setGuard_tiu (s : State) (m : Master) (g : Option Guard) : (s.setGuard m g).tiu = s.tiu := rfl
@[simp] theorem State.setGuard_ref (s : State) (m : Master) (g : Option Guard) : (s.setGuard m g).ref = s.ref := rfl
@[simp] theorem State.setGuard_steer (s : State) (m : Master) (g : Option Guard) : (s.setGuard m g).steer = s.steer := rfl
@[simp] theorem State.setGuard_dpll (s : State) (m : Master) (g : Option Guard) : (s.setGuard m g).dpll = s.dpll := rfl
@[simp] theorem State.setGuard_tm (s : State) (m : Master) (g : Option Guard) : (s.setGuard m g).tm = s.tm := rfl
@[simp] theorem State.setGuard_syn (s : State) (m : Master) (g : Option Guard) : (s.setGuard m g).syn = s.syn := rfl
@[simp] theorem State.setGuard_gnss (s : State) (m : Master) (g : Option Guard) : (s.setGuard m g).gnss = s.gnss := rfl
@[simp] theorem State.setGuard_prt (s : State) (m : Master) (g : Option Guard) : (s.setGuard m g).prt = s.prt := rfl
@[simp] theorem State.setGuard_fab (s : State) (m : Master) (g : Option Guard) : (s.setGuard m g).fab = s.fab := rfl
@[simp] theorem State.setGuard_itin (s : State) (m : Master) (g : Option Guard) : (s.setGuard m g).itin = s.itin := rfl
@[simp] theorem State.setGuard_eng (s : State) (m : Master) (g : Option Guard) : (s.setGuard m g).eng = s.eng := rfl
@[simp] theorem State.setGuard_nvs (s : State) (m : Master) (g : Option Guard) : (s.setGuard m g).nvs = s.nvs := rfl
@[simp] theorem State.setGuard_mb (s : State) (m : Master) (g : Option Guard) : (s.setGuard m g).mb = s.mb := rfl
@[simp] theorem State.setGuard_sec (s : State) (m : Master) (g : Option Guard) : (s.setGuard m g).sec = s.sec := rfl
@[simp] theorem State.setGuard_se (s : State) (m : Master) (g : Option Guard) : (s.setGuard m g).se = s.se := rfl
@[simp] theorem State.setGuard_svc (s : State) (m : Master) (g : Option Guard) : (s.setGuard m g).svc = s.svc := rfl
@[simp] theorem State.setGuard_dma (s : State) (m : Master) (g : Option Guard) : (s.setGuard m g).dma = s.dma := rfl
@[simp] theorem State.setGuard_dz (s : State) (m : Master) (g : Option Guard) : (s.setGuard m g).dz = s.dz := rfl
@[simp] theorem State.setGuard_lad (s : State) (m : Master) (g : Option Guard) : (s.setGuard m g).lad = s.lad := rfl
@[simp] theorem State.setGuard_tst (s : State) (m : Master) (g : Option Guard) : (s.setGuard m g).tst = s.tst := rfl
@[simp] theorem State.setGuard_reg (s : State) (m : Master) (g : Option Guard) (x : Nat) : (s.setGuard m g).reg x = s.reg x := rfl
@[simp] theorem State.setGuard_rv (s : State) (m : Master) (g : Option Guard) (x : Nat) : (s.setGuard m g).rv x = s.rv x := rfl
@[simp] theorem State.setGuard_fld (s : State) (m : Master) (g : Option Guard) (x : Fld) : (s.setGuard m g).fld x = s.fld x := rfl
@[simp] theorem State.setGuard_flag (s : State) (m : Master) (g : Option Guard) (x : Fld) : (s.setGuard m g).flag x = s.flag x := rfl

/-! ### setPosted -/

@[simp] theorem State.setPosted_pending (s : State) (b : Nat) (p : Option Posted) : (s.setPosted b p).pending = s.pending := rfl
@[simp] theorem State.setPosted_now (s : State) (b : Nat) (p : Option Posted) : (s.setPosted b p).now = s.now := rfl
@[simp] theorem State.setPosted_free (s : State) (b : Nat) (p : Option Posted) : (s.setPosted b p).free = s.free := rfl
@[simp] theorem State.setPosted_inReset (s : State) (b : Nat) (p : Option Posted) : (s.setPosted b p).inReset = s.inReset := rfl
@[simp] theorem State.setPosted_relAt (s : State) (b : Nat) (p : Option Posted) : (s.setPosted b p).relAt = s.relAt := rfl
@[simp] theorem State.setPosted_regs (s : State) (b : Nat) (p : Option Posted) : (s.setPosted b p).regs = s.regs := rfl
@[simp] theorem State.setPosted_out (s : State) (b : Nat) (p : Option Posted) : (s.setPosted b p).out = s.out := rfl
@[simp] theorem State.setPosted_irq (s : State) (b : Nat) (p : Option Posted) : (s.setPosted b p).irq = s.irq := rfl
@[simp] theorem State.setPosted_flt (s : State) (b : Nat) (p : Option Posted) : (s.setPosted b p).flt = s.flt := rfl
@[simp] theorem State.setPosted_rat (s : State) (b : Nat) (p : Option Posted) : (s.setPosted b p).rat = s.rat := rfl
@[simp] theorem State.setPosted_tb (s : State) (b : Nat) (p : Option Posted) : (s.setPosted b p).tb = s.tb := rfl
@[simp] theorem State.setPosted_tiu (s : State) (b : Nat) (p : Option Posted) : (s.setPosted b p).tiu = s.tiu := rfl
@[simp] theorem State.setPosted_ref (s : State) (b : Nat) (p : Option Posted) : (s.setPosted b p).ref = s.ref := rfl
@[simp] theorem State.setPosted_steer (s : State) (b : Nat) (p : Option Posted) : (s.setPosted b p).steer = s.steer := rfl
@[simp] theorem State.setPosted_dpll (s : State) (b : Nat) (p : Option Posted) : (s.setPosted b p).dpll = s.dpll := rfl
@[simp] theorem State.setPosted_tm (s : State) (b : Nat) (p : Option Posted) : (s.setPosted b p).tm = s.tm := rfl
@[simp] theorem State.setPosted_syn (s : State) (b : Nat) (p : Option Posted) : (s.setPosted b p).syn = s.syn := rfl
@[simp] theorem State.setPosted_gnss (s : State) (b : Nat) (p : Option Posted) : (s.setPosted b p).gnss = s.gnss := rfl
@[simp] theorem State.setPosted_prt (s : State) (b : Nat) (p : Option Posted) : (s.setPosted b p).prt = s.prt := rfl
@[simp] theorem State.setPosted_fab (s : State) (b : Nat) (p : Option Posted) : (s.setPosted b p).fab = s.fab := rfl
@[simp] theorem State.setPosted_itin (s : State) (b : Nat) (p : Option Posted) : (s.setPosted b p).itin = s.itin := rfl
@[simp] theorem State.setPosted_eng (s : State) (b : Nat) (p : Option Posted) : (s.setPosted b p).eng = s.eng := rfl
@[simp] theorem State.setPosted_nvs (s : State) (b : Nat) (p : Option Posted) : (s.setPosted b p).nvs = s.nvs := rfl
@[simp] theorem State.setPosted_mb (s : State) (b : Nat) (p : Option Posted) : (s.setPosted b p).mb = s.mb := rfl
@[simp] theorem State.setPosted_sec (s : State) (b : Nat) (p : Option Posted) : (s.setPosted b p).sec = s.sec := rfl
@[simp] theorem State.setPosted_se (s : State) (b : Nat) (p : Option Posted) : (s.setPosted b p).se = s.se := rfl
@[simp] theorem State.setPosted_svc (s : State) (b : Nat) (p : Option Posted) : (s.setPosted b p).svc = s.svc := rfl
@[simp] theorem State.setPosted_dma (s : State) (b : Nat) (p : Option Posted) : (s.setPosted b p).dma = s.dma := rfl
@[simp] theorem State.setPosted_dz (s : State) (b : Nat) (p : Option Posted) : (s.setPosted b p).dz = s.dz := rfl
@[simp] theorem State.setPosted_lad (s : State) (b : Nat) (p : Option Posted) : (s.setPosted b p).lad = s.lad := rfl
@[simp] theorem State.setPosted_tst (s : State) (b : Nat) (p : Option Posted) : (s.setPosted b p).tst = s.tst := rfl
@[simp] theorem State.setPosted_reg (s : State) (b : Nat) (p : Option Posted) (x : Nat) : (s.setPosted b p).reg x = s.reg x := rfl
@[simp] theorem State.setPosted_rv (s : State) (b : Nat) (p : Option Posted) (x : Nat) : (s.setPosted b p).rv x = s.rv x := rfl
@[simp] theorem State.setPosted_fld (s : State) (b : Nat) (p : Option Posted) (x : Fld) : (s.setPosted b p).fld x = s.fld x := rfl
@[simp] theorem State.setPosted_flag (s : State) (b : Nat) (p : Option Posted) (x : Fld) : (s.setPosted b p).flag x = s.flag x := rfl

/-! ### setDiscarded -/

@[simp] theorem State.setDiscarded_pending (s : State) (b : Nat) (d : Bool) : (s.setDiscarded b d).pending = s.pending := rfl
@[simp] theorem State.setDiscarded_now (s : State) (b : Nat) (d : Bool) : (s.setDiscarded b d).now = s.now := rfl
@[simp] theorem State.setDiscarded_free (s : State) (b : Nat) (d : Bool) : (s.setDiscarded b d).free = s.free := rfl
@[simp] theorem State.setDiscarded_inReset (s : State) (b : Nat) (d : Bool) : (s.setDiscarded b d).inReset = s.inReset := rfl
@[simp] theorem State.setDiscarded_relAt (s : State) (b : Nat) (d : Bool) : (s.setDiscarded b d).relAt = s.relAt := rfl
@[simp] theorem State.setDiscarded_regs (s : State) (b : Nat) (d : Bool) : (s.setDiscarded b d).regs = s.regs := rfl
@[simp] theorem State.setDiscarded_out (s : State) (b : Nat) (d : Bool) : (s.setDiscarded b d).out = s.out := rfl
@[simp] theorem State.setDiscarded_irq (s : State) (b : Nat) (d : Bool) : (s.setDiscarded b d).irq = s.irq := rfl
@[simp] theorem State.setDiscarded_flt (s : State) (b : Nat) (d : Bool) : (s.setDiscarded b d).flt = s.flt := rfl
@[simp] theorem State.setDiscarded_rat (s : State) (b : Nat) (d : Bool) : (s.setDiscarded b d).rat = s.rat := rfl
@[simp] theorem State.setDiscarded_tb (s : State) (b : Nat) (d : Bool) : (s.setDiscarded b d).tb = s.tb := rfl
@[simp] theorem State.setDiscarded_tiu (s : State) (b : Nat) (d : Bool) : (s.setDiscarded b d).tiu = s.tiu := rfl
@[simp] theorem State.setDiscarded_ref (s : State) (b : Nat) (d : Bool) : (s.setDiscarded b d).ref = s.ref := rfl
@[simp] theorem State.setDiscarded_steer (s : State) (b : Nat) (d : Bool) : (s.setDiscarded b d).steer = s.steer := rfl
@[simp] theorem State.setDiscarded_dpll (s : State) (b : Nat) (d : Bool) : (s.setDiscarded b d).dpll = s.dpll := rfl
@[simp] theorem State.setDiscarded_tm (s : State) (b : Nat) (d : Bool) : (s.setDiscarded b d).tm = s.tm := rfl
@[simp] theorem State.setDiscarded_syn (s : State) (b : Nat) (d : Bool) : (s.setDiscarded b d).syn = s.syn := rfl
@[simp] theorem State.setDiscarded_gnss (s : State) (b : Nat) (d : Bool) : (s.setDiscarded b d).gnss = s.gnss := rfl
@[simp] theorem State.setDiscarded_prt (s : State) (b : Nat) (d : Bool) : (s.setDiscarded b d).prt = s.prt := rfl
@[simp] theorem State.setDiscarded_fab (s : State) (b : Nat) (d : Bool) : (s.setDiscarded b d).fab = s.fab := rfl
@[simp] theorem State.setDiscarded_itin (s : State) (b : Nat) (d : Bool) : (s.setDiscarded b d).itin = s.itin := rfl
@[simp] theorem State.setDiscarded_eng (s : State) (b : Nat) (d : Bool) : (s.setDiscarded b d).eng = s.eng := rfl
@[simp] theorem State.setDiscarded_nvs (s : State) (b : Nat) (d : Bool) : (s.setDiscarded b d).nvs = s.nvs := rfl
@[simp] theorem State.setDiscarded_mb (s : State) (b : Nat) (d : Bool) : (s.setDiscarded b d).mb = s.mb := rfl
@[simp] theorem State.setDiscarded_sec (s : State) (b : Nat) (d : Bool) : (s.setDiscarded b d).sec = s.sec := rfl
@[simp] theorem State.setDiscarded_se (s : State) (b : Nat) (d : Bool) : (s.setDiscarded b d).se = s.se := rfl
@[simp] theorem State.setDiscarded_svc (s : State) (b : Nat) (d : Bool) : (s.setDiscarded b d).svc = s.svc := rfl
@[simp] theorem State.setDiscarded_dma (s : State) (b : Nat) (d : Bool) : (s.setDiscarded b d).dma = s.dma := rfl
@[simp] theorem State.setDiscarded_dz (s : State) (b : Nat) (d : Bool) : (s.setDiscarded b d).dz = s.dz := rfl
@[simp] theorem State.setDiscarded_lad (s : State) (b : Nat) (d : Bool) : (s.setDiscarded b d).lad = s.lad := rfl
@[simp] theorem State.setDiscarded_tst (s : State) (b : Nat) (d : Bool) : (s.setDiscarded b d).tst = s.tst := rfl
@[simp] theorem State.setDiscarded_reg (s : State) (b : Nat) (d : Bool) (x : Nat) : (s.setDiscarded b d).reg x = s.reg x := rfl
@[simp] theorem State.setDiscarded_rv (s : State) (b : Nat) (d : Bool) (x : Nat) : (s.setDiscarded b d).rv x = s.rv x := rfl
@[simp] theorem State.setDiscarded_fld (s : State) (b : Nat) (d : Bool) (x : Fld) : (s.setDiscarded b d).fld x = s.fld x := rfl
@[simp] theorem State.setDiscarded_flag (s : State) (b : Nat) (d : Bool) (x : Fld) : (s.setDiscarded b d).flag x = s.flag x := rfl

/-! ### setDz -/

@[simp] theorem State.setDz_pending (s : State) (d : DaisyPart) : (s.setDz d).pending = s.pending := rfl
@[simp] theorem State.setDz_now (s : State) (d : DaisyPart) : (s.setDz d).now = s.now := rfl
@[simp] theorem State.setDz_free (s : State) (d : DaisyPart) : (s.setDz d).free = s.free := rfl
@[simp] theorem State.setDz_inReset (s : State) (d : DaisyPart) : (s.setDz d).inReset = s.inReset := rfl
@[simp] theorem State.setDz_relAt (s : State) (d : DaisyPart) : (s.setDz d).relAt = s.relAt := rfl
@[simp] theorem State.setDz_regs (s : State) (d : DaisyPart) : (s.setDz d).regs = s.regs := rfl
@[simp] theorem State.setDz_out (s : State) (d : DaisyPart) : (s.setDz d).out = s.out := rfl
@[simp] theorem State.setDz_bus (s : State) (d : DaisyPart) : (s.setDz d).bus = s.bus := rfl
@[simp] theorem State.setDz_irq (s : State) (d : DaisyPart) : (s.setDz d).irq = s.irq := rfl
@[simp] theorem State.setDz_flt (s : State) (d : DaisyPart) : (s.setDz d).flt = s.flt := rfl
@[simp] theorem State.setDz_rat (s : State) (d : DaisyPart) : (s.setDz d).rat = s.rat := rfl
@[simp] theorem State.setDz_tb (s : State) (d : DaisyPart) : (s.setDz d).tb = s.tb := rfl
@[simp] theorem State.setDz_tiu (s : State) (d : DaisyPart) : (s.setDz d).tiu = s.tiu := rfl
@[simp] theorem State.setDz_ref (s : State) (d : DaisyPart) : (s.setDz d).ref = s.ref := rfl
@[simp] theorem State.setDz_steer (s : State) (d : DaisyPart) : (s.setDz d).steer = s.steer := rfl
@[simp] theorem State.setDz_dpll (s : State) (d : DaisyPart) : (s.setDz d).dpll = s.dpll := rfl
@[simp] theorem State.setDz_tm (s : State) (d : DaisyPart) : (s.setDz d).tm = s.tm := rfl
@[simp] theorem State.setDz_syn (s : State) (d : DaisyPart) : (s.setDz d).syn = s.syn := rfl
@[simp] theorem State.setDz_gnss (s : State) (d : DaisyPart) : (s.setDz d).gnss = s.gnss := rfl
@[simp] theorem State.setDz_prt (s : State) (d : DaisyPart) : (s.setDz d).prt = s.prt := rfl
@[simp] theorem State.setDz_fab (s : State) (d : DaisyPart) : (s.setDz d).fab = s.fab := rfl
@[simp] theorem State.setDz_itin (s : State) (d : DaisyPart) : (s.setDz d).itin = s.itin := rfl
@[simp] theorem State.setDz_eng (s : State) (d : DaisyPart) : (s.setDz d).eng = s.eng := rfl
@[simp] theorem State.setDz_nvs (s : State) (d : DaisyPart) : (s.setDz d).nvs = s.nvs := rfl
@[simp] theorem State.setDz_mb (s : State) (d : DaisyPart) : (s.setDz d).mb = s.mb := rfl
@[simp] theorem State.setDz_sec (s : State) (d : DaisyPart) : (s.setDz d).sec = s.sec := rfl
@[simp] theorem State.setDz_se (s : State) (d : DaisyPart) : (s.setDz d).se = s.se := rfl
@[simp] theorem State.setDz_svc (s : State) (d : DaisyPart) : (s.setDz d).svc = s.svc := rfl
@[simp] theorem State.setDz_dma (s : State) (d : DaisyPart) : (s.setDz d).dma = s.dma := rfl
@[simp] theorem State.setDz_lad (s : State) (d : DaisyPart) : (s.setDz d).lad = s.lad := rfl
@[simp] theorem State.setDz_tst (s : State) (d : DaisyPart) : (s.setDz d).tst = s.tst := rfl
@[simp] theorem State.setDz_reg (s : State) (d : DaisyPart) (x : Nat) : (s.setDz d).reg x = s.reg x := rfl
@[simp] theorem State.setDz_rv (s : State) (d : DaisyPart) (x : Nat) : (s.setDz d).rv x = s.rv x := rfl
@[simp] theorem State.setDz_fld (s : State) (d : DaisyPart) (x : Fld) : (s.setDz d).fld x = s.fld x := rfl
@[simp] theorem State.setDz_flag (s : State) (d : DaisyPart) (x : Fld) : (s.setDz d).flag x = s.flag x := rfl

/-! ### setDmaCh -/

@[simp] theorem State.setDmaCh_pending (s : State) (c : Nat) (v : DmaCh) : (s.setDmaCh c v).pending = s.pending := rfl
@[simp] theorem State.setDmaCh_now (s : State) (c : Nat) (v : DmaCh) : (s.setDmaCh c v).now = s.now := rfl
@[simp] theorem State.setDmaCh_free (s : State) (c : Nat) (v : DmaCh) : (s.setDmaCh c v).free = s.free := rfl
@[simp] theorem State.setDmaCh_inReset (s : State) (c : Nat) (v : DmaCh) : (s.setDmaCh c v).inReset = s.inReset := rfl
@[simp] theorem State.setDmaCh_relAt (s : State) (c : Nat) (v : DmaCh) : (s.setDmaCh c v).relAt = s.relAt := rfl
@[simp] theorem State.setDmaCh_regs (s : State) (c : Nat) (v : DmaCh) : (s.setDmaCh c v).regs = s.regs := rfl
@[simp] theorem State.setDmaCh_out (s : State) (c : Nat) (v : DmaCh) : (s.setDmaCh c v).out = s.out := rfl
@[simp] theorem State.setDmaCh_bus (s : State) (c : Nat) (v : DmaCh) : (s.setDmaCh c v).bus = s.bus := rfl
@[simp] theorem State.setDmaCh_irq (s : State) (c : Nat) (v : DmaCh) : (s.setDmaCh c v).irq = s.irq := rfl
@[simp] theorem State.setDmaCh_flt (s : State) (c : Nat) (v : DmaCh) : (s.setDmaCh c v).flt = s.flt := rfl
@[simp] theorem State.setDmaCh_rat (s : State) (c : Nat) (v : DmaCh) : (s.setDmaCh c v).rat = s.rat := rfl
@[simp] theorem State.setDmaCh_tb (s : State) (c : Nat) (v : DmaCh) : (s.setDmaCh c v).tb = s.tb := rfl
@[simp] theorem State.setDmaCh_tiu (s : State) (c : Nat) (v : DmaCh) : (s.setDmaCh c v).tiu = s.tiu := rfl
@[simp] theorem State.setDmaCh_ref (s : State) (c : Nat) (v : DmaCh) : (s.setDmaCh c v).ref = s.ref := rfl
@[simp] theorem State.setDmaCh_steer (s : State) (c : Nat) (v : DmaCh) : (s.setDmaCh c v).steer = s.steer := rfl
@[simp] theorem State.setDmaCh_dpll (s : State) (c : Nat) (v : DmaCh) : (s.setDmaCh c v).dpll = s.dpll := rfl
@[simp] theorem State.setDmaCh_tm (s : State) (c : Nat) (v : DmaCh) : (s.setDmaCh c v).tm = s.tm := rfl
@[simp] theorem State.setDmaCh_syn (s : State) (c : Nat) (v : DmaCh) : (s.setDmaCh c v).syn = s.syn := rfl
@[simp] theorem State.setDmaCh_gnss (s : State) (c : Nat) (v : DmaCh) : (s.setDmaCh c v).gnss = s.gnss := rfl
@[simp] theorem State.setDmaCh_prt (s : State) (c : Nat) (v : DmaCh) : (s.setDmaCh c v).prt = s.prt := rfl
@[simp] theorem State.setDmaCh_fab (s : State) (c : Nat) (v : DmaCh) : (s.setDmaCh c v).fab = s.fab := rfl
@[simp] theorem State.setDmaCh_itin (s : State) (c : Nat) (v : DmaCh) : (s.setDmaCh c v).itin = s.itin := rfl
@[simp] theorem State.setDmaCh_eng (s : State) (c : Nat) (v : DmaCh) : (s.setDmaCh c v).eng = s.eng := rfl
@[simp] theorem State.setDmaCh_nvs (s : State) (c : Nat) (v : DmaCh) : (s.setDmaCh c v).nvs = s.nvs := rfl
@[simp] theorem State.setDmaCh_mb (s : State) (c : Nat) (v : DmaCh) : (s.setDmaCh c v).mb = s.mb := rfl
@[simp] theorem State.setDmaCh_sec (s : State) (c : Nat) (v : DmaCh) : (s.setDmaCh c v).sec = s.sec := rfl
@[simp] theorem State.setDmaCh_se (s : State) (c : Nat) (v : DmaCh) : (s.setDmaCh c v).se = s.se := rfl
@[simp] theorem State.setDmaCh_svc (s : State) (c : Nat) (v : DmaCh) : (s.setDmaCh c v).svc = s.svc := rfl
@[simp] theorem State.setDmaCh_dz (s : State) (c : Nat) (v : DmaCh) : (s.setDmaCh c v).dz = s.dz := rfl
@[simp] theorem State.setDmaCh_lad (s : State) (c : Nat) (v : DmaCh) : (s.setDmaCh c v).lad = s.lad := rfl
@[simp] theorem State.setDmaCh_tst (s : State) (c : Nat) (v : DmaCh) : (s.setDmaCh c v).tst = s.tst := rfl
@[simp] theorem State.setDmaCh_reg (s : State) (c : Nat) (v : DmaCh) (x : Nat) : (s.setDmaCh c v).reg x = s.reg x := rfl
@[simp] theorem State.setDmaCh_rv (s : State) (c : Nat) (v : DmaCh) (x : Nat) : (s.setDmaCh c v).rv x = s.rv x := rfl
@[simp] theorem State.setDmaCh_fld (s : State) (c : Nat) (v : DmaCh) (x : Fld) : (s.setDmaCh c v).fld x = s.fld x := rfl
@[simp] theorem State.setDmaCh_flag (s : State) (c : Nat) (v : DmaCh) (x : Fld) : (s.setDmaCh c v).flag x = s.flag x := rfl

/-! ### setEng -/

@[simp] theorem State.setEng_pending (s : State) (e : Nat) (v : EngPart) : (s.setEng e v).pending = s.pending := rfl
@[simp] theorem State.setEng_now (s : State) (e : Nat) (v : EngPart) : (s.setEng e v).now = s.now := rfl
@[simp] theorem State.setEng_free (s : State) (e : Nat) (v : EngPart) : (s.setEng e v).free = s.free := rfl
@[simp] theorem State.setEng_inReset (s : State) (e : Nat) (v : EngPart) : (s.setEng e v).inReset = s.inReset := rfl
@[simp] theorem State.setEng_relAt (s : State) (e : Nat) (v : EngPart) : (s.setEng e v).relAt = s.relAt := rfl
@[simp] theorem State.setEng_regs (s : State) (e : Nat) (v : EngPart) : (s.setEng e v).regs = s.regs := rfl
@[simp] theorem State.setEng_out (s : State) (e : Nat) (v : EngPart) : (s.setEng e v).out = s.out := rfl
@[simp] theorem State.setEng_bus (s : State) (e : Nat) (v : EngPart) : (s.setEng e v).bus = s.bus := rfl
@[simp] theorem State.setEng_irq (s : State) (e : Nat) (v : EngPart) : (s.setEng e v).irq = s.irq := rfl
@[simp] theorem State.setEng_flt (s : State) (e : Nat) (v : EngPart) : (s.setEng e v).flt = s.flt := rfl
@[simp] theorem State.setEng_rat (s : State) (e : Nat) (v : EngPart) : (s.setEng e v).rat = s.rat := rfl
@[simp] theorem State.setEng_tb (s : State) (e : Nat) (v : EngPart) : (s.setEng e v).tb = s.tb := rfl
@[simp] theorem State.setEng_tiu (s : State) (e : Nat) (v : EngPart) : (s.setEng e v).tiu = s.tiu := rfl
@[simp] theorem State.setEng_ref (s : State) (e : Nat) (v : EngPart) : (s.setEng e v).ref = s.ref := rfl
@[simp] theorem State.setEng_steer (s : State) (e : Nat) (v : EngPart) : (s.setEng e v).steer = s.steer := rfl
@[simp] theorem State.setEng_dpll (s : State) (e : Nat) (v : EngPart) : (s.setEng e v).dpll = s.dpll := rfl
@[simp] theorem State.setEng_tm (s : State) (e : Nat) (v : EngPart) : (s.setEng e v).tm = s.tm := rfl
@[simp] theorem State.setEng_syn (s : State) (e : Nat) (v : EngPart) : (s.setEng e v).syn = s.syn := rfl
@[simp] theorem State.setEng_gnss (s : State) (e : Nat) (v : EngPart) : (s.setEng e v).gnss = s.gnss := rfl
@[simp] theorem State.setEng_prt (s : State) (e : Nat) (v : EngPart) : (s.setEng e v).prt = s.prt := rfl
@[simp] theorem State.setEng_fab (s : State) (e : Nat) (v : EngPart) : (s.setEng e v).fab = s.fab := rfl
@[simp] theorem State.setEng_itin (s : State) (e : Nat) (v : EngPart) : (s.setEng e v).itin = s.itin := rfl
@[simp] theorem State.setEng_nvs (s : State) (e : Nat) (v : EngPart) : (s.setEng e v).nvs = s.nvs := rfl
@[simp] theorem State.setEng_mb (s : State) (e : Nat) (v : EngPart) : (s.setEng e v).mb = s.mb := rfl
@[simp] theorem State.setEng_sec (s : State) (e : Nat) (v : EngPart) : (s.setEng e v).sec = s.sec := rfl
@[simp] theorem State.setEng_se (s : State) (e : Nat) (v : EngPart) : (s.setEng e v).se = s.se := rfl
@[simp] theorem State.setEng_svc (s : State) (e : Nat) (v : EngPart) : (s.setEng e v).svc = s.svc := rfl
@[simp] theorem State.setEng_dma (s : State) (e : Nat) (v : EngPart) : (s.setEng e v).dma = s.dma := rfl
@[simp] theorem State.setEng_dz (s : State) (e : Nat) (v : EngPart) : (s.setEng e v).dz = s.dz := rfl
@[simp] theorem State.setEng_lad (s : State) (e : Nat) (v : EngPart) : (s.setEng e v).lad = s.lad := rfl
@[simp] theorem State.setEng_tst (s : State) (e : Nat) (v : EngPart) : (s.setEng e v).tst = s.tst := rfl
@[simp] theorem State.setEng_reg (s : State) (e : Nat) (v : EngPart) (x : Nat) : (s.setEng e v).reg x = s.reg x := rfl
@[simp] theorem State.setEng_rv (s : State) (e : Nat) (v : EngPart) (x : Nat) : (s.setEng e v).rv x = s.rv x := rfl
@[simp] theorem State.setEng_fld (s : State) (e : Nat) (v : EngPart) (x : Fld) : (s.setEng e v).fld x = s.fld x := rfl
@[simp] theorem State.setEng_flag (s : State) (e : Nat) (v : EngPart) (x : Fld) : (s.setEng e v).flag x = s.flag x := rfl

/-! ### setPe -/

@[simp] theorem State.setPe_pending (s : State) (p : Nat) (v : PePart) : (s.setPe p v).pending = s.pending := rfl
@[simp] theorem State.setPe_now (s : State) (p : Nat) (v : PePart) : (s.setPe p v).now = s.now := rfl
@[simp] theorem State.setPe_free (s : State) (p : Nat) (v : PePart) : (s.setPe p v).free = s.free := rfl
@[simp] theorem State.setPe_inReset (s : State) (p : Nat) (v : PePart) : (s.setPe p v).inReset = s.inReset := rfl
@[simp] theorem State.setPe_relAt (s : State) (p : Nat) (v : PePart) : (s.setPe p v).relAt = s.relAt := rfl
@[simp] theorem State.setPe_regs (s : State) (p : Nat) (v : PePart) : (s.setPe p v).regs = s.regs := rfl
@[simp] theorem State.setPe_out (s : State) (p : Nat) (v : PePart) : (s.setPe p v).out = s.out := rfl
@[simp] theorem State.setPe_bus (s : State) (p : Nat) (v : PePart) : (s.setPe p v).bus = s.bus := rfl
@[simp] theorem State.setPe_irq (s : State) (p : Nat) (v : PePart) : (s.setPe p v).irq = s.irq := rfl
@[simp] theorem State.setPe_flt (s : State) (p : Nat) (v : PePart) : (s.setPe p v).flt = s.flt := rfl
@[simp] theorem State.setPe_rat (s : State) (p : Nat) (v : PePart) : (s.setPe p v).rat = s.rat := rfl
@[simp] theorem State.setPe_tb (s : State) (p : Nat) (v : PePart) : (s.setPe p v).tb = s.tb := rfl
@[simp] theorem State.setPe_tiu (s : State) (p : Nat) (v : PePart) : (s.setPe p v).tiu = s.tiu := rfl
@[simp] theorem State.setPe_ref (s : State) (p : Nat) (v : PePart) : (s.setPe p v).ref = s.ref := rfl
@[simp] theorem State.setPe_steer (s : State) (p : Nat) (v : PePart) : (s.setPe p v).steer = s.steer := rfl
@[simp] theorem State.setPe_dpll (s : State) (p : Nat) (v : PePart) : (s.setPe p v).dpll = s.dpll := rfl
@[simp] theorem State.setPe_tm (s : State) (p : Nat) (v : PePart) : (s.setPe p v).tm = s.tm := rfl
@[simp] theorem State.setPe_syn (s : State) (p : Nat) (v : PePart) : (s.setPe p v).syn = s.syn := rfl
@[simp] theorem State.setPe_gnss (s : State) (p : Nat) (v : PePart) : (s.setPe p v).gnss = s.gnss := rfl
@[simp] theorem State.setPe_prt (s : State) (p : Nat) (v : PePart) : (s.setPe p v).prt = s.prt := rfl
@[simp] theorem State.setPe_itin (s : State) (p : Nat) (v : PePart) : (s.setPe p v).itin = s.itin := rfl
@[simp] theorem State.setPe_eng (s : State) (p : Nat) (v : PePart) : (s.setPe p v).eng = s.eng := rfl
@[simp] theorem State.setPe_nvs (s : State) (p : Nat) (v : PePart) : (s.setPe p v).nvs = s.nvs := rfl
@[simp] theorem State.setPe_mb (s : State) (p : Nat) (v : PePart) : (s.setPe p v).mb = s.mb := rfl
@[simp] theorem State.setPe_sec (s : State) (p : Nat) (v : PePart) : (s.setPe p v).sec = s.sec := rfl
@[simp] theorem State.setPe_se (s : State) (p : Nat) (v : PePart) : (s.setPe p v).se = s.se := rfl
@[simp] theorem State.setPe_svc (s : State) (p : Nat) (v : PePart) : (s.setPe p v).svc = s.svc := rfl
@[simp] theorem State.setPe_dma (s : State) (p : Nat) (v : PePart) : (s.setPe p v).dma = s.dma := rfl
@[simp] theorem State.setPe_dz (s : State) (p : Nat) (v : PePart) : (s.setPe p v).dz = s.dz := rfl
@[simp] theorem State.setPe_lad (s : State) (p : Nat) (v : PePart) : (s.setPe p v).lad = s.lad := rfl
@[simp] theorem State.setPe_tst (s : State) (p : Nat) (v : PePart) : (s.setPe p v).tst = s.tst := rfl
@[simp] theorem State.setPe_reg (s : State) (p : Nat) (v : PePart) (x : Nat) : (s.setPe p v).reg x = s.reg x := rfl
@[simp] theorem State.setPe_rv (s : State) (p : Nat) (v : PePart) (x : Nat) : (s.setPe p v).rv x = s.rv x := rfl
@[simp] theorem State.setPe_fld (s : State) (p : Nat) (v : PePart) (x : Fld) : (s.setPe p v).fld x = s.fld x := rfl
@[simp] theorem State.setPe_flag (s : State) (p : Nat) (v : PePart) (x : Fld) : (s.setPe p v).flag x = s.flag x := rfl

/-! ### setPrt -/

@[simp] theorem State.setPrt_pending (s : State) (p : Nat) (v : PortPart) : (s.setPrt p v).pending = s.pending := rfl
@[simp] theorem State.setPrt_now (s : State) (p : Nat) (v : PortPart) : (s.setPrt p v).now = s.now := rfl
@[simp] theorem State.setPrt_free (s : State) (p : Nat) (v : PortPart) : (s.setPrt p v).free = s.free := rfl
@[simp] theorem State.setPrt_inReset (s : State) (p : Nat) (v : PortPart) : (s.setPrt p v).inReset = s.inReset := rfl
@[simp] theorem State.setPrt_relAt (s : State) (p : Nat) (v : PortPart) : (s.setPrt p v).relAt = s.relAt := rfl
@[simp] theorem State.setPrt_regs (s : State) (p : Nat) (v : PortPart) : (s.setPrt p v).regs = s.regs := rfl
@[simp] theorem State.setPrt_out (s : State) (p : Nat) (v : PortPart) : (s.setPrt p v).out = s.out := rfl
@[simp] theorem State.setPrt_bus (s : State) (p : Nat) (v : PortPart) : (s.setPrt p v).bus = s.bus := rfl
@[simp] theorem State.setPrt_irq (s : State) (p : Nat) (v : PortPart) : (s.setPrt p v).irq = s.irq := rfl
@[simp] theorem State.setPrt_flt (s : State) (p : Nat) (v : PortPart) : (s.setPrt p v).flt = s.flt := rfl
@[simp] theorem State.setPrt_rat (s : State) (p : Nat) (v : PortPart) : (s.setPrt p v).rat = s.rat := rfl
@[simp] theorem State.setPrt_tb (s : State) (p : Nat) (v : PortPart) : (s.setPrt p v).tb = s.tb := rfl
@[simp] theorem State.setPrt_tiu (s : State) (p : Nat) (v : PortPart) : (s.setPrt p v).tiu = s.tiu := rfl
@[simp] theorem State.setPrt_ref (s : State) (p : Nat) (v : PortPart) : (s.setPrt p v).ref = s.ref := rfl
@[simp] theorem State.setPrt_steer (s : State) (p : Nat) (v : PortPart) : (s.setPrt p v).steer = s.steer := rfl
@[simp] theorem State.setPrt_dpll (s : State) (p : Nat) (v : PortPart) : (s.setPrt p v).dpll = s.dpll := rfl
@[simp] theorem State.setPrt_tm (s : State) (p : Nat) (v : PortPart) : (s.setPrt p v).tm = s.tm := rfl
@[simp] theorem State.setPrt_syn (s : State) (p : Nat) (v : PortPart) : (s.setPrt p v).syn = s.syn := rfl
@[simp] theorem State.setPrt_gnss (s : State) (p : Nat) (v : PortPart) : (s.setPrt p v).gnss = s.gnss := rfl
@[simp] theorem State.setPrt_fab (s : State) (p : Nat) (v : PortPart) : (s.setPrt p v).fab = s.fab := rfl
@[simp] theorem State.setPrt_itin (s : State) (p : Nat) (v : PortPart) : (s.setPrt p v).itin = s.itin := rfl
@[simp] theorem State.setPrt_eng (s : State) (p : Nat) (v : PortPart) : (s.setPrt p v).eng = s.eng := rfl
@[simp] theorem State.setPrt_nvs (s : State) (p : Nat) (v : PortPart) : (s.setPrt p v).nvs = s.nvs := rfl
@[simp] theorem State.setPrt_mb (s : State) (p : Nat) (v : PortPart) : (s.setPrt p v).mb = s.mb := rfl
@[simp] theorem State.setPrt_sec (s : State) (p : Nat) (v : PortPart) : (s.setPrt p v).sec = s.sec := rfl
@[simp] theorem State.setPrt_se (s : State) (p : Nat) (v : PortPart) : (s.setPrt p v).se = s.se := rfl
@[simp] theorem State.setPrt_svc (s : State) (p : Nat) (v : PortPart) : (s.setPrt p v).svc = s.svc := rfl
@[simp] theorem State.setPrt_dma (s : State) (p : Nat) (v : PortPart) : (s.setPrt p v).dma = s.dma := rfl
@[simp] theorem State.setPrt_dz (s : State) (p : Nat) (v : PortPart) : (s.setPrt p v).dz = s.dz := rfl
@[simp] theorem State.setPrt_lad (s : State) (p : Nat) (v : PortPart) : (s.setPrt p v).lad = s.lad := rfl
@[simp] theorem State.setPrt_tst (s : State) (p : Nat) (v : PortPart) : (s.setPrt p v).tst = s.tst := rfl
@[simp] theorem State.setPrt_reg (s : State) (p : Nat) (v : PortPart) (x : Nat) : (s.setPrt p v).reg x = s.reg x := rfl
@[simp] theorem State.setPrt_rv (s : State) (p : Nat) (v : PortPart) (x : Nat) : (s.setPrt p v).rv x = s.rv x := rfl
@[simp] theorem State.setPrt_fld (s : State) (p : Nat) (v : PortPart) (x : Fld) : (s.setPrt p v).fld x = s.fld x := rfl
@[simp] theorem State.setPrt_flag (s : State) (p : Nat) (v : PortPart) (x : Fld) : (s.setPrt p v).flag x = s.flag x := rfl

/-! ### setGnss -/

@[simp] theorem State.setGnss_pending (s : State) (g : GnssPart) : (s.setGnss g).pending = s.pending := rfl
@[simp] theorem State.setGnss_now (s : State) (g : GnssPart) : (s.setGnss g).now = s.now := rfl
@[simp] theorem State.setGnss_free (s : State) (g : GnssPart) : (s.setGnss g).free = s.free := rfl
@[simp] theorem State.setGnss_inReset (s : State) (g : GnssPart) : (s.setGnss g).inReset = s.inReset := rfl
@[simp] theorem State.setGnss_relAt (s : State) (g : GnssPart) : (s.setGnss g).relAt = s.relAt := rfl
@[simp] theorem State.setGnss_regs (s : State) (g : GnssPart) : (s.setGnss g).regs = s.regs := rfl
@[simp] theorem State.setGnss_out (s : State) (g : GnssPart) : (s.setGnss g).out = s.out := rfl
@[simp] theorem State.setGnss_bus (s : State) (g : GnssPart) : (s.setGnss g).bus = s.bus := rfl
@[simp] theorem State.setGnss_irq (s : State) (g : GnssPart) : (s.setGnss g).irq = s.irq := rfl
@[simp] theorem State.setGnss_flt (s : State) (g : GnssPart) : (s.setGnss g).flt = s.flt := rfl
@[simp] theorem State.setGnss_rat (s : State) (g : GnssPart) : (s.setGnss g).rat = s.rat := rfl
@[simp] theorem State.setGnss_tb (s : State) (g : GnssPart) : (s.setGnss g).tb = s.tb := rfl
@[simp] theorem State.setGnss_tiu (s : State) (g : GnssPart) : (s.setGnss g).tiu = s.tiu := rfl
@[simp] theorem State.setGnss_ref (s : State) (g : GnssPart) : (s.setGnss g).ref = s.ref := rfl
@[simp] theorem State.setGnss_steer (s : State) (g : GnssPart) : (s.setGnss g).steer = s.steer := rfl
@[simp] theorem State.setGnss_dpll (s : State) (g : GnssPart) : (s.setGnss g).dpll = s.dpll := rfl
@[simp] theorem State.setGnss_tm (s : State) (g : GnssPart) : (s.setGnss g).tm = s.tm := rfl
@[simp] theorem State.setGnss_syn (s : State) (g : GnssPart) : (s.setGnss g).syn = s.syn := rfl
@[simp] theorem State.setGnss_prt (s : State) (g : GnssPart) : (s.setGnss g).prt = s.prt := rfl
@[simp] theorem State.setGnss_fab (s : State) (g : GnssPart) : (s.setGnss g).fab = s.fab := rfl
@[simp] theorem State.setGnss_itin (s : State) (g : GnssPart) : (s.setGnss g).itin = s.itin := rfl
@[simp] theorem State.setGnss_eng (s : State) (g : GnssPart) : (s.setGnss g).eng = s.eng := rfl
@[simp] theorem State.setGnss_nvs (s : State) (g : GnssPart) : (s.setGnss g).nvs = s.nvs := rfl
@[simp] theorem State.setGnss_mb (s : State) (g : GnssPart) : (s.setGnss g).mb = s.mb := rfl
@[simp] theorem State.setGnss_sec (s : State) (g : GnssPart) : (s.setGnss g).sec = s.sec := rfl
@[simp] theorem State.setGnss_se (s : State) (g : GnssPart) : (s.setGnss g).se = s.se := rfl
@[simp] theorem State.setGnss_svc (s : State) (g : GnssPart) : (s.setGnss g).svc = s.svc := rfl
@[simp] theorem State.setGnss_dma (s : State) (g : GnssPart) : (s.setGnss g).dma = s.dma := rfl
@[simp] theorem State.setGnss_dz (s : State) (g : GnssPart) : (s.setGnss g).dz = s.dz := rfl
@[simp] theorem State.setGnss_lad (s : State) (g : GnssPart) : (s.setGnss g).lad = s.lad := rfl
@[simp] theorem State.setGnss_tst (s : State) (g : GnssPart) : (s.setGnss g).tst = s.tst := rfl
@[simp] theorem State.setGnss_reg (s : State) (g : GnssPart) (x : Nat) : (s.setGnss g).reg x = s.reg x := rfl
@[simp] theorem State.setGnss_rv (s : State) (g : GnssPart) (x : Nat) : (s.setGnss g).rv x = s.rv x := rfl
@[simp] theorem State.setGnss_fld (s : State) (g : GnssPart) (x : Fld) : (s.setGnss g).fld x = s.fld x := rfl
@[simp] theorem State.setGnss_flag (s : State) (g : GnssPart) (x : Fld) : (s.setGnss g).flag x = s.flag x := rfl

/-! ### setMbDir -/

@[simp] theorem State.setMbDir_pending (s : State) (n d : Nat) (v : MbDir) : (s.setMbDir n d v).pending = s.pending := rfl
@[simp] theorem State.setMbDir_now (s : State) (n d : Nat) (v : MbDir) : (s.setMbDir n d v).now = s.now := rfl
@[simp] theorem State.setMbDir_free (s : State) (n d : Nat) (v : MbDir) : (s.setMbDir n d v).free = s.free := rfl
@[simp] theorem State.setMbDir_inReset (s : State) (n d : Nat) (v : MbDir) : (s.setMbDir n d v).inReset = s.inReset := rfl
@[simp] theorem State.setMbDir_relAt (s : State) (n d : Nat) (v : MbDir) : (s.setMbDir n d v).relAt = s.relAt := rfl
@[simp] theorem State.setMbDir_regs (s : State) (n d : Nat) (v : MbDir) : (s.setMbDir n d v).regs = s.regs := rfl
@[simp] theorem State.setMbDir_out (s : State) (n d : Nat) (v : MbDir) : (s.setMbDir n d v).out = s.out := rfl
@[simp] theorem State.setMbDir_bus (s : State) (n d : Nat) (v : MbDir) : (s.setMbDir n d v).bus = s.bus := rfl
@[simp] theorem State.setMbDir_irq (s : State) (n d : Nat) (v : MbDir) : (s.setMbDir n d v).irq = s.irq := rfl
@[simp] theorem State.setMbDir_flt (s : State) (n d : Nat) (v : MbDir) : (s.setMbDir n d v).flt = s.flt := rfl
@[simp] theorem State.setMbDir_rat (s : State) (n d : Nat) (v : MbDir) : (s.setMbDir n d v).rat = s.rat := rfl
@[simp] theorem State.setMbDir_tb (s : State) (n d : Nat) (v : MbDir) : (s.setMbDir n d v).tb = s.tb := rfl
@[simp] theorem State.setMbDir_tiu (s : State) (n d : Nat) (v : MbDir) : (s.setMbDir n d v).tiu = s.tiu := rfl
@[simp] theorem State.setMbDir_ref (s : State) (n d : Nat) (v : MbDir) : (s.setMbDir n d v).ref = s.ref := rfl
@[simp] theorem State.setMbDir_steer (s : State) (n d : Nat) (v : MbDir) : (s.setMbDir n d v).steer = s.steer := rfl
@[simp] theorem State.setMbDir_dpll (s : State) (n d : Nat) (v : MbDir) : (s.setMbDir n d v).dpll = s.dpll := rfl
@[simp] theorem State.setMbDir_tm (s : State) (n d : Nat) (v : MbDir) : (s.setMbDir n d v).tm = s.tm := rfl
@[simp] theorem State.setMbDir_syn (s : State) (n d : Nat) (v : MbDir) : (s.setMbDir n d v).syn = s.syn := rfl
@[simp] theorem State.setMbDir_gnss (s : State) (n d : Nat) (v : MbDir) : (s.setMbDir n d v).gnss = s.gnss := rfl
@[simp] theorem State.setMbDir_prt (s : State) (n d : Nat) (v : MbDir) : (s.setMbDir n d v).prt = s.prt := rfl
@[simp] theorem State.setMbDir_fab (s : State) (n d : Nat) (v : MbDir) : (s.setMbDir n d v).fab = s.fab := rfl
@[simp] theorem State.setMbDir_itin (s : State) (n d : Nat) (v : MbDir) : (s.setMbDir n d v).itin = s.itin := rfl
@[simp] theorem State.setMbDir_eng (s : State) (n d : Nat) (v : MbDir) : (s.setMbDir n d v).eng = s.eng := rfl
@[simp] theorem State.setMbDir_nvs (s : State) (n d : Nat) (v : MbDir) : (s.setMbDir n d v).nvs = s.nvs := rfl
@[simp] theorem State.setMbDir_sec (s : State) (n d : Nat) (v : MbDir) : (s.setMbDir n d v).sec = s.sec := rfl
@[simp] theorem State.setMbDir_se (s : State) (n d : Nat) (v : MbDir) : (s.setMbDir n d v).se = s.se := rfl
@[simp] theorem State.setMbDir_svc (s : State) (n d : Nat) (v : MbDir) : (s.setMbDir n d v).svc = s.svc := rfl
@[simp] theorem State.setMbDir_dma (s : State) (n d : Nat) (v : MbDir) : (s.setMbDir n d v).dma = s.dma := rfl
@[simp] theorem State.setMbDir_dz (s : State) (n d : Nat) (v : MbDir) : (s.setMbDir n d v).dz = s.dz := rfl
@[simp] theorem State.setMbDir_lad (s : State) (n d : Nat) (v : MbDir) : (s.setMbDir n d v).lad = s.lad := rfl
@[simp] theorem State.setMbDir_tst (s : State) (n d : Nat) (v : MbDir) : (s.setMbDir n d v).tst = s.tst := rfl
@[simp] theorem State.setMbDir_reg (s : State) (n d : Nat) (v : MbDir) (x : Nat) : (s.setMbDir n d v).reg x = s.reg x := rfl
@[simp] theorem State.setMbDir_rv (s : State) (n d : Nat) (v : MbDir) (x : Nat) : (s.setMbDir n d v).rv x = s.rv x := rfl
@[simp] theorem State.setMbDir_fld (s : State) (n d : Nat) (v : MbDir) (x : Fld) : (s.setMbDir n d v).fld x = s.fld x := rfl
@[simp] theorem State.setMbDir_flag (s : State) (n d : Nat) (v : MbDir) (x : Fld) : (s.setMbDir n d v).flag x = s.flag x := rfl

/-! ### setNvsBank -/

@[simp] theorem State.setNvsBank_pending (s : State) (m : Nat) (b : NvsBank) : (s.setNvsBank m b).pending = s.pending := rfl
@[simp] theorem State.setNvsBank_now (s : State) (m : Nat) (b : NvsBank) : (s.setNvsBank m b).now = s.now := rfl
@[simp] theorem State.setNvsBank_free (s : State) (m : Nat) (b : NvsBank) : (s.setNvsBank m b).free = s.free := rfl
@[simp] theorem State.setNvsBank_inReset (s : State) (m : Nat) (b : NvsBank) : (s.setNvsBank m b).inReset = s.inReset := rfl
@[simp] theorem State.setNvsBank_relAt (s : State) (m : Nat) (b : NvsBank) : (s.setNvsBank m b).relAt = s.relAt := rfl
@[simp] theorem State.setNvsBank_regs (s : State) (m : Nat) (b : NvsBank) : (s.setNvsBank m b).regs = s.regs := rfl
@[simp] theorem State.setNvsBank_out (s : State) (m : Nat) (b : NvsBank) : (s.setNvsBank m b).out = s.out := rfl
@[simp] theorem State.setNvsBank_bus (s : State) (m : Nat) (b : NvsBank) : (s.setNvsBank m b).bus = s.bus := rfl
@[simp] theorem State.setNvsBank_irq (s : State) (m : Nat) (b : NvsBank) : (s.setNvsBank m b).irq = s.irq := rfl
@[simp] theorem State.setNvsBank_flt (s : State) (m : Nat) (b : NvsBank) : (s.setNvsBank m b).flt = s.flt := rfl
@[simp] theorem State.setNvsBank_rat (s : State) (m : Nat) (b : NvsBank) : (s.setNvsBank m b).rat = s.rat := rfl
@[simp] theorem State.setNvsBank_tb (s : State) (m : Nat) (b : NvsBank) : (s.setNvsBank m b).tb = s.tb := rfl
@[simp] theorem State.setNvsBank_tiu (s : State) (m : Nat) (b : NvsBank) : (s.setNvsBank m b).tiu = s.tiu := rfl
@[simp] theorem State.setNvsBank_ref (s : State) (m : Nat) (b : NvsBank) : (s.setNvsBank m b).ref = s.ref := rfl
@[simp] theorem State.setNvsBank_steer (s : State) (m : Nat) (b : NvsBank) : (s.setNvsBank m b).steer = s.steer := rfl
@[simp] theorem State.setNvsBank_dpll (s : State) (m : Nat) (b : NvsBank) : (s.setNvsBank m b).dpll = s.dpll := rfl
@[simp] theorem State.setNvsBank_tm (s : State) (m : Nat) (b : NvsBank) : (s.setNvsBank m b).tm = s.tm := rfl
@[simp] theorem State.setNvsBank_syn (s : State) (m : Nat) (b : NvsBank) : (s.setNvsBank m b).syn = s.syn := rfl
@[simp] theorem State.setNvsBank_gnss (s : State) (m : Nat) (b : NvsBank) : (s.setNvsBank m b).gnss = s.gnss := rfl
@[simp] theorem State.setNvsBank_prt (s : State) (m : Nat) (b : NvsBank) : (s.setNvsBank m b).prt = s.prt := rfl
@[simp] theorem State.setNvsBank_fab (s : State) (m : Nat) (b : NvsBank) : (s.setNvsBank m b).fab = s.fab := rfl
@[simp] theorem State.setNvsBank_itin (s : State) (m : Nat) (b : NvsBank) : (s.setNvsBank m b).itin = s.itin := rfl
@[simp] theorem State.setNvsBank_eng (s : State) (m : Nat) (b : NvsBank) : (s.setNvsBank m b).eng = s.eng := rfl
@[simp] theorem State.setNvsBank_mb (s : State) (m : Nat) (b : NvsBank) : (s.setNvsBank m b).mb = s.mb := rfl
@[simp] theorem State.setNvsBank_sec (s : State) (m : Nat) (b : NvsBank) : (s.setNvsBank m b).sec = s.sec := rfl
@[simp] theorem State.setNvsBank_se (s : State) (m : Nat) (b : NvsBank) : (s.setNvsBank m b).se = s.se := rfl
@[simp] theorem State.setNvsBank_svc (s : State) (m : Nat) (b : NvsBank) : (s.setNvsBank m b).svc = s.svc := rfl
@[simp] theorem State.setNvsBank_dma (s : State) (m : Nat) (b : NvsBank) : (s.setNvsBank m b).dma = s.dma := rfl
@[simp] theorem State.setNvsBank_dz (s : State) (m : Nat) (b : NvsBank) : (s.setNvsBank m b).dz = s.dz := rfl
@[simp] theorem State.setNvsBank_lad (s : State) (m : Nat) (b : NvsBank) : (s.setNvsBank m b).lad = s.lad := rfl
@[simp] theorem State.setNvsBank_tst (s : State) (m : Nat) (b : NvsBank) : (s.setNvsBank m b).tst = s.tst := rfl
@[simp] theorem State.setNvsBank_reg (s : State) (m : Nat) (b : NvsBank) (x : Nat) : (s.setNvsBank m b).reg x = s.reg x := rfl
@[simp] theorem State.setNvsBank_rv (s : State) (m : Nat) (b : NvsBank) (x : Nat) : (s.setNvsBank m b).rv x = s.rv x := rfl
@[simp] theorem State.setNvsBank_fld (s : State) (m : Nat) (b : NvsBank) (x : Fld) : (s.setNvsBank m b).fld x = s.fld x := rfl
@[simp] theorem State.setNvsBank_flag (s : State) (m : Nat) (b : NvsBank) (x : Fld) : (s.setNvsBank m b).flag x = s.flag x := rfl

/-! ### setOpen -/

@[simp] theorem State.setOpen_pending (s : State) (m r k : Nat) (b : Bool) : (s.setOpen m r k b).pending = s.pending := rfl
@[simp] theorem State.setOpen_now (s : State) (m r k : Nat) (b : Bool) : (s.setOpen m r k b).now = s.now := rfl
@[simp] theorem State.setOpen_free (s : State) (m r k : Nat) (b : Bool) : (s.setOpen m r k b).free = s.free := rfl
@[simp] theorem State.setOpen_inReset (s : State) (m r k : Nat) (b : Bool) : (s.setOpen m r k b).inReset = s.inReset := rfl
@[simp] theorem State.setOpen_relAt (s : State) (m r k : Nat) (b : Bool) : (s.setOpen m r k b).relAt = s.relAt := rfl
@[simp] theorem State.setOpen_regs (s : State) (m r k : Nat) (b : Bool) : (s.setOpen m r k b).regs = s.regs := rfl
@[simp] theorem State.setOpen_out (s : State) (m r k : Nat) (b : Bool) : (s.setOpen m r k b).out = s.out := rfl
@[simp] theorem State.setOpen_bus (s : State) (m r k : Nat) (b : Bool) : (s.setOpen m r k b).bus = s.bus := rfl
@[simp] theorem State.setOpen_irq (s : State) (m r k : Nat) (b : Bool) : (s.setOpen m r k b).irq = s.irq := rfl
@[simp] theorem State.setOpen_flt (s : State) (m r k : Nat) (b : Bool) : (s.setOpen m r k b).flt = s.flt := rfl
@[simp] theorem State.setOpen_rat (s : State) (m r k : Nat) (b : Bool) : (s.setOpen m r k b).rat = s.rat := rfl
@[simp] theorem State.setOpen_tb (s : State) (m r k : Nat) (b : Bool) : (s.setOpen m r k b).tb = s.tb := rfl
@[simp] theorem State.setOpen_tiu (s : State) (m r k : Nat) (b : Bool) : (s.setOpen m r k b).tiu = s.tiu := rfl
@[simp] theorem State.setOpen_ref (s : State) (m r k : Nat) (b : Bool) : (s.setOpen m r k b).ref = s.ref := rfl
@[simp] theorem State.setOpen_steer (s : State) (m r k : Nat) (b : Bool) : (s.setOpen m r k b).steer = s.steer := rfl
@[simp] theorem State.setOpen_dpll (s : State) (m r k : Nat) (b : Bool) : (s.setOpen m r k b).dpll = s.dpll := rfl
@[simp] theorem State.setOpen_tm (s : State) (m r k : Nat) (b : Bool) : (s.setOpen m r k b).tm = s.tm := rfl
@[simp] theorem State.setOpen_syn (s : State) (m r k : Nat) (b : Bool) : (s.setOpen m r k b).syn = s.syn := rfl
@[simp] theorem State.setOpen_gnss (s : State) (m r k : Nat) (b : Bool) : (s.setOpen m r k b).gnss = s.gnss := rfl
@[simp] theorem State.setOpen_prt (s : State) (m r k : Nat) (b : Bool) : (s.setOpen m r k b).prt = s.prt := rfl
@[simp] theorem State.setOpen_fab (s : State) (m r k : Nat) (b : Bool) : (s.setOpen m r k b).fab = s.fab := rfl
@[simp] theorem State.setOpen_itin (s : State) (m r k : Nat) (b : Bool) : (s.setOpen m r k b).itin = s.itin := rfl
@[simp] theorem State.setOpen_eng (s : State) (m r k : Nat) (b : Bool) : (s.setOpen m r k b).eng = s.eng := rfl
@[simp] theorem State.setOpen_mb (s : State) (m r k : Nat) (b : Bool) : (s.setOpen m r k b).mb = s.mb := rfl
@[simp] theorem State.setOpen_sec (s : State) (m r k : Nat) (b : Bool) : (s.setOpen m r k b).sec = s.sec := rfl
@[simp] theorem State.setOpen_se (s : State) (m r k : Nat) (b : Bool) : (s.setOpen m r k b).se = s.se := rfl
@[simp] theorem State.setOpen_svc (s : State) (m r k : Nat) (b : Bool) : (s.setOpen m r k b).svc = s.svc := rfl
@[simp] theorem State.setOpen_dma (s : State) (m r k : Nat) (b : Bool) : (s.setOpen m r k b).dma = s.dma := rfl
@[simp] theorem State.setOpen_dz (s : State) (m r k : Nat) (b : Bool) : (s.setOpen m r k b).dz = s.dz := rfl
@[simp] theorem State.setOpen_lad (s : State) (m r k : Nat) (b : Bool) : (s.setOpen m r k b).lad = s.lad := rfl
@[simp] theorem State.setOpen_tst (s : State) (m r k : Nat) (b : Bool) : (s.setOpen m r k b).tst = s.tst := rfl
@[simp] theorem State.setOpen_reg (s : State) (m r k : Nat) (b : Bool) (x : Nat) : (s.setOpen m r k b).reg x = s.reg x := rfl
@[simp] theorem State.setOpen_rv (s : State) (m r k : Nat) (b : Bool) (x : Nat) : (s.setOpen m r k b).rv x = s.rv x := rfl
@[simp] theorem State.setOpen_fld (s : State) (m r k : Nat) (b : Bool) (x : Fld) : (s.setOpen m r k b).fld x = s.fld x := rfl
@[simp] theorem State.setOpen_flag (s : State) (m r k : Nat) (b : Bool) (x : Fld) : (s.setOpen m r k b).flag x = s.flag x := rfl

/-! ### setHold -/

@[simp] theorem State.setHold_pending (s : State) (t i : Nat) (h : WhistleHold) : (s.setHold t i h).pending = s.pending := rfl
@[simp] theorem State.setHold_now (s : State) (t i : Nat) (h : WhistleHold) : (s.setHold t i h).now = s.now := rfl
@[simp] theorem State.setHold_free (s : State) (t i : Nat) (h : WhistleHold) : (s.setHold t i h).free = s.free := rfl
@[simp] theorem State.setHold_inReset (s : State) (t i : Nat) (h : WhistleHold) : (s.setHold t i h).inReset = s.inReset := rfl
@[simp] theorem State.setHold_relAt (s : State) (t i : Nat) (h : WhistleHold) : (s.setHold t i h).relAt = s.relAt := rfl
@[simp] theorem State.setHold_regs (s : State) (t i : Nat) (h : WhistleHold) : (s.setHold t i h).regs = s.regs := rfl
@[simp] theorem State.setHold_out (s : State) (t i : Nat) (h : WhistleHold) : (s.setHold t i h).out = s.out := rfl
@[simp] theorem State.setHold_bus (s : State) (t i : Nat) (h : WhistleHold) : (s.setHold t i h).bus = s.bus := rfl
@[simp] theorem State.setHold_irq (s : State) (t i : Nat) (h : WhistleHold) : (s.setHold t i h).irq = s.irq := rfl
@[simp] theorem State.setHold_rat (s : State) (t i : Nat) (h : WhistleHold) : (s.setHold t i h).rat = s.rat := rfl
@[simp] theorem State.setHold_tb (s : State) (t i : Nat) (h : WhistleHold) : (s.setHold t i h).tb = s.tb := rfl
@[simp] theorem State.setHold_tiu (s : State) (t i : Nat) (h : WhistleHold) : (s.setHold t i h).tiu = s.tiu := rfl
@[simp] theorem State.setHold_ref (s : State) (t i : Nat) (h : WhistleHold) : (s.setHold t i h).ref = s.ref := rfl
@[simp] theorem State.setHold_steer (s : State) (t i : Nat) (h : WhistleHold) : (s.setHold t i h).steer = s.steer := rfl
@[simp] theorem State.setHold_dpll (s : State) (t i : Nat) (h : WhistleHold) : (s.setHold t i h).dpll = s.dpll := rfl
@[simp] theorem State.setHold_tm (s : State) (t i : Nat) (h : WhistleHold) : (s.setHold t i h).tm = s.tm := rfl
@[simp] theorem State.setHold_syn (s : State) (t i : Nat) (h : WhistleHold) : (s.setHold t i h).syn = s.syn := rfl
@[simp] theorem State.setHold_gnss (s : State) (t i : Nat) (h : WhistleHold) : (s.setHold t i h).gnss = s.gnss := rfl
@[simp] theorem State.setHold_prt (s : State) (t i : Nat) (h : WhistleHold) : (s.setHold t i h).prt = s.prt := rfl
@[simp] theorem State.setHold_fab (s : State) (t i : Nat) (h : WhistleHold) : (s.setHold t i h).fab = s.fab := rfl
@[simp] theorem State.setHold_itin (s : State) (t i : Nat) (h : WhistleHold) : (s.setHold t i h).itin = s.itin := rfl
@[simp] theorem State.setHold_eng (s : State) (t i : Nat) (h : WhistleHold) : (s.setHold t i h).eng = s.eng := rfl
@[simp] theorem State.setHold_nvs (s : State) (t i : Nat) (h : WhistleHold) : (s.setHold t i h).nvs = s.nvs := rfl
@[simp] theorem State.setHold_mb (s : State) (t i : Nat) (h : WhistleHold) : (s.setHold t i h).mb = s.mb := rfl
@[simp] theorem State.setHold_sec (s : State) (t i : Nat) (h : WhistleHold) : (s.setHold t i h).sec = s.sec := rfl
@[simp] theorem State.setHold_se (s : State) (t i : Nat) (h : WhistleHold) : (s.setHold t i h).se = s.se := rfl
@[simp] theorem State.setHold_svc (s : State) (t i : Nat) (h : WhistleHold) : (s.setHold t i h).svc = s.svc := rfl
@[simp] theorem State.setHold_dma (s : State) (t i : Nat) (h : WhistleHold) : (s.setHold t i h).dma = s.dma := rfl
@[simp] theorem State.setHold_dz (s : State) (t i : Nat) (h : WhistleHold) : (s.setHold t i h).dz = s.dz := rfl
@[simp] theorem State.setHold_lad (s : State) (t i : Nat) (h : WhistleHold) : (s.setHold t i h).lad = s.lad := rfl
@[simp] theorem State.setHold_tst (s : State) (t i : Nat) (h : WhistleHold) : (s.setHold t i h).tst = s.tst := rfl
@[simp] theorem State.setHold_reg (s : State) (t i : Nat) (h : WhistleHold) (x : Nat) : (s.setHold t i h).reg x = s.reg x := rfl
@[simp] theorem State.setHold_rv (s : State) (t i : Nat) (h : WhistleHold) (x : Nat) : (s.setHold t i h).rv x = s.rv x := rfl
@[simp] theorem State.setHold_fld (s : State) (t i : Nat) (h : WhistleHold) (x : Fld) : (s.setHold t i h).fld x = s.fld x := rfl
@[simp] theorem State.setHold_flag (s : State) (t i : Nat) (h : WhistleHold) (x : Fld) : (s.setHold t i h).flag x = s.flag x := rfl

/-! ### setAlw -/

@[simp] theorem State.setAlw_pending (s : State) (a v : Nat) : (s.setAlw a v).pending = s.pending := rfl
@[simp] theorem State.setAlw_now (s : State) (a v : Nat) : (s.setAlw a v).now = s.now := rfl
@[simp] theorem State.setAlw_free (s : State) (a v : Nat) : (s.setAlw a v).free = s.free := rfl
@[simp] theorem State.setAlw_inReset (s : State) (a v : Nat) : (s.setAlw a v).inReset = s.inReset := rfl
@[simp] theorem State.setAlw_relAt (s : State) (a v : Nat) : (s.setAlw a v).relAt = s.relAt := rfl
@[simp] theorem State.setAlw_regs (s : State) (a v : Nat) : (s.setAlw a v).regs = s.regs := rfl
@[simp] theorem State.setAlw_out (s : State) (a v : Nat) : (s.setAlw a v).out = s.out := rfl
@[simp] theorem State.setAlw_bus (s : State) (a v : Nat) : (s.setAlw a v).bus = s.bus := rfl
@[simp] theorem State.setAlw_irq (s : State) (a v : Nat) : (s.setAlw a v).irq = s.irq := rfl
@[simp] theorem State.setAlw_flt (s : State) (a v : Nat) : (s.setAlw a v).flt = s.flt := rfl
@[simp] theorem State.setAlw_tb (s : State) (a v : Nat) : (s.setAlw a v).tb = s.tb := rfl
@[simp] theorem State.setAlw_tiu (s : State) (a v : Nat) : (s.setAlw a v).tiu = s.tiu := rfl
@[simp] theorem State.setAlw_ref (s : State) (a v : Nat) : (s.setAlw a v).ref = s.ref := rfl
@[simp] theorem State.setAlw_steer (s : State) (a v : Nat) : (s.setAlw a v).steer = s.steer := rfl
@[simp] theorem State.setAlw_dpll (s : State) (a v : Nat) : (s.setAlw a v).dpll = s.dpll := rfl
@[simp] theorem State.setAlw_tm (s : State) (a v : Nat) : (s.setAlw a v).tm = s.tm := rfl
@[simp] theorem State.setAlw_syn (s : State) (a v : Nat) : (s.setAlw a v).syn = s.syn := rfl
@[simp] theorem State.setAlw_gnss (s : State) (a v : Nat) : (s.setAlw a v).gnss = s.gnss := rfl
@[simp] theorem State.setAlw_prt (s : State) (a v : Nat) : (s.setAlw a v).prt = s.prt := rfl
@[simp] theorem State.setAlw_fab (s : State) (a v : Nat) : (s.setAlw a v).fab = s.fab := rfl
@[simp] theorem State.setAlw_itin (s : State) (a v : Nat) : (s.setAlw a v).itin = s.itin := rfl
@[simp] theorem State.setAlw_eng (s : State) (a v : Nat) : (s.setAlw a v).eng = s.eng := rfl
@[simp] theorem State.setAlw_nvs (s : State) (a v : Nat) : (s.setAlw a v).nvs = s.nvs := rfl
@[simp] theorem State.setAlw_mb (s : State) (a v : Nat) : (s.setAlw a v).mb = s.mb := rfl
@[simp] theorem State.setAlw_sec (s : State) (a v : Nat) : (s.setAlw a v).sec = s.sec := rfl
@[simp] theorem State.setAlw_se (s : State) (a v : Nat) : (s.setAlw a v).se = s.se := rfl
@[simp] theorem State.setAlw_svc (s : State) (a v : Nat) : (s.setAlw a v).svc = s.svc := rfl
@[simp] theorem State.setAlw_dma (s : State) (a v : Nat) : (s.setAlw a v).dma = s.dma := rfl
@[simp] theorem State.setAlw_dz (s : State) (a v : Nat) : (s.setAlw a v).dz = s.dz := rfl
@[simp] theorem State.setAlw_lad (s : State) (a v : Nat) : (s.setAlw a v).lad = s.lad := rfl
@[simp] theorem State.setAlw_tst (s : State) (a v : Nat) : (s.setAlw a v).tst = s.tst := rfl
@[simp] theorem State.setAlw_reg (s : State) (a v : Nat) (x : Nat) : (s.setAlw a v).reg x = s.reg x := rfl
@[simp] theorem State.setAlw_rv (s : State) (a v : Nat) (x : Nat) : (s.setAlw a v).rv x = s.rv x := rfl
@[simp] theorem State.setAlw_fld (s : State) (a v : Nat) (x : Fld) : (s.setAlw a v).fld x = s.fld x := rfl
@[simp] theorem State.setAlw_flag (s : State) (a v : Nat) (x : Fld) : (s.setAlw a v).flag x = s.flag x := rfl

/-! ### setGov -/

@[simp] theorem State.setGov_pending (s : State) (g : Nat) (v : Gov) : (s.setGov g v).pending = s.pending := rfl
@[simp] theorem State.setGov_now (s : State) (g : Nat) (v : Gov) : (s.setGov g v).now = s.now := rfl
@[simp] theorem State.setGov_free (s : State) (g : Nat) (v : Gov) : (s.setGov g v).free = s.free := rfl
@[simp] theorem State.setGov_inReset (s : State) (g : Nat) (v : Gov) : (s.setGov g v).inReset = s.inReset := rfl
@[simp] theorem State.setGov_relAt (s : State) (g : Nat) (v : Gov) : (s.setGov g v).relAt = s.relAt := rfl
@[simp] theorem State.setGov_regs (s : State) (g : Nat) (v : Gov) : (s.setGov g v).regs = s.regs := rfl
@[simp] theorem State.setGov_out (s : State) (g : Nat) (v : Gov) : (s.setGov g v).out = s.out := rfl
@[simp] theorem State.setGov_bus (s : State) (g : Nat) (v : Gov) : (s.setGov g v).bus = s.bus := rfl
@[simp] theorem State.setGov_irq (s : State) (g : Nat) (v : Gov) : (s.setGov g v).irq = s.irq := rfl
@[simp] theorem State.setGov_flt (s : State) (g : Nat) (v : Gov) : (s.setGov g v).flt = s.flt := rfl
@[simp] theorem State.setGov_tb (s : State) (g : Nat) (v : Gov) : (s.setGov g v).tb = s.tb := rfl
@[simp] theorem State.setGov_tiu (s : State) (g : Nat) (v : Gov) : (s.setGov g v).tiu = s.tiu := rfl
@[simp] theorem State.setGov_ref (s : State) (g : Nat) (v : Gov) : (s.setGov g v).ref = s.ref := rfl
@[simp] theorem State.setGov_steer (s : State) (g : Nat) (v : Gov) : (s.setGov g v).steer = s.steer := rfl
@[simp] theorem State.setGov_dpll (s : State) (g : Nat) (v : Gov) : (s.setGov g v).dpll = s.dpll := rfl
@[simp] theorem State.setGov_tm (s : State) (g : Nat) (v : Gov) : (s.setGov g v).tm = s.tm := rfl
@[simp] theorem State.setGov_syn (s : State) (g : Nat) (v : Gov) : (s.setGov g v).syn = s.syn := rfl
@[simp] theorem State.setGov_gnss (s : State) (g : Nat) (v : Gov) : (s.setGov g v).gnss = s.gnss := rfl
@[simp] theorem State.setGov_prt (s : State) (g : Nat) (v : Gov) : (s.setGov g v).prt = s.prt := rfl
@[simp] theorem State.setGov_fab (s : State) (g : Nat) (v : Gov) : (s.setGov g v).fab = s.fab := rfl
@[simp] theorem State.setGov_itin (s : State) (g : Nat) (v : Gov) : (s.setGov g v).itin = s.itin := rfl
@[simp] theorem State.setGov_eng (s : State) (g : Nat) (v : Gov) : (s.setGov g v).eng = s.eng := rfl
@[simp] theorem State.setGov_nvs (s : State) (g : Nat) (v : Gov) : (s.setGov g v).nvs = s.nvs := rfl
@[simp] theorem State.setGov_mb (s : State) (g : Nat) (v : Gov) : (s.setGov g v).mb = s.mb := rfl
@[simp] theorem State.setGov_sec (s : State) (g : Nat) (v : Gov) : (s.setGov g v).sec = s.sec := rfl
@[simp] theorem State.setGov_se (s : State) (g : Nat) (v : Gov) : (s.setGov g v).se = s.se := rfl
@[simp] theorem State.setGov_svc (s : State) (g : Nat) (v : Gov) : (s.setGov g v).svc = s.svc := rfl
@[simp] theorem State.setGov_dma (s : State) (g : Nat) (v : Gov) : (s.setGov g v).dma = s.dma := rfl
@[simp] theorem State.setGov_dz (s : State) (g : Nat) (v : Gov) : (s.setGov g v).dz = s.dz := rfl
@[simp] theorem State.setGov_lad (s : State) (g : Nat) (v : Gov) : (s.setGov g v).lad = s.lad := rfl
@[simp] theorem State.setGov_tst (s : State) (g : Nat) (v : Gov) : (s.setGov g v).tst = s.tst := rfl
@[simp] theorem State.setGov_reg (s : State) (g : Nat) (v : Gov) (x : Nat) : (s.setGov g v).reg x = s.reg x := rfl
@[simp] theorem State.setGov_rv (s : State) (g : Nat) (v : Gov) (x : Nat) : (s.setGov g v).rv x = s.rv x := rfl
@[simp] theorem State.setGov_fld (s : State) (g : Nat) (v : Gov) (x : Fld) : (s.setGov g v).fld x = s.fld x := rfl
@[simp] theorem State.setGov_flag (s : State) (g : Nat) (v : Gov) (x : Fld) : (s.setGov g v).flag x = s.flag x := rfl

/-! ### setDpll -/

@[simp] theorem State.setDpll_pending (s : State) (d : Nat) (v : DpllPart) : (s.setDpll d v).pending = s.pending := rfl
@[simp] theorem State.setDpll_now (s : State) (d : Nat) (v : DpllPart) : (s.setDpll d v).now = s.now := rfl
@[simp] theorem State.setDpll_free (s : State) (d : Nat) (v : DpllPart) : (s.setDpll d v).free = s.free := rfl
@[simp] theorem State.setDpll_inReset (s : State) (d : Nat) (v : DpllPart) : (s.setDpll d v).inReset = s.inReset := rfl
@[simp] theorem State.setDpll_relAt (s : State) (d : Nat) (v : DpllPart) : (s.setDpll d v).relAt = s.relAt := rfl
@[simp] theorem State.setDpll_regs (s : State) (d : Nat) (v : DpllPart) : (s.setDpll d v).regs = s.regs := rfl
@[simp] theorem State.setDpll_out (s : State) (d : Nat) (v : DpllPart) : (s.setDpll d v).out = s.out := rfl
@[simp] theorem State.setDpll_bus (s : State) (d : Nat) (v : DpllPart) : (s.setDpll d v).bus = s.bus := rfl
@[simp] theorem State.setDpll_irq (s : State) (d : Nat) (v : DpllPart) : (s.setDpll d v).irq = s.irq := rfl
@[simp] theorem State.setDpll_flt (s : State) (d : Nat) (v : DpllPart) : (s.setDpll d v).flt = s.flt := rfl
@[simp] theorem State.setDpll_rat (s : State) (d : Nat) (v : DpllPart) : (s.setDpll d v).rat = s.rat := rfl
@[simp] theorem State.setDpll_tb (s : State) (d : Nat) (v : DpllPart) : (s.setDpll d v).tb = s.tb := rfl
@[simp] theorem State.setDpll_tiu (s : State) (d : Nat) (v : DpllPart) : (s.setDpll d v).tiu = s.tiu := rfl
@[simp] theorem State.setDpll_ref (s : State) (d : Nat) (v : DpllPart) : (s.setDpll d v).ref = s.ref := rfl
@[simp] theorem State.setDpll_steer (s : State) (d : Nat) (v : DpllPart) : (s.setDpll d v).steer = s.steer := rfl
@[simp] theorem State.setDpll_tm (s : State) (d : Nat) (v : DpllPart) : (s.setDpll d v).tm = s.tm := rfl
@[simp] theorem State.setDpll_syn (s : State) (d : Nat) (v : DpllPart) : (s.setDpll d v).syn = s.syn := rfl
@[simp] theorem State.setDpll_gnss (s : State) (d : Nat) (v : DpllPart) : (s.setDpll d v).gnss = s.gnss := rfl
@[simp] theorem State.setDpll_prt (s : State) (d : Nat) (v : DpllPart) : (s.setDpll d v).prt = s.prt := rfl
@[simp] theorem State.setDpll_fab (s : State) (d : Nat) (v : DpllPart) : (s.setDpll d v).fab = s.fab := rfl
@[simp] theorem State.setDpll_itin (s : State) (d : Nat) (v : DpllPart) : (s.setDpll d v).itin = s.itin := rfl
@[simp] theorem State.setDpll_eng (s : State) (d : Nat) (v : DpllPart) : (s.setDpll d v).eng = s.eng := rfl
@[simp] theorem State.setDpll_nvs (s : State) (d : Nat) (v : DpllPart) : (s.setDpll d v).nvs = s.nvs := rfl
@[simp] theorem State.setDpll_mb (s : State) (d : Nat) (v : DpllPart) : (s.setDpll d v).mb = s.mb := rfl
@[simp] theorem State.setDpll_sec (s : State) (d : Nat) (v : DpllPart) : (s.setDpll d v).sec = s.sec := rfl
@[simp] theorem State.setDpll_se (s : State) (d : Nat) (v : DpllPart) : (s.setDpll d v).se = s.se := rfl
@[simp] theorem State.setDpll_svc (s : State) (d : Nat) (v : DpllPart) : (s.setDpll d v).svc = s.svc := rfl
@[simp] theorem State.setDpll_dma (s : State) (d : Nat) (v : DpllPart) : (s.setDpll d v).dma = s.dma := rfl
@[simp] theorem State.setDpll_dz (s : State) (d : Nat) (v : DpllPart) : (s.setDpll d v).dz = s.dz := rfl
@[simp] theorem State.setDpll_lad (s : State) (d : Nat) (v : DpllPart) : (s.setDpll d v).lad = s.lad := rfl
@[simp] theorem State.setDpll_tst (s : State) (d : Nat) (v : DpllPart) : (s.setDpll d v).tst = s.tst := rfl
@[simp] theorem State.setDpll_reg (s : State) (d : Nat) (v : DpllPart) (x : Nat) : (s.setDpll d v).reg x = s.reg x := rfl
@[simp] theorem State.setDpll_rv (s : State) (d : Nat) (v : DpllPart) (x : Nat) : (s.setDpll d v).rv x = s.rv x := rfl
@[simp] theorem State.setDpll_fld (s : State) (d : Nat) (v : DpllPart) (x : Fld) : (s.setDpll d v).fld x = s.fld x := rfl
@[simp] theorem State.setDpll_flag (s : State) (d : Nat) (v : DpllPart) (x : Fld) : (s.setDpll d v).flag x = s.flag x := rfl

/-! ### setSvc -/

@[simp] theorem State.setSvc_pending (s : State) (p : Nat) (v : SvcPart) : (s.setSvc p v).pending = s.pending := rfl
@[simp] theorem State.setSvc_now (s : State) (p : Nat) (v : SvcPart) : (s.setSvc p v).now = s.now := rfl
@[simp] theorem State.setSvc_free (s : State) (p : Nat) (v : SvcPart) : (s.setSvc p v).free = s.free := rfl
@[simp] theorem State.setSvc_inReset (s : State) (p : Nat) (v : SvcPart) : (s.setSvc p v).inReset = s.inReset := rfl
@[simp] theorem State.setSvc_relAt (s : State) (p : Nat) (v : SvcPart) : (s.setSvc p v).relAt = s.relAt := rfl
@[simp] theorem State.setSvc_regs (s : State) (p : Nat) (v : SvcPart) : (s.setSvc p v).regs = s.regs := rfl
@[simp] theorem State.setSvc_out (s : State) (p : Nat) (v : SvcPart) : (s.setSvc p v).out = s.out := rfl
@[simp] theorem State.setSvc_bus (s : State) (p : Nat) (v : SvcPart) : (s.setSvc p v).bus = s.bus := rfl
@[simp] theorem State.setSvc_irq (s : State) (p : Nat) (v : SvcPart) : (s.setSvc p v).irq = s.irq := rfl
@[simp] theorem State.setSvc_flt (s : State) (p : Nat) (v : SvcPart) : (s.setSvc p v).flt = s.flt := rfl
@[simp] theorem State.setSvc_rat (s : State) (p : Nat) (v : SvcPart) : (s.setSvc p v).rat = s.rat := rfl
@[simp] theorem State.setSvc_tb (s : State) (p : Nat) (v : SvcPart) : (s.setSvc p v).tb = s.tb := rfl
@[simp] theorem State.setSvc_tiu (s : State) (p : Nat) (v : SvcPart) : (s.setSvc p v).tiu = s.tiu := rfl
@[simp] theorem State.setSvc_ref (s : State) (p : Nat) (v : SvcPart) : (s.setSvc p v).ref = s.ref := rfl
@[simp] theorem State.setSvc_steer (s : State) (p : Nat) (v : SvcPart) : (s.setSvc p v).steer = s.steer := rfl
@[simp] theorem State.setSvc_dpll (s : State) (p : Nat) (v : SvcPart) : (s.setSvc p v).dpll = s.dpll := rfl
@[simp] theorem State.setSvc_tm (s : State) (p : Nat) (v : SvcPart) : (s.setSvc p v).tm = s.tm := rfl
@[simp] theorem State.setSvc_syn (s : State) (p : Nat) (v : SvcPart) : (s.setSvc p v).syn = s.syn := rfl
@[simp] theorem State.setSvc_gnss (s : State) (p : Nat) (v : SvcPart) : (s.setSvc p v).gnss = s.gnss := rfl
@[simp] theorem State.setSvc_prt (s : State) (p : Nat) (v : SvcPart) : (s.setSvc p v).prt = s.prt := rfl
@[simp] theorem State.setSvc_fab (s : State) (p : Nat) (v : SvcPart) : (s.setSvc p v).fab = s.fab := rfl
@[simp] theorem State.setSvc_itin (s : State) (p : Nat) (v : SvcPart) : (s.setSvc p v).itin = s.itin := rfl
@[simp] theorem State.setSvc_eng (s : State) (p : Nat) (v : SvcPart) : (s.setSvc p v).eng = s.eng := rfl
@[simp] theorem State.setSvc_nvs (s : State) (p : Nat) (v : SvcPart) : (s.setSvc p v).nvs = s.nvs := rfl
@[simp] theorem State.setSvc_mb (s : State) (p : Nat) (v : SvcPart) : (s.setSvc p v).mb = s.mb := rfl
@[simp] theorem State.setSvc_sec (s : State) (p : Nat) (v : SvcPart) : (s.setSvc p v).sec = s.sec := rfl
@[simp] theorem State.setSvc_se (s : State) (p : Nat) (v : SvcPart) : (s.setSvc p v).se = s.se := rfl
@[simp] theorem State.setSvc_dma (s : State) (p : Nat) (v : SvcPart) : (s.setSvc p v).dma = s.dma := rfl
@[simp] theorem State.setSvc_dz (s : State) (p : Nat) (v : SvcPart) : (s.setSvc p v).dz = s.dz := rfl
@[simp] theorem State.setSvc_lad (s : State) (p : Nat) (v : SvcPart) : (s.setSvc p v).lad = s.lad := rfl
@[simp] theorem State.setSvc_tst (s : State) (p : Nat) (v : SvcPart) : (s.setSvc p v).tst = s.tst := rfl
@[simp] theorem State.setSvc_reg (s : State) (p : Nat) (v : SvcPart) (x : Nat) : (s.setSvc p v).reg x = s.reg x := rfl
@[simp] theorem State.setSvc_rv (s : State) (p : Nat) (v : SvcPart) (x : Nat) : (s.setSvc p v).rv x = s.rv x := rfl
@[simp] theorem State.setSvc_fld (s : State) (p : Nat) (v : SvcPart) (x : Fld) : (s.setSvc p v).fld x = s.fld x := rfl
@[simp] theorem State.setSvc_flag (s : State) (p : Nat) (v : SvcPart) (x : Fld) : (s.setSvc p v).flag x = s.flag x := rfl

/-! ### setApll -/

@[simp] theorem State.setApll_pending (s : State) (a : Nat) (v : ApllPart) : (s.setApll a v).pending = s.pending := rfl
@[simp] theorem State.setApll_now (s : State) (a : Nat) (v : ApllPart) : (s.setApll a v).now = s.now := rfl
@[simp] theorem State.setApll_free (s : State) (a : Nat) (v : ApllPart) : (s.setApll a v).free = s.free := rfl
@[simp] theorem State.setApll_inReset (s : State) (a : Nat) (v : ApllPart) : (s.setApll a v).inReset = s.inReset := rfl
@[simp] theorem State.setApll_relAt (s : State) (a : Nat) (v : ApllPart) : (s.setApll a v).relAt = s.relAt := rfl
@[simp] theorem State.setApll_regs (s : State) (a : Nat) (v : ApllPart) : (s.setApll a v).regs = s.regs := rfl
@[simp] theorem State.setApll_out (s : State) (a : Nat) (v : ApllPart) : (s.setApll a v).out = s.out := rfl
@[simp] theorem State.setApll_bus (s : State) (a : Nat) (v : ApllPart) : (s.setApll a v).bus = s.bus := rfl
@[simp] theorem State.setApll_irq (s : State) (a : Nat) (v : ApllPart) : (s.setApll a v).irq = s.irq := rfl
@[simp] theorem State.setApll_flt (s : State) (a : Nat) (v : ApllPart) : (s.setApll a v).flt = s.flt := rfl
@[simp] theorem State.setApll_rat (s : State) (a : Nat) (v : ApllPart) : (s.setApll a v).rat = s.rat := rfl
@[simp] theorem State.setApll_tb (s : State) (a : Nat) (v : ApllPart) : (s.setApll a v).tb = s.tb := rfl
@[simp] theorem State.setApll_tiu (s : State) (a : Nat) (v : ApllPart) : (s.setApll a v).tiu = s.tiu := rfl
@[simp] theorem State.setApll_ref (s : State) (a : Nat) (v : ApllPart) : (s.setApll a v).ref = s.ref := rfl
@[simp] theorem State.setApll_steer (s : State) (a : Nat) (v : ApllPart) : (s.setApll a v).steer = s.steer := rfl
@[simp] theorem State.setApll_dpll (s : State) (a : Nat) (v : ApllPart) : (s.setApll a v).dpll = s.dpll := rfl
@[simp] theorem State.setApll_tm (s : State) (a : Nat) (v : ApllPart) : (s.setApll a v).tm = s.tm := rfl
@[simp] theorem State.setApll_gnss (s : State) (a : Nat) (v : ApllPart) : (s.setApll a v).gnss = s.gnss := rfl
@[simp] theorem State.setApll_prt (s : State) (a : Nat) (v : ApllPart) : (s.setApll a v).prt = s.prt := rfl
@[simp] theorem State.setApll_fab (s : State) (a : Nat) (v : ApllPart) : (s.setApll a v).fab = s.fab := rfl
@[simp] theorem State.setApll_itin (s : State) (a : Nat) (v : ApllPart) : (s.setApll a v).itin = s.itin := rfl
@[simp] theorem State.setApll_eng (s : State) (a : Nat) (v : ApllPart) : (s.setApll a v).eng = s.eng := rfl
@[simp] theorem State.setApll_nvs (s : State) (a : Nat) (v : ApllPart) : (s.setApll a v).nvs = s.nvs := rfl
@[simp] theorem State.setApll_mb (s : State) (a : Nat) (v : ApllPart) : (s.setApll a v).mb = s.mb := rfl
@[simp] theorem State.setApll_sec (s : State) (a : Nat) (v : ApllPart) : (s.setApll a v).sec = s.sec := rfl
@[simp] theorem State.setApll_se (s : State) (a : Nat) (v : ApllPart) : (s.setApll a v).se = s.se := rfl
@[simp] theorem State.setApll_svc (s : State) (a : Nat) (v : ApllPart) : (s.setApll a v).svc = s.svc := rfl
@[simp] theorem State.setApll_dma (s : State) (a : Nat) (v : ApllPart) : (s.setApll a v).dma = s.dma := rfl
@[simp] theorem State.setApll_dz (s : State) (a : Nat) (v : ApllPart) : (s.setApll a v).dz = s.dz := rfl
@[simp] theorem State.setApll_lad (s : State) (a : Nat) (v : ApllPart) : (s.setApll a v).lad = s.lad := rfl
@[simp] theorem State.setApll_tst (s : State) (a : Nat) (v : ApllPart) : (s.setApll a v).tst = s.tst := rfl
@[simp] theorem State.setApll_reg (s : State) (a : Nat) (v : ApllPart) (x : Nat) : (s.setApll a v).reg x = s.reg x := rfl
@[simp] theorem State.setApll_rv (s : State) (a : Nat) (v : ApllPart) (x : Nat) : (s.setApll a v).rv x = s.rv x := rfl
@[simp] theorem State.setApll_fld (s : State) (a : Nat) (v : ApllPart) (x : Fld) : (s.setApll a v).fld x = s.fld x := rfl
@[simp] theorem State.setApll_flag (s : State) (a : Nat) (v : ApllPart) (x : Fld) : (s.setApll a v).flag x = s.flag x := rfl

/-! ### setOut -/

@[simp] theorem State.setOut_pending (s : State) (o : Nat) (v : OutPart) : (s.setOut o v).pending = s.pending := rfl
@[simp] theorem State.setOut_now (s : State) (o : Nat) (v : OutPart) : (s.setOut o v).now = s.now := rfl
@[simp] theorem State.setOut_free (s : State) (o : Nat) (v : OutPart) : (s.setOut o v).free = s.free := rfl
@[simp] theorem State.setOut_inReset (s : State) (o : Nat) (v : OutPart) : (s.setOut o v).inReset = s.inReset := rfl
@[simp] theorem State.setOut_relAt (s : State) (o : Nat) (v : OutPart) : (s.setOut o v).relAt = s.relAt := rfl
@[simp] theorem State.setOut_regs (s : State) (o : Nat) (v : OutPart) : (s.setOut o v).regs = s.regs := rfl
@[simp] theorem State.setOut_out (s : State) (o : Nat) (v : OutPart) : (s.setOut o v).out = s.out := rfl
@[simp] theorem State.setOut_bus (s : State) (o : Nat) (v : OutPart) : (s.setOut o v).bus = s.bus := rfl
@[simp] theorem State.setOut_irq (s : State) (o : Nat) (v : OutPart) : (s.setOut o v).irq = s.irq := rfl
@[simp] theorem State.setOut_flt (s : State) (o : Nat) (v : OutPart) : (s.setOut o v).flt = s.flt := rfl
@[simp] theorem State.setOut_rat (s : State) (o : Nat) (v : OutPart) : (s.setOut o v).rat = s.rat := rfl
@[simp] theorem State.setOut_tb (s : State) (o : Nat) (v : OutPart) : (s.setOut o v).tb = s.tb := rfl
@[simp] theorem State.setOut_tiu (s : State) (o : Nat) (v : OutPart) : (s.setOut o v).tiu = s.tiu := rfl
@[simp] theorem State.setOut_ref (s : State) (o : Nat) (v : OutPart) : (s.setOut o v).ref = s.ref := rfl
@[simp] theorem State.setOut_steer (s : State) (o : Nat) (v : OutPart) : (s.setOut o v).steer = s.steer := rfl
@[simp] theorem State.setOut_dpll (s : State) (o : Nat) (v : OutPart) : (s.setOut o v).dpll = s.dpll := rfl
@[simp] theorem State.setOut_tm (s : State) (o : Nat) (v : OutPart) : (s.setOut o v).tm = s.tm := rfl
@[simp] theorem State.setOut_gnss (s : State) (o : Nat) (v : OutPart) : (s.setOut o v).gnss = s.gnss := rfl
@[simp] theorem State.setOut_prt (s : State) (o : Nat) (v : OutPart) : (s.setOut o v).prt = s.prt := rfl
@[simp] theorem State.setOut_fab (s : State) (o : Nat) (v : OutPart) : (s.setOut o v).fab = s.fab := rfl
@[simp] theorem State.setOut_itin (s : State) (o : Nat) (v : OutPart) : (s.setOut o v).itin = s.itin := rfl
@[simp] theorem State.setOut_eng (s : State) (o : Nat) (v : OutPart) : (s.setOut o v).eng = s.eng := rfl
@[simp] theorem State.setOut_nvs (s : State) (o : Nat) (v : OutPart) : (s.setOut o v).nvs = s.nvs := rfl
@[simp] theorem State.setOut_mb (s : State) (o : Nat) (v : OutPart) : (s.setOut o v).mb = s.mb := rfl
@[simp] theorem State.setOut_sec (s : State) (o : Nat) (v : OutPart) : (s.setOut o v).sec = s.sec := rfl
@[simp] theorem State.setOut_se (s : State) (o : Nat) (v : OutPart) : (s.setOut o v).se = s.se := rfl
@[simp] theorem State.setOut_svc (s : State) (o : Nat) (v : OutPart) : (s.setOut o v).svc = s.svc := rfl
@[simp] theorem State.setOut_dma (s : State) (o : Nat) (v : OutPart) : (s.setOut o v).dma = s.dma := rfl
@[simp] theorem State.setOut_dz (s : State) (o : Nat) (v : OutPart) : (s.setOut o v).dz = s.dz := rfl
@[simp] theorem State.setOut_lad (s : State) (o : Nat) (v : OutPart) : (s.setOut o v).lad = s.lad := rfl
@[simp] theorem State.setOut_tst (s : State) (o : Nat) (v : OutPart) : (s.setOut o v).tst = s.tst := rfl
@[simp] theorem State.setOut_reg (s : State) (o : Nat) (v : OutPart) (x : Nat) : (s.setOut o v).reg x = s.reg x := rfl
@[simp] theorem State.setOut_rv (s : State) (o : Nat) (v : OutPart) (x : Nat) : (s.setOut o v).rv x = s.rv x := rfl
@[simp] theorem State.setOut_fld (s : State) (o : Nat) (v : OutPart) (x : Fld) : (s.setOut o v).fld x = s.fld x := rfl
@[simp] theorem State.setOut_flag (s : State) (o : Nat) (v : OutPart) (x : Fld) : (s.setOut o v).flag x = s.flag x := rfl

/-! ### setTmux -/

@[simp] theorem State.setTmux_pending (s : State) (k : Nat) (p : TmuxPin) : (s.setTmux k p).pending = s.pending := rfl
@[simp] theorem State.setTmux_now (s : State) (k : Nat) (p : TmuxPin) : (s.setTmux k p).now = s.now := rfl
@[simp] theorem State.setTmux_free (s : State) (k : Nat) (p : TmuxPin) : (s.setTmux k p).free = s.free := rfl
@[simp] theorem State.setTmux_inReset (s : State) (k : Nat) (p : TmuxPin) : (s.setTmux k p).inReset = s.inReset := rfl
@[simp] theorem State.setTmux_relAt (s : State) (k : Nat) (p : TmuxPin) : (s.setTmux k p).relAt = s.relAt := rfl
@[simp] theorem State.setTmux_regs (s : State) (k : Nat) (p : TmuxPin) : (s.setTmux k p).regs = s.regs := rfl
@[simp] theorem State.setTmux_out (s : State) (k : Nat) (p : TmuxPin) : (s.setTmux k p).out = s.out := rfl
@[simp] theorem State.setTmux_bus (s : State) (k : Nat) (p : TmuxPin) : (s.setTmux k p).bus = s.bus := rfl
@[simp] theorem State.setTmux_irq (s : State) (k : Nat) (p : TmuxPin) : (s.setTmux k p).irq = s.irq := rfl
@[simp] theorem State.setTmux_flt (s : State) (k : Nat) (p : TmuxPin) : (s.setTmux k p).flt = s.flt := rfl
@[simp] theorem State.setTmux_rat (s : State) (k : Nat) (p : TmuxPin) : (s.setTmux k p).rat = s.rat := rfl
@[simp] theorem State.setTmux_tb (s : State) (k : Nat) (p : TmuxPin) : (s.setTmux k p).tb = s.tb := rfl
@[simp] theorem State.setTmux_tiu (s : State) (k : Nat) (p : TmuxPin) : (s.setTmux k p).tiu = s.tiu := rfl
@[simp] theorem State.setTmux_ref (s : State) (k : Nat) (p : TmuxPin) : (s.setTmux k p).ref = s.ref := rfl
@[simp] theorem State.setTmux_steer (s : State) (k : Nat) (p : TmuxPin) : (s.setTmux k p).steer = s.steer := rfl
@[simp] theorem State.setTmux_dpll (s : State) (k : Nat) (p : TmuxPin) : (s.setTmux k p).dpll = s.dpll := rfl
@[simp] theorem State.setTmux_tm (s : State) (k : Nat) (p : TmuxPin) : (s.setTmux k p).tm = s.tm := rfl
@[simp] theorem State.setTmux_syn (s : State) (k : Nat) (p : TmuxPin) : (s.setTmux k p).syn = s.syn := rfl
@[simp] theorem State.setTmux_gnss (s : State) (k : Nat) (p : TmuxPin) : (s.setTmux k p).gnss = s.gnss := rfl
@[simp] theorem State.setTmux_prt (s : State) (k : Nat) (p : TmuxPin) : (s.setTmux k p).prt = s.prt := rfl
@[simp] theorem State.setTmux_fab (s : State) (k : Nat) (p : TmuxPin) : (s.setTmux k p).fab = s.fab := rfl
@[simp] theorem State.setTmux_itin (s : State) (k : Nat) (p : TmuxPin) : (s.setTmux k p).itin = s.itin := rfl
@[simp] theorem State.setTmux_eng (s : State) (k : Nat) (p : TmuxPin) : (s.setTmux k p).eng = s.eng := rfl
@[simp] theorem State.setTmux_nvs (s : State) (k : Nat) (p : TmuxPin) : (s.setTmux k p).nvs = s.nvs := rfl
@[simp] theorem State.setTmux_mb (s : State) (k : Nat) (p : TmuxPin) : (s.setTmux k p).mb = s.mb := rfl
@[simp] theorem State.setTmux_sec (s : State) (k : Nat) (p : TmuxPin) : (s.setTmux k p).sec = s.sec := rfl
@[simp] theorem State.setTmux_se (s : State) (k : Nat) (p : TmuxPin) : (s.setTmux k p).se = s.se := rfl
@[simp] theorem State.setTmux_svc (s : State) (k : Nat) (p : TmuxPin) : (s.setTmux k p).svc = s.svc := rfl
@[simp] theorem State.setTmux_dma (s : State) (k : Nat) (p : TmuxPin) : (s.setTmux k p).dma = s.dma := rfl
@[simp] theorem State.setTmux_dz (s : State) (k : Nat) (p : TmuxPin) : (s.setTmux k p).dz = s.dz := rfl
@[simp] theorem State.setTmux_lad (s : State) (k : Nat) (p : TmuxPin) : (s.setTmux k p).lad = s.lad := rfl
@[simp] theorem State.setTmux_reg (s : State) (k : Nat) (p : TmuxPin) (x : Nat) : (s.setTmux k p).reg x = s.reg x := rfl
@[simp] theorem State.setTmux_rv (s : State) (k : Nat) (p : TmuxPin) (x : Nat) : (s.setTmux k p).rv x = s.rv x := rfl
@[simp] theorem State.setTmux_fld (s : State) (k : Nat) (p : TmuxPin) (x : Fld) : (s.setTmux k p).fld x = s.fld x := rfl
@[simp] theorem State.setTmux_flag (s : State) (k : Nat) (p : TmuxPin) (x : Fld) : (s.setTmux k p).flag x = s.flag x := rfl

/-! ### setPort -/

@[simp] theorem State.setPort_pending (s : State) (k : Nat) (v : Steer) : (s.setPort k v).pending = s.pending := rfl
@[simp] theorem State.setPort_now (s : State) (k : Nat) (v : Steer) : (s.setPort k v).now = s.now := rfl
@[simp] theorem State.setPort_free (s : State) (k : Nat) (v : Steer) : (s.setPort k v).free = s.free := rfl
@[simp] theorem State.setPort_inReset (s : State) (k : Nat) (v : Steer) : (s.setPort k v).inReset = s.inReset := rfl
@[simp] theorem State.setPort_relAt (s : State) (k : Nat) (v : Steer) : (s.setPort k v).relAt = s.relAt := rfl
@[simp] theorem State.setPort_regs (s : State) (k : Nat) (v : Steer) : (s.setPort k v).regs = s.regs := rfl
@[simp] theorem State.setPort_out (s : State) (k : Nat) (v : Steer) : (s.setPort k v).out = s.out := rfl
@[simp] theorem State.setPort_bus (s : State) (k : Nat) (v : Steer) : (s.setPort k v).bus = s.bus := rfl
@[simp] theorem State.setPort_irq (s : State) (k : Nat) (v : Steer) : (s.setPort k v).irq = s.irq := rfl
@[simp] theorem State.setPort_flt (s : State) (k : Nat) (v : Steer) : (s.setPort k v).flt = s.flt := rfl
@[simp] theorem State.setPort_rat (s : State) (k : Nat) (v : Steer) : (s.setPort k v).rat = s.rat := rfl
@[simp] theorem State.setPort_tb (s : State) (k : Nat) (v : Steer) : (s.setPort k v).tb = s.tb := rfl
@[simp] theorem State.setPort_tiu (s : State) (k : Nat) (v : Steer) : (s.setPort k v).tiu = s.tiu := rfl
@[simp] theorem State.setPort_ref (s : State) (k : Nat) (v : Steer) : (s.setPort k v).ref = s.ref := rfl
@[simp] theorem State.setPort_dpll (s : State) (k : Nat) (v : Steer) : (s.setPort k v).dpll = s.dpll := rfl
@[simp] theorem State.setPort_tm (s : State) (k : Nat) (v : Steer) : (s.setPort k v).tm = s.tm := rfl
@[simp] theorem State.setPort_syn (s : State) (k : Nat) (v : Steer) : (s.setPort k v).syn = s.syn := rfl
@[simp] theorem State.setPort_gnss (s : State) (k : Nat) (v : Steer) : (s.setPort k v).gnss = s.gnss := rfl
@[simp] theorem State.setPort_prt (s : State) (k : Nat) (v : Steer) : (s.setPort k v).prt = s.prt := rfl
@[simp] theorem State.setPort_fab (s : State) (k : Nat) (v : Steer) : (s.setPort k v).fab = s.fab := rfl
@[simp] theorem State.setPort_itin (s : State) (k : Nat) (v : Steer) : (s.setPort k v).itin = s.itin := rfl
@[simp] theorem State.setPort_eng (s : State) (k : Nat) (v : Steer) : (s.setPort k v).eng = s.eng := rfl
@[simp] theorem State.setPort_nvs (s : State) (k : Nat) (v : Steer) : (s.setPort k v).nvs = s.nvs := rfl
@[simp] theorem State.setPort_mb (s : State) (k : Nat) (v : Steer) : (s.setPort k v).mb = s.mb := rfl
@[simp] theorem State.setPort_sec (s : State) (k : Nat) (v : Steer) : (s.setPort k v).sec = s.sec := rfl
@[simp] theorem State.setPort_se (s : State) (k : Nat) (v : Steer) : (s.setPort k v).se = s.se := rfl
@[simp] theorem State.setPort_svc (s : State) (k : Nat) (v : Steer) : (s.setPort k v).svc = s.svc := rfl
@[simp] theorem State.setPort_dma (s : State) (k : Nat) (v : Steer) : (s.setPort k v).dma = s.dma := rfl
@[simp] theorem State.setPort_dz (s : State) (k : Nat) (v : Steer) : (s.setPort k v).dz = s.dz := rfl
@[simp] theorem State.setPort_lad (s : State) (k : Nat) (v : Steer) : (s.setPort k v).lad = s.lad := rfl
@[simp] theorem State.setPort_tst (s : State) (k : Nat) (v : Steer) : (s.setPort k v).tst = s.tst := rfl
@[simp] theorem State.setPort_reg (s : State) (k : Nat) (v : Steer) (x : Nat) : (s.setPort k v).reg x = s.reg x := rfl
@[simp] theorem State.setPort_rv (s : State) (k : Nat) (v : Steer) (x : Nat) : (s.setPort k v).rv x = s.rv x := rfl
@[simp] theorem State.setPort_fld (s : State) (k : Nat) (v : Steer) (x : Fld) : (s.setPort k v).fld x = s.fld x := rfl
@[simp] theorem State.setPort_flag (s : State) (k : Nat) (v : Steer) (x : Fld) : (s.setPort k v).flag x = s.flag x := rfl

/-! ### setTs -/

@[simp] theorem State.setTs_pending (s : State) (t : Nat) (v : TsPart) : (s.setTs t v).pending = s.pending := rfl
@[simp] theorem State.setTs_now (s : State) (t : Nat) (v : TsPart) : (s.setTs t v).now = s.now := rfl
@[simp] theorem State.setTs_free (s : State) (t : Nat) (v : TsPart) : (s.setTs t v).free = s.free := rfl
@[simp] theorem State.setTs_inReset (s : State) (t : Nat) (v : TsPart) : (s.setTs t v).inReset = s.inReset := rfl
@[simp] theorem State.setTs_relAt (s : State) (t : Nat) (v : TsPart) : (s.setTs t v).relAt = s.relAt := rfl
@[simp] theorem State.setTs_regs (s : State) (t : Nat) (v : TsPart) : (s.setTs t v).regs = s.regs := rfl
@[simp] theorem State.setTs_out (s : State) (t : Nat) (v : TsPart) : (s.setTs t v).out = s.out := rfl
@[simp] theorem State.setTs_bus (s : State) (t : Nat) (v : TsPart) : (s.setTs t v).bus = s.bus := rfl
@[simp] theorem State.setTs_irq (s : State) (t : Nat) (v : TsPart) : (s.setTs t v).irq = s.irq := rfl
@[simp] theorem State.setTs_flt (s : State) (t : Nat) (v : TsPart) : (s.setTs t v).flt = s.flt := rfl
@[simp] theorem State.setTs_rat (s : State) (t : Nat) (v : TsPart) : (s.setTs t v).rat = s.rat := rfl
@[simp] theorem State.setTs_tb (s : State) (t : Nat) (v : TsPart) : (s.setTs t v).tb = s.tb := rfl
@[simp] theorem State.setTs_tiu (s : State) (t : Nat) (v : TsPart) : (s.setTs t v).tiu = s.tiu := rfl
@[simp] theorem State.setTs_ref (s : State) (t : Nat) (v : TsPart) : (s.setTs t v).ref = s.ref := rfl
@[simp] theorem State.setTs_steer (s : State) (t : Nat) (v : TsPart) : (s.setTs t v).steer = s.steer := rfl
@[simp] theorem State.setTs_dpll (s : State) (t : Nat) (v : TsPart) : (s.setTs t v).dpll = s.dpll := rfl
@[simp] theorem State.setTs_syn (s : State) (t : Nat) (v : TsPart) : (s.setTs t v).syn = s.syn := rfl
@[simp] theorem State.setTs_gnss (s : State) (t : Nat) (v : TsPart) : (s.setTs t v).gnss = s.gnss := rfl
@[simp] theorem State.setTs_prt (s : State) (t : Nat) (v : TsPart) : (s.setTs t v).prt = s.prt := rfl
@[simp] theorem State.setTs_fab (s : State) (t : Nat) (v : TsPart) : (s.setTs t v).fab = s.fab := rfl
@[simp] theorem State.setTs_itin (s : State) (t : Nat) (v : TsPart) : (s.setTs t v).itin = s.itin := rfl
@[simp] theorem State.setTs_eng (s : State) (t : Nat) (v : TsPart) : (s.setTs t v).eng = s.eng := rfl
@[simp] theorem State.setTs_nvs (s : State) (t : Nat) (v : TsPart) : (s.setTs t v).nvs = s.nvs := rfl
@[simp] theorem State.setTs_mb (s : State) (t : Nat) (v : TsPart) : (s.setTs t v).mb = s.mb := rfl
@[simp] theorem State.setTs_sec (s : State) (t : Nat) (v : TsPart) : (s.setTs t v).sec = s.sec := rfl
@[simp] theorem State.setTs_se (s : State) (t : Nat) (v : TsPart) : (s.setTs t v).se = s.se := rfl
@[simp] theorem State.setTs_svc (s : State) (t : Nat) (v : TsPart) : (s.setTs t v).svc = s.svc := rfl
@[simp] theorem State.setTs_dma (s : State) (t : Nat) (v : TsPart) : (s.setTs t v).dma = s.dma := rfl
@[simp] theorem State.setTs_dz (s : State) (t : Nat) (v : TsPart) : (s.setTs t v).dz = s.dz := rfl
@[simp] theorem State.setTs_lad (s : State) (t : Nat) (v : TsPart) : (s.setTs t v).lad = s.lad := rfl
@[simp] theorem State.setTs_tst (s : State) (t : Nat) (v : TsPart) : (s.setTs t v).tst = s.tst := rfl
@[simp] theorem State.setTs_reg (s : State) (t : Nat) (v : TsPart) (x : Nat) : (s.setTs t v).reg x = s.reg x := rfl
@[simp] theorem State.setTs_rv (s : State) (t : Nat) (v : TsPart) (x : Nat) : (s.setTs t v).rv x = s.rv x := rfl
@[simp] theorem State.setTs_fld (s : State) (t : Nat) (v : TsPart) (x : Fld) : (s.setTs t v).fld x = s.fld x := rfl
@[simp] theorem State.setTs_flag (s : State) (t : Nat) (v : TsPart) (x : Fld) : (s.setTs t v).flag x = s.flag x := rfl

/-! ### setTrg -/

@[simp] theorem State.setTrg_pending (s : State) (i : Nat) (v : TrgPart) : (s.setTrg i v).pending = s.pending := rfl
@[simp] theorem State.setTrg_now (s : State) (i : Nat) (v : TrgPart) : (s.setTrg i v).now = s.now := rfl
@[simp] theorem State.setTrg_free (s : State) (i : Nat) (v : TrgPart) : (s.setTrg i v).free = s.free := rfl
@[simp] theorem State.setTrg_inReset (s : State) (i : Nat) (v : TrgPart) : (s.setTrg i v).inReset = s.inReset := rfl
@[simp] theorem State.setTrg_relAt (s : State) (i : Nat) (v : TrgPart) : (s.setTrg i v).relAt = s.relAt := rfl
@[simp] theorem State.setTrg_regs (s : State) (i : Nat) (v : TrgPart) : (s.setTrg i v).regs = s.regs := rfl
@[simp] theorem State.setTrg_out (s : State) (i : Nat) (v : TrgPart) : (s.setTrg i v).out = s.out := rfl
@[simp] theorem State.setTrg_bus (s : State) (i : Nat) (v : TrgPart) : (s.setTrg i v).bus = s.bus := rfl
@[simp] theorem State.setTrg_irq (s : State) (i : Nat) (v : TrgPart) : (s.setTrg i v).irq = s.irq := rfl
@[simp] theorem State.setTrg_flt (s : State) (i : Nat) (v : TrgPart) : (s.setTrg i v).flt = s.flt := rfl
@[simp] theorem State.setTrg_rat (s : State) (i : Nat) (v : TrgPart) : (s.setTrg i v).rat = s.rat := rfl
@[simp] theorem State.setTrg_tb (s : State) (i : Nat) (v : TrgPart) : (s.setTrg i v).tb = s.tb := rfl
@[simp] theorem State.setTrg_tiu (s : State) (i : Nat) (v : TrgPart) : (s.setTrg i v).tiu = s.tiu := rfl
@[simp] theorem State.setTrg_ref (s : State) (i : Nat) (v : TrgPart) : (s.setTrg i v).ref = s.ref := rfl
@[simp] theorem State.setTrg_steer (s : State) (i : Nat) (v : TrgPart) : (s.setTrg i v).steer = s.steer := rfl
@[simp] theorem State.setTrg_dpll (s : State) (i : Nat) (v : TrgPart) : (s.setTrg i v).dpll = s.dpll := rfl
@[simp] theorem State.setTrg_syn (s : State) (i : Nat) (v : TrgPart) : (s.setTrg i v).syn = s.syn := rfl
@[simp] theorem State.setTrg_gnss (s : State) (i : Nat) (v : TrgPart) : (s.setTrg i v).gnss = s.gnss := rfl
@[simp] theorem State.setTrg_prt (s : State) (i : Nat) (v : TrgPart) : (s.setTrg i v).prt = s.prt := rfl
@[simp] theorem State.setTrg_fab (s : State) (i : Nat) (v : TrgPart) : (s.setTrg i v).fab = s.fab := rfl
@[simp] theorem State.setTrg_itin (s : State) (i : Nat) (v : TrgPart) : (s.setTrg i v).itin = s.itin := rfl
@[simp] theorem State.setTrg_eng (s : State) (i : Nat) (v : TrgPart) : (s.setTrg i v).eng = s.eng := rfl
@[simp] theorem State.setTrg_nvs (s : State) (i : Nat) (v : TrgPart) : (s.setTrg i v).nvs = s.nvs := rfl
@[simp] theorem State.setTrg_mb (s : State) (i : Nat) (v : TrgPart) : (s.setTrg i v).mb = s.mb := rfl
@[simp] theorem State.setTrg_sec (s : State) (i : Nat) (v : TrgPart) : (s.setTrg i v).sec = s.sec := rfl
@[simp] theorem State.setTrg_se (s : State) (i : Nat) (v : TrgPart) : (s.setTrg i v).se = s.se := rfl
@[simp] theorem State.setTrg_svc (s : State) (i : Nat) (v : TrgPart) : (s.setTrg i v).svc = s.svc := rfl
@[simp] theorem State.setTrg_dma (s : State) (i : Nat) (v : TrgPart) : (s.setTrg i v).dma = s.dma := rfl
@[simp] theorem State.setTrg_dz (s : State) (i : Nat) (v : TrgPart) : (s.setTrg i v).dz = s.dz := rfl
@[simp] theorem State.setTrg_lad (s : State) (i : Nat) (v : TrgPart) : (s.setTrg i v).lad = s.lad := rfl
@[simp] theorem State.setTrg_tst (s : State) (i : Nat) (v : TrgPart) : (s.setTrg i v).tst = s.tst := rfl
@[simp] theorem State.setTrg_reg (s : State) (i : Nat) (v : TrgPart) (x : Nat) : (s.setTrg i v).reg x = s.reg x := rfl
@[simp] theorem State.setTrg_rv (s : State) (i : Nat) (v : TrgPart) (x : Nat) : (s.setTrg i v).rv x = s.rv x := rfl
@[simp] theorem State.setTrg_fld (s : State) (i : Nat) (v : TrgPart) (x : Fld) : (s.setTrg i v).fld x = s.fld x := rfl
@[simp] theorem State.setTrg_flag (s : State) (i : Nat) (v : TrgPart) (x : Fld) : (s.setTrg i v).flag x = s.flag x := rfl

/-! ### setPc -/

@[simp] theorem State.setPc_pending (s : State) (p : Nat) (v : PcPart) : (s.setPc p v).pending = s.pending := rfl
@[simp] theorem State.setPc_now (s : State) (p : Nat) (v : PcPart) : (s.setPc p v).now = s.now := rfl
@[simp] theorem State.setPc_free (s : State) (p : Nat) (v : PcPart) : (s.setPc p v).free = s.free := rfl
@[simp] theorem State.setPc_inReset (s : State) (p : Nat) (v : PcPart) : (s.setPc p v).inReset = s.inReset := rfl
@[simp] theorem State.setPc_relAt (s : State) (p : Nat) (v : PcPart) : (s.setPc p v).relAt = s.relAt := rfl
@[simp] theorem State.setPc_regs (s : State) (p : Nat) (v : PcPart) : (s.setPc p v).regs = s.regs := rfl
@[simp] theorem State.setPc_out (s : State) (p : Nat) (v : PcPart) : (s.setPc p v).out = s.out := rfl
@[simp] theorem State.setPc_bus (s : State) (p : Nat) (v : PcPart) : (s.setPc p v).bus = s.bus := rfl
@[simp] theorem State.setPc_irq (s : State) (p : Nat) (v : PcPart) : (s.setPc p v).irq = s.irq := rfl
@[simp] theorem State.setPc_flt (s : State) (p : Nat) (v : PcPart) : (s.setPc p v).flt = s.flt := rfl
@[simp] theorem State.setPc_rat (s : State) (p : Nat) (v : PcPart) : (s.setPc p v).rat = s.rat := rfl
@[simp] theorem State.setPc_tb (s : State) (p : Nat) (v : PcPart) : (s.setPc p v).tb = s.tb := rfl
@[simp] theorem State.setPc_tiu (s : State) (p : Nat) (v : PcPart) : (s.setPc p v).tiu = s.tiu := rfl
@[simp] theorem State.setPc_ref (s : State) (p : Nat) (v : PcPart) : (s.setPc p v).ref = s.ref := rfl
@[simp] theorem State.setPc_steer (s : State) (p : Nat) (v : PcPart) : (s.setPc p v).steer = s.steer := rfl
@[simp] theorem State.setPc_dpll (s : State) (p : Nat) (v : PcPart) : (s.setPc p v).dpll = s.dpll := rfl
@[simp] theorem State.setPc_syn (s : State) (p : Nat) (v : PcPart) : (s.setPc p v).syn = s.syn := rfl
@[simp] theorem State.setPc_gnss (s : State) (p : Nat) (v : PcPart) : (s.setPc p v).gnss = s.gnss := rfl
@[simp] theorem State.setPc_prt (s : State) (p : Nat) (v : PcPart) : (s.setPc p v).prt = s.prt := rfl
@[simp] theorem State.setPc_fab (s : State) (p : Nat) (v : PcPart) : (s.setPc p v).fab = s.fab := rfl
@[simp] theorem State.setPc_itin (s : State) (p : Nat) (v : PcPart) : (s.setPc p v).itin = s.itin := rfl
@[simp] theorem State.setPc_eng (s : State) (p : Nat) (v : PcPart) : (s.setPc p v).eng = s.eng := rfl
@[simp] theorem State.setPc_nvs (s : State) (p : Nat) (v : PcPart) : (s.setPc p v).nvs = s.nvs := rfl
@[simp] theorem State.setPc_mb (s : State) (p : Nat) (v : PcPart) : (s.setPc p v).mb = s.mb := rfl
@[simp] theorem State.setPc_sec (s : State) (p : Nat) (v : PcPart) : (s.setPc p v).sec = s.sec := rfl
@[simp] theorem State.setPc_se (s : State) (p : Nat) (v : PcPart) : (s.setPc p v).se = s.se := rfl
@[simp] theorem State.setPc_svc (s : State) (p : Nat) (v : PcPart) : (s.setPc p v).svc = s.svc := rfl
@[simp] theorem State.setPc_dma (s : State) (p : Nat) (v : PcPart) : (s.setPc p v).dma = s.dma := rfl
@[simp] theorem State.setPc_dz (s : State) (p : Nat) (v : PcPart) : (s.setPc p v).dz = s.dz := rfl
@[simp] theorem State.setPc_lad (s : State) (p : Nat) (v : PcPart) : (s.setPc p v).lad = s.lad := rfl
@[simp] theorem State.setPc_tst (s : State) (p : Nat) (v : PcPart) : (s.setPc p v).tst = s.tst := rfl
@[simp] theorem State.setPc_reg (s : State) (p : Nat) (v : PcPart) (x : Nat) : (s.setPc p v).reg x = s.reg x := rfl
@[simp] theorem State.setPc_rv (s : State) (p : Nat) (v : PcPart) (x : Nat) : (s.setPc p v).rv x = s.rv x := rfl
@[simp] theorem State.setPc_fld (s : State) (p : Nat) (v : PcPart) (x : Fld) : (s.setPc p v).fld x = s.fld x := rfl
@[simp] theorem State.setPc_flag (s : State) (p : Nat) (v : PcPart) (x : Fld) : (s.setPc p v).flag x = s.flag x := rfl

/-! ### setMtc -/

@[simp] theorem State.setMtc_pending (s : State) (v : Nat) : (s.setMtc v).pending = s.pending := rfl
@[simp] theorem State.setMtc_now (s : State) (v : Nat) : (s.setMtc v).now = s.now := rfl
@[simp] theorem State.setMtc_free (s : State) (v : Nat) : (s.setMtc v).free = s.free := rfl
@[simp] theorem State.setMtc_inReset (s : State) (v : Nat) : (s.setMtc v).inReset = s.inReset := rfl
@[simp] theorem State.setMtc_relAt (s : State) (v : Nat) : (s.setMtc v).relAt = s.relAt := rfl
@[simp] theorem State.setMtc_regs (s : State) (v : Nat) : (s.setMtc v).regs = s.regs := rfl
@[simp] theorem State.setMtc_out (s : State) (v : Nat) : (s.setMtc v).out = s.out := rfl
@[simp] theorem State.setMtc_bus (s : State) (v : Nat) : (s.setMtc v).bus = s.bus := rfl
@[simp] theorem State.setMtc_irq (s : State) (v : Nat) : (s.setMtc v).irq = s.irq := rfl
@[simp] theorem State.setMtc_flt (s : State) (v : Nat) : (s.setMtc v).flt = s.flt := rfl
@[simp] theorem State.setMtc_rat (s : State) (v : Nat) : (s.setMtc v).rat = s.rat := rfl
@[simp] theorem State.setMtc_tb (s : State) (v : Nat) : (s.setMtc v).tb = s.tb := rfl
@[simp] theorem State.setMtc_tiu (s : State) (v : Nat) : (s.setMtc v).tiu = s.tiu := rfl
@[simp] theorem State.setMtc_ref (s : State) (v : Nat) : (s.setMtc v).ref = s.ref := rfl
@[simp] theorem State.setMtc_steer (s : State) (v : Nat) : (s.setMtc v).steer = s.steer := rfl
@[simp] theorem State.setMtc_dpll (s : State) (v : Nat) : (s.setMtc v).dpll = s.dpll := rfl
@[simp] theorem State.setMtc_syn (s : State) (v : Nat) : (s.setMtc v).syn = s.syn := rfl
@[simp] theorem State.setMtc_gnss (s : State) (v : Nat) : (s.setMtc v).gnss = s.gnss := rfl
@[simp] theorem State.setMtc_prt (s : State) (v : Nat) : (s.setMtc v).prt = s.prt := rfl
@[simp] theorem State.setMtc_fab (s : State) (v : Nat) : (s.setMtc v).fab = s.fab := rfl
@[simp] theorem State.setMtc_itin (s : State) (v : Nat) : (s.setMtc v).itin = s.itin := rfl
@[simp] theorem State.setMtc_eng (s : State) (v : Nat) : (s.setMtc v).eng = s.eng := rfl
@[simp] theorem State.setMtc_nvs (s : State) (v : Nat) : (s.setMtc v).nvs = s.nvs := rfl
@[simp] theorem State.setMtc_mb (s : State) (v : Nat) : (s.setMtc v).mb = s.mb := rfl
@[simp] theorem State.setMtc_sec (s : State) (v : Nat) : (s.setMtc v).sec = s.sec := rfl
@[simp] theorem State.setMtc_se (s : State) (v : Nat) : (s.setMtc v).se = s.se := rfl
@[simp] theorem State.setMtc_svc (s : State) (v : Nat) : (s.setMtc v).svc = s.svc := rfl
@[simp] theorem State.setMtc_dma (s : State) (v : Nat) : (s.setMtc v).dma = s.dma := rfl
@[simp] theorem State.setMtc_dz (s : State) (v : Nat) : (s.setMtc v).dz = s.dz := rfl
@[simp] theorem State.setMtc_lad (s : State) (v : Nat) : (s.setMtc v).lad = s.lad := rfl
@[simp] theorem State.setMtc_tst (s : State) (v : Nat) : (s.setMtc v).tst = s.tst := rfl
@[simp] theorem State.setMtc_reg (s : State) (v : Nat) (x : Nat) : (s.setMtc v).reg x = s.reg x := rfl
@[simp] theorem State.setMtc_rv (s : State) (v : Nat) (x : Nat) : (s.setMtc v).rv x = s.rv x := rfl
@[simp] theorem State.setMtc_fld (s : State) (v : Nat) (x : Fld) : (s.setMtc v).fld x = s.fld x := rfl
@[simp] theorem State.setMtc_flag (s : State) (v : Nat) (x : Fld) : (s.setMtc v).flag x = s.flag x := rfl

/-! ### setChan -/

@[simp] theorem State.setChan_pending (s : State) (n : Nat) (c : Chan) : (s.setChan n c).pending = s.pending := rfl
@[simp] theorem State.setChan_now (s : State) (n : Nat) (c : Chan) : (s.setChan n c).now = s.now := rfl
@[simp] theorem State.setChan_free (s : State) (n : Nat) (c : Chan) : (s.setChan n c).free = s.free := rfl
@[simp] theorem State.setChan_inReset (s : State) (n : Nat) (c : Chan) : (s.setChan n c).inReset = s.inReset := rfl
@[simp] theorem State.setChan_relAt (s : State) (n : Nat) (c : Chan) : (s.setChan n c).relAt = s.relAt := rfl
@[simp] theorem State.setChan_regs (s : State) (n : Nat) (c : Chan) : (s.setChan n c).regs = s.regs := rfl
@[simp] theorem State.setChan_out (s : State) (n : Nat) (c : Chan) : (s.setChan n c).out = s.out := rfl
@[simp] theorem State.setChan_bus (s : State) (n : Nat) (c : Chan) : (s.setChan n c).bus = s.bus := rfl
@[simp] theorem State.setChan_irq (s : State) (n : Nat) (c : Chan) : (s.setChan n c).irq = s.irq := rfl
@[simp] theorem State.setChan_flt (s : State) (n : Nat) (c : Chan) : (s.setChan n c).flt = s.flt := rfl
@[simp] theorem State.setChan_rat (s : State) (n : Nat) (c : Chan) : (s.setChan n c).rat = s.rat := rfl
@[simp] theorem State.setChan_tb (s : State) (n : Nat) (c : Chan) : (s.setChan n c).tb = s.tb := rfl
@[simp] theorem State.setChan_ref (s : State) (n : Nat) (c : Chan) : (s.setChan n c).ref = s.ref := rfl
@[simp] theorem State.setChan_steer (s : State) (n : Nat) (c : Chan) : (s.setChan n c).steer = s.steer := rfl
@[simp] theorem State.setChan_dpll (s : State) (n : Nat) (c : Chan) : (s.setChan n c).dpll = s.dpll := rfl
@[simp] theorem State.setChan_tm (s : State) (n : Nat) (c : Chan) : (s.setChan n c).tm = s.tm := rfl
@[simp] theorem State.setChan_syn (s : State) (n : Nat) (c : Chan) : (s.setChan n c).syn = s.syn := rfl
@[simp] theorem State.setChan_gnss (s : State) (n : Nat) (c : Chan) : (s.setChan n c).gnss = s.gnss := rfl
@[simp] theorem State.setChan_prt (s : State) (n : Nat) (c : Chan) : (s.setChan n c).prt = s.prt := rfl
@[simp] theorem State.setChan_fab (s : State) (n : Nat) (c : Chan) : (s.setChan n c).fab = s.fab := rfl
@[simp] theorem State.setChan_itin (s : State) (n : Nat) (c : Chan) : (s.setChan n c).itin = s.itin := rfl
@[simp] theorem State.setChan_eng (s : State) (n : Nat) (c : Chan) : (s.setChan n c).eng = s.eng := rfl
@[simp] theorem State.setChan_nvs (s : State) (n : Nat) (c : Chan) : (s.setChan n c).nvs = s.nvs := rfl
@[simp] theorem State.setChan_mb (s : State) (n : Nat) (c : Chan) : (s.setChan n c).mb = s.mb := rfl
@[simp] theorem State.setChan_sec (s : State) (n : Nat) (c : Chan) : (s.setChan n c).sec = s.sec := rfl
@[simp] theorem State.setChan_se (s : State) (n : Nat) (c : Chan) : (s.setChan n c).se = s.se := rfl
@[simp] theorem State.setChan_svc (s : State) (n : Nat) (c : Chan) : (s.setChan n c).svc = s.svc := rfl
@[simp] theorem State.setChan_dma (s : State) (n : Nat) (c : Chan) : (s.setChan n c).dma = s.dma := rfl
@[simp] theorem State.setChan_dz (s : State) (n : Nat) (c : Chan) : (s.setChan n c).dz = s.dz := rfl
@[simp] theorem State.setChan_lad (s : State) (n : Nat) (c : Chan) : (s.setChan n c).lad = s.lad := rfl
@[simp] theorem State.setChan_tst (s : State) (n : Nat) (c : Chan) : (s.setChan n c).tst = s.tst := rfl
@[simp] theorem State.setChan_reg (s : State) (n : Nat) (c : Chan) (x : Nat) : (s.setChan n c).reg x = s.reg x := rfl
@[simp] theorem State.setChan_rv (s : State) (n : Nat) (c : Chan) (x : Nat) : (s.setChan n c).rv x = s.rv x := rfl
@[simp] theorem State.setChan_fld (s : State) (n : Nat) (c : Chan) (x : Fld) : (s.setChan n c).fld x = s.fld x := rfl
@[simp] theorem State.setChan_flag (s : State) (n : Nat) (c : Chan) (x : Fld) : (s.setChan n c).flag x = s.flag x := rfl

/-! ### setInterp -/

@[simp] theorem State.setInterp_pending (s : State) (n : Nat) (c : Interp) : (s.setInterp n c).pending = s.pending := rfl
@[simp] theorem State.setInterp_now (s : State) (n : Nat) (c : Interp) : (s.setInterp n c).now = s.now := rfl
@[simp] theorem State.setInterp_free (s : State) (n : Nat) (c : Interp) : (s.setInterp n c).free = s.free := rfl
@[simp] theorem State.setInterp_inReset (s : State) (n : Nat) (c : Interp) : (s.setInterp n c).inReset = s.inReset := rfl
@[simp] theorem State.setInterp_relAt (s : State) (n : Nat) (c : Interp) : (s.setInterp n c).relAt = s.relAt := rfl
@[simp] theorem State.setInterp_regs (s : State) (n : Nat) (c : Interp) : (s.setInterp n c).regs = s.regs := rfl
@[simp] theorem State.setInterp_out (s : State) (n : Nat) (c : Interp) : (s.setInterp n c).out = s.out := rfl
@[simp] theorem State.setInterp_bus (s : State) (n : Nat) (c : Interp) : (s.setInterp n c).bus = s.bus := rfl
@[simp] theorem State.setInterp_irq (s : State) (n : Nat) (c : Interp) : (s.setInterp n c).irq = s.irq := rfl
@[simp] theorem State.setInterp_flt (s : State) (n : Nat) (c : Interp) : (s.setInterp n c).flt = s.flt := rfl
@[simp] theorem State.setInterp_rat (s : State) (n : Nat) (c : Interp) : (s.setInterp n c).rat = s.rat := rfl
@[simp] theorem State.setInterp_tb (s : State) (n : Nat) (c : Interp) : (s.setInterp n c).tb = s.tb := rfl
@[simp] theorem State.setInterp_ref (s : State) (n : Nat) (c : Interp) : (s.setInterp n c).ref = s.ref := rfl
@[simp] theorem State.setInterp_steer (s : State) (n : Nat) (c : Interp) : (s.setInterp n c).steer = s.steer := rfl
@[simp] theorem State.setInterp_dpll (s : State) (n : Nat) (c : Interp) : (s.setInterp n c).dpll = s.dpll := rfl
@[simp] theorem State.setInterp_tm (s : State) (n : Nat) (c : Interp) : (s.setInterp n c).tm = s.tm := rfl
@[simp] theorem State.setInterp_syn (s : State) (n : Nat) (c : Interp) : (s.setInterp n c).syn = s.syn := rfl
@[simp] theorem State.setInterp_gnss (s : State) (n : Nat) (c : Interp) : (s.setInterp n c).gnss = s.gnss := rfl
@[simp] theorem State.setInterp_prt (s : State) (n : Nat) (c : Interp) : (s.setInterp n c).prt = s.prt := rfl
@[simp] theorem State.setInterp_fab (s : State) (n : Nat) (c : Interp) : (s.setInterp n c).fab = s.fab := rfl
@[simp] theorem State.setInterp_itin (s : State) (n : Nat) (c : Interp) : (s.setInterp n c).itin = s.itin := rfl
@[simp] theorem State.setInterp_eng (s : State) (n : Nat) (c : Interp) : (s.setInterp n c).eng = s.eng := rfl
@[simp] theorem State.setInterp_nvs (s : State) (n : Nat) (c : Interp) : (s.setInterp n c).nvs = s.nvs := rfl
@[simp] theorem State.setInterp_mb (s : State) (n : Nat) (c : Interp) : (s.setInterp n c).mb = s.mb := rfl
@[simp] theorem State.setInterp_sec (s : State) (n : Nat) (c : Interp) : (s.setInterp n c).sec = s.sec := rfl
@[simp] theorem State.setInterp_se (s : State) (n : Nat) (c : Interp) : (s.setInterp n c).se = s.se := rfl
@[simp] theorem State.setInterp_svc (s : State) (n : Nat) (c : Interp) : (s.setInterp n c).svc = s.svc := rfl
@[simp] theorem State.setInterp_dma (s : State) (n : Nat) (c : Interp) : (s.setInterp n c).dma = s.dma := rfl
@[simp] theorem State.setInterp_dz (s : State) (n : Nat) (c : Interp) : (s.setInterp n c).dz = s.dz := rfl
@[simp] theorem State.setInterp_lad (s : State) (n : Nat) (c : Interp) : (s.setInterp n c).lad = s.lad := rfl
@[simp] theorem State.setInterp_tst (s : State) (n : Nat) (c : Interp) : (s.setInterp n c).tst = s.tst := rfl
@[simp] theorem State.setInterp_reg (s : State) (n : Nat) (c : Interp) (x : Nat) : (s.setInterp n c).reg x = s.reg x := rfl
@[simp] theorem State.setInterp_rv (s : State) (n : Nat) (c : Interp) (x : Nat) : (s.setInterp n c).rv x = s.rv x := rfl
@[simp] theorem State.setInterp_fld (s : State) (n : Nat) (c : Interp) (x : Fld) : (s.setInterp n c).fld x = s.fld x := rfl
@[simp] theorem State.setInterp_flag (s : State) (n : Nat) (c : Interp) (x : Fld) : (s.setInterp n c).flag x = s.flag x := rfl

/-! ### setGroup -/

@[simp] theorem State.setGroup_pending (s : State) (g : Nat) (c : Group) : (s.setGroup g c).pending = s.pending := rfl
@[simp] theorem State.setGroup_now (s : State) (g : Nat) (c : Group) : (s.setGroup g c).now = s.now := rfl
@[simp] theorem State.setGroup_free (s : State) (g : Nat) (c : Group) : (s.setGroup g c).free = s.free := rfl
@[simp] theorem State.setGroup_inReset (s : State) (g : Nat) (c : Group) : (s.setGroup g c).inReset = s.inReset := rfl
@[simp] theorem State.setGroup_relAt (s : State) (g : Nat) (c : Group) : (s.setGroup g c).relAt = s.relAt := rfl
@[simp] theorem State.setGroup_regs (s : State) (g : Nat) (c : Group) : (s.setGroup g c).regs = s.regs := rfl
@[simp] theorem State.setGroup_out (s : State) (g : Nat) (c : Group) : (s.setGroup g c).out = s.out := rfl
@[simp] theorem State.setGroup_bus (s : State) (g : Nat) (c : Group) : (s.setGroup g c).bus = s.bus := rfl
@[simp] theorem State.setGroup_irq (s : State) (g : Nat) (c : Group) : (s.setGroup g c).irq = s.irq := rfl
@[simp] theorem State.setGroup_flt (s : State) (g : Nat) (c : Group) : (s.setGroup g c).flt = s.flt := rfl
@[simp] theorem State.setGroup_rat (s : State) (g : Nat) (c : Group) : (s.setGroup g c).rat = s.rat := rfl
@[simp] theorem State.setGroup_tb (s : State) (g : Nat) (c : Group) : (s.setGroup g c).tb = s.tb := rfl
@[simp] theorem State.setGroup_ref (s : State) (g : Nat) (c : Group) : (s.setGroup g c).ref = s.ref := rfl
@[simp] theorem State.setGroup_steer (s : State) (g : Nat) (c : Group) : (s.setGroup g c).steer = s.steer := rfl
@[simp] theorem State.setGroup_dpll (s : State) (g : Nat) (c : Group) : (s.setGroup g c).dpll = s.dpll := rfl
@[simp] theorem State.setGroup_tm (s : State) (g : Nat) (c : Group) : (s.setGroup g c).tm = s.tm := rfl
@[simp] theorem State.setGroup_syn (s : State) (g : Nat) (c : Group) : (s.setGroup g c).syn = s.syn := rfl
@[simp] theorem State.setGroup_gnss (s : State) (g : Nat) (c : Group) : (s.setGroup g c).gnss = s.gnss := rfl
@[simp] theorem State.setGroup_prt (s : State) (g : Nat) (c : Group) : (s.setGroup g c).prt = s.prt := rfl
@[simp] theorem State.setGroup_fab (s : State) (g : Nat) (c : Group) : (s.setGroup g c).fab = s.fab := rfl
@[simp] theorem State.setGroup_itin (s : State) (g : Nat) (c : Group) : (s.setGroup g c).itin = s.itin := rfl
@[simp] theorem State.setGroup_eng (s : State) (g : Nat) (c : Group) : (s.setGroup g c).eng = s.eng := rfl
@[simp] theorem State.setGroup_nvs (s : State) (g : Nat) (c : Group) : (s.setGroup g c).nvs = s.nvs := rfl
@[simp] theorem State.setGroup_mb (s : State) (g : Nat) (c : Group) : (s.setGroup g c).mb = s.mb := rfl
@[simp] theorem State.setGroup_sec (s : State) (g : Nat) (c : Group) : (s.setGroup g c).sec = s.sec := rfl
@[simp] theorem State.setGroup_se (s : State) (g : Nat) (c : Group) : (s.setGroup g c).se = s.se := rfl
@[simp] theorem State.setGroup_svc (s : State) (g : Nat) (c : Group) : (s.setGroup g c).svc = s.svc := rfl
@[simp] theorem State.setGroup_dma (s : State) (g : Nat) (c : Group) : (s.setGroup g c).dma = s.dma := rfl
@[simp] theorem State.setGroup_dz (s : State) (g : Nat) (c : Group) : (s.setGroup g c).dz = s.dz := rfl
@[simp] theorem State.setGroup_lad (s : State) (g : Nat) (c : Group) : (s.setGroup g c).lad = s.lad := rfl
@[simp] theorem State.setGroup_tst (s : State) (g : Nat) (c : Group) : (s.setGroup g c).tst = s.tst := rfl
@[simp] theorem State.setGroup_reg (s : State) (g : Nat) (c : Group) (x : Nat) : (s.setGroup g c).reg x = s.reg x := rfl
@[simp] theorem State.setGroup_rv (s : State) (g : Nat) (c : Group) (x : Nat) : (s.setGroup g c).rv x = s.rv x := rfl
@[simp] theorem State.setGroup_fld (s : State) (g : Nat) (c : Group) (x : Fld) : (s.setGroup g c).fld x = s.fld x := rfl
@[simp] theorem State.setGroup_flag (s : State) (g : Nat) (c : Group) (x : Fld) : (s.setGroup g c).flag x = s.flag x := rfl

/-! ### setRegr -/

@[simp] theorem State.setRegr_pending (s : State) (n : Nat) (c : Regr) : (s.setRegr n c).pending = s.pending := rfl
@[simp] theorem State.setRegr_now (s : State) (n : Nat) (c : Regr) : (s.setRegr n c).now = s.now := rfl
@[simp] theorem State.setRegr_free (s : State) (n : Nat) (c : Regr) : (s.setRegr n c).free = s.free := rfl
@[simp] theorem State.setRegr_inReset (s : State) (n : Nat) (c : Regr) : (s.setRegr n c).inReset = s.inReset := rfl
@[simp] theorem State.setRegr_relAt (s : State) (n : Nat) (c : Regr) : (s.setRegr n c).relAt = s.relAt := rfl
@[simp] theorem State.setRegr_regs (s : State) (n : Nat) (c : Regr) : (s.setRegr n c).regs = s.regs := rfl
@[simp] theorem State.setRegr_out (s : State) (n : Nat) (c : Regr) : (s.setRegr n c).out = s.out := rfl
@[simp] theorem State.setRegr_bus (s : State) (n : Nat) (c : Regr) : (s.setRegr n c).bus = s.bus := rfl
@[simp] theorem State.setRegr_irq (s : State) (n : Nat) (c : Regr) : (s.setRegr n c).irq = s.irq := rfl
@[simp] theorem State.setRegr_flt (s : State) (n : Nat) (c : Regr) : (s.setRegr n c).flt = s.flt := rfl
@[simp] theorem State.setRegr_rat (s : State) (n : Nat) (c : Regr) : (s.setRegr n c).rat = s.rat := rfl
@[simp] theorem State.setRegr_tb (s : State) (n : Nat) (c : Regr) : (s.setRegr n c).tb = s.tb := rfl
@[simp] theorem State.setRegr_ref (s : State) (n : Nat) (c : Regr) : (s.setRegr n c).ref = s.ref := rfl
@[simp] theorem State.setRegr_steer (s : State) (n : Nat) (c : Regr) : (s.setRegr n c).steer = s.steer := rfl
@[simp] theorem State.setRegr_dpll (s : State) (n : Nat) (c : Regr) : (s.setRegr n c).dpll = s.dpll := rfl
@[simp] theorem State.setRegr_tm (s : State) (n : Nat) (c : Regr) : (s.setRegr n c).tm = s.tm := rfl
@[simp] theorem State.setRegr_syn (s : State) (n : Nat) (c : Regr) : (s.setRegr n c).syn = s.syn := rfl
@[simp] theorem State.setRegr_gnss (s : State) (n : Nat) (c : Regr) : (s.setRegr n c).gnss = s.gnss := rfl
@[simp] theorem State.setRegr_prt (s : State) (n : Nat) (c : Regr) : (s.setRegr n c).prt = s.prt := rfl
@[simp] theorem State.setRegr_fab (s : State) (n : Nat) (c : Regr) : (s.setRegr n c).fab = s.fab := rfl
@[simp] theorem State.setRegr_itin (s : State) (n : Nat) (c : Regr) : (s.setRegr n c).itin = s.itin := rfl
@[simp] theorem State.setRegr_eng (s : State) (n : Nat) (c : Regr) : (s.setRegr n c).eng = s.eng := rfl
@[simp] theorem State.setRegr_nvs (s : State) (n : Nat) (c : Regr) : (s.setRegr n c).nvs = s.nvs := rfl
@[simp] theorem State.setRegr_mb (s : State) (n : Nat) (c : Regr) : (s.setRegr n c).mb = s.mb := rfl
@[simp] theorem State.setRegr_sec (s : State) (n : Nat) (c : Regr) : (s.setRegr n c).sec = s.sec := rfl
@[simp] theorem State.setRegr_se (s : State) (n : Nat) (c : Regr) : (s.setRegr n c).se = s.se := rfl
@[simp] theorem State.setRegr_svc (s : State) (n : Nat) (c : Regr) : (s.setRegr n c).svc = s.svc := rfl
@[simp] theorem State.setRegr_dma (s : State) (n : Nat) (c : Regr) : (s.setRegr n c).dma = s.dma := rfl
@[simp] theorem State.setRegr_dz (s : State) (n : Nat) (c : Regr) : (s.setRegr n c).dz = s.dz := rfl
@[simp] theorem State.setRegr_lad (s : State) (n : Nat) (c : Regr) : (s.setRegr n c).lad = s.lad := rfl
@[simp] theorem State.setRegr_tst (s : State) (n : Nat) (c : Regr) : (s.setRegr n c).tst = s.tst := rfl
@[simp] theorem State.setRegr_reg (s : State) (n : Nat) (c : Regr) (x : Nat) : (s.setRegr n c).reg x = s.reg x := rfl
@[simp] theorem State.setRegr_rv (s : State) (n : Nat) (c : Regr) (x : Nat) : (s.setRegr n c).rv x = s.rv x := rfl
@[simp] theorem State.setRegr_fld (s : State) (n : Nat) (c : Regr) (x : Fld) : (s.setRegr n c).fld x = s.fld x := rfl
@[simp] theorem State.setRegr_flag (s : State) (n : Nat) (c : Regr) (x : Fld) : (s.setRegr n c).flag x = s.flag x := rfl

/-! ### setStat -/

@[simp] theorem State.setStat_pending (s : State) (k : Nat) (c : Stat) : (s.setStat k c).pending = s.pending := rfl
@[simp] theorem State.setStat_now (s : State) (k : Nat) (c : Stat) : (s.setStat k c).now = s.now := rfl
@[simp] theorem State.setStat_free (s : State) (k : Nat) (c : Stat) : (s.setStat k c).free = s.free := rfl
@[simp] theorem State.setStat_inReset (s : State) (k : Nat) (c : Stat) : (s.setStat k c).inReset = s.inReset := rfl
@[simp] theorem State.setStat_relAt (s : State) (k : Nat) (c : Stat) : (s.setStat k c).relAt = s.relAt := rfl
@[simp] theorem State.setStat_regs (s : State) (k : Nat) (c : Stat) : (s.setStat k c).regs = s.regs := rfl
@[simp] theorem State.setStat_out (s : State) (k : Nat) (c : Stat) : (s.setStat k c).out = s.out := rfl
@[simp] theorem State.setStat_bus (s : State) (k : Nat) (c : Stat) : (s.setStat k c).bus = s.bus := rfl
@[simp] theorem State.setStat_irq (s : State) (k : Nat) (c : Stat) : (s.setStat k c).irq = s.irq := rfl
@[simp] theorem State.setStat_flt (s : State) (k : Nat) (c : Stat) : (s.setStat k c).flt = s.flt := rfl
@[simp] theorem State.setStat_rat (s : State) (k : Nat) (c : Stat) : (s.setStat k c).rat = s.rat := rfl
@[simp] theorem State.setStat_tb (s : State) (k : Nat) (c : Stat) : (s.setStat k c).tb = s.tb := rfl
@[simp] theorem State.setStat_ref (s : State) (k : Nat) (c : Stat) : (s.setStat k c).ref = s.ref := rfl
@[simp] theorem State.setStat_steer (s : State) (k : Nat) (c : Stat) : (s.setStat k c).steer = s.steer := rfl
@[simp] theorem State.setStat_dpll (s : State) (k : Nat) (c : Stat) : (s.setStat k c).dpll = s.dpll := rfl
@[simp] theorem State.setStat_tm (s : State) (k : Nat) (c : Stat) : (s.setStat k c).tm = s.tm := rfl
@[simp] theorem State.setStat_syn (s : State) (k : Nat) (c : Stat) : (s.setStat k c).syn = s.syn := rfl
@[simp] theorem State.setStat_gnss (s : State) (k : Nat) (c : Stat) : (s.setStat k c).gnss = s.gnss := rfl
@[simp] theorem State.setStat_prt (s : State) (k : Nat) (c : Stat) : (s.setStat k c).prt = s.prt := rfl
@[simp] theorem State.setStat_fab (s : State) (k : Nat) (c : Stat) : (s.setStat k c).fab = s.fab := rfl
@[simp] theorem State.setStat_itin (s : State) (k : Nat) (c : Stat) : (s.setStat k c).itin = s.itin := rfl
@[simp] theorem State.setStat_eng (s : State) (k : Nat) (c : Stat) : (s.setStat k c).eng = s.eng := rfl
@[simp] theorem State.setStat_nvs (s : State) (k : Nat) (c : Stat) : (s.setStat k c).nvs = s.nvs := rfl
@[simp] theorem State.setStat_mb (s : State) (k : Nat) (c : Stat) : (s.setStat k c).mb = s.mb := rfl
@[simp] theorem State.setStat_sec (s : State) (k : Nat) (c : Stat) : (s.setStat k c).sec = s.sec := rfl
@[simp] theorem State.setStat_se (s : State) (k : Nat) (c : Stat) : (s.setStat k c).se = s.se := rfl
@[simp] theorem State.setStat_svc (s : State) (k : Nat) (c : Stat) : (s.setStat k c).svc = s.svc := rfl
@[simp] theorem State.setStat_dma (s : State) (k : Nat) (c : Stat) : (s.setStat k c).dma = s.dma := rfl
@[simp] theorem State.setStat_dz (s : State) (k : Nat) (c : Stat) : (s.setStat k c).dz = s.dz := rfl
@[simp] theorem State.setStat_lad (s : State) (k : Nat) (c : Stat) : (s.setStat k c).lad = s.lad := rfl
@[simp] theorem State.setStat_tst (s : State) (k : Nat) (c : Stat) : (s.setStat k c).tst = s.tst := rfl
@[simp] theorem State.setStat_reg (s : State) (k : Nat) (c : Stat) (x : Nat) : (s.setStat k c).reg x = s.reg x := rfl
@[simp] theorem State.setStat_rv (s : State) (k : Nat) (c : Stat) (x : Nat) : (s.setStat k c).rv x = s.rv x := rfl
@[simp] theorem State.setStat_fld (s : State) (k : Nat) (c : Stat) (x : Fld) : (s.setStat k c).fld x = s.fld x := rfl
@[simp] theorem State.setStat_flag (s : State) (k : Nat) (c : Stat) (x : Fld) : (s.setStat k c).flag x = s.flag x := rfl

/-! ### setRefp -/

@[simp] theorem State.setRefp_pending (s : State) (i : Nat) (r : RefPart) : (s.setRefp i r).pending = s.pending := rfl
@[simp] theorem State.setRefp_now (s : State) (i : Nat) (r : RefPart) : (s.setRefp i r).now = s.now := rfl
@[simp] theorem State.setRefp_free (s : State) (i : Nat) (r : RefPart) : (s.setRefp i r).free = s.free := rfl
@[simp] theorem State.setRefp_inReset (s : State) (i : Nat) (r : RefPart) : (s.setRefp i r).inReset = s.inReset := rfl
@[simp] theorem State.setRefp_relAt (s : State) (i : Nat) (r : RefPart) : (s.setRefp i r).relAt = s.relAt := rfl
@[simp] theorem State.setRefp_regs (s : State) (i : Nat) (r : RefPart) : (s.setRefp i r).regs = s.regs := rfl
@[simp] theorem State.setRefp_out (s : State) (i : Nat) (r : RefPart) : (s.setRefp i r).out = s.out := rfl
@[simp] theorem State.setRefp_bus (s : State) (i : Nat) (r : RefPart) : (s.setRefp i r).bus = s.bus := rfl
@[simp] theorem State.setRefp_irq (s : State) (i : Nat) (r : RefPart) : (s.setRefp i r).irq = s.irq := rfl
@[simp] theorem State.setRefp_flt (s : State) (i : Nat) (r : RefPart) : (s.setRefp i r).flt = s.flt := rfl
@[simp] theorem State.setRefp_rat (s : State) (i : Nat) (r : RefPart) : (s.setRefp i r).rat = s.rat := rfl
@[simp] theorem State.setRefp_tb (s : State) (i : Nat) (r : RefPart) : (s.setRefp i r).tb = s.tb := rfl
@[simp] theorem State.setRefp_tiu (s : State) (i : Nat) (r : RefPart) : (s.setRefp i r).tiu = s.tiu := rfl
@[simp] theorem State.setRefp_steer (s : State) (i : Nat) (r : RefPart) : (s.setRefp i r).steer = s.steer := rfl
@[simp] theorem State.setRefp_dpll (s : State) (i : Nat) (r : RefPart) : (s.setRefp i r).dpll = s.dpll := rfl
@[simp] theorem State.setRefp_tm (s : State) (i : Nat) (r : RefPart) : (s.setRefp i r).tm = s.tm := rfl
@[simp] theorem State.setRefp_syn (s : State) (i : Nat) (r : RefPart) : (s.setRefp i r).syn = s.syn := rfl
@[simp] theorem State.setRefp_gnss (s : State) (i : Nat) (r : RefPart) : (s.setRefp i r).gnss = s.gnss := rfl
@[simp] theorem State.setRefp_prt (s : State) (i : Nat) (r : RefPart) : (s.setRefp i r).prt = s.prt := rfl
@[simp] theorem State.setRefp_fab (s : State) (i : Nat) (r : RefPart) : (s.setRefp i r).fab = s.fab := rfl
@[simp] theorem State.setRefp_itin (s : State) (i : Nat) (r : RefPart) : (s.setRefp i r).itin = s.itin := rfl
@[simp] theorem State.setRefp_eng (s : State) (i : Nat) (r : RefPart) : (s.setRefp i r).eng = s.eng := rfl
@[simp] theorem State.setRefp_nvs (s : State) (i : Nat) (r : RefPart) : (s.setRefp i r).nvs = s.nvs := rfl
@[simp] theorem State.setRefp_mb (s : State) (i : Nat) (r : RefPart) : (s.setRefp i r).mb = s.mb := rfl
@[simp] theorem State.setRefp_sec (s : State) (i : Nat) (r : RefPart) : (s.setRefp i r).sec = s.sec := rfl
@[simp] theorem State.setRefp_se (s : State) (i : Nat) (r : RefPart) : (s.setRefp i r).se = s.se := rfl
@[simp] theorem State.setRefp_svc (s : State) (i : Nat) (r : RefPart) : (s.setRefp i r).svc = s.svc := rfl
@[simp] theorem State.setRefp_dma (s : State) (i : Nat) (r : RefPart) : (s.setRefp i r).dma = s.dma := rfl
@[simp] theorem State.setRefp_dz (s : State) (i : Nat) (r : RefPart) : (s.setRefp i r).dz = s.dz := rfl
@[simp] theorem State.setRefp_lad (s : State) (i : Nat) (r : RefPart) : (s.setRefp i r).lad = s.lad := rfl
@[simp] theorem State.setRefp_tst (s : State) (i : Nat) (r : RefPart) : (s.setRefp i r).tst = s.tst := rfl
@[simp] theorem State.setRefp_reg (s : State) (i : Nat) (r : RefPart) (x : Nat) : (s.setRefp i r).reg x = s.reg x := rfl
@[simp] theorem State.setRefp_rv (s : State) (i : Nat) (r : RefPart) (x : Nat) : (s.setRefp i r).rv x = s.rv x := rfl
@[simp] theorem State.setRefp_fld (s : State) (i : Nat) (r : RefPart) (x : Fld) : (s.setRefp i r).fld x = s.fld x := rfl
@[simp] theorem State.setRefp_flag (s : State) (i : Nat) (r : RefPart) (x : Fld) : (s.setRefp i r).flag x = s.flag x := rfl

/-! ### sendFault -/

@[simp] theorem State.sendFault_pending (s : State) (src kind a : Nat) : (s.sendFault src kind a).pending = s.pending := rfl
@[simp] theorem State.sendFault_now (s : State) (src kind a : Nat) : (s.sendFault src kind a).now = s.now := rfl
@[simp] theorem State.sendFault_free (s : State) (src kind a : Nat) : (s.sendFault src kind a).free = s.free := rfl
@[simp] theorem State.sendFault_inReset (s : State) (src kind a : Nat) : (s.sendFault src kind a).inReset = s.inReset := rfl
@[simp] theorem State.sendFault_relAt (s : State) (src kind a : Nat) : (s.sendFault src kind a).relAt = s.relAt := rfl
@[simp] theorem State.sendFault_regs (s : State) (src kind a : Nat) : (s.sendFault src kind a).regs = s.regs := rfl
@[simp] theorem State.sendFault_out (s : State) (src kind a : Nat) : (s.sendFault src kind a).out = s.out := rfl
@[simp] theorem State.sendFault_bus (s : State) (src kind a : Nat) : (s.sendFault src kind a).bus = s.bus := rfl
@[simp] theorem State.sendFault_irq (s : State) (src kind a : Nat) : (s.sendFault src kind a).irq = s.irq := rfl
@[simp] theorem State.sendFault_rat (s : State) (src kind a : Nat) : (s.sendFault src kind a).rat = s.rat := rfl
@[simp] theorem State.sendFault_tb (s : State) (src kind a : Nat) : (s.sendFault src kind a).tb = s.tb := rfl
@[simp] theorem State.sendFault_tiu (s : State) (src kind a : Nat) : (s.sendFault src kind a).tiu = s.tiu := rfl
@[simp] theorem State.sendFault_ref (s : State) (src kind a : Nat) : (s.sendFault src kind a).ref = s.ref := rfl
@[simp] theorem State.sendFault_steer (s : State) (src kind a : Nat) : (s.sendFault src kind a).steer = s.steer := rfl
@[simp] theorem State.sendFault_dpll (s : State) (src kind a : Nat) : (s.sendFault src kind a).dpll = s.dpll := rfl
@[simp] theorem State.sendFault_tm (s : State) (src kind a : Nat) : (s.sendFault src kind a).tm = s.tm := rfl
@[simp] theorem State.sendFault_syn (s : State) (src kind a : Nat) : (s.sendFault src kind a).syn = s.syn := rfl
@[simp] theorem State.sendFault_gnss (s : State) (src kind a : Nat) : (s.sendFault src kind a).gnss = s.gnss := rfl
@[simp] theorem State.sendFault_prt (s : State) (src kind a : Nat) : (s.sendFault src kind a).prt = s.prt := rfl
@[simp] theorem State.sendFault_fab (s : State) (src kind a : Nat) : (s.sendFault src kind a).fab = s.fab := rfl
@[simp] theorem State.sendFault_itin (s : State) (src kind a : Nat) : (s.sendFault src kind a).itin = s.itin := rfl
@[simp] theorem State.sendFault_eng (s : State) (src kind a : Nat) : (s.sendFault src kind a).eng = s.eng := rfl
@[simp] theorem State.sendFault_nvs (s : State) (src kind a : Nat) : (s.sendFault src kind a).nvs = s.nvs := rfl
@[simp] theorem State.sendFault_mb (s : State) (src kind a : Nat) : (s.sendFault src kind a).mb = s.mb := rfl
@[simp] theorem State.sendFault_sec (s : State) (src kind a : Nat) : (s.sendFault src kind a).sec = s.sec := rfl
@[simp] theorem State.sendFault_se (s : State) (src kind a : Nat) : (s.sendFault src kind a).se = s.se := rfl
@[simp] theorem State.sendFault_svc (s : State) (src kind a : Nat) : (s.sendFault src kind a).svc = s.svc := rfl
@[simp] theorem State.sendFault_dma (s : State) (src kind a : Nat) : (s.sendFault src kind a).dma = s.dma := rfl
@[simp] theorem State.sendFault_dz (s : State) (src kind a : Nat) : (s.sendFault src kind a).dz = s.dz := rfl
@[simp] theorem State.sendFault_lad (s : State) (src kind a : Nat) : (s.sendFault src kind a).lad = s.lad := rfl
@[simp] theorem State.sendFault_tst (s : State) (src kind a : Nat) : (s.sendFault src kind a).tst = s.tst := rfl
@[simp] theorem State.sendFault_reg (s : State) (src kind a : Nat) (x : Nat) : (s.sendFault src kind a).reg x = s.reg x := rfl
@[simp] theorem State.sendFault_rv (s : State) (src kind a : Nat) (x : Nat) : (s.sendFault src kind a).rv x = s.rv x := rfl
@[simp] theorem State.sendFault_fld (s : State) (src kind a : Nat) (x : Fld) : (s.sendFault src kind a).fld x = s.fld x := rfl
@[simp] theorem State.sendFault_flag (s : State) (src kind a : Nat) (x : Fld) : (s.sendFault src kind a).flag x = s.flag x := rfl

/-! ### Updates with a condition -/

@[simp] theorem State.bumpSat_pending (s : State) (a : Nat) : (s.bumpSat a).pending = s.pending := by unfold State.bumpSat; split <;> rfl
@[simp] theorem State.bumpSat_now (s : State) (a : Nat) : (s.bumpSat a).now = s.now := by unfold State.bumpSat; split <;> rfl
@[simp] theorem State.bumpSat_free (s : State) (a : Nat) : (s.bumpSat a).free = s.free := by unfold State.bumpSat; split <;> rfl
@[simp] theorem State.bumpSat_inReset (s : State) (a : Nat) : (s.bumpSat a).inReset = s.inReset := by unfold State.bumpSat; split <;> rfl
@[simp] theorem State.bumpSat_relAt (s : State) (a : Nat) : (s.bumpSat a).relAt = s.relAt := by unfold State.bumpSat; split <;> rfl
@[simp] theorem State.bumpSat_out (s : State) (a : Nat) : (s.bumpSat a).out = s.out := by unfold State.bumpSat; split <;> rfl
@[simp] theorem State.bumpSat_bus (s : State) (a : Nat) : (s.bumpSat a).bus = s.bus := by unfold State.bumpSat; split <;> rfl
@[simp] theorem State.bumpSat_irq (s : State) (a : Nat) : (s.bumpSat a).irq = s.irq := by unfold State.bumpSat; split <;> rfl
@[simp] theorem State.bumpSat_flt (s : State) (a : Nat) : (s.bumpSat a).flt = s.flt := by unfold State.bumpSat; split <;> rfl
@[simp] theorem State.bumpSat_rat (s : State) (a : Nat) : (s.bumpSat a).rat = s.rat := by unfold State.bumpSat; split <;> rfl
@[simp] theorem State.bumpSat_tb (s : State) (a : Nat) : (s.bumpSat a).tb = s.tb := by unfold State.bumpSat; split <;> rfl
@[simp] theorem State.bumpSat_tiu (s : State) (a : Nat) : (s.bumpSat a).tiu = s.tiu := by unfold State.bumpSat; split <;> rfl
@[simp] theorem State.bumpSat_ref (s : State) (a : Nat) : (s.bumpSat a).ref = s.ref := by unfold State.bumpSat; split <;> rfl
@[simp] theorem State.bumpSat_steer (s : State) (a : Nat) : (s.bumpSat a).steer = s.steer := by unfold State.bumpSat; split <;> rfl
@[simp] theorem State.bumpSat_dpll (s : State) (a : Nat) : (s.bumpSat a).dpll = s.dpll := by unfold State.bumpSat; split <;> rfl
@[simp] theorem State.bumpSat_tm (s : State) (a : Nat) : (s.bumpSat a).tm = s.tm := by unfold State.bumpSat; split <;> rfl
@[simp] theorem State.bumpSat_syn (s : State) (a : Nat) : (s.bumpSat a).syn = s.syn := by unfold State.bumpSat; split <;> rfl
@[simp] theorem State.bumpSat_gnss (s : State) (a : Nat) : (s.bumpSat a).gnss = s.gnss := by unfold State.bumpSat; split <;> rfl
@[simp] theorem State.bumpSat_prt (s : State) (a : Nat) : (s.bumpSat a).prt = s.prt := by unfold State.bumpSat; split <;> rfl
@[simp] theorem State.bumpSat_fab (s : State) (a : Nat) : (s.bumpSat a).fab = s.fab := by unfold State.bumpSat; split <;> rfl
@[simp] theorem State.bumpSat_itin (s : State) (a : Nat) : (s.bumpSat a).itin = s.itin := by unfold State.bumpSat; split <;> rfl
@[simp] theorem State.bumpSat_eng (s : State) (a : Nat) : (s.bumpSat a).eng = s.eng := by unfold State.bumpSat; split <;> rfl
@[simp] theorem State.bumpSat_nvs (s : State) (a : Nat) : (s.bumpSat a).nvs = s.nvs := by unfold State.bumpSat; split <;> rfl
@[simp] theorem State.bumpSat_mb (s : State) (a : Nat) : (s.bumpSat a).mb = s.mb := by unfold State.bumpSat; split <;> rfl
@[simp] theorem State.bumpSat_sec (s : State) (a : Nat) : (s.bumpSat a).sec = s.sec := by unfold State.bumpSat; split <;> rfl
@[simp] theorem State.bumpSat_se (s : State) (a : Nat) : (s.bumpSat a).se = s.se := by unfold State.bumpSat; split <;> rfl
@[simp] theorem State.bumpSat_svc (s : State) (a : Nat) : (s.bumpSat a).svc = s.svc := by unfold State.bumpSat; split <;> rfl
@[simp] theorem State.bumpSat_dma (s : State) (a : Nat) : (s.bumpSat a).dma = s.dma := by unfold State.bumpSat; split <;> rfl
@[simp] theorem State.bumpSat_dz (s : State) (a : Nat) : (s.bumpSat a).dz = s.dz := by unfold State.bumpSat; split <;> rfl
@[simp] theorem State.bumpSat_lad (s : State) (a : Nat) : (s.bumpSat a).lad = s.lad := by unfold State.bumpSat; split <;> rfl
@[simp] theorem State.bumpSat_tst (s : State) (a : Nat) : (s.bumpSat a).tst = s.tst := by unfold State.bumpSat; split <;> rfl

@[simp] theorem State.bumpFld_pending (s : State) (f : Fld) : (s.bumpFld f).pending = s.pending := by unfold State.bumpFld; split <;> rfl
@[simp] theorem State.bumpFld_now (s : State) (f : Fld) : (s.bumpFld f).now = s.now := by unfold State.bumpFld; split <;> rfl
@[simp] theorem State.bumpFld_free (s : State) (f : Fld) : (s.bumpFld f).free = s.free := by unfold State.bumpFld; split <;> rfl
@[simp] theorem State.bumpFld_inReset (s : State) (f : Fld) : (s.bumpFld f).inReset = s.inReset := by unfold State.bumpFld; split <;> rfl
@[simp] theorem State.bumpFld_relAt (s : State) (f : Fld) : (s.bumpFld f).relAt = s.relAt := by unfold State.bumpFld; split <;> rfl
@[simp] theorem State.bumpFld_out (s : State) (f : Fld) : (s.bumpFld f).out = s.out := by unfold State.bumpFld; split <;> rfl
@[simp] theorem State.bumpFld_bus (s : State) (f : Fld) : (s.bumpFld f).bus = s.bus := by unfold State.bumpFld; split <;> rfl
@[simp] theorem State.bumpFld_irq (s : State) (f : Fld) : (s.bumpFld f).irq = s.irq := by unfold State.bumpFld; split <;> rfl
@[simp] theorem State.bumpFld_flt (s : State) (f : Fld) : (s.bumpFld f).flt = s.flt := by unfold State.bumpFld; split <;> rfl
@[simp] theorem State.bumpFld_rat (s : State) (f : Fld) : (s.bumpFld f).rat = s.rat := by unfold State.bumpFld; split <;> rfl
@[simp] theorem State.bumpFld_tb (s : State) (f : Fld) : (s.bumpFld f).tb = s.tb := by unfold State.bumpFld; split <;> rfl
@[simp] theorem State.bumpFld_tiu (s : State) (f : Fld) : (s.bumpFld f).tiu = s.tiu := by unfold State.bumpFld; split <;> rfl
@[simp] theorem State.bumpFld_ref (s : State) (f : Fld) : (s.bumpFld f).ref = s.ref := by unfold State.bumpFld; split <;> rfl
@[simp] theorem State.bumpFld_steer (s : State) (f : Fld) : (s.bumpFld f).steer = s.steer := by unfold State.bumpFld; split <;> rfl
@[simp] theorem State.bumpFld_dpll (s : State) (f : Fld) : (s.bumpFld f).dpll = s.dpll := by unfold State.bumpFld; split <;> rfl
@[simp] theorem State.bumpFld_tm (s : State) (f : Fld) : (s.bumpFld f).tm = s.tm := by unfold State.bumpFld; split <;> rfl
@[simp] theorem State.bumpFld_syn (s : State) (f : Fld) : (s.bumpFld f).syn = s.syn := by unfold State.bumpFld; split <;> rfl
@[simp] theorem State.bumpFld_gnss (s : State) (f : Fld) : (s.bumpFld f).gnss = s.gnss := by unfold State.bumpFld; split <;> rfl
@[simp] theorem State.bumpFld_prt (s : State) (f : Fld) : (s.bumpFld f).prt = s.prt := by unfold State.bumpFld; split <;> rfl
@[simp] theorem State.bumpFld_fab (s : State) (f : Fld) : (s.bumpFld f).fab = s.fab := by unfold State.bumpFld; split <;> rfl
@[simp] theorem State.bumpFld_itin (s : State) (f : Fld) : (s.bumpFld f).itin = s.itin := by unfold State.bumpFld; split <;> rfl
@[simp] theorem State.bumpFld_eng (s : State) (f : Fld) : (s.bumpFld f).eng = s.eng := by unfold State.bumpFld; split <;> rfl
@[simp] theorem State.bumpFld_nvs (s : State) (f : Fld) : (s.bumpFld f).nvs = s.nvs := by unfold State.bumpFld; split <;> rfl
@[simp] theorem State.bumpFld_mb (s : State) (f : Fld) : (s.bumpFld f).mb = s.mb := by unfold State.bumpFld; split <;> rfl
@[simp] theorem State.bumpFld_sec (s : State) (f : Fld) : (s.bumpFld f).sec = s.sec := by unfold State.bumpFld; split <;> rfl
@[simp] theorem State.bumpFld_se (s : State) (f : Fld) : (s.bumpFld f).se = s.se := by unfold State.bumpFld; split <;> rfl
@[simp] theorem State.bumpFld_svc (s : State) (f : Fld) : (s.bumpFld f).svc = s.svc := by unfold State.bumpFld; split <;> rfl
@[simp] theorem State.bumpFld_dma (s : State) (f : Fld) : (s.bumpFld f).dma = s.dma := by unfold State.bumpFld; split <;> rfl
@[simp] theorem State.bumpFld_dz (s : State) (f : Fld) : (s.bumpFld f).dz = s.dz := by unfold State.bumpFld; split <;> rfl
@[simp] theorem State.bumpFld_lad (s : State) (f : Fld) : (s.bumpFld f).lad = s.lad := by unfold State.bumpFld; split <;> rfl
@[simp] theorem State.bumpFld_tst (s : State) (f : Fld) : (s.bumpFld f).tst = s.tst := by unfold State.bumpFld; split <;> rfl

@[simp] theorem State.bump16_pending (s : State) (a : Nat) : (s.bump16 a).pending = s.pending := by unfold State.bump16 State.bumpFld; split <;> rfl
@[simp] theorem State.bump16_now (s : State) (a : Nat) : (s.bump16 a).now = s.now := by unfold State.bump16 State.bumpFld; split <;> rfl
@[simp] theorem State.bump16_free (s : State) (a : Nat) : (s.bump16 a).free = s.free := by unfold State.bump16 State.bumpFld; split <;> rfl
@[simp] theorem State.bump16_inReset (s : State) (a : Nat) : (s.bump16 a).inReset = s.inReset := by unfold State.bump16 State.bumpFld; split <;> rfl
@[simp] theorem State.bump16_relAt (s : State) (a : Nat) : (s.bump16 a).relAt = s.relAt := by unfold State.bump16 State.bumpFld; split <;> rfl
@[simp] theorem State.bump16_out (s : State) (a : Nat) : (s.bump16 a).out = s.out := by unfold State.bump16 State.bumpFld; split <;> rfl
@[simp] theorem State.bump16_bus (s : State) (a : Nat) : (s.bump16 a).bus = s.bus := by unfold State.bump16 State.bumpFld; split <;> rfl
@[simp] theorem State.bump16_irq (s : State) (a : Nat) : (s.bump16 a).irq = s.irq := by unfold State.bump16 State.bumpFld; split <;> rfl
@[simp] theorem State.bump16_flt (s : State) (a : Nat) : (s.bump16 a).flt = s.flt := by unfold State.bump16 State.bumpFld; split <;> rfl
@[simp] theorem State.bump16_rat (s : State) (a : Nat) : (s.bump16 a).rat = s.rat := by unfold State.bump16 State.bumpFld; split <;> rfl
@[simp] theorem State.bump16_tb (s : State) (a : Nat) : (s.bump16 a).tb = s.tb := by unfold State.bump16 State.bumpFld; split <;> rfl
@[simp] theorem State.bump16_tiu (s : State) (a : Nat) : (s.bump16 a).tiu = s.tiu := by unfold State.bump16 State.bumpFld; split <;> rfl
@[simp] theorem State.bump16_ref (s : State) (a : Nat) : (s.bump16 a).ref = s.ref := by unfold State.bump16 State.bumpFld; split <;> rfl
@[simp] theorem State.bump16_steer (s : State) (a : Nat) : (s.bump16 a).steer = s.steer := by unfold State.bump16 State.bumpFld; split <;> rfl
@[simp] theorem State.bump16_dpll (s : State) (a : Nat) : (s.bump16 a).dpll = s.dpll := by unfold State.bump16 State.bumpFld; split <;> rfl
@[simp] theorem State.bump16_tm (s : State) (a : Nat) : (s.bump16 a).tm = s.tm := by unfold State.bump16 State.bumpFld; split <;> rfl
@[simp] theorem State.bump16_syn (s : State) (a : Nat) : (s.bump16 a).syn = s.syn := by unfold State.bump16 State.bumpFld; split <;> rfl
@[simp] theorem State.bump16_gnss (s : State) (a : Nat) : (s.bump16 a).gnss = s.gnss := by unfold State.bump16 State.bumpFld; split <;> rfl
@[simp] theorem State.bump16_prt (s : State) (a : Nat) : (s.bump16 a).prt = s.prt := by unfold State.bump16 State.bumpFld; split <;> rfl
@[simp] theorem State.bump16_fab (s : State) (a : Nat) : (s.bump16 a).fab = s.fab := by unfold State.bump16 State.bumpFld; split <;> rfl
@[simp] theorem State.bump16_itin (s : State) (a : Nat) : (s.bump16 a).itin = s.itin := by unfold State.bump16 State.bumpFld; split <;> rfl
@[simp] theorem State.bump16_eng (s : State) (a : Nat) : (s.bump16 a).eng = s.eng := by unfold State.bump16 State.bumpFld; split <;> rfl
@[simp] theorem State.bump16_nvs (s : State) (a : Nat) : (s.bump16 a).nvs = s.nvs := by unfold State.bump16 State.bumpFld; split <;> rfl
@[simp] theorem State.bump16_mb (s : State) (a : Nat) : (s.bump16 a).mb = s.mb := by unfold State.bump16 State.bumpFld; split <;> rfl
@[simp] theorem State.bump16_sec (s : State) (a : Nat) : (s.bump16 a).sec = s.sec := by unfold State.bump16 State.bumpFld; split <;> rfl
@[simp] theorem State.bump16_se (s : State) (a : Nat) : (s.bump16 a).se = s.se := by unfold State.bump16 State.bumpFld; split <;> rfl
@[simp] theorem State.bump16_svc (s : State) (a : Nat) : (s.bump16 a).svc = s.svc := by unfold State.bump16 State.bumpFld; split <;> rfl
@[simp] theorem State.bump16_dma (s : State) (a : Nat) : (s.bump16 a).dma = s.dma := by unfold State.bump16 State.bumpFld; split <;> rfl
@[simp] theorem State.bump16_dz (s : State) (a : Nat) : (s.bump16 a).dz = s.dz := by unfold State.bump16 State.bumpFld; split <;> rfl
@[simp] theorem State.bump16_lad (s : State) (a : Nat) : (s.bump16 a).lad = s.lad := by unfold State.bump16 State.bumpFld; split <;> rfl
@[simp] theorem State.bump16_tst (s : State) (a : Nat) : (s.bump16 a).tst = s.tst := by unfold State.bump16 State.bumpFld; split <;> rfl

@[simp] theorem State.tbFlag_pending (s : State) (f : Fld) (b : Bool) : (s.tbFlag f b).pending = s.pending := by unfold State.tbFlag; split <;> rfl
@[simp] theorem State.tbFlag_now (s : State) (f : Fld) (b : Bool) : (s.tbFlag f b).now = s.now := by unfold State.tbFlag; split <;> rfl
@[simp] theorem State.tbFlag_free (s : State) (f : Fld) (b : Bool) : (s.tbFlag f b).free = s.free := by unfold State.tbFlag; split <;> rfl
@[simp] theorem State.tbFlag_inReset (s : State) (f : Fld) (b : Bool) : (s.tbFlag f b).inReset = s.inReset := by unfold State.tbFlag; split <;> rfl
@[simp] theorem State.tbFlag_relAt (s : State) (f : Fld) (b : Bool) : (s.tbFlag f b).relAt = s.relAt := by unfold State.tbFlag; split <;> rfl
@[simp] theorem State.tbFlag_out (s : State) (f : Fld) (b : Bool) : (s.tbFlag f b).out = s.out := by unfold State.tbFlag; split <;> rfl
@[simp] theorem State.tbFlag_bus (s : State) (f : Fld) (b : Bool) : (s.tbFlag f b).bus = s.bus := by unfold State.tbFlag; split <;> rfl
@[simp] theorem State.tbFlag_irq (s : State) (f : Fld) (b : Bool) : (s.tbFlag f b).irq = s.irq := by unfold State.tbFlag; split <;> rfl
@[simp] theorem State.tbFlag_flt (s : State) (f : Fld) (b : Bool) : (s.tbFlag f b).flt = s.flt := by unfold State.tbFlag; split <;> rfl
@[simp] theorem State.tbFlag_rat (s : State) (f : Fld) (b : Bool) : (s.tbFlag f b).rat = s.rat := by unfold State.tbFlag; split <;> rfl
@[simp] theorem State.tbFlag_tb (s : State) (f : Fld) (b : Bool) : (s.tbFlag f b).tb = s.tb := by unfold State.tbFlag; split <;> rfl
@[simp] theorem State.tbFlag_tiu (s : State) (f : Fld) (b : Bool) : (s.tbFlag f b).tiu = s.tiu := by unfold State.tbFlag; split <;> rfl
@[simp] theorem State.tbFlag_ref (s : State) (f : Fld) (b : Bool) : (s.tbFlag f b).ref = s.ref := by unfold State.tbFlag; split <;> rfl
@[simp] theorem State.tbFlag_steer (s : State) (f : Fld) (b : Bool) : (s.tbFlag f b).steer = s.steer := by unfold State.tbFlag; split <;> rfl
@[simp] theorem State.tbFlag_dpll (s : State) (f : Fld) (b : Bool) : (s.tbFlag f b).dpll = s.dpll := by unfold State.tbFlag; split <;> rfl
@[simp] theorem State.tbFlag_tm (s : State) (f : Fld) (b : Bool) : (s.tbFlag f b).tm = s.tm := by unfold State.tbFlag; split <;> rfl
@[simp] theorem State.tbFlag_syn (s : State) (f : Fld) (b : Bool) : (s.tbFlag f b).syn = s.syn := by unfold State.tbFlag; split <;> rfl
@[simp] theorem State.tbFlag_gnss (s : State) (f : Fld) (b : Bool) : (s.tbFlag f b).gnss = s.gnss := by unfold State.tbFlag; split <;> rfl
@[simp] theorem State.tbFlag_prt (s : State) (f : Fld) (b : Bool) : (s.tbFlag f b).prt = s.prt := by unfold State.tbFlag; split <;> rfl
@[simp] theorem State.tbFlag_fab (s : State) (f : Fld) (b : Bool) : (s.tbFlag f b).fab = s.fab := by unfold State.tbFlag; split <;> rfl
@[simp] theorem State.tbFlag_itin (s : State) (f : Fld) (b : Bool) : (s.tbFlag f b).itin = s.itin := by unfold State.tbFlag; split <;> rfl
@[simp] theorem State.tbFlag_eng (s : State) (f : Fld) (b : Bool) : (s.tbFlag f b).eng = s.eng := by unfold State.tbFlag; split <;> rfl
@[simp] theorem State.tbFlag_nvs (s : State) (f : Fld) (b : Bool) : (s.tbFlag f b).nvs = s.nvs := by unfold State.tbFlag; split <;> rfl
@[simp] theorem State.tbFlag_mb (s : State) (f : Fld) (b : Bool) : (s.tbFlag f b).mb = s.mb := by unfold State.tbFlag; split <;> rfl
@[simp] theorem State.tbFlag_sec (s : State) (f : Fld) (b : Bool) : (s.tbFlag f b).sec = s.sec := by unfold State.tbFlag; split <;> rfl
@[simp] theorem State.tbFlag_se (s : State) (f : Fld) (b : Bool) : (s.tbFlag f b).se = s.se := by unfold State.tbFlag; split <;> rfl
@[simp] theorem State.tbFlag_svc (s : State) (f : Fld) (b : Bool) : (s.tbFlag f b).svc = s.svc := by unfold State.tbFlag; split <;> rfl
@[simp] theorem State.tbFlag_dma (s : State) (f : Fld) (b : Bool) : (s.tbFlag f b).dma = s.dma := by unfold State.tbFlag; split <;> rfl
@[simp] theorem State.tbFlag_dz (s : State) (f : Fld) (b : Bool) : (s.tbFlag f b).dz = s.dz := by unfold State.tbFlag; split <;> rfl
@[simp] theorem State.tbFlag_lad (s : State) (f : Fld) (b : Bool) : (s.tbFlag f b).lad = s.lad := by unfold State.tbFlag; split <;> rfl
@[simp] theorem State.tbFlag_tst (s : State) (f : Fld) (b : Bool) : (s.tbFlag f b).tst = s.tst := by unfold State.tbFlag; split <;> rfl

@[simp] theorem State.milestone_pending (s : State) (k : Nat) : (s.milestone k).pending = s.pending := by unfold State.milestone; split <;> rfl
@[simp] theorem State.milestone_now (s : State) (k : Nat) : (s.milestone k).now = s.now := by unfold State.milestone; split <;> rfl
@[simp] theorem State.milestone_free (s : State) (k : Nat) : (s.milestone k).free = s.free := by unfold State.milestone; split <;> rfl
@[simp] theorem State.milestone_inReset (s : State) (k : Nat) : (s.milestone k).inReset = s.inReset := by unfold State.milestone; split <;> rfl
@[simp] theorem State.milestone_relAt (s : State) (k : Nat) : (s.milestone k).relAt = s.relAt := by unfold State.milestone; split <;> rfl
@[simp] theorem State.milestone_out (s : State) (k : Nat) : (s.milestone k).out = s.out := by unfold State.milestone; split <;> rfl
@[simp] theorem State.milestone_bus (s : State) (k : Nat) : (s.milestone k).bus = s.bus := by unfold State.milestone; split <;> rfl
@[simp] theorem State.milestone_irq (s : State) (k : Nat) : (s.milestone k).irq = s.irq := by unfold State.milestone; split <;> rfl
@[simp] theorem State.milestone_flt (s : State) (k : Nat) : (s.milestone k).flt = s.flt := by unfold State.milestone; split <;> rfl
@[simp] theorem State.milestone_rat (s : State) (k : Nat) : (s.milestone k).rat = s.rat := by unfold State.milestone; split <;> rfl
@[simp] theorem State.milestone_tb (s : State) (k : Nat) : (s.milestone k).tb = s.tb := by unfold State.milestone; split <;> rfl
@[simp] theorem State.milestone_tiu (s : State) (k : Nat) : (s.milestone k).tiu = s.tiu := by unfold State.milestone; split <;> rfl
@[simp] theorem State.milestone_ref (s : State) (k : Nat) : (s.milestone k).ref = s.ref := by unfold State.milestone; split <;> rfl
@[simp] theorem State.milestone_steer (s : State) (k : Nat) : (s.milestone k).steer = s.steer := by unfold State.milestone; split <;> rfl
@[simp] theorem State.milestone_dpll (s : State) (k : Nat) : (s.milestone k).dpll = s.dpll := by unfold State.milestone; split <;> rfl
@[simp] theorem State.milestone_tm (s : State) (k : Nat) : (s.milestone k).tm = s.tm := by unfold State.milestone; split <;> rfl
@[simp] theorem State.milestone_syn (s : State) (k : Nat) : (s.milestone k).syn = s.syn := by unfold State.milestone; split <;> rfl
@[simp] theorem State.milestone_gnss (s : State) (k : Nat) : (s.milestone k).gnss = s.gnss := by unfold State.milestone; split <;> rfl
@[simp] theorem State.milestone_prt (s : State) (k : Nat) : (s.milestone k).prt = s.prt := by unfold State.milestone; split <;> rfl
@[simp] theorem State.milestone_fab (s : State) (k : Nat) : (s.milestone k).fab = s.fab := by unfold State.milestone; split <;> rfl
@[simp] theorem State.milestone_itin (s : State) (k : Nat) : (s.milestone k).itin = s.itin := by unfold State.milestone; split <;> rfl
@[simp] theorem State.milestone_eng (s : State) (k : Nat) : (s.milestone k).eng = s.eng := by unfold State.milestone; split <;> rfl
@[simp] theorem State.milestone_nvs (s : State) (k : Nat) : (s.milestone k).nvs = s.nvs := by unfold State.milestone; split <;> rfl
@[simp] theorem State.milestone_mb (s : State) (k : Nat) : (s.milestone k).mb = s.mb := by unfold State.milestone; split <;> rfl
@[simp] theorem State.milestone_sec (s : State) (k : Nat) : (s.milestone k).sec = s.sec := by unfold State.milestone; split <;> rfl
@[simp] theorem State.milestone_se (s : State) (k : Nat) : (s.milestone k).se = s.se := by unfold State.milestone; split <;> rfl
@[simp] theorem State.milestone_svc (s : State) (k : Nat) : (s.milestone k).svc = s.svc := by unfold State.milestone; split <;> rfl
@[simp] theorem State.milestone_dma (s : State) (k : Nat) : (s.milestone k).dma = s.dma := by unfold State.milestone; split <;> rfl
@[simp] theorem State.milestone_dz (s : State) (k : Nat) : (s.milestone k).dz = s.dz := by unfold State.milestone; split <;> rfl
@[simp] theorem State.milestone_lad (s : State) (k : Nat) : (s.milestone k).lad = s.lad := by unfold State.milestone; split <;> rfl
@[simp] theorem State.milestone_tst (s : State) (k : Nat) : (s.milestone k).tst = s.tst := by unfold State.milestone; split <;> rfl

@[simp] theorem State.setQuant_pending (s : State) (a n v : Nat) : (s.setQuant a n v).pending = s.pending := by
  induction n generalizing s a v with
  | zero => rfl
  | succ n ih => exact ih _ _ _
@[simp] theorem State.setQuant_now (s : State) (a n v : Nat) : (s.setQuant a n v).now = s.now := by
  induction n generalizing s a v with
  | zero => rfl
  | succ n ih => exact ih _ _ _
@[simp] theorem State.setQuant_free (s : State) (a n v : Nat) : (s.setQuant a n v).free = s.free := by
  induction n generalizing s a v with
  | zero => rfl
  | succ n ih => exact ih _ _ _
@[simp] theorem State.setQuant_inReset (s : State) (a n v : Nat) : (s.setQuant a n v).inReset = s.inReset := by
  induction n generalizing s a v with
  | zero => rfl
  | succ n ih => exact ih _ _ _
@[simp] theorem State.setQuant_relAt (s : State) (a n v : Nat) : (s.setQuant a n v).relAt = s.relAt := by
  induction n generalizing s a v with
  | zero => rfl
  | succ n ih => exact ih _ _ _
@[simp] theorem State.setQuant_out (s : State) (a n v : Nat) : (s.setQuant a n v).out = s.out := by
  induction n generalizing s a v with
  | zero => rfl
  | succ n ih => exact ih _ _ _
@[simp] theorem State.setQuant_bus (s : State) (a n v : Nat) : (s.setQuant a n v).bus = s.bus := by
  induction n generalizing s a v with
  | zero => rfl
  | succ n ih => exact ih _ _ _
@[simp] theorem State.setQuant_irq (s : State) (a n v : Nat) : (s.setQuant a n v).irq = s.irq := by
  induction n generalizing s a v with
  | zero => rfl
  | succ n ih => exact ih _ _ _
@[simp] theorem State.setQuant_flt (s : State) (a n v : Nat) : (s.setQuant a n v).flt = s.flt := by
  induction n generalizing s a v with
  | zero => rfl
  | succ n ih => exact ih _ _ _
@[simp] theorem State.setQuant_rat (s : State) (a n v : Nat) : (s.setQuant a n v).rat = s.rat := by
  induction n generalizing s a v with
  | zero => rfl
  | succ n ih => exact ih _ _ _
@[simp] theorem State.setQuant_tb (s : State) (a n v : Nat) : (s.setQuant a n v).tb = s.tb := by
  induction n generalizing s a v with
  | zero => rfl
  | succ n ih => exact ih _ _ _
@[simp] theorem State.setQuant_tiu (s : State) (a n v : Nat) : (s.setQuant a n v).tiu = s.tiu := by
  induction n generalizing s a v with
  | zero => rfl
  | succ n ih => exact ih _ _ _
@[simp] theorem State.setQuant_ref (s : State) (a n v : Nat) : (s.setQuant a n v).ref = s.ref := by
  induction n generalizing s a v with
  | zero => rfl
  | succ n ih => exact ih _ _ _
@[simp] theorem State.setQuant_steer (s : State) (a n v : Nat) : (s.setQuant a n v).steer = s.steer := by
  induction n generalizing s a v with
  | zero => rfl
  | succ n ih => exact ih _ _ _
@[simp] theorem State.setQuant_dpll (s : State) (a n v : Nat) : (s.setQuant a n v).dpll = s.dpll := by
  induction n generalizing s a v with
  | zero => rfl
  | succ n ih => exact ih _ _ _
@[simp] theorem State.setQuant_tm (s : State) (a n v : Nat) : (s.setQuant a n v).tm = s.tm := by
  induction n generalizing s a v with
  | zero => rfl
  | succ n ih => exact ih _ _ _
@[simp] theorem State.setQuant_syn (s : State) (a n v : Nat) : (s.setQuant a n v).syn = s.syn := by
  induction n generalizing s a v with
  | zero => rfl
  | succ n ih => exact ih _ _ _
@[simp] theorem State.setQuant_gnss (s : State) (a n v : Nat) : (s.setQuant a n v).gnss = s.gnss := by
  induction n generalizing s a v with
  | zero => rfl
  | succ n ih => exact ih _ _ _
@[simp] theorem State.setQuant_prt (s : State) (a n v : Nat) : (s.setQuant a n v).prt = s.prt := by
  induction n generalizing s a v with
  | zero => rfl
  | succ n ih => exact ih _ _ _
@[simp] theorem State.setQuant_fab (s : State) (a n v : Nat) : (s.setQuant a n v).fab = s.fab := by
  induction n generalizing s a v with
  | zero => rfl
  | succ n ih => exact ih _ _ _
@[simp] theorem State.setQuant_itin (s : State) (a n v : Nat) : (s.setQuant a n v).itin = s.itin := by
  induction n generalizing s a v with
  | zero => rfl
  | succ n ih => exact ih _ _ _
@[simp] theorem State.setQuant_eng (s : State) (a n v : Nat) : (s.setQuant a n v).eng = s.eng := by
  induction n generalizing s a v with
  | zero => rfl
  | succ n ih => exact ih _ _ _
@[simp] theorem State.setQuant_nvs (s : State) (a n v : Nat) : (s.setQuant a n v).nvs = s.nvs := by
  induction n generalizing s a v with
  | zero => rfl
  | succ n ih => exact ih _ _ _
@[simp] theorem State.setQuant_mb (s : State) (a n v : Nat) : (s.setQuant a n v).mb = s.mb := by
  induction n generalizing s a v with
  | zero => rfl
  | succ n ih => exact ih _ _ _
@[simp] theorem State.setQuant_sec (s : State) (a n v : Nat) : (s.setQuant a n v).sec = s.sec := by
  induction n generalizing s a v with
  | zero => rfl
  | succ n ih => exact ih _ _ _
@[simp] theorem State.setQuant_se (s : State) (a n v : Nat) : (s.setQuant a n v).se = s.se := by
  induction n generalizing s a v with
  | zero => rfl
  | succ n ih => exact ih _ _ _
@[simp] theorem State.setQuant_svc (s : State) (a n v : Nat) : (s.setQuant a n v).svc = s.svc := by
  induction n generalizing s a v with
  | zero => rfl
  | succ n ih => exact ih _ _ _
@[simp] theorem State.setQuant_dma (s : State) (a n v : Nat) : (s.setQuant a n v).dma = s.dma := by
  induction n generalizing s a v with
  | zero => rfl
  | succ n ih => exact ih _ _ _
@[simp] theorem State.setQuant_dz (s : State) (a n v : Nat) : (s.setQuant a n v).dz = s.dz := by
  induction n generalizing s a v with
  | zero => rfl
  | succ n ih => exact ih _ _ _
@[simp] theorem State.setQuant_lad (s : State) (a n v : Nat) : (s.setQuant a n v).lad = s.lad := by
  induction n generalizing s a v with
  | zero => rfl
  | succ n ih => exact ih _ _ _
@[simp] theorem State.setQuant_tst (s : State) (a n v : Nat) : (s.setQuant a n v).tst = s.tst := by
  induction n generalizing s a v with
  | zero => rfl
  | succ n ih => exact ih _ _ _

/-! ### Indexed parts: what is read after an update -/

@[simp] theorem State.gov_setGov (s : State) (g : Nat) (v : Gov) : (s.setGov g v).gov g = v := Tbl.get_set_same _ _ _ _
theorem State.gov_setGov_ne (s : State) {h g : Nat} (v : Gov) (n : h ≠ g) : (s.setGov g v).gov h = s.gov h := Tbl.get_set_ne _ _ _ n
@[simp] theorem State.dpll__setDpll (s : State) (g : Nat) (v : DpllPart) : (s.setDpll g v).dpll_ g = v := Tbl.get_set_same _ _ _ _
theorem State.dpll__setDpll_ne (s : State) {h g : Nat} (v : DpllPart) (n : h ≠ g) : (s.setDpll g v).dpll_ h = s.dpll_ h := Tbl.get_set_ne _ _ _ n
@[simp] theorem State.port_setPort (s : State) (g : Nat) (v : Steer) : (s.setPort g v).port g = v := Tbl.get_set_same _ _ _ _
theorem State.port_setPort_ne (s : State) {h g : Nat} (v : Steer) (n : h ≠ g) : (s.setPort g v).port h = s.port h := Tbl.get_set_ne _ _ _ n
@[simp] theorem State.tsp_setTs (s : State) (g : Nat) (v : TsPart) : (s.setTs g v).tsp g = v := Tbl.get_set_same _ _ _ _
theorem State.tsp_setTs_ne (s : State) {h g : Nat} (v : TsPart) (n : h ≠ g) : (s.setTs g v).tsp h = s.tsp h := Tbl.get_set_ne _ _ _ n
@[simp] theorem State.trg_setTrg (s : State) (g : Nat) (v : TrgPart) : (s.setTrg g v).trg g = v := Tbl.get_set_same _ _ _ _
theorem State.trg_setTrg_ne (s : State) {h g : Nat} (v : TrgPart) (n : h ≠ g) : (s.setTrg g v).trg h = s.trg h := Tbl.get_set_ne _ _ _ n
@[simp] theorem State.pcp_setPc (s : State) (g : Nat) (v : PcPart) : (s.setPc g v).pcp g = v := Tbl.get_set_same _ _ _ _
theorem State.pcp_setPc_ne (s : State) {h g : Nat} (v : PcPart) (n : h ≠ g) : (s.setPc g v).pcp h = s.pcp h := Tbl.get_set_ne _ _ _ n
@[simp] theorem State.apll_setApll (s : State) (g : Nat) (v : ApllPart) : (s.setApll g v).apll g = v := Tbl.get_set_same _ _ _ _
theorem State.apll_setApll_ne (s : State) {h g : Nat} (v : ApllPart) (n : h ≠ g) : (s.setApll g v).apll h = s.apll h := Tbl.get_set_ne _ _ _ n
@[simp] theorem State.outp_setOut (s : State) (g : Nat) (v : OutPart) : (s.setOut g v).outp g = v := Tbl.get_set_same _ _ _ _
theorem State.outp_setOut_ne (s : State) {h g : Nat} (v : OutPart) (n : h ≠ g) : (s.setOut g v).outp h = s.outp h := Tbl.get_set_ne _ _ _ n
@[simp] theorem State.prt__setPrt (s : State) (g : Nat) (v : PortPart) : (s.setPrt g v).prt_ g = v := Tbl.get_set_same _ _ _ _
theorem State.prt__setPrt_ne (s : State) {h g : Nat} (v : PortPart) (n : h ≠ g) : (s.setPrt g v).prt_ h = s.prt_ h := Tbl.get_set_ne _ _ _ n
@[simp] theorem State.pe__setPe (s : State) (g : Nat) (v : PePart) : (s.setPe g v).pe_ g = v := Tbl.get_set_same _ _ _ _
theorem State.pe__setPe_ne (s : State) {h g : Nat} (v : PePart) (n : h ≠ g) : (s.setPe g v).pe_ h = s.pe_ h := Tbl.get_set_ne _ _ _ n
@[simp] theorem State.eng__setEng (s : State) (g : Nat) (v : EngPart) : (s.setEng g v).eng_ g = v := Tbl.get_set_same _ _ _ _
theorem State.eng__setEng_ne (s : State) {h g : Nat} (v : EngPart) (n : h ≠ g) : (s.setEng g v).eng_ h = s.eng_ h := Tbl.get_set_ne _ _ _ n
@[simp] theorem State.nvsBank_setNvsBank (s : State) (g : Nat) (v : NvsBank) : (s.setNvsBank g v).nvsBank g = v := Tbl.get_set_same _ _ _ _
theorem State.nvsBank_setNvsBank_ne (s : State) {h g : Nat} (v : NvsBank) (n : h ≠ g) : (s.setNvsBank g v).nvsBank h = s.nvsBank h := Tbl.get_set_ne _ _ _ n
@[simp] theorem State.svc__setSvc (s : State) (g : Nat) (v : SvcPart) : (s.setSvc g v).svc_ g = v := Tbl.get_set_same _ _ _ _
theorem State.svc__setSvc_ne (s : State) {h g : Nat} (v : SvcPart) (n : h ≠ g) : (s.setSvc g v).svc_ h = s.svc_ h := Tbl.get_set_ne _ _ _ n
@[simp] theorem State.dmaCh_setDmaCh (s : State) (g : Nat) (v : DmaCh) : (s.setDmaCh g v).dmaCh g = v := Tbl.get_set_same _ _ _ _
theorem State.dmaCh_setDmaCh_ne (s : State) {h g : Nat} (v : DmaCh) (n : h ≠ g) : (s.setDmaCh g v).dmaCh h = s.dmaCh h := Tbl.get_set_ne _ _ _ n
@[simp] theorem State.tmux_setTmux (s : State) (g : Nat) (v : TmuxPin) : (s.setTmux g v).tmux g = v := Tbl.get_set_same _ _ _ _
theorem State.tmux_setTmux_ne (s : State) {h g : Nat} (v : TmuxPin) (n : h ≠ g) : (s.setTmux g v).tmux h = s.tmux h := Tbl.get_set_ne _ _ _ n
@[simp] theorem State.chan_setChan (s : State) (g : Nat) (v : Chan) : (s.setChan g v).chan g = v := Tbl.get_set_same _ _ _ _
theorem State.chan_setChan_ne (s : State) {h g : Nat} (v : Chan) (n : h ≠ g) : (s.setChan g v).chan h = s.chan h := Tbl.get_set_ne _ _ _ n
@[simp] theorem State.interp_setInterp (s : State) (g : Nat) (v : Interp) : (s.setInterp g v).interp g = v := Tbl.get_set_same _ _ _ _
theorem State.interp_setInterp_ne (s : State) {h g : Nat} (v : Interp) (n : h ≠ g) : (s.setInterp g v).interp h = s.interp h := Tbl.get_set_ne _ _ _ n
@[simp] theorem State.group_setGroup (s : State) (g : Nat) (v : Group) : (s.setGroup g v).group g = v := Tbl.get_set_same _ _ _ _
theorem State.group_setGroup_ne (s : State) {h g : Nat} (v : Group) (n : h ≠ g) : (s.setGroup g v).group h = s.group h := Tbl.get_set_ne _ _ _ n
@[simp] theorem State.regr_setRegr (s : State) (g : Nat) (v : Regr) : (s.setRegr g v).regr g = v := Tbl.get_set_same _ _ _ _
theorem State.regr_setRegr_ne (s : State) {h g : Nat} (v : Regr) (n : h ≠ g) : (s.setRegr g v).regr h = s.regr h := Tbl.get_set_ne _ _ _ n
@[simp] theorem State.stat_setStat (s : State) (g : Nat) (v : Stat) : (s.setStat g v).stat g = v := Tbl.get_set_same _ _ _ _
theorem State.stat_setStat_ne (s : State) {h g : Nat} (v : Stat) (n : h ≠ g) : (s.setStat g v).stat h = s.stat h := Tbl.get_set_ne _ _ _ n
@[simp] theorem State.refp_setRefp (s : State) (g : Nat) (v : RefPart) : (s.setRefp g v).refp g = v := Tbl.get_set_same _ _ _ _
theorem State.refp_setRefp_ne (s : State) {h g : Nat} (v : RefPart) (n : h ≠ g) : (s.setRefp g v).refp h = s.refp h := Tbl.get_set_ne _ _ _ n
@[simp] theorem State.postedAt_setPosted (s : State) (g : Nat) (v : Option Posted) : (s.setPosted g v).postedAt g = v := Tbl.get_set_same _ _ _ _
theorem State.postedAt_setPosted_ne (s : State) {h g : Nat} (v : Option Posted) (n : h ≠ g) : (s.setPosted g v).postedAt h = s.postedAt h := Tbl.get_set_ne _ _ _ n
@[simp] theorem State.mbDir_setMbDir (s : State) (n d : Nat) (v : MbDir) : (s.setMbDir n d v).mbDir n d = v := Tbl.get_set_same _ _ _ _
@[simp] theorem State.wHold_setHold (s : State) (t i : Nat) (v : WhistleHold) : (s.setHold t i v).wHold t i = v := Tbl.get_set_same _ _ _ _
@[simp] theorem State.guardOf_setGuard (s : State) (m : Master) (v : Option Guard) : (s.setGuard m v).guardOf m = v := Tbl.get_set_same _ _ _ _

end Sys2Proof.Machine
end

