-- ==== Sys2Proof/Laws/Settle.lean ====
section
/-! SUPPORT. What bringing the interrupt conditions up to date does: it touches only the interrupt vectors' own state and what has left the
device, and leaves the conditions seen equal to the conditions there are. -/

namespace Sys2Proof.Machine

/-- A function of the state that reads neither what has left the device nor the interrupt vectors. -/
def Quiet {β : Type} (g : State → β) : Prop := ∀ (s : State) (o : List Out) (i : IrqPart), g { s with out := o, irq := i } = g s

theorem State.raise_quiet {β : Type} {g : State → β} (hg : Quiet g) (s : State) (v : Nat) : g (s.raise v) = g s := by
  unfold State.raise
  split
  · exact hg s (s.out ++ [s.msixOut v]) s.irq
  · exact hg s s.out { s.irq with pend := s.irq.pend ||| BitVec.ofNat 32 (2 ^ v) }

theorem State.raise_hc (s : State) (v : Nat) : (s.raise v).irq.hc = s.irq.hc := by
  unfold State.raise
  split <;> rfl

theorem State.raiseAll_quiet {β : Type} {g : State → β} (hg : Quiet g) (s : State) (l : List Nat) : g (s.raiseAll l) = g s := by
  induction l generalizing s with
  | nil => rfl
  | cons v t ih => exact (ih (s.raise v)).trans (s.raise_quiet hg v)

theorem State.raiseAll_hc (s : State) (l : List Nat) : (s.raiseAll l).irq.hc = s.irq.hc := by
  induction l generalizing s with
  | nil => rfl
  | cons v t ih => exact (ih (s.raise v)).trans (s.raise_hc v)

/-- Bringing the conditions up to date changes only `out` and `irq`. -/
theorem settle_quiet {β : Type} {g : State → β} (hg : Quiet g) (s : State) : g (settle s) = g s := by
  unfold settle
  simp only
  split
  · rfl
  · exact (State.raiseAll_quiet hg _ _).trans (hg s s.out { s.irq with hc := s.hostConds })

/-- The conditions seen are then the conditions there were. -/
theorem settle_hc (s : State) : (settle s).irq.hc = s.hostConds := by
  unfold settle
  simp only
  split
  · rename_i h
    exact h.symm
  · exact State.raiseAll_hc _ _

@[simp] theorem settle_pending (s : State) : (settle s).pending = s.pending := settle_quiet (g := State.pending) (fun _ _ _ => rfl) s
@[simp] theorem settle_now (s : State) : (settle s).now = s.now := settle_quiet (g := State.now) (fun _ _ _ => rfl) s
@[simp] theorem settle_free (s : State) : (settle s).free = s.free := settle_quiet (g := State.free) (fun _ _ _ => rfl) s
@[simp] theorem settle_inReset (s : State) : (settle s).inReset = s.inReset := settle_quiet (g := State.inReset) (fun _ _ _ => rfl) s
@[simp] theorem settle_relAt (s : State) : (settle s).relAt = s.relAt := settle_quiet (g := State.relAt) (fun _ _ _ => rfl) s
@[simp] theorem settle_regs (s : State) : (settle s).regs = s.regs := settle_quiet (g := State.regs) (fun _ _ _ => rfl) s
@[simp] theorem settle_bus (s : State) : (settle s).bus = s.bus := settle_quiet (g := State.bus) (fun _ _ _ => rfl) s
@[simp] theorem settle_flt (s : State) : (settle s).flt = s.flt := settle_quiet (g := State.flt) (fun _ _ _ => rfl) s
@[simp] theorem settle_rat (s : State) : (settle s).rat = s.rat := settle_quiet (g := State.rat) (fun _ _ _ => rfl) s
@[simp] theorem settle_tb (s : State) : (settle s).tb = s.tb := settle_quiet (g := State.tb) (fun _ _ _ => rfl) s
@[simp] theorem settle_tiu (s : State) : (settle s).tiu = s.tiu := settle_quiet (g := State.tiu) (fun _ _ _ => rfl) s
@[simp] theorem settle_ref (s : State) : (settle s).ref = s.ref := settle_quiet (g := State.ref) (fun _ _ _ => rfl) s
@[simp] theorem settle_steer (s : State) : (settle s).steer = s.steer := settle_quiet (g := State.steer) (fun _ _ _ => rfl) s
@[simp] theorem settle_dpll (s : State) : (settle s).dpll = s.dpll := settle_quiet (g := State.dpll) (fun _ _ _ => rfl) s
@[simp] theorem settle_tm (s : State) : (settle s).tm = s.tm := settle_quiet (g := State.tm) (fun _ _ _ => rfl) s
@[simp] theorem settle_syn (s : State) : (settle s).syn = s.syn := settle_quiet (g := State.syn) (fun _ _ _ => rfl) s
@[simp] theorem settle_gnss (s : State) : (settle s).gnss = s.gnss := settle_quiet (g := State.gnss) (fun _ _ _ => rfl) s
@[simp] theorem settle_prt (s : State) : (settle s).prt = s.prt := settle_quiet (g := State.prt) (fun _ _ _ => rfl) s
@[simp] theorem settle_fab (s : State) : (settle s).fab = s.fab := settle_quiet (g := State.fab) (fun _ _ _ => rfl) s
@[simp] theorem settle_itin (s : State) : (settle s).itin = s.itin := settle_quiet (g := State.itin) (fun _ _ _ => rfl) s
@[simp] theorem settle_eng (s : State) : (settle s).eng = s.eng := settle_quiet (g := State.eng) (fun _ _ _ => rfl) s
@[simp] theorem settle_nvs (s : State) : (settle s).nvs = s.nvs := settle_quiet (g := State.nvs) (fun _ _ _ => rfl) s
@[simp] theorem settle_mb (s : State) : (settle s).mb = s.mb := settle_quiet (g := State.mb) (fun _ _ _ => rfl) s
@[simp] theorem settle_sec (s : State) : (settle s).sec = s.sec := settle_quiet (g := State.sec) (fun _ _ _ => rfl) s
@[simp] theorem settle_se (s : State) : (settle s).se = s.se := settle_quiet (g := State.se) (fun _ _ _ => rfl) s
@[simp] theorem settle_svc (s : State) : (settle s).svc = s.svc := settle_quiet (g := State.svc) (fun _ _ _ => rfl) s
@[simp] theorem settle_dma (s : State) : (settle s).dma = s.dma := settle_quiet (g := State.dma) (fun _ _ _ => rfl) s
@[simp] theorem settle_dz (s : State) : (settle s).dz = s.dz := settle_quiet (g := State.dz) (fun _ _ _ => rfl) s
@[simp] theorem settle_lad (s : State) : (settle s).lad = s.lad := settle_quiet (g := State.lad) (fun _ _ _ => rfl) s
@[simp] theorem settle_tst (s : State) : (settle s).tst = s.tst := settle_quiet (g := State.tst) (fun _ _ _ => rfl) s

@[simp] theorem settle_reg (s : State) (a : Nat) : (settle s).reg a = s.reg a := by unfold State.reg; rw [settle_regs]
@[simp] theorem settle_rv (s : State) (a : Nat) : (settle s).rv a = s.rv a := by unfold State.rv; rw [settle_reg]
@[simp] theorem settle_fld (s : State) (f : Fld) : (settle s).fld f = s.fld f := by unfold State.fld; rw [settle_rv]
@[simp] theorem settle_flag (s : State) (f : Fld) : (settle s).flag f = s.flag f := by unfold State.flag; rw [settle_fld]

/-! ### Interrupt conditions (R68–R71) -/

theorem State.reg_congr {s t : State} (h : t.regs = s.regs) (a : Nat) : t.reg a = s.reg a := by
  unfold State.reg
  rw [h]

theorem State.conds_congr {s t : State} (h : t.regs = s.regs) (lo : Nat) : t.conds lo = s.conds lo := by
  have hr := State.reg_congr h
  unfold State.conds State.blockConds State.mbConds State.srcPending State.rv
  simp only [hr]

/-- The host-routed conditions are a function of the registers. -/
theorem State.hostConds_congr {s t : State} (h : t.regs = s.regs) : t.hostConds = s.hostConds := by
  have hr := State.reg_congr h
  unfold State.hostConds State.toHost State.fld State.rv
  simp only [hr, State.conds_congr h]

@[simp] theorem settle_hostConds (s : State) : (settle s).hostConds = s.hostConds := State.hostConds_congr (settle_regs s)

/-- After a command the vectors have seen the conditions there are (R71). -/
theorem settle_irqSeen (s : State) : (settle s).irqSeen := by
  unfold State.irqSeen
  rw [settle_hc, settle_hostConds]

/-- Everything but `out` and `irq` is as it was. -/
theorem settle_sameBut (s : State) : (settle s).sameBut s := by
  have h := settle_quiet (g := fun u => { u with out := [], irq := IrqPart.reset }) (fun _ _ _ => rfl) s
  have h2 := congrArg (fun u : State => { u with out := s.out, irq := s.irq }) h
  exact h2

/-- Every command's meaning ends in `fin`, which answers a next state. -/
theorem fin_next (s : State) : fin s = .next (settle s) := rfl

end Sys2Proof.Machine
end

