-- ==== Sys2Proof/Laws/Isa.lean ====
section
/-! SUPPORT. What the issue of a syllable can do: the engines' parts after an update, and the result of a bundle of one syllable. -/

namespace Sys2Proof.Machine

theorem State.eng_setEng (s : State) (n k : Nat) (v : EngPart) : (s.setEng n v).eng_ k = if k = n then v else s.eng_ k := by
  unfold State.eng_ State.setEng
  simp only
  split
  · next h => subst h; simp
  · next h => rw [Tbl.get_set_ne]; exact h

@[simp] theorem State.eng_setEng_same (s : State) (n : Nat) (v : EngPart) : (s.setEng n v).eng_ n = v := by
  rw [State.eng_setEng, if_pos rfl]

@[simp] theorem State.eng_settle (s : State) (n : Nat) : (settle s).eng_ n = s.eng_ n := by unfold State.eng_; rw [settle_eng]

/-- The state with the SE at bundle `n`. -/
def State.atPc (s : State) (n : Nat) : State := { s with se := { s.se with pc := n } }

@[simp] theorem State.eng_atPc (s : State) (n k : Nat) : (s.atPc n).eng_ k = s.eng_ k := rfl

/-- The bundle end of a bundle of one syllable that holds `l` of its own results. -/
theorem bundleEnd_solo (s : State) (y : Syl) (l : List Flight) (hl : y.last = true) (h : (s.eng_ y.e.num).hold = l)
    (hi : ∀ f ∈ l, f.inst = y.inst) :
    bundleEnd y s = s.setEng y.e.num (l.foldl EngPart.take { s.eng_ y.e.num with hold := [] }) := by
  have h1 : l.filter (fun f => decide (f.inst = y.inst)) = l := List.filter_eq_self.mpr (fun f hf => by simp [hi f hf])
  have h2 : l.filter (fun f => decide (f.inst ≠ y.inst)) = [] := List.filter_eq_nil_iff.mpr (fun f hf => by simp [hi f hf])
  unfold bundleEnd
  rw [hl]
  simp only [Bool.not_true, Bool.false_eq_true, ↓reduceIte, h, h1, h2]

/-- The next-bundle rule for the last syllable of a bundle. -/
theorem pcNext_last (s : State) (y : Syl) (hl : y.last = true) : pcNext y s = s.atPc (s.nextPc y) := by
  unfold pcNext seGo State.nextPc State.atPc
  by_cases hs : y.e = .se
  · rw [if_pos ⟨hs, hl⟩, if_pos hs]
    congr 2
  · rw [if_neg (fun h => hs h.1), if_neg hs]

/-- What the SE books leaves every engine, register and its bundle address alone. -/
theorem seBook_parts (op md : Nat) (y : Syl) (s : State) :
    (seBook op md y s).eng = s.eng ∧ (seBook op md y s).regs = s.regs ∧ (seBook op md y s).fab = s.fab ∧
      (seBook op md y s).se.pc = s.se.pc ∧ (seBook op md y s).se.stack = s.se.stack ∧ (seBook op md y s).se.mem = s.se.mem := by
  unfold seBook govTake State.setGov
  split
  · exact ⟨rfl, rfl, rfl, rfl, rfl, rfl⟩
  · split
    · split <;> exact ⟨rfl, rfl, rfl, rfl, rfl, rfl⟩
    · exact ⟨rfl, rfl, rfl, rfl, rfl, rfl⟩

/-- A syllable of a port or timekeeping engine books nothing. -/
theorem seBook_static (op md : Nat) (y : Syl) (s : State) (h : y.e ≠ .se) : seBook op md y s = s := if_pos h

@[simp] theorem seBook_eng (op md : Nat) (y : Syl) (s : State) (k : Nat) : (seBook op md y s).eng_ k = s.eng_ k := by
  unfold State.eng_; rw [(seBook_parts op md y s).1]

@[simp] theorem seBook_inst (op md : Nat) (y : Syl) (s : State) (p k : Nat) : (seBook op md y s).inst? p k = s.inst? p k := by
  unfold State.inst? State.pe_; rw [(seBook_parts op md y s).2.2.1]

@[simp] theorem seBook_physG (op md : Nat) (y : Syl) (s : State) (n : Nat) : (seBook op md y s).physG y n = s.physG y n := by
  unfold State.physG; simp only [seBook_inst]

@[simp] theorem seBook_physP (op md : Nat) (y : Syl) (s : State) (n : Nat) : (seBook op md y s).physP y n = s.physP y n := by
  unfold State.physP; simp only [seBook_inst]

@[simp] theorem seBook_rg (op md : Nat) (y : Syl) (s : State) (n : Nat) : (seBook op md y s).rg y n = s.rg y n := by
  unfold State.rg; rw [seBook_eng, seBook_physG]

@[simp] theorem seBook_predOn (op md : Nat) (y : Syl) (s : State) : (seBook op md y s).predOn y = s.predOn y := by
  unfold State.predOn State.rp; rw [seBook_eng, seBook_physP]

@[simp] theorem seBook_nextPc (op md : Nat) (y : Syl) (s : State) : (seBook op md y s).nextPc y = s.nextPc y := by
  unfold State.nextPc; rw [(seBook_parts op md y s).2.2.2.1]

/-- What a result leaves in flight, or held for the end of its bundle, is what `flight` says. -/
theorem result_eq (s : State) (y : Syl) (lat : Nat) (regs : List (Nat × Nat)) (pred : Option (Nat × Bool)) :
    result y lat regs pred s = s.setEng y.e.num (if lat ≤ 1 ∨ y.e = .se
      then { s.eng_ y.e.num with hold := (s.eng_ y.e.num).hold ++ [s.flight y lat regs pred] }
      else { s.eng_ y.e.num with fly := (s.eng_ y.e.num).fly ++ [s.flight y lat regs pred] }) := by
  unfold result State.flight
  by_cases hc : lat ≤ 1 ∨ y.e = .se
  · rw [if_pos (by simpa using hc), if_pos hc]; simp only [if_pos hc]
  · rw [if_neg (by simpa using hc), if_neg hc]; simp only [if_neg hc]

/-- The flight of a result is the same once the bundle is booked. -/
theorem seBook_flight (op md : Nat) (y : Syl) (s : State) (lat : Nat) (regs : List (Nat × Nat)) (pred : Option (Nat × Bool)) :
    (seBook op md y s).flight y lat regs pred = s.flight y lat regs pred := by
  unfold State.flight
  simp only [seBook_physG, seBook_physP]
  by_cases hc : lat ≤ 1 ∨ y.e = .se
  · simp only [if_pos hc]
  · rw [seBook_static op md y s (fun h => hc (.inr h))]

/-- A bundle of one syllable gives the result of that syllable and nothing else. -/
theorem gives_result (s : State) (y : Syl) (op md lat : Nat) (regs : List (Nat × Nat)) (pred : Option (Nat × Bool)) (h : s.solo y op md) :
    (settle (bundleEnd y (pcNext y (result y lat regs pred (seBook op md y s))))).gives s y op md lat regs pred := by
  obtain ⟨-, -, hl, hh, -, -⟩ := h
  have hh' : ((seBook op md y s).eng_ y.e.num).hold = [] := by rw [seBook_eng]; exact hh
  have h0 : { s.eng_ y.e.num with hold := [] } = s.eng_ y.e.num := by rw [← hh]
  have key : ∀ v w : EngPart, ∀ n, (settle ((((seBook op md y s).setEng y.e.num v).atPc n).setEng y.e.num w)).sameBut
      { seBook op md y s with
        eng := (settle ((((seBook op md y s).setEng y.e.num v).atPc n).setEng y.e.num w)).eng, se := { (seBook op md y s).se with pc := n } } := by
    intro v w n
    rw [settle_eng]
    exact settle_sameBut _
  rw [result_eq, seBook_eng, seBook_flight]
  have hp : ∀ v, ((seBook op md y s).setEng y.e.num v).nextPc y = s.nextPc y := fun v => seBook_nextPc op md y s
  by_cases hc : lat ≤ 1 ∨ y.e = .se
  · rw [if_pos hc, hh, List.nil_append, pcNext_last _ _ hl, hp,
      bundleEnd_solo _ y [s.flight y lat regs pred] hl (by simp) (by simp [State.flight])]
    refine ⟨?_, ?_, key _ _ _⟩
    · rw [if_pos hc]
      simp only [State.eng_settle, State.eng_setEng_same, State.eng_atPc, List.foldl_cons, List.foldl_nil, h0]
    · intro k hk
      rw [State.eng_settle, State.eng_setEng, if_neg hk, State.eng_atPc, State.eng_setEng, if_neg hk, seBook_eng]
  · rw [if_neg hc, pcNext_last _ _ hl, hp, bundleEnd_solo _ y [] hl (by simp [hh]) (by simp)]
    refine ⟨?_, ?_, key _ _ _⟩
    · rw [if_neg hc]
      simp only [State.eng_settle, State.eng_setEng_same, State.eng_atPc, List.foldl_nil]
      rw [← hh]
    · intro k hk
      rw [State.eng_settle, State.eng_setEng, if_neg hk, State.eng_atPc, State.eng_setEng, if_neg hk, seBook_eng]

/-- With no local access waiting the last syllable goes on at once. -/
theorem withMem_none (op : Nat) (y : Syl) (go : State → State) (s : State) (h : y.e = .se → s.se.mem = none) : withMem op y go s = go s := by
  unfold withMem
  by_cases hs : y.e = .se
  · simp only [h hs]; split <;> simp_all
  · simp only [if_neg (fun c : y.e = .se ∧ y.last = true => hs c.1)]

/-- A syllable that runs alone has its effect on the booked state and then ends its bundle. -/
theorem issue_runs1 (s : State) (y : Syl) (op md : Nat) (f : State → State) (h : s.runs1 y op md) :
    issue op md y f s = bundleEnd y (pcNext y (f (seBook op md y s))) := by
  obtain ⟨⟨h1, h2, -, -, h5, h6⟩, h3⟩ := h
  unfold issue issueCtl
  rw [withMem_none _ _ _ _ (fun hs => by rw [(seBook_parts op md y s).2.2.2.2.2]; exact h6 hs)]
  simp [h1, h2, h3, h5]

/-- The same for an operation that its predicate does not switch off. -/
theorem issueAlways_solo (s : State) (y : Syl) (op md : Nat) (f : State → State) (h : s.solo y op md) :
    issueAlways op md y f s = bundleEnd y (pcNext y (f (seBook op md y s))) := by
  obtain ⟨h1, h2, -, -, h5, h6⟩ := h
  unfold issueAlways
  rw [withMem_none _ _ _ _ (fun hs => by rw [(seBook_parts op md y s).2.2.2.2.2]; exact h6 hs)]
  simp [h1, h2, h5]

end Sys2Proof.Machine
end

