-- ==== Sys2Proof/WellFormed.lean ====
section
/-! DEFINITION. Commands whose operands name something the device has: an ill-formed command denotes no event of the device. -/

namespace Sys2Proof

/-- Only a port engine has instances (R246, R281). -/
def Syl.wf (y : Syl) : Bool :=
  match y.e with
  | .pe _ => true
  | _ => y.inst.isNone

/-- A register access comes from a host link or the SE (R52). -/
def Master.bus : Master → Bool
  | .hostPcie | .hostSpi | .hostI2c | .se => true
  | _ => false

/-- The syllable of a command that is one. -/
def Instr.syl? : Instr → Option Syl
  | .nop y _ | .add y | .sub y | .and y | .or y | .xor y | .shl y | .shr y | .sar y | .cmpeq y | .cmplt y | .cmpltu y | .sel y
  | .extr y | .insr y | .bswap y | .csum16 y | .movi y | .tadd y | .tsub y | .tconv y | .tscale y | .tread y | .tcmp y
  | .rxb y | .rxlen y | .rxstat y | .rxts y | .txb y | .txts y _ | .txcsum y | .txgo y | .teRxb y | .teTxb y | .teTxgo y
  | .hld y _ | .hst y | .hbkt y _ | .lld y _ _ | .lst y | .mul y | .mulh y | .hash y | .hashSeed y | .crc32 y | .aesb y | .aesk y
  | .dbl y | .divu y | .limm y | .pset y | .pand y | .por y | .loop y | .evtTest y | .evtTake y | .fault y | .br y | .jmp y | .call y
  | .ret y | .returnFromTrap y | .trap y => some y
  | .teRxts q => some q.y
  | _ => none

/-- A steering port of R294. -/
def steerPort (k : Nat) : Bool := decide (k ≤ 8) || decide (16 ≤ k)

/-- The command is well formed. -/
def Instr.wf (i : Instr) : Bool :=
  (match i.syl? with
    | some y => y.wf
    | none => true)
  && (match i with
    | .registerWrite m _ _ _ | .registerRead m _ _ | .stagedWordWrite m _ _ | .snapshotRead m _ | .guardValueWrite m _ _
    | .guardWindowExpiry m | .acknowledgeWrite m _ _ => m.bus
    | .br y | .jmp y | .call y | .ret y | .returnFromTrap y | .trap y => y.last
    | .steeringUpdate k => steerPort k.val
    | .dmaHalt cause _ _ _ => decide (1 ≤ cause.val) && decide (cause.val ≤ 4)
    | .storeWrite _ o l => decide (o + l.length ≤ 2 ^ 20)
    | .tunnelBlockArrival _ _ marker octets _ => marker || octets.length == 64
    | _ => true)

end Sys2Proof
end

