-- ==== Sys2Proof/Tests/Slice0.lean ====
section
/-! SUPPORT. Tests: ill-formed commands that the well-formedness check refuses, and for every statement concrete states and operands that
meet the hypotheses of each of its clauses. -/

namespace Sys2Proof.Tests

open Sys2Proof Sys2Proof.Machine

-- One theorem at a time: these are evaluated by the kernel, and all of them at once take a thread each.
set_option Elab.async false

/-- A device in rung L0 with FCLK running, every governor in its grant part with charge left. -/
def up : State :=
  let s := ((release true 0 true true State.reset).setFld F.RUNG_STATUS_RUNG 0).setFlag F.FAB_STATUS_FCLK_RUN true
  { s with rat := { s.rat with gov := (List.range 4).map (fun k => (k, ⟨10 ^ 9, true, false⟩)) } }
/-- The same with no governor granting. -/
def dry : State := { up with rat := { up.rat with gov := [] } }

/-! ### Ill-formed commands, one for each check of well-formedness -/

/-- A syllable that is not the last of its bundle, on TE0, with an instance no timekeeping engine has (R246, R281). -/
def badSyl : Syl :=
  { e := .te 0, inst := some 0, slot := 0, pred := 0, sense := false, dst := 0, a := 0, b := 0, md := 0, limm := false, last := false }
theorem test_wf_instance : (Instr.add badSyl).wf = false ∧ (Instr.add { badSyl with inst := none }).wf = true := by decide
theorem test_wf_control_last : (Instr.br { badSyl with inst := none }).wf = false ∧
    (Instr.br { badSyl with inst := none, last := true }).wf = true := by decide
theorem test_wf_bus_master : (Instr.registerRead (.te 0) 0 false).wf = false ∧ (Instr.registerRead .hostSpi 0 false).wf = true := by decide
theorem test_wf_steering_port : (Instr.steeringUpdate 9).wf = false ∧ (Instr.steeringUpdate 16).wf = true := by decide
theorem test_wf_halt_cause : (Instr.dmaHalt 0 0 0 0).wf = false ∧ (Instr.dmaHalt 5 0 0 0).wf = false ∧ (Instr.dmaHalt 4 0 0 0).wf = true := by decide
theorem test_wf_store_range : (Instr.storeWrite 0 (2 ^ 20) [1]).wf = false ∧ (Instr.storeWrite 0 (2 ^ 20 - 1) [1]).wf = true := by decide
theorem test_wf_tunnel_block : (Instr.tunnelBlockArrival 0 0 false [1] 0).wf = false ∧
    (Instr.tunnelBlockArrival 0 0 true [] 0).wf = true := by decide

/-! ### Witnesses -/

/-- Witnesses of RationCommands: a running contract, a suspended one, and a window with no transfer and no ramp. -/
theorem wit_RationCommands : up.suspended = false ∧ up.blockOn 1 = true ∧ (up.setFlag F.RATION_STATUS_SUSPENDED true).suspended = true ∧
    up.hostOn = true ∧ up.rat.xfers = [] ∧ up.fld F.RATION_LEVEL_LEVEL_MA = up.fld F.RATION_LEVEL_TARGET_MA := by decide +kernel

/-- Witnesses of RegisterWritesLandOrArePosted: INT_N's control in the host island, a DPLL's bandwidth register with its block on and off,
free and pending. -/
theorem wit_RegisterWrites : up.hears .hostPcie ∧ nearReg Reg.INTN_CTRL = true ∧
    (rowAt Reg.INTN_CTRL).map (fun x => (plainRow x.1, x.1.mask, x.2.2)) = some (true, [1], 0) ∧
    nearReg 0x60404 = false ∧ (rowAt 0x60404).map (fun x => (plainRow x.1, x.1.mask.length, x.2.2)) = some (true, 1, 0) ∧
    up.blockOn 6 = true ∧ up.postedAt 6 = none ∧ (up.setPosted 6 (some ⟨0x60404, [0], 0x60404, .se⟩)).postedAt 6 ≠ none ∧
    (up.setFld F.RUNG_STATUS_RUNG 3).blockOn 6 = false ∧ (up.setFld F.RUNG_STATUS_RUNG 3).hears .hostPcie ∧
    dry.masterOn .hostPcie = true ∧ dry.tlpOk .hostPcie 1 = false := by
  unfold State.hears State.reaches
  decide +kernel

/-- Witnesses of PostedWritesLandOrAreDiscarded. -/
theorem wit_PostedWrites : (up.setPosted 6 (some ⟨0x60404, [5], 0x60404, .se⟩)).blockOn 6 = true ∧
    (up.setPosted 6 (some ⟨0x60404, [5], 0x60404, .se⟩)).postedAt 6 = some ⟨0x60404, [5], 0x60404, .se⟩ ∧
    (rowAt 0x60404).map (fun x => (plainRow x.1, x.1.mask.length, x.2.2)) = some (true, 1, 0) ∧
    ((up.setPosted 6 (some ⟨0x60404, [5], 0x60404, .se⟩)).setFld F.RUNG_STATUS_RUNG 3).blockOn 6 = false ∧
    ((up.setPosted 6 (some ⟨0x60404, [5], 0x60404, .se⟩)).setFld F.RUNG_STATUS_RUNG 3).postedAt 6 ≠ none := by
  decide +kernel

/-- Witnesses of QuantitiesAreStagedLatchedAndGuarded: NOM_PERIOD of channel 0, AO_TIME, INTN_CTRL, RUNG_REQ, an armed value. -/
theorem wit_Quantities : up.hears .hostSpi ∧ up.blockOn 2 = true ∧
    (rowAt 0x20604).map (fun x => (x.1.quantity, x.2.2, x.1.words, decide (x.1.acc = .w1 ∨ x.1.acc = .gd))) = some (true, 0, 2, false) ∧
    quantAt Reg.AO_TIME = some (Reg.AO_TIME, 2) ∧ nearReg Reg.AO_TIME = true ∧ quantAt Reg.INTN_CTRL = none ∧
    nearReg Reg.INTN_CTRL = true ∧ (rowAt Reg.RUNG_REQ).map (fun x => x.1.acc) = some .gd ∧ nearReg Reg.RUNG_REQ = true ∧
    up.reaches .hostSpi 2 ∧ up.hostOn = true ∧ (up.setGuard .hostSpi (some ⟨4, 5, 0⟩)).guardOf .hostSpi = some ⟨4, 5, 0⟩ ∧
    0 + { up.setGuard .hostSpi (some ⟨4, 5, 0⟩) with now := 10 ^ 6 }.guardWindow ≤ 10 ^ 6 := by
  unfold State.hears State.reaches
  decide +kernel

/-- Witnesses of InterruptCommands: acknowledge copies of WIN_OUT (host island) and of a DPLL, a pending vector and a link that can send. -/
theorem wit_InterruptCommands : up.hears .hostPcie ∧
    (rowAt (Reg.WIN_OUT + 4)).map (fun x => (plainRow x.1, x.1.mask, x.2.2)) = some (true, [0xffffffff], 0) ∧
    (blockSrcs 1).any (fun x => x.ctrs.any (fun c => c + 4 == Reg.WIN_OUT + 4)) = true ∧ nearReg (Reg.WIN_OUT + 4) = true ∧
    (rowAt (Reg.DPLL_EVT 1 + 4)).map (fun x => (plainRow x.1, x.1.mask, x.2.2)) = some (true, [0xffffffff], 0) ∧
    (blockSrcs 4).any (fun x => x.ctrs.any (fun c => c + 4 == Reg.DPLL_EVT 1 + 4)) = true ∧ up.blockOn 4 = true ∧ up.postedAt 4 = none ∧
    up.irqSeen ∧ up.rung ≤ 2 ∧ up.irq.perstLow = false ∧
    { up with irq := { up.irq with linkL0 := true, enabled := true, pend := 1 } }.canSend = true := by
  unfold State.hears State.reaches State.irqSeen
  decide +kernel

/-- Witnesses of HamperWindowCommands. -/
theorem wit_HamperWindowCommands : up.hears .hostI2c ∧ up.fclkOn = true ∧ (up.setFlag F.HAMPER_STATUS_INIT false).hamDark = false ∧
    (up.setFlag F.FAB_STATUS_FCLK_RUN false).fclkOn = false ∧ (up.setFlag F.FAB_STATUS_FCLK_RUN false).hears .hostI2c ∧
    (up.setFlag F.HWIN_STATUS_VALID true).flag F.HWIN_STATUS_VALID = true ∧ up.flag F.HWIN_STATUS_VALID = false ∧ up.reaches .hostI2c 2 ∧
    (let s := up.setFlag F.HAMPER_STATUS_INIT false
     { s with fab := { s.fab with gateQ := [⟨8, none, .good, true, true⟩] } }.fab.gateQ = [⟨8, none, .good, true, true⟩]) := by
  unfold State.hears State.reaches
  decide +kernel

/-- Witnesses of LinkFrames. -/
theorem wit_LinkFrames : up.hears .hostSpi ∧ up.hears .hostI2c ∧ up.bus.posted = [] ∧ nearReg Reg.INTN_CTRL = true ∧
    (rowAt Reg.INTN_CTRL).map (fun x => (plainRow x.1, x.1.mask, x.2.2)) = some (true, [1], 0) ∧ quantAt Reg.INTN_CTRL = none ∧
    linkAddr 0x200000 = none ∧ up.masterOn .hostSpi = true ∧ 0x58 + up.fld F.DZ_STATUS_ID = 0x58 := by
  unfold State.hears State.reaches
  decide +kernel

/-- Witnesses of TimebaseSourceAndOven: unlocked, locked with the oven, locked with an external source, an APLL locked. -/
theorem wit_TimebaseSource : up.blockOn 2 = true ∧ up.tbLocked = false ∧ up.anyApllLocked = false ∧ (up.lock Reg.TB_CTRL).tbLocked = true ∧
    (up.setFld (F.APLL_STATUS_STATE 1) 3).anyApllLocked = true ∧ (up.setFld (F.APLL_STATUS_STATE 1) 3).tbLocked = false ∧
    ((up.setFld F.TB_CTRL_SRC 1).lock Reg.TB_CTRL).tbExt = true ∧ up.tbExt = false ∧ up.tbmOn = true := by decide +kernel

/-- Witnesses of TimebaseEvents. -/
theorem wit_TimebaseEvents : up.tbmOn = true ∧ ((up.setFlag F.TB_STATUS_AT_SETPOINT true).lock Reg.TB_CTRL).warmNow = true ∧
    up.flag F.TB_STATUS_TB_WARM = false ∧ { up with tb := { up.tb with capLow := true } }.tb.capLow = true ∧
    up.flag F.TB_STATUS_HTR_LIMIT = false ∧ (up.setFlag F.TB_STATUS_SLEWING true).flag F.TB_STATUS_SLEWING = true ∧
    ((up.setFld F.TB_CTRL_SRC 1).lock Reg.TB_CTRL).tbExt = true ∧ up.flag F.TB_STATUS_EXT_LOST = false ∧
    (((up.setFld F.TB_CTRL_SRC 2).lock Reg.TB_CTRL).setFlag F.TB_STATUS_EXT_LOST true).tbExt = true := by decide +kernel

/-- A channel 3 that takes rising edges, with one conversion under way. -/
def edgeUp : State := let s := up.setFlag (F.CH_CFG_EN 3) true
  s.setChan 3 { s.chan 3 with lastPin := some 0, conv := [⟨5, 0, false, false, false, false, false, false, 0, true, false, false, false⟩] }

/-- Witnesses of TiuEdgesAndStamps. -/
theorem wit_TiuEdges : edgeUp.chRuns 3 = true ∧ edgeUp.flag (F.CH_CFG_PRE2 3) = false ∧ edgeUp.fld (F.CH_CFG_SLOPE 3) = 0 ∧
    (edgeUp.chan 3).div = 0 ∧ (∀ g, g < 8 → edgeUp.flag (F.GRP_CFG_EN g) = false) ∧ (∀ k, k < 8 → edgeUp.statOn k = false) ∧
    (edgeUp.chan 3).lastPin = some 0 ∧ 6 * 65536 ≤ unsigned 72 (((10 ^ 6 : Nat) : Int) - 0) ∧ unsigned 72 (((5 : Nat) : Int) - 0) < 6 * 65536 ∧
    edgeUp.flag (F.REG_CFG_EN 3) = false ∧ (edgeUp.chan 3).conv.map (fun c => (c.lost, c.latest, c.hcap)) = [(false, true, false)] ∧
    ((up.setFlag (F.CH_CFG_EN 12) true).setFlag (F.PORT_STATUS_RXC_VALID 0) true).rxcOn 12 = true ∧ up.tclkOn = true ∧
    { up with tiu := { up.tiu with count := 2 ^ 48 - 1 } }.tiu.count % 2 ^ 48 = 2 ^ 48 - 1 ∧ up.blockOn 2 = true ∧ up.postedAt 2 = none ∧
    up.reaches .se 2 := by
  unfold State.reaches
  decide +kernel

/-- Witnesses of TiuConfigurationWrites. -/
theorem wit_TiuConfiguration : up.blockOn 2 = true ∧ edgeUp.blockOn 2 = true ∧ edgeUp.flag (F.CH_CFG_EN 3) = true := by decide +kernel

/-- A calibration in sub-step 3 with phase `p`, at the TCLK edge of its next event; with phase 0, at the start of sub-step 4. -/
def calUp (p : Nat) : State := { up with tiu := { up.tiu with calOn := true, calSub := 3, calPhase := p, count := 30000 + [10000, 500, 9000, 9500].getD p 0 } }

/-- A NEAREST group 1 with a start of channel 3 that waits. -/
def pairUp : State := let s := (up.setFlag (F.GRP_CFG_EN 1) true).setFlag (F.GRP_CFG_MODE 1) true
  s.setGroup 1 { s.group 1 with pair := GPairs.set [] 3 ⟨[⟨0, some 5, false⟩], []⟩ }

/-- Witnesses of TiuCalibrationAndRegression. -/
theorem wit_TiuCalibration : up.calRuns = true ∧ up.tiu.count % 5000000 = 0 ∧ (calUp 0).tiu.count % 5000000 = 10000 * 4 ∧
    (calUp 1).tiu.count % 5000000 - 10000 * 3 = 500 ∧ (calUp 2).tiu.count % 5000000 - 10000 * 3 = 9000 ∧ (calUp 3).tiu.count % 5000000 - 10000 * 3 = 9500 ∧
    (calUp 1).calChan 3 = true ∧ (calUp 1).tiu.calPhase = 1 ∧ (calUp 2).calChan 3 = true ∧
    (calUp 3).calChan 3 = true ∧ up.tclkOn = true ∧ up.chPowered 3 = true ∧ (edgeUp.setFlag (F.REG_CFG_EN 3) true).chRuns 3 = true ∧
    (edgeUp.setFlag (F.REG_CFG_EN 3) true).flag (F.REG_CFG_EN 3) = true ∧
    { edgeUp with tiu := { edgeUp.tiu with count := edgeUp.gateLen 3 + 5 } }.gateDue 3 (edgeUp.gateLen 3) = true ∧ edgeUp.gateLen 3 < 2 ^ 56 ∧
    (edgeUp.regr 3).ahead = [] ∧ (calUp 0).tiu.calOn = true ∧ (calUp 0).calRuns = true ∧ (calUp 0).tiu.calSub ≤ 4 ∧
    2 ≤ (({ calUp 2 with tiu := { (calUp 2).tiu with interp := [(3, ⟨2, false⟩), (24, ⟨2, false⟩)] } }).interp
      (({ calUp 2 with tiu := { (calUp 2).tiu with interp := [(3, ⟨2, false⟩), (24, ⟨2, false⟩)] } }).calTarget 3)).fails ∧
    ((up.setRegr 3 ⟨none, none, [], some (Gate.new false, 0)⟩).regr 3).closing = some (Gate.new false, 0) ∧ pairUp.tclkOn = true ∧
    pairUp.flag (F.GRP_CFG_EN 1) = true ∧ pairUp.flag (F.GRP_CFG_MODE 1) = true ∧
    (GPairs.get (pairUp.group 1).pair 3).starts = [⟨0, some 5, false⟩] ∧ (pairUp.group 1).fifo.length < 64 ∧
    (∀ k, k < 8 → pairUp.statOn k = false) := by decide +kernel

/-- Engine TE0 runs a bank whose routines `SEL_VER` and `DPLL_VER` are there. -/
def teUp : State := { (up.setRv Reg.SEL_VER 1).setRv Reg.DPLL_VER 1 with itin := { up.itin with teBank := [(0, some 0), (1, some 0)] } }

/-- Reference 2 enabled, in state `k`, with an edge and a fresh estimate in range. -/
def passUp (k : Nat) : State :=
  let s := ((refEdge 2 5 (teUp.setFlag (F.REF_CFG_EN 2) true)).setFld (F.REF_STATUS_STATE 2) k).setFld (F.REF_QL_QL_RANK 2) 1
  s.setRefp 2 { s.refp 2 with ok := true, had := true, freqOk := true }
/-- Selector 1 switching to reference 2. -/
def switchUp (d : Nat) : State :=
  (((passUp 3).setFlag (F.SEL_CFG_EN d) true).setFld (F.SEL_STATUS_TARGET d) 2).setFld (F.SEL_STATUS_STATE d) 2
/-- Witnesses of SelectionCommands. -/
theorem wit_SelectionCommands : teUp.teRuns 0 = true ∧ teUp.rv Reg.SEL_VER ≠ 0 ∧ teUp.tiu.selDone = false ∧ teUp.bus.held = [] ∧ (teUp.setRv Reg.SEL_VER 0).teRuns 0 = true ∧
    ((refEdge 2 5 teUp).refp 2).lastAct = some 5 ∧ ((refEdge 2 5 teUp).refp 2).act = true ∧
    0 ≤ tdiff (10 ^ 12 : Nat) ((5 + teUp.actWin 2 : Nat) : Int) ∧ ((teUp.setFlag (F.REF_CFG_EN 2) true).setFld (F.REF_STATUS_STATE 2) 4).refState 2 = 4 ∧
    (teUp.setFlag (F.REF_CFG_EN 2) true).flag (F.REF_CFG_EN 2) = true ∧ teUp.refIsTimebase 2 = false ∧ (refEdge 2 5 teUp).refActive 2 = true ∧
    teUp.refActive 2 = false ∧ (teUp.setFld (F.REF_STATUS_STATE 2) 2).refState 2 = 2 ∧ (refTests (passUp 2) 2).refPasses 2 = true ∧
    (passUp 2).refState 2 = 2 ∧ (refTests ((teUp.setFlag (F.REF_CFG_EN 2) true).setFld (F.REF_STATUS_STATE 2) 2) 2).refPasses 2 = false ∧
    (switchUp 1).flag (F.SEL_CFG_EN 1) = true ∧ (switchUp 1).refGone ((switchUp 1).fld (F.SEL_STATUS_TARGET 1)) = false ∧
    (switchUp 1).fld (F.SEL_STATUS_STATE 1) = 2 ∧ ((switchUp 1).dpll_ 1).slew = 0 ∧ (switchUp 1).teRuns 0 = true ∧ teUp.blockOn 3 = true := by decide +kernel

/-- Witnesses of ReferenceStateRows: reference 2 enabled, in each state. -/
theorem wit_ReferenceStateRows : up.flag (F.REF_CFG_EN 2) = false ∧ (up.setFlag (F.REF_CFG_EN 2) true).flag (F.REF_CFG_EN 2) = true ∧
    up.refIsTimebase 2 = false ∧ (((up.setFld F.TB_CTRL_SRC 1).lock Reg.TB_CTRL).setFlag (F.REF_CFG_EN 0) true).refIsTimebase 0 = true ∧
    (∀ k, k < 5 → (up.setFld (F.REF_STATUS_STATE 2) k).refState 2 = k) ∧ up.otherFail 2 = false ∧
    (up.setFlag (F.REF_STATUS_QL_FAIL 2) true).otherFail 2 = true := by decide +kernel

/-- DPLL 1 in state `k`, its engine running. -/
def dpllUp (k : Nat) : State := (teUp.setFlag (F.DPLL_CFG_EN 1) true).setFld (F.DPLL_STATUS_STATE 1) k

/-- Selector 1 has reference 2 selected. -/
def refUp (s : State) : State := (s.setFld (F.SEL_STATUS_SELECTED 1) 2).setFld (F.SEL_STATUS_STATE 1) 1
/-- Witnesses of DpllCommands. -/
theorem wit_DpllCommands : (dpllUp 2).dpllRuns 1 = true ∧ ((dpllUp 2).dpll_ 1).ticked = false ∧ (dpllUp 2).bus.held = [] ∧ (teUp.setFlag (F.DPLL_CFG_EN 1) false).flag (F.DPLL_CFG_EN 1) = false ∧
    (dpllUp 2).flag (F.DPLL_CFG_EN 1) = true ∧ ((dpllUp 2).dpll_ 1).now = none ∧ (dpllUp 2).dpllState 1 = 2 ∧
    (dpllUp 2).flag (F.DPLL_STATUS_HO_FORCED 1) = false ∧ (dpllUp 2).dpllRef 1 = none ∧ (dpllUp 1).dpllState 1 = 1 ∧
    ((dpllUp 2).dpll_ 1).now ≠ some 2 ∧ ((dpllUp 2).dpll_ 1).now ≠ some 3 ∧ ((refUp (dpllUp 1)).dpllRef 1).isSome = true ∧
    ((dpllUp 1).dpll_ 1).slew = 0 ∧ (dpllUp 1).flag (F.DPLL_STATUS_STEP_WAIT 1) = false ∧ ((dpllUp 1).phErr 1).natAbs ≤ (dpllUp 1).lockThr 1 ∧
    4 * ((dpllUp 2).setRv (Reg.DPLL_PHERR 1) (10 ^ 9)).lockThr 1 < (((dpllUp 2).setRv (Reg.DPLL_PHERR 1) (10 ^ 9)).phErr 1).natAbs ∧
    (let s := ((dpllUp 3).setRv (Reg.DPLL_LOST_S 1) 1).setDpll 1 { (dpllUp 3).dpll_ 1 with ho := 8000 };
      s.hoLimit 1 = true ∧ s.dpllState 1 = 3 ∧ s.flag (F.DPLL_STATUS_HO_FORCED 1) = false ∧ s.tclkOn = true ∧ s.rv (Reg.DPLL_LOST_S 1) ≠ 0 ∧
        (s.setFlag (F.DPLL_STATUS_SERVO_ABSENT 1) true).dpllState 1 = 3 ∧
        (s.setFlag (F.DPLL_STATUS_SERVO_ABSENT 1) true).flag (F.DPLL_STATUS_SERVO_ABSENT 1) = true) ∧
    up.blockOn 4 = true ∧ (dpllUp 1).cmdRefused 1 4 = true ∧ (dpllUp 1).cmdRefused 1 3 = false ∧
    (landDpllCmd 1 3 (dpllUp 1)).cmdRefused 1 2 = false ∧ ((landDpllCmd 1 3 (dpllUp 1)).dpll_ 1).cmd ≠ none ∧
    (landDpllCmd 1 3 (dpllUp 1)).cmdRefused 1 4 = true ∧ ((dpllUp 1).dpll_ 1).cmd = none := by decide +kernel

/-- Witnesses of DpllLoopLaws: an offset of 100 ppm, a period of 1 s, a state of the DPLL. -/
theorem wit_DpllLoopLaws : (28147497671 : Int).natAbs * 10 ^ 6 ≤ (if (1 : Nat) = 0 then 50 else 200) * 2 ^ 48 ∧ 0 < 10 ^ 12 ∧ (3 : Nat) < 8 := by decide

/-- Witnesses of ClockEdgeAdvancesTime, in L0 and in L3. -/
theorem wit_ClockEdge : up.pending = [] ∧ up.inReset = false ∧ up.rung ≤ 3 ∧ (up.setFld F.RUNG_STATUS_RUNG 3).rung = 3 := by decide +kernel

/-- Witnesses of TimescaleCommands: TS0 runs from reset, TS1 does not. -/
theorem wit_TimescaleCommands : up.blockOn 5 = true ∧ (up.tsp 0).run = true ∧ up.quant (Reg.TS_ARG 0) 4 / 2 ^ 32 % 2 ^ 30 < 10 ^ 9 ∧
    0 ≤ ((up.tsp 0).acc : Int) + tsOfWords (up.quant (Reg.TS_ARG 0) 4) (signed 64 (up.quant (Reg.TS_ARG 0) 4 / 2 ^ 64)) ∧
    up.tsOwner 0 = none ∧ (up.tsp 1).run = false ∧ (up.tsp 1).cmd = none ∧ up.tclkOn = true ∧ ({ up with steer := [(4, ⟨0, 0, 5, 0, none⟩)] }.port 4).j < 1000 ∧
    (up.tsp 0).cmd = none ∧ teUp.rv Reg.DPLL_VER ≠ 0 ∧ teUp.tclkOn = true ∧ up.fclkOn = true ∧ (up.pcp 1).loaded = false ∧ ((up.setPc 1 ⟨0, true, 7⟩).pcp 1).loaded = true ∧ up.rung ≤ 1 ∧ teUp.teRuns 1 = true ∧
    ((steerWrite 1 1 77 teUp).port 1).pend = some (1, 77) := by decide +kernel

/-- Trigger 1 armed on TS0, periodic or not. -/
def trgUp (per : Bool) : State := (up.setFlag (F.TRG_STATUS_ARMED 1) true).setTrg 1 ⟨0, 0, 10 ^ 40, per, 0, 1, true⟩

/-- Witnesses of TriggerCommands. -/
theorem wit_TriggerCommands : up.blockOn 5 = true ∧ 10 ^ 9 ≤ (up.setRv (Reg.TRG_AT 1 + 4) (2 ^ 30 - 1)).quant (Reg.TRG_AT 1) 4 / 2 ^ 32 % 2 ^ 30 ∧
    ((up.setFld (F.TRG_CFG_TS 1) 2).tsp ((up.setFld (F.TRG_CFG_TS 1) 2).fld (F.TRG_CFG_TS 1))).run = false ∧
    (up.tsp (up.fld (F.TRG_CFG_TS 1))).run = true ∧ up.flag (F.TRG_CFG_PERIODIC 1) = false ∧
    (let s := up.setRv (Reg.TRG_AT 1 + 8) 5;
      s.quant (Reg.TRG_AT 1) 4 / 2 ^ 32 % 2 ^ 30 < 10 ^ 9 ∧ ((s.tsp 0).acc : Int) + s.tsAdvance 0 100 ≤
        tsOfWords (s.quant (Reg.TRG_AT 1) 4) (s.quant (Reg.TRG_AT 1) 4 / 2 ^ 64 : Nat)) ∧
    (trgUp true).flag (F.TRG_STATUS_ARMED 1) = true ∧ ((trgUp true).trg 1).per = true ∧ 0 < ((trgUp true).trg 1).period ∧
    ((trgUp false).tsp ((trgUp false).trg 1).ts).run = true ∧ (trgUp false).rung ≤ 3 ∧
    ((trgUp true).trg 1).f < (trgUp true).tsNext 0 ∧ ((trgUp true).trg 1).ts = 0 ∧
    (((trgUp true).setFlag (F.TRIG_PIN_EN 2) true).setFld (F.TRIG_PIN_TRG 2) 1).flag (F.TRIG_PIN_EN 2) = true ∧ ((trgUp false).trg 1).per = false := by decide +kernel

/-- Witnesses of ApllCommands. -/
theorem wit_ApllCommands : up.blockOn 6 = true ∧ freqLegal (pfdUnits (up.fld (F.APLL_CFG_PFDSEL 1)) * nOfFreq 0) = false ∧
    freqLegal (pfdUnits (up.fld (F.APLL_CFG_PFDSEL 1)) * nOfFreq (200 * 2 ^ 80)) = true ∧ up.apllState 1 = 0 ∧
    3 ≤ (up.setFld (F.APLL_STATUS_STATE 1) 4).apllState 1 ∧ (up.setFld (F.APLL_STATUS_STATE 1) 4).apllState 1 = 4 ∧
    (let s := up.setFld (F.APLL_STATUS_STATE 1) 4
     ((s.setApll 1 { s.apll 1 with dco := s.dcoTarget 1 }).apll 1).dco = s.dcoTarget 1) ∧
    up.commitRefused 1 = true ∧ (up.setFld (F.APLL_STATUS_STATE 1) 3).commitRefused 1 = false ∧ up.rung = 0 ∧
    (up.setFld (F.APLL_STATUS_STATE 1) 1).apllState 1 = 1 ∧ up.apllAllowed 1 = true ∧ (up.setFlag F.BOOT_STATUS_COLD true).bandGate = true ∧
    (∀ o, o < 16 → up.running o = false) := by decide +kernel

/-- An output that waits, stops and is to be handed over. -/
def outW : OutPart := { OutPart.reset with waiting := true, stopping := true, hoPend := true }
/-- Output 2 runs in pulse mode from trigger 1. -/
def pulseUp : State :=
  ((((up.setFlag (F.OUT_CFG_EN 2) true).setFlag (F.OUT_CFG_MODE 2) true).setFld (F.OUT_CFG_TRG 2) 1).setFlag (F.OUT_STATUS_RUNNING 2) true).setFld
    (F.APLL_STATUS_STATE 0) 3
/-- Witnesses of OutputCommands. -/
theorem wit_OutputCommands : up.blockOn 6 = true ∧ up.flag (F.OUT_CFG_EN 2) = false ∧ up.running 2 = false ∧
    (up.setFlag (F.OUT_CFG_EN 2) true).flag (F.OUT_CFG_EN 2) = true ∧ 3 ≤ (up.setFld (F.APLL_STATUS_STATE 0) 3).apllState 0 ∧
    ((up.setFld (F.APLL_STATUS_STATE 0) 3).setOut 2 outW).flag (F.APLL_STATUS_COMMIT_PEND 0) = false ∧
    ((up.setFld (F.APLL_STATUS_STATE 0) 3).setFlag (F.APLL_STATUS_COMMIT_PEND 0) true).flag (F.APLL_STATUS_COMMIT_PEND 0) = true ∧
    ((up.setOut 2 outW).outp 2).stopping = true ∧ ((up.setOut 2 outW).outp 2).hoPend = true ∧
    ((up.setOut 2 outW).outp 2).waiting = true ∧
    (up.setFlag (F.OUT_STATUS_RUNNING 2) true).running 2 = true ∧ up.flag (F.OUT_CFG_MODE 2) = false ∧ up.rung = 0 ∧ up.lad.step = none ∧
    pulseUp.flag (F.OUT_CFG_EN 2) = true ∧ pulseUp.flag (F.OUT_CFG_MODE 2) = true ∧ pulseUp.fld (F.OUT_CFG_TRG 2) = 1 ∧ pulseUp.running 2 = true ∧
    3 ≤ pulseUp.apllState (pulseUp.outp 2).grp ∧ up.fld (F.OUT_CFG_FMT 2) < 6 ∧ 6 ≤ (up.setFld (F.OUT_CFG_FMT 2) 7).fld (F.OUT_CFG_FMT 2) := by decide +kernel

/-- A receiver that runs: the baseband enabled on a present GSCLK, channel 3 tracking, in NAV. -/
def gnssUp : State :=
  ((((up.setFlag F.GSCLK_MON_ACTIVE true).setReg Reg.GNSS_CTRL 0x703).setFld F.RX_STATUS_STATE 2).setRv (Reg.GNSS_CH_STATUS 3) 2)
/-- The running receiver in state `st`, 100 s after the count 0. -/
def gnssLate (st : Nat) : State := { gnssUp.setFld F.RX_STATUS_STATE st with tiu := { gnssUp.tiu with count := 5 * 10 ^ 10 } }
/-- Witnesses of GnssReceiverCommands. -/
theorem wit_GnssReceiver : up.hostOn = true ∧ up.tclkOn = true ∧ gnssUp.blockOn 7 = true ∧ gnssUp.flag F.GSCLK_MON_ACTIVE = true ∧
    (gnssUp.setFlag F.GSCLK_MON_ACTIVE false).flag F.GSCLK_MON_ACTIVE = false ∧ (gnssUp.setFlag F.GSCLK_MON_ACTIVE false).tclkOn = true ∧
    gnssUp.bbOn = true ∧ gnssUp.gch 3 = 2 ∧ gnssUp.rung ≤ 1 ∧ gnssUp.rxState = 2 ∧ (gnssLate 2).acqEnds 0 false = true ∧
    gnssUp.gch 4 = 0 ∧ 2 * (0 : Int).natAbs < acqBins 0 gnssUp.acqWindow ∧ 5 < (constellation 0).points ∧ (gnssLate 2).rxState = 2 ∧
    (gnssLate 2).tenSecs (gnssLate 2).gnss.lastFix = true ∧ (gnssLate 4).rxState = 4 ∧ (gnssLate 4).tenSecs (gnssLate 4).gnss.lastSat = true ∧
    (gnssLate 2).bbOn = true ∧ (gnssUp.setFld F.RX_STATUS_STATE 0).rxState = 0 ∧
    (gnssUp.setFld F.RX_STATUS_STATE 0).blockOn 7 = true ∧ (gnssUp.setFld F.RX_STATUS_STATE 4).rxState = 4 ∧
    (gnssUp.setFld F.RX_STATUS_STATE 4).bbOn = true := by decide +kernel

/-- The running receiver with its hidden part replaced, in state `st`. -/
def gnssIn (st : Nat) (g : GnssPart) : State := { gnssUp.setFld F.RX_STATUS_STATE st with gnss := g }
/-- An epoch with a fix and four satellites. -/
def epoch0 : GnssEpoch := { fix := true, eph := 4, resid := [], x := 0, y := 0, z := 0, top := 0, drift := 0 }
/-- Witnesses of GnssEpochsAndSolutions. -/
theorem wit_GnssEpochs : (gnssIn 0 .reset).bbOn = true ∧ (gnssIn 0 .reset).rxState = 0 ∧ (gnssIn 2 { GnssPart.reset with cmd := 1 }).rxState = 2 ∧
    (gnssIn 2 { GnssPart.reset with cmd := 2 }).gnss.cmd = 2 ∧ (gnssIn 1 .reset).rxState = 1 ∧ (gnssIn 1 .reset).gnss.stored = false ∧
    (gnssIn 3 .reset).rxState = 3 ∧ ((gnssIn 3 .reset).setRv Reg.SURVEY_CFG 1).rv Reg.SURVEY_CFG ≤ 0 + 1 ∧
    (surveyAdd epoch0 ((gnssIn 3 .reset).setRv Reg.SURVEY_CFG 1)).surveyed = true ∧ epoch0.fix = true ∧ 1 ≤ epoch0.eph ∧
    (gnssIn 1 { GnssPart.reset with stored := true }).gnss.stored = true ∧
    (gnssIn 3 .reset).flag F.GNSS_CTRL_PPS_EN = true ∧ (gnssIn 2 { GnssPart.reset with sol := some (0, 0) }).ppsAt (32768 * 10 ^ 9) = true ∧
    (gnssIn 2 { GnssPart.reset with stamp := some ⟨9, 0, none⟩ }).ppsPairs ⟨9, 0, none⟩ = true ∧
    (gnssIn 2 { GnssPart.reset with stamp := some ⟨9, 5, none⟩ }).ppsPairs ⟨9, 5, none⟩ = false ∧
    450000000 ≤ { gnssUp with tiu := { gnssUp.tiu with count := 5 * 10 ^ 8 } }.since (9 / 65536) ∧
    (gnssUp.setFld F.RUNG_STATUS_RUNG 2).bbOn = true ∧ (gnssUp.setFld F.RUNG_STATUS_RUNG 2).rung = 2 ∧
    (gnssUp.setRv (Reg.GNSS_CH_STATUS 3) 3).gch 3 = 3 ∧ (gnssUp.setRv (Reg.GNSS_CH_STATUS 3) (2 + 28 * 2 ^ 16)).gch 3 = 2 ∧
    28 ≤ (gnssUp.setRv (Reg.GNSS_CH_STATUS 3) (2 + 28 * 2 ^ 16)).fld ⟨Reg.GNSS_CH_STATUS 3, 16, 8⟩ ∧
    2 ≤ Tbl.get (fun _ => 0) (gnssIn 2 { GnssPart.reset with weak := [(3, 2)] }).gnss.weak 3 := by decide +kernel

/-- Port 1 in state `st`, configured as `c`. -/
def portUp (st c : Nat) : State :=
  ((up.setFld (F.PORT_STATUS_STATE 1) st).setRv (Reg.PORT_CFG 1) c).setPrt 1 { PortPart.reset with cfg := c }
/-- Witnesses of PortBringUp. -/
theorem wit_PortBringUp : (portUp 4 0x79).blockOn 8 = true ∧ (portUp 4 0x79).rat.xfers = [] ∧ (portUp 4 0x79).rv (Reg.PORT_CFG 1) % 32 = 0x19 ∧
    (portUp 4 0x79).portState 1 = 4 ∧ (portUp 4 0x79).fld (F.PORT_STATUS_MODE_RES 1) ≤ 1 ∧ (portUp 4 0x79).portCfg 1 F.PORT_CFG_TRAIN_EN = 1 ∧
    (portUp 0 0x79).portState 1 = 0 ∧ (portUp 1 0x79).portState 1 = 1 ∧ (portUp 1 0x79).fclkOn = true ∧
    (anResolve 0 3 0x33 0x33).isSome = true ∧ (anResolve 0 3 0x33 0).isNone = true ∧ (portUp 2 0x79).portState 2 = 0 ∧
    (portUp 2 0x79).portState 1 = 2 ∧ (portUp 2 0x79).portCfg 1 F.PORT_CFG_AN_EN = 1 ∧ (portUp 2 0x79).flag (F.PORT_CFG_AN_EN 1) = true ∧
    (portUp 2 0x59).portCfg 1 F.PORT_CFG_AN_EN = 0 ∧ (portUp 3 0x79).portState 1 = 3 ∧ (portUp 3 0x59).portCfg 1 F.PORT_CFG_AN_EN = 0 := by
  decide +kernel

/-- Witnesses of PortFramesAndBasket. -/
theorem wit_PortFrames : (portUp 4 0x06400079).fclkOn = true ∧ (portUp 4 0x06400079).portState 1 = 4 ∧
    64 ≤ (portUp 4 0x06400079).maxFrame 1 ∧ (List.replicate 64 (0 : Byte)).length = 64 ∧
    ((portUp 4 0x79).setPrt 1 { PortPart.reset with basket := [⟨1, false, false, false, false, 2⟩] }).blockOn 8 = true ∧
    (((portUp 4 0x79).setPrt 1 { PortPart.reset with basket := [⟨1, false, false, false, false, 2⟩] }).prt_ 1).basket.length = 1 ∧
    ((portUp 4 0x79).prt_ 1).basket = [] ∧ up.blockOn 3 = true ∧ up.reaches .hostPcie 2 ∧
    2500000000 ≤ { up with tiu := { up.tiu with count := 2500000000 } }.since (up.prt_ 1).esmcRx := by
  unfold State.reaches
  decide +kernel

/-- PE 1 with its part replaced, on a port whose mode the header serves. -/
def peUp (e : PePart) : State := up.setPe 1 { e with runs := true, hdr := { PortHdr.none with modes := 31 } }
/-- A frame of 72 octets. -/
def fr72 : RxFrame := ⟨List.replicate 72 0, false, true, false, false, 0, false, false⟩
/-- The first instance of port 1, one beat of its frame released. -/
def inst0 : Inst := ⟨0, 0, 0, 9, 0, 0, fr72, 1, false, [], none, false⟩
/-- The same at fabric cycle `c`. -/
def atCycle (c : Nat) (s : State) : State := s.setQuant Reg.FAB_CYCLE 2 c
/-- Witnesses of FabricFramesIn. -/
theorem wit_FabricFramesIn : (peUp { PePart.reset with rx := [fr72] }).fclkOn = true ∧
    (atCycle 5 (peUp .reset)).cycle = 5 ∧ 4 % gatePeriod ((peUp .reset).modeIdx 1) = 0 ∧ (atCycle 5 (peUp .reset)).cycle % gatePeriod ((peUp .reset).modeIdx 1) ≤ 1 ∧
    (atCycle 4 (peUp .reset)).cycle % ((peUp { PePart.reset with lap := 4 }).pe_ 1).lap ≤ 1 ∧
    ((peUp { PePart.reset with rx := [fr72] }).pe_ 1).rx = [fr72] ∧ (startBlock 1 4 (peUp { PePart.reset with rx := [fr72] })).isNone = true ∧
    1 < beatsOf fr72.octets ∧ ((peUp { PePart.reset with rx := [fr72] }).pe_ 1).insts = [] ∧
    (startBlock 1 4 ((peUp .reset).setRv (Reg.WHISTLE_HELD 2) 2)).isSome = true ∧ ((peUp .reset).setRv (Reg.WHISTLE_HELD 2) 2).wHeld 2 1 = true ∧
    (startBlock 1 4 (peUp { PePart.reset with last := some 3, gapII := 9 })).isSome = true ∧ (peUp .reset).wHeld 2 1 = false ∧
    (peUp .reset).served 1 = true ∧ (peUp .reset).itin.arm = none ∧
    ((peUp { PePart.reset with insts := [inst0], cur := some 0 }).pe_ 1).cur = some 0 ∧
    (peUp { PePart.reset with insts := [inst0], cur := some 0 }).inst? 1 0 = some inst0 ∧ 1 + 1 < beatsOf fr72.octets ∧
    ((peUp .reset).setRv (Reg.WHISTLE_HELD 1) 1).wHeld 1 0 = true ∧ (peUp .reset).wHeld 1 0 = false ∧ (up.pe_ 1).runs = false ∧
    (up.setFlag F.ITIN_STATUS_RUNNING true).itinRuns = true ∧ up.stock 1 (up.pe_ 1).bank = none ∧
    (up.setFlag F.HAMPER_STATUS_INIT false).hamDark = false := by decide +kernel
/-- A store whose first image gives port 1 a stock template. -/
theorem wit_StockLap : (({ up with itin := { up.itin with store := Memory.setBytes [] 0x180 [0x4e, 0x54, 0x50, 0x50, 0x54, 0x50, 0, 0, 1] } } : State).stock 1 0) =
    some false := by decide +kernel

/-- PE 1 with a committed reply, a queued and a reserved frame, its port up. -/
def txUp : State :=
  (peUp
    { PePart.reset with
      commits := [⟨0, 1, 50, 0, [], false⟩], queue := [⟨0, 64, 0, 0, 0, 0⟩], resv := [⟨⟨0, 64, 0, 0, 0, 0⟩, 99⟩],
      credit := 84 * 25600 }).setFld (F.PORT_STATUS_STATE 1) 4
/-- Witnesses of FabricFramesOut. -/
theorem wit_FabricFramesOut : txUp.fclkOn = true ∧ firstCommit (txUp.pe_ 1).commits = some ⟨0, 1, 50, 0, [], false⟩ ∧
    swapClash 1 ⟨0, 1, 50, 0, [], false⟩ txUp = false ∧ txUp.txOff 1 = false ∧ (txUp.setFld (F.PORT_STATUS_STATE 1) 3).txOff 1 = true ∧
    (84 * 25600 ≤ (txUp.pe_ 1).credit) ∧ (txUp.pe_ 1).runs = true ∧ (txUp.pe_ 1).queue.length = 1 ∧ (txUp.pe_ 1).resv.length = 1 ∧
    ((txUp.setPe 1 { txUp.pe_ 1 with credit := 0 }).pe_ 1).credit < 84 * 25600 := by decide +kernel
/-- A reply of the new bank, of smaller D, that a reply of the old one overlaps. -/
theorem wit_SwapClash : let e : PePart :=
      { txUp.pe_ 1 with
        hdr := { PortHdr.none with modes := 31 }, oldD := [5, 5, 5, 5, 5], bank := 1,
        sent := [(0, 40, 60)], commits := [⟨0, 1, 50, 64, List.replicate 64 0, false⟩] }
    swapClash 1 ⟨0, 1, 50, 64, List.replicate 64 0, false⟩ ((txUp.setPe 1 e).setPort 6 { txUp.port 6 with cur := 2 ^ 40 }) = true := by decide +kernel

/-- A hamper that is ready, with `q` at the host's gate. -/
def hamUp (q : List HamReq) : State :=
  let s := up.setFlag F.HAMPER_STATUS_INIT false
  { s with fab := { s.fab with gateQ := q } }
/-- Witnesses of FabricDeliveries. -/
theorem wit_FabricDeliveries : up.reaches .hostPcie 2 ∧ up.hears .hostPcie ∧ up.fclkOn = true ∧ (up.setFlag F.FAB_STATUS_FCLK_RUN false).fclkOn = false ∧
    (up.setFlag F.FAB_STATUS_FCLK_RUN false).reaches .hostPcie 2 ∧ (atCycle 5 (hamUp [])).cycle % 16 = 5 ∧ (atCycle 5 (hamUp [])).hamDark = false ∧
    16384 ≤ (atCycle 16384 (up.setFlag F.HAMPER_STATUS_INIT true)).cycle ∧ 40 ≤ { up with tiu := { up.tiu with count := 40 } }.since 0 ∧
    up.flightDue 6 ⟨none, [(3, 9)], some (2, true), false, 0⟩ = true ∧ up.flightDue 1 ⟨none, [(3, 9)], some (2, true), false, 0⟩ = true ∧
    (hamUp [⟨8, some 5, .good, false, false⟩]).hamDark = false ∧ (hamUp [⟨8, none, .good, false, false⟩]).fab.gateQ.length = 1 ∧
    (up.setFlag F.HAMPER_STATUS_INIT true).flag F.HAMPER_STATUS_INIT = true ∧
    ((hamUp []).setEng 4 { EngPart.reset with teOps := [⟨1, 16, 7, some 3, 0⟩] }).tclkOn = true ∧
    ((hamUp []).setEng 4 { EngPart.reset with teOps := [⟨1, 16, 7, some 3, 0⟩] }).hamDark = false ∧ (hamUp []).wHeld 7 0 = false ∧
    (((up.setFlag F.FAB_STATUS_FCLK_RUN false).setEng 4 { EngPart.reset with teOps := [⟨1, 16, 7, some 3, 0⟩] }).eng_ 4).teOps.length = 1 ∧
    ((up.setFlag F.FAB_STATUS_FCLK_RUN false).hamDark = true) ∧
    ((up.setEng 6 { EngPart.reset with fly := [⟨none, [(3, 9)], some (2, true), false, 0⟩] }).eng_ 6).fly.length = 1 ∧
    ((peUp .reset).pe_ 1).runs = true ∧ ({ up with fab := { up.fab with smpWay := [(1, 5)] } } : State).fab.smpWay.find? (fun e => e.1 == 1) = some (1, 5) ∧
    ({ up with tm := { up.tm with evGate := [(1, 2, 7)] } } : State).tm.evGate.find? (fun e => e.1 == 1 && e.2.1 == 2) = some (1, 2, 7) ∧
    (Tbl.get (fun _ => []) up.tm.evq 18).length < 4 ∧ up.blockOn 9 = true ∧ up.flag (F.DB_STATUS_PEND 1) = false ∧
    (up.setFlag (F.DB_STATUS_PEND 1) true).flag (F.DB_STATUS_PEND 1) = true := by
  unfold State.hears State.reaches
  decide +kernel

/-- Witnesses of PcieEndpointCommands. -/
theorem wit_PcieEndpoint : up.hostOn = true ∧ up.rung ≤ 2 ∧ up.irq.refClk = true ∧
    ({ up with irq := { up.irq with refClk := false } } : State).irq.refClk = false := by decide +kernel

/-- The conditions of `State.solo` and `State.runs1`, decided. -/
def soloB (x : State × Syl × Nat × Nat) : Bool :=
  x.1.issues x.2.1 && x.1.fits x.2.1 x.2.2.1 x.2.2.2 && x.2.1.last && decide ((x.1.eng_ x.2.1.e.num).hold = []) &&
    x.1.seGrants x.2.1 x.2.2.1 x.2.2.2 && decide (x.1.se.mem = none)
def runsB (x : State × Syl × Nat × Nat) : Bool := soloB x && x.1.predOn x.2.1
theorem solo_of {l : List (State × Syl × Nat × Nat)} (h : l.all soloB = true) : ∀ x ∈ l, x.1.solo x.2.1 x.2.2.1 x.2.2.2 := by
  intro x hx
  have := List.all_eq_true.mp h x hx
  simp only [soloB, Bool.and_eq_true, decide_eq_true_eq] at this
  exact ⟨this.1.1.1.1.1, this.1.1.1.1.2, this.1.1.1.2, this.1.1.2, this.1.2, fun _ => this.2⟩
theorem runs_of {l : List (State × Syl × Nat × Nat)} (h : l.all runsB = true) : ∀ x ∈ l, x.1.runs1 x.2.1 x.2.2.1 x.2.2.2 := by
  intro x hx
  have := List.all_eq_true.mp h x hx
  simp only [runsB, soloB, Bool.and_eq_true, decide_eq_true_eq] at this
  exact ⟨⟨this.1.1.1.1.1.1, this.1.1.1.1.1.2, this.1.1.1.1.2, this.1.1.1.2, this.1.1.2, fun _ => this.1.2⟩, this.2⟩
/-- A syllable of TE0 in slot `sl` with modifier `md`, p0, and the fields `d`, `a`, `b`, alone in its bundle. -/
def syl (sl : Fin 8) (d a b : Fin 64) (md : Fin 8) : Syl :=
  { e := .te 0, inst := none, slot := sl, pred := 0, sense := false, dst := d, a := a, b := b, md := md, limm := false, last := true }
/-- Witnesses of AluOperations. -/
theorem wit_AluOperations : ∀ x ∈ (teUp, syl 1 2 4 0 0, 0x0f, 0) ::
    [0x01, 0x02, 0x03, 0x04, 0x05, 0x06, 0x07, 0x08, 0x09, 0x0a, 0x0b, 0x0c, 0x0d, 0x0e, 0x10, 0x11].map (fun op => (teUp, syl 0 2 4 6 0, op, 0)),
    x.1.runs1 x.2.1 x.2.2.1 x.2.2.2 := runs_of (by decide +kernel)

/-- A running PE 1: its instance 0 with a whole frame of 72 octets. -/
def peRun : State := peUp { PePart.reset with insts := [{ inst0 with rel := 9 }] }
/-- A syllable of PE 1: of instance 0, or of the lap. -/
def psyl (inst : Option Nat) (sl : Fin 8) (d a b : Fin 64) (md : Fin 8) : Syl := { syl sl d a b md with e := .pe 1, inst := inst }
/-- Witnesses of TimeAndExtendedOperations. -/
theorem wit_TimeAndXu : ∀ x ∈
    [0x14, 0x15, 0x16, 0x17, 0x19].map (fun op => (teUp, syl 2 2 4 6 0, op, 0)) ++
    [0x2c, 0x2d, 0x2e, 0x2f, 0x33].map (fun op => (teUp, syl 6 2 4 6 0, op, 0)) ++
    [(teUp, syl 2 2 0 6 0, 0x18, 0), (teUp, syl 6 2 4 6 4, 0x2e, 4), (teUp, syl 6 2 4 0 0, 0x32, 0), (peRun, psyl (some 0) 6 34 4 6 0, 0x30, 0),
      (peRun, psyl (some 0) 6 0 4 6 0, 0x31, 0), (peRun.setEng 1 (EngPart.reset.setReg 6 17), psyl (some 0) 6 0 4 6 0, 0x31, 0)],
    x.1.runs1 x.2.1 x.2.2.1 x.2.2.2 := runs_of (by decide +kernel)
theorem wit_Aesk : peRun.wHeld 3 1 = false ∧ aesIndex (psyl (some 0) 6 0 4 6 0) (peRun.src (psyl (some 0) 6 0 4 6 0) 6).toNat < 16 ∧
    16 ≤ aesIndex (psyl (some 0) 6 0 4 6 0)
      ((peRun.setEng 1 (EngPart.reset.setReg 6 17)).src (psyl (some 0) 6 0 4 6 0) 6).toNat := by decide +kernel

/-- Witnesses of ParseAndEmitOperations. -/
theorem wit_ParseAndEmit : peRun.inst? 1 0 = some { inst0 with rel := 9 } ∧ ∀ x ∈
    [(peRun, psyl (some 0) 3 34 3 0 0, 0x1c, 0), (peRun, psyl (some 0) 3 34 0 0 0, 0x1d, 0), (peRun, psyl (some 0) 3 34 0 0 0, 0x1e, 0),
      (peRun, psyl (some 0) 3 9 0 0 4, 0x1e, 4), (peRun, psyl (some 0) 3 34 0 0 0, 0x1f, 0), (peRun, psyl (some 0) 4 0 3 6 0, 0x20, 0),
      (peRun, psyl (some 0) 4 34 4 0 0, 0x21, 0), (peRun, psyl (some 0) 4 0 3 6 0, 0x22, 0), (peRun, psyl (some 0) 4 0 0 6 0, 0x23, 0),
      (teUp, syl 3 2 3 0 0, 0x1c, 0), (teUp, syl 3 2 3 0 0, 0x1f, 0), (teUp, syl 4 0 16 6 0, 0x20, 0), (teUp, syl 4 0 1 6 0, 0x23, 0)],
    x.1.runs1 x.2.1 x.2.2.1 x.2.2.2 := ⟨by decide +kernel, runs_of (by decide +kernel)⟩
/-- A claim that nothing refuses, and PE 1 with it on its instance. -/
def claim0 : Claim := { tp := 10 ^ 15, spanEnd := 10 ^ 15, moved := false }
def clmUp : State := peUp { PePart.reset with insts := [{ inst0 with rel := 9, claim := some claim0 }] }
theorem wit_TxGo : (peUp { PePart.reset with insts := [{ inst0 with done := true }] }).inst? 1 0 = some { inst0 with done := true } ∧
    clmUp.inst? 1 0 = some { inst0 with rel := 9, claim := some claim0 } ∧
    clash 1 (claim0.tp - clmUp.octs 1 8) (claim0.tp + clmUp.octs 1 64) clmUp = false ∧
    echoRefuses 1 claim0.tp (claim0.tp + clmUp.octs 1 64) clmUp = false ∧
    (replyFrame { inst0 with rel := 9, claim := some claim0 } 0).1.length = 64 := by decide +kernel
theorem wit_TxGoRuns : ∀ x ∈ [(clmUp, psyl (some 0) 4 0 0 6 0, 0x23, 0),
    (peUp { PePart.reset with insts := [{ inst0 with done := true }] }, psyl (some 0) 4 0 0 6 0, 0x23, 0)],
    x.1.runs1 x.2.1 x.2.2.1 x.2.2.2 := runs_of (by decide +kernel)

/-- A running SE. -/
def seUp : State := up.setFld F.SE_STATUS_STATE 4
/-- A syllable of the SE. -/
def ssyl (sl : Fin 8) (d a b : Fin 64) (md : Fin 8) : Syl := { syl sl d a b md with e := .se }
/-- Witnesses of MemoryOperations. -/
theorem wit_MemoryOperations : ∀ x ∈
    [(peRun, psyl (some 0) 5 34 4 0 1, 0x24, 1), (peRun, psyl (some 0) 5 0 4 6 1, 0x25, 1), (peRun, psyl (some 0) 5 34 4 6 1, 0x26, 1),
      (teUp, syl 5 2 4 0 0, 0x24, 0), (teUp, syl 5 0 4 6 0, 0x25, 0), (teUp, syl 5 2 4 6 0, 0x26, 0), (teUp, syl 5 2 4 6 0, 0x27, 0),
      (peRun, psyl (some 0) 5 34 4 6 1, 0x27, 1), (teUp, syl 5 2 4 6 0, 0x28, 0), (peRun, psyl (some 0) 5 34 4 6 1, 0x28, 1),
      (peRun, psyl none 5 2 4 6 2, 0x28, 2), (peRun.setEng 1 (EngPart.reset.setReg 4 0x100), psyl none 5 0 4 6 3, 0x28, 3),
      (seUp, ssyl 5 2 4 6 0, 0x27, 0), (seUp, ssyl 5 2 4 0 1, 0x27, 1), (seUp, ssyl 5 2 4 6 0, 0x28, 0)],
    x.1.runs1 x.2.1 x.2.2.1 x.2.2.2 := runs_of (by decide +kernel)
theorem wit_MemoryAddresses : localAddr (psyl none 5 2 4 6 2) 2 peRun % 2 ^ 15 < 0x4000 ∧
    localAddr (psyl none 5 0 4 6 3) 0 (peRun.setEng 1 (EngPart.reset.setReg 4 0x100)) % 0x400 / 8 * 8 = 0x100 ∧ seUp.masterOn .se = true ∧
    nearReg (localAddr (ssyl 5 2 4 0 1) 0 seUp % 2 ^ 20 / 4 * 4) = true ∧
    quantAt (localAddr (ssyl 5 2 4 0 1) 0 seUp % 2 ^ 20 / 4 * 4) = none ∧
    localAddr (ssyl 5 2 4 0 1) 0 seUp % 2 ^ 20 / 4 * 4 ≠ Reg.HWIN_DATA := by decide +kernel

/-- Witnesses of ControlOperations. -/
theorem wit_ControlOperations : ∀ x ∈
    [(teUp, syl 7 2 4 6 0, 0x34, 0), (teUp, syl 7 2 4 0 0, 0x35, 0), (teUp, syl 7 2 4 6 0, 0x36, 0), (teUp, syl 7 2 4 6 0, 0x37, 0),
      (teUp, syl 7 2 4 6 1, 0x38, 1), (teUp, syl 7 2 4 0 0, 0x39, 0), (seUp, ssyl 7 2 4 0 1, 0x39, 1), (teUp, syl 7 2 4 0 1, 0x39, 1),
      (teUp, syl 7 2 16 0 1, 0x39, 1), (teUp, syl 7 0 4 6 0, 0x3a, 0), (seUp, ssyl 7 2 4 6 0, 0x3b, 0), (seUp, ssyl 7 0 4 0 0, 0x3c, 0),
      (seUp, ssyl 7 2 4 6 0, 0x3d, 0), (seUp, ssyl 7 0 0 0 0, 0x3e, 0), (seUp, ssyl 7 0 0 0 1, 0x3e, 1), (seUp, ssyl 7 0 4 0 0, 0x3f, 0)],
    x.1.runs1 x.2.1 x.2.2.1 x.2.2.2 := runs_of (by decide +kernel)
theorem wit_ControlStates : ({ teUp with tm := { teUp.tm with evq := [(68, [5])] } } : State).evq 4 4 = [5] ∧
    seUp.se.stack = [] ∧ ({ seUp with se := { seUp.se with stack := [7] } } : State).se.stack = [7] ∧
    seUp.flag F.SE_STATUS_TRAP_ACTIVE = false ∧ (List.replicate 16 1).length = 16 := by decide +kernel

/-- Witnesses of BundlesAndPredicates: p1 is 0, so it forbids. -/
theorem wit_Bundles : teUp.issues (syl 0 0 0 0 0) = true ∧ teUp.fits (syl 0 0 0 0 0) 0 0 = true ∧
    teUp.predOn { syl 0 2 4 6 0 with pred := 1 } = false ∧ peRun.predOn { psyl (some 0) 4 0 0 6 0 with pred := 1 } = false ∧
    seUp.predOn { ssyl 7 2 4 6 0 with pred := 1 } = false ∧ teUp.fits { syl 0 2 4 6 0 with last := false } 0x01 0 = true ∧
    teUp.predOn { syl 0 2 4 6 0 with last := false } = true ∧ seUp.issues (ssyl 0 2 4 6 0) = true ∧
    seUp.fits (ssyl 0 2 4 6 2) 0x01 2 = false ∧ seUp.flag F.SE_STATUS_TRAP_ACTIVE = false ∧ up.issues (syl 0 2 4 6 0) = false := by
  decide +kernel
theorem wit_SwitchedOff : ∀ x ∈
    [(teUp, { syl 0 2 4 6 0 with pred := 1 }, 0x01, 0), (teUp, { syl 2 2 4 6 0 with pred := 1 }, 0x14, 0),
      (teUp, { syl 5 0 4 6 0 with pred := 1 }, 0x25, 0), (peRun, { psyl (some 0) 4 0 0 6 0 with pred := 1 }, 0x23, 0),
      (seUp, { ssyl 7 2 4 6 0 with pred := 1 }, 0x3d, 0)],
    x.1.solo x.2.1 x.2.2.1 x.2.2.2 := solo_of (by decide +kernel)

/-- Bank 0 in state `x`, bank 1 in state `y`, the security block serving. -/
def bankUp (x y : Nat) : State :=
  let s := (((up.setBank 0 x).setBank 1 y).setFlag F.SELFTEST_DONE true).setFld F.SE_STATUS_STATE 4
  { s with sec := { s.sec with dead := false } }
/-- The same with bank 0 armed; `c`: committed. -/
def armUp (x y : Nat) (c : Bool) : State := let s := bankUp x y; { s with itin := { s.itin with arm := some ⟨0, 4096, c⟩ } }
/-- Witnesses of ItineraryBanks. -/
theorem wit_ItineraryBanks : (bankUp 0 0).blockOn 9 = true ∧ (bankUp 0 0).bank 0 = 0 ∧ (bankUp 0 0).armed 0 = false ∧
    (bankUp 2 0).bank 0 = 2 ∧ (bankUp 2 0).bank 1 = 0 ∧ (bankUp 1 0).bank 0 = 1 ∧ (bankUp 1 0).secServes = true ∧ (bankUp 0 2).bank 1 = 2 ∧
    (bankUp 0 2).bank 0 ≠ 2 ∧ (armUp 3 0 false).armed 0 = true ∧ (bankUp 6 0).itin.teWait = 0 ∧ (bankUp 6 0).itin.drainTo ≤ (bankUp 6 0).cycle ∧
    (bankUp 6 5).bank 0 = 6 ∧ (bankUp 5 6).bank 0 ≠ 6 ∧ (bankUp 5 6).bank 1 = 6 ∧ (bankUp 3 0).bank 0 = 3 ∧ 8 % 2 ^ 21 / 4 * 4 / 2 ^ 20 = 0 := by
  decide +kernel

/-- Witnesses of ItinerarySwaps. -/
theorem wit_ItinerarySwaps : (bankUp 3 0).blockOn 9 = true ∧ (bankUp 3 0).bank 0 = 3 ∧ (bankUp 3 0).itin.arm = none ∧ (bankUp 3 0).bank 1 ≠ 6 ∧
    (bankUp 1 6).bank 1 = 6 ∧ (armUp 3 0 false).itin.arm = some ⟨0, 4096, false⟩ ∧ (armUp 3 0 true).itin.arm = some ⟨0, 4096, true⟩ ∧
    ((armUp 3 5 true).setFld F.ITIN_STATUS_RUN_BANK 1).runBank ≠ 0 ∧ ((armUp 3 5 true).setFlag F.ITIN_STATUS_RUNNING true).itinRuns = true ∧
    ((armUp 3 0 false).setFld (F.COMPAT_COND 2) 1).fld (F.COMPAT_COND 2) ≠ 0 ∧ (armUp 3 0 false).itin.gap.testBit 2 = false ∧
    up.tclkOn = true ∧ ({ up with itin := { up.itin with teWait := 3 } } : State).itin.teWait.testBit 1 = true := by decide +kernel

/-- Further witnesses of ItineraryBanks and ItinerarySwaps: the scrub while a verification runs, the commit point and the swap cycle reached. -/
theorem wit_SwapTimes : ((bankUp 2 0).setFlag F.ITIN_STATUS_BUSY true).flag F.ITIN_STATUS_BUSY = true ∧ (bankUp 3 0).flag F.ITIN_STATUS_BUSY = false ∧
    (armUp 3 0 false).cycle + 1024 < 4096 ∧ 4096 ≤ (atCycle 3072 (armUp 3 0 false)).cycle + 1024 ∧
    (atCycle 3072 (armUp 3 0 false)).itin.arm = some ⟨0, 4096, false⟩ ∧ 4096 ≤ (atCycle 4096 (armUp 3 0 true)).cycle ∧
    (atCycle 4096 (armUp 3 0 true)).itin.arm = some ⟨0, 4096, true⟩ ∧
    ((atCycle 4096 (armUp 3 5 true)).setFld (F.COMPAT_COND 2) 1).fld (F.COMPAT_COND 2) ≠ 0 ∧
    (atCycle 4096 (armUp 3 5 true)).itin.gap.testBit 2 = false := by decide +kernel

/-- The SE runs and serves MB1 and MB12, each bound to the PCIe host and the SE; `q` waits on MB1. -/
def fwUp (q : List (Option Word)) : State :=
  ((mbBind 1 1 4 (mbBind 12 1 4 seUp)).setMbDir 1 0 ⟨q, false, 0, 0, 0⟩).setRv (Reg.CTL 12 0) 0x00200007
/-- The same with the CO session of the PCIe host and a key in slot 2. -/
def coUp (q : List (Option Word)) : State :=
  let s := ((fwUp q).setFlag F.SEC_STATUS_CO_ACTIVE true).setFld F.CO_SESSION_CO_ID 1
  { s with sec := { s.sec with keys := [(2, some (7, []))] } }
/-- Witnesses of HostCommandsAnswered. -/
theorem wit_HostCommands : (fwUp [some 0x00010001, some 9]).fwDir 1 = some 0 ∧ ((fwUp [some 0x00010001, some 9]).mbDir 1 0).q.length = 2 ∧
    (0x00010001 : Word).toNat / 2 ^ 16 % 8 = 1 ∧ (fwUp [some 2]).mbLevel 1 1 = 0 ∧ (0x00030008 : Word).toNat % 256 = 8 ∧
    (fwUp [some 0x00030008, some 1, some 1, some 4]).mbBound 1 = true ∧ (fwUp [some 0x00030008, some 2, some 1, some 4]).mbBound 2 = false ∧
    (fwUp []).bindOk 2 1 4 = true ∧ (coUp [some 0x00010012, some 2]).fwDir 1 = some 0 ∧ (coUp [some 0x00010012, some 2]).coChannel 1 = true ∧
    ((coUp []).keyRec 2).isSome = true ∧ (0x00010011 : Word).toNat % 256 = 0x11 ∧ (0x18 : Word).toNat % 256 = 0x18 ∧
    (fwUp [some 0x00020001, some 9]).fwDir 1 = some 0 ∧ 1 < (0x00020001 : Word).toNat / 2 ^ 16 % 8 ∧ (fwUp []).fwDir 12 = some 0 ∧
    (fwUp []).mbGo 12 0 = true ∧ (fwUp []).mbGo 12 1 = false ∧ (fwUp []).se.resp = [] ∧ (fwUp []).fwMsg 12 = none ∧
    (fwUp []).rv (Reg.CTL 12 0) % 8 = 7 ∧ (fwUp []).rv (Reg.CTL 12 0) / 2 ^ 16 % 256 = 0x20 ∧
    ((fwUp []).setRv (Reg.CTL 12 0) 0x00100007).rv (Reg.CTL 12 0) / 2 ^ 16 % 256 = 0x10 ∧
    ((fwUp []).setRv (Reg.CTL 12 0) 0x01130007).rv (Reg.CTL 12 0) / 2 ^ 16 % 256 = 0x13 ∧
    ((fwUp []).setRv (Reg.CTL 12 0) 0x00190007).rv (Reg.CTL 12 0) / 2 ^ 16 % 256 = 0x19 := by decide +kernel

/-- The SE in state `x`. -/
def seIn (x : Nat) : State := up.setFld F.SE_STATUS_STATE x
/-- Witnesses of SupervisorBoot. -/
theorem wit_SupervisorBoot : (seIn 2).blockOn 10 = true ∧ (seIn 2).seState = 2 ∧ (seIn 5).seState = 5 ∧ (seIn 5).wHeld 6 0 = false ∧
    ((seIn 5).setRv (Reg.WHISTLE_HELD 6) 1).wHeld 6 0 = true ∧ ((seIn 1).setFlag F.NVS_STATUS_READY true).flag F.NVS_STATUS_READY = true ∧
    (((seIn 1).setFlag F.NVS_STATUS_READY true).setFlag F.SELFTEST_DONE true).flag F.SELFTEST_DONE = true ∧
    (((seIn 1).setFlag F.SELFTEST_DONE true).setFlag F.SELFTEST_PASS true).flag F.SELFTEST_PASS = true ∧
    ((seIn 1).setFlag F.SELFTEST_DONE false).flag F.SELFTEST_DONE = false ∧
    ((seIn 1).setFlag F.SEC_STATUS_ST_RUNNING true).flag F.SEC_STATUS_ST_RUNNING = true ∧ (seIn 3).seState = 3 := by decide +kernel

/-- MB1 with words in both directions, the SE off or on by the rung. -/
def crossUp : State := (fwUp [some 5]).setMbDir 1 1 ⟨[some 6, some 7], false, 0, 0, 0⟩
/-- Witnesses of MailboxChannels. -/
theorem wit_MailboxChannels : crossUp.sends .hostPcie ∧ crossUp.sends .se ∧ 10 ^ 9 < (2 * 10 ^ 9 : Nat) - max (crossUp.mbDir 1 0).since (crossUp.mbDir 1 1).since ∧
    crossUp.tlpOk .hostPcie 2 = true ∧ crossUp.hostOn = true ∧ crossUp.mbAccess 1 1 = .side 0 ∧ crossUp.mbAccess 1 4 = .side 1 ∧ crossUp.mbLevel 1 0 < 8 ∧
    8 ≤ (fwUp (List.replicate 8 (some 1))).mbLevel 1 0 ∧ (fwUp (List.replicate 8 (some 1))).mbAccess 1 1 = .side 0 ∧
    (crossUp.mbDir 1 1).q = [some 6, some 7] ∧ ((fwUp []).mbDir 1 1).q = [] ∧ crossUp.mbAccess 1 2 = .foreign ∧
    (crossUp.setFld F.RUNG_STATUS_RUNG 3).mbAccess 1 1 = .off ∧ (crossUp.setFld F.RUNG_STATUS_RUNG 3).hostOn = true ∧
    crossUp.mbAccess 12 4 = .side 1 ∧ crossUp.mbGo 12 1 = false ∧ crossUp.mbGo 12 0 = true ∧ crossUp.mbAccess 12 1 = .side 0 ∧
    crossUp.se.resp = [] ∧ crossUp.mbBound 2 = false ∧ crossUp.bindOk 2 1 4 = true ∧ crossUp.bindOk 2 4 1 = false ∧ crossUp.mbBound 1 = true ∧
    crossUp.mbFull 1 0 = true ∧ crossUp.mbFull 1 1 = true ∧ crossUp.flag (F.MB_CROSSED 1) = false := by
  unfold State.sends
  decide +kernel

/-- Channel 1 in state `k` with two entries of 256 and 8 bytes, in direction `dir`; the link is in L0 where `l0`. -/
def dmaUp (k dir : Nat) (l0 : Bool) : State :=
  let s := (((up.setFld (F.DMA_STATUS_STATE 1) k).setFld (F.DMA_CFG_DIR 1) dir).setRv (Reg.DMA_LIST_CNT 1) 2).setRv (Reg.DMA_TOTAL 1) 264
  let s := s.setDmaCh 1 ⟨[(256, 256), (1024, 8)], 0, 0, 0, false⟩
  { s with irq := { s.irq with linkL0 := l0 } }
/-- The same at its last entry, and within its first. -/
def dmaAt (e o : Nat) : State := (dmaUp 2 0 true).setDmaCh 1 ⟨[(256, 256), (1024, 8)], e, o, 0, false⟩
/-- Witnesses of DmaTransfers. -/
theorem wit_DmaTransfers : (dmaUp 0 0 true).sends .hostPcie ∧ (dmaUp 0 0 true).rv (Reg.DMA_OWNER 1) = 1 ∧
    (dmaUp 0 0 true).rv (Reg.DMA_OWNER 7) ≠ 1 ∧ (dmaUp 0 0 true).dmaState 1 = 0 ∧ (dmaUp 0 0 true).flag F.DMA_HALT_HALTED = false ∧
    (dmaUp 0 0 true).wHeld 5 1 = false ∧ (dmaUp 0 0 true).irq.linkL0 = true ∧ (dmaUp 0 0 false).irq.linkL0 = false ∧
    (dmaUp 1 0 true).dmaState 1 ≠ 0 ∧ (dmaUp 1 0 true).dmaState 1 = 1 ∧ (dmaUp 1 0 true).hostOn = true ∧
    (dmaCheck 1 0 [(256, 256, 0), (1024, 8, 0)] (2 ^ 40) (2 ^ 41) (2 ^ 42) (dmaUp 1 0 true)).isNone = true ∧
    (dmaCheck 1 0 [(256, 256, 0), (1024, 4, 0)] (2 ^ 40) (2 ^ 41) (2 ^ 42) (dmaUp 1 0 true)).isNone = false := by
  unfold State.sends
  decide +kernel
/-- The same with governor `g` granting nothing. -/
def dmaDry (g : Nat) : State := (dmaUp 2 0 true).setGov g ⟨0, false, false⟩
theorem wit_DmaGrants : (dmaUp 2 0 true).govGrants 2 ((dmaUp 2 0 true).burstTlps 1 * tlpCharge) = true ∧ (dmaUp 2 0 true).govGrants 1 9600000 = true ∧
    (dmaDry 2).govGrants 2 ((dmaDry 2).burstTlps 1 * tlpCharge) = false ∧ (dmaDry 1).govGrants 2 ((dmaDry 1).burstTlps 1 * tlpCharge) = true ∧
    (dmaDry 1).govGrants 1 9600000 = false ∧ (dmaDry 1).dmaPick = some 1 ∧ (dmaDry 2).dmaPick = some 1 ∧ (dmaDry 1).dmaReach 0 = true ∧
    (dmaDry 2).dmaReach 0 = true := by decide +kernel
theorem wit_DmaBursts : (dmaUp 2 0 true).dmaPick = some 1 ∧ (dmaUp 2 1 true).dmaPick = some 1 ∧
    ((dmaUp 2 0 true).dmaCh 1).entries[((dmaUp 2 0 true).dmaCh 1).ent]? = some (256, 256) ∧ (dmaUp 2 0 true).dmaReach 0 = true ∧
    ((dmaUp 2 0 true).setFlag F.FAB_STATUS_FCLK_RUN false).dmaReach 0 = false ∧
    ((dmaUp 2 0 true).setFlag F.FAB_STATUS_FCLK_RUN false).dmaPick = some 1 ∧ (dmaUp 2 0 true).dmaSpace 1 = 0 ∧
    (dmaUp 2 0 true).dmaWrites 1 = true ∧ (dmaUp 2 1 true).dmaWrites 1 = false ∧ ((dmaAt 1 0).dmaCh 1).entries[1]? = some (1024, 8) ∧
    (dmaAt 0 8).dmaPick = some 1 ∧ 8 + min (256 - 8) (256 - (256 + 8) % 256) = 256 ∧ (dmaAt 0 0).dmaTags = 0 ∧
    (((dmaUp 2 0 true).setDmaCh 1 ⟨[(264, 256), (1024, 8)], 0, 0, 0, false⟩).dmaCh 1).entries[0]? = some (264, 256) ∧
    ({ (dmaUp 0 0 true).setFld F.DMA_HALT_TAGS 3 with dma := { (dmaUp 0 0 true).dma with haltAt := 10 ^ 30 } }).dmaTags ≠ 0 ∧
    (dmaUp 0 0 true).sends .se ∧ Master.se.id = 4 ∧ Master.hostPcie.id ≠ 4 := by
  unfold State.sends
  decide +kernel

/-- A witness of IdentificationRegister. -/
theorem wit_IdentificationRegister : up.inReset = false := by decide +kernel

/-- In Maintenance or not, with TMUX pin 1 in a phase of its switch. -/
def tmuxUp (mt : Bool) (ph : Nat) : State := (up.setFlag F.SEC_STATUS_MAINT mt).setTmux 1 ⟨0x20, ph, none⟩
/-- TMUX pin 1 shows a level. -/
def lvTmux : State := (up.setFlag F.SEC_STATUS_MAINT true).setTmux 1 ⟨0x80, 0, none⟩
/-- Witnesses of TestAccessCommands. -/
theorem wit_TestAccessCommands : (tmuxUp true 0).hears .hostPcie ∧ ((tmuxUp true 0).tmux 1).sel ≠ 5 ∧
    isLevel ((⟨0x20, 0, none⟩ : TmuxPin).sel % 256) = false ∧ isLevel ((lvTmux.tmux 1).sel % 256) = true ∧ (lvTmux.tmux 1).phase ≠ 2 ∧
    lvTmux.flag F.SEC_STATUS_MAINT = true ∧ lvTmux.inReset = false ∧ lvTmux.jtagExt = false ∧
    { lvTmux with tst := { lvTmux.tst with inst := 3 } }.jtagExt = true ∧ (tmuxUp true 2).jtagExt = false ∧ ((tmuxUp true 2).tmux 1).phase = 2 ∧
    (tmuxUp false 0).flag F.SEC_STATUS_MAINT = false ∧ (tmuxUp true 2).flag F.SEC_STATUS_MAINT = true ∧ ((tmuxUp true 2).tmux 1).phase = 2 ∧
    ((tmuxUp true 1).tmux 1).phase = 1 ∧ ((tmuxUp true 0).tmux 1).phase = 0 ∧ (tmuxUp true 0).tclkOn = true ∧
    isComparator (((tmuxUp true 0).tmux 1).sel % 256) = true ∧ (tmuxUp true 0).inReset = false := by
  unfold State.hears State.reaches
  decide +kernel

/-- The store is up, with `n` words of the SE in its buffer and master 1's stream at `a`, stopped or not; with a password on C0. -/
def nvsUpS (n a : Nat) (stop : Bool) (pw fails : Nat) : State :=
  let s := (up.setFlag F.NVS_STATUS_READY true).setFlag F.NVS_STATUS_RECALL false
  let s := s.setNvsBank 1 ⟨a, a, 15, 0, 5, stop⟩
  { s with nvs := { s.nvs with buf := List.replicate n ⟨4, 0x8000, 0x8000, 15, 7⟩, pw := [(0, pw), (1, pw)], fails := [(0, fails)] } }
/-- Witnesses of NvsWindowAndPasswords. -/
theorem wit_NvsWindow : (nvsUpS 1 0x18000 false 9 0).nvsUp = true ∧ (nvsUpS 1 0x18000 false 9 0).reaches .hostPcie 2 ∧ (nvsUpS 1 0x18000 false 9 0).hears .hostPcie ∧
    (nvsDrainOf 1 16 (nvsUpS 1 0x18000 false 9 0)).nvsMayRead 1 0x18000 = true ∧ 0x18000 + 4 ≤ nvsEnd (nvsRegion 0x18000) ∧
    (nvsDrainOf 1 16 (nvsUpS 1 0x8000 false 9 0)).nvsMayRead 1 0x8000 = false ∧ (nvsUpS 16 0 false 9 0).nvs.buf.length = 16 ∧
    ((nvsUpS 1 0 true 9 0).nvsBank 1).stopped = true ∧ (nvsUpS 1 0 false 9 0).nvsMayWrite 1 0 = false ∧
    (nvsUpS 1 0x18000 false 9 0).nvsMayWrite 1 0x18000 = true ∧ ((nvsUpS 1 0 false 9 0).nvsBank 4).stopped = false ∧
    (laneBytes ⟨4, 0x17ffe, 0x8000, 15, 7⟩).any (fun x => decide (nvsEnd (nvsRegion 0x8000) ≤ x.1)) = true ∧
    (laneBytes ⟨4, 0x8000, 0x8000, 15, 7⟩).any (fun x => decide (nvsEnd (nvsRegion 0x8000) ≤ x.1)) = false := by
  unfold State.hears State.reaches
  decide +kernel
theorem wit_NvsPasswords : Tbl.get (fun _ => false) (nvsUpS 0 0 false 5 0).nvs.locked 0 = false ∧
    ((nvsUpS 0 0 false 5 0).nvsBank 1).pw = (nvsUpS 0 0 false 5 0).nvsPw 0 0 ∧ ((nvsUpS 0 0 false 9 7).nvsBank 1).pw ≠ (nvsUpS 0 0 false 9 7).nvsPw 0 1 ∧
    8 ≤ Tbl.get (fun _ => 0) (nvsUpS 0 0 false 9 7).nvs.fails 0 + 1 ∧ Tbl.get (fun _ => 0) (nvsUpS 0 0 false 9 0).nvs.fails 0 + 1 < 8 ∧
    (nvsUpS 0 0 false 9 0).nvsOpen 1 0 1 = false ∧ (nvsUpS 0 0 false 9 0).nvsOpen 1 1 1 = true ∧ (nvsUpS 0 0 false 9 0).blockOn 12 = true ∧
    Tbl.get (fun _ => false) [(0, true)] 0 = true := by decide +kernel

/-- The store is up with counter 40 at `v`, the increments `jobs` waiting and an append in progress or not. -/
def ctrUp (v : Nat) (jobs : List Nat) (log : Bool) (owed : Nat) : State :=
  let s := nvsUpS 0 0 false 9 0
  { (s.setFld F.SE_STATUS_STATE 4).setBank 0 3 with
    nvs := { s.nvs with ctr := [(40, v)], jobs := jobs, log := if log then some [] else none }, se := { s.se with owed := owed },
    sec := { s.sec with commit := some (40, 3) } }
/-- Witnesses of NvsCountersAndLog. -/
theorem wit_NvsCountersAndLog : (ctrUp 1 [] false 0).nvsUp = true ∧ (ctrUp 1 [] false 0).ctr 40 ≠ 2 ^ 64 - 1 ∧
    (ctrUp (2 ^ 64 - 1) [] false 0).ctr 40 = 2 ^ 64 - 1 ∧ (ctrUp 2 [40] false 0).nvs.jobs = [40] ∧ (ctrUp 2 [40] false 0).blockOn 12 = true ∧
    (ctrUp 2 [40] false 0).sec.commit = some (40, 3) ∧ 3 ≤ (ctrUp 2 [40] false 0).ctr 40 + 1 ∧ (ctrUp 1 [40] false 0).ctr 40 + 1 < 3 ∧
    (ctrUp 1 [1] false 0).bank 0 = 3 ∧ (ctrUp 1 [1] false 0).rv (Reg.BANK_SECVER 0) < (ctrUp 1 [1] false 0).ctr 1 + 1 ∧
    (ctrUp 1 [40, 41] false 0).nvs.jobs = [40, 41] ∧ (ctrUp 1 [] false 0).ctr 41 ≠ 2 ^ 64 - 1 ∧ (ctrUp 1 [] true 0).nvs.log ≠ none ∧
    (ctrUp 1 [] false 0).nvs.log = none ∧ (ctrUp 1 [] true 0).nvs.log = some [] ∧ (ctrUp 1 [] true 0).se.owed = 0 ∧
    (ctrUp 1 [] true 2).se.owed ≠ 0 ∧ (ctrUp 1 [] true 2).nvsUp = true ∧ (ctrUp 1 [] true 2).seState = 4 ∧
    ((ctrUp 1 [] false 0).setFlag F.NVS_STATUS_RECALL true).flag F.NVS_STATUS_RECALL = true ∧ (ctrUp 1 [] false 0).sec.tamperOwed = false ∧
    Master.hostPcie.id ≤ 4 ∧ Master.se.id = 4 := by decide +kernel

/-- The security block at work: a CO session of the PCIe host, no tests running, the pool full, OTP slots 0 and 1 programmed. -/
def secUp : State :=
  let s := (up.setFlag F.SEC_STATUS_ST_RUNNING false).setFlag F.SEC_STATUS_CO_ACTIVE true
  let s := ((s.setFld F.CO_SESSION_CO_ID 1).setFlag F.SEC_STATUS_POOL_FULL true).setFld F.SE_STATUS_STATE 4
  let s := ((s.setFld ⟨Reg.OTP_SLOT 0, 0, 2⟩ 1).setFld ⟨Reg.OTP_SLOT 1, 0, 2⟩ 1).setFld ⟨Reg.OTP_SLOT 4, 0, 2⟩ 1
  { s with sec := { s.sec with stage := [(128, 7)], chal := some ([1, 2], 0), keys := [(3, some (9, []))] } }
/-- Witnesses of SecurityCommands. -/
theorem wit_SecurityCommands : secUp.blockOn 13 = true ∧ onBus .hostPcie = true ∧ onBus .se = true ∧
    (secUp.setFlag F.SEC_STATUS_ST_RUNNING true).flag F.SEC_STATUS_ST_RUNNING = true ∧ secUp.flag F.SEC_STATUS_ST_RUNNING = false ∧
    (secUp.setFlag F.SEC_STATUS_CO_ACTIVE false).flag F.SEC_STATUS_CO_ACTIVE = false ∧ Master.hostPcie.id ≠ 4 ∧
    ((secUp.setFld F.SE_STATUS_STATE 6).setFlag F.SEC_STATUS_ST_FAIL true).seState = 6 ∧ ¬ secUp.seState = 6 ∧ secUp.sec.dead = false ∧
    secUp.flag F.SEC_STATUS_MAINT = false ∧ secUp.flag F.SEC_STATUS_CO_ACTIVE = true ∧ secUp.fld F.CO_SESSION_CO_ID = 1 ∧ secUp.otp 2 = 0 ∧
    secUp.otp 0 = 1 ∧ ((List.range 4).filter (fun j => secUp.otp (0 / 4 * 4 + j) == 1)).length = 2 ∧ secUp.otp 4 = 1 ∧
    ((List.range 4).filter (fun j => secUp.otp (4 / 4 * 4 + j) == 1)).length = 1 := by decide +kernel
/-- Witnesses of the challenge's life: live at 10 s, and gone after. -/
theorem wit_Challenge : secUp.now ≤ 0 + 10 ^ 13 ∧ 0 + 10 ^ 13 < { secUp with now := 10 ^ 13 + 1 }.now ∧
    { secUp with now := 10 ^ 13 + 1 }.sec.chal = some ([1, 2], 0) ∧ secUp.now < 0 + 10 ^ 13 ∧ secUp.nvs.jobs = [] ∧
    ({ secUp with sec := { secUp.sec with dead := true } }).sec.dead = true := by decide +kernel
theorem wit_SecurityCommits : (secUp.setRv Reg.FW_SECVER 5).rv Reg.FW_SECVER = 5 ∧ secUp.ctr 0 = 0 ∧ secUp.rv Reg.FW_SECVER ≤ secUp.ctr 0 ∧
    secUp.ctr 0 + 65536 < (secUp.setRv Reg.FW_SECVER 70000).rv Reg.FW_SECVER ∧ secUp.itin.arm = none ∧
    ((armUp 3 0 false).itin.arm).isSome = true ∧ secUp.flag F.CO_SESSION_AUTH_LOCK = false ∧ secUp.flag F.SEC_STATUS_TAMPER_HELD = false ∧
    (secUp.setFlag F.CO_SESSION_AUTH_LOCK true).flag F.CO_SESSION_AUTH_LOCK = true ∧ secUp.drbgOk = true ∧
    (secUp.setFlag F.SEC_STATUS_ES_FAIL true).drbgOk = false ∧ secUp.sec.chal = some ([1, 2], 0) ∧
    ({ secUp with sec := { secUp.sec with chal := none } }).sec.chal = none ∧ secUp.keyRec 2 = none ∧ (secUp.keyRec 3).isSome = true ∧
    beVal ((secUp.staged 4 76).take 4) = 0x7000000 ∧ beVal ((secUp.staged 1 76).take 4) = 0 ∧
    (List.range 16).any (fun k => (secUp.keyRec k).map Prod.fst == some 0x7000000) = false ∧ secUp.fabPowered = true ∧
    (secUp.setFld F.SELFTEST_T9 0xff).pipeOk 3 1 = true ∧ secUp.flag F.SEC_STATUS_ZEROISING = false := by decide +kernel

/-- Witnesses of SecurityEvents. -/
theorem wit_SecurityEvents : (fwUp [some 1]).sends .hostPcie ∧ secUp.hostOn = true ∧ (fwUp [some 1]).mbSide 1 1 = some 0 ∧ (fwUp [some 1]).mbSide 12 4 = some 1 ∧
    isBlockCh 1 = false ∧ isBlockCh 12 = true ∧ (fwUp [some 1]).hostOn = true ∧ (fwUp [some 1]).wHeld 10 1 = false ∧
    ((fwUp [some 1]).setRv (Reg.WHISTLE_HELD 10) 2).wHeld 10 1 = true ∧
    (secUp.setFlag F.SEC_STATUS_ZEROISING true).flag F.SEC_STATUS_ZEROISING = true ∧ secUp.flag F.SEC_STATUS_ZEROISING = false ∧
    secUp.blockOn 13 = true ∧ (secUp.setFlag F.SEC_STATUS_ST_RUNNING true).flag F.SEC_STATUS_ST_RUNNING = true ∧
    (secUp.setFlag F.SEC_STATUS_KEYS_FILLING true).flag F.SEC_STATUS_KEYS_FILLING = true ∧ secUp.fabPowered = true ∧
    secUp.keyRec 3 = some (9, []) ∧ (secUp.setFld F.SELFTEST_T9 0xff).pipeOk 0 1 = true ∧ State.reset.inReset = true ∧ secUp.inReset = false ∧
    secUp.rung ≤ 2 ∧ 2 < (secUp.setFld F.RUNG_STATUS_RUNG 3).rung ∧ secUp.blockOn 12 = true ∧
    (secUp.setFlag F.NVS_STATUS_RECALL true).flag F.NVS_STATUS_RECALL = true ∧
    ({ secUp with sec := { secUp.sec with tamperOwed := true } }).sec.tamperOwed = true := by
  unfold State.sends
  decide +kernel

/-- In rung `r` with a move in progress or not. -/
def rungUp (r tg : Nat) (mv : Bool) : State := ((up.setFld F.RUNG_STATUS_RUNG r).setFld F.RUNG_STATUS_TARGET tg).setFlag F.RUNG_STATUS_MOVING mv
/-- APLL `a` searched, with FCLK stopped. -/
def searchUp (a : Nat) : State := (up.setFlag F.FAB_STATUS_FCLK_RUN false).setFld (F.APLL_STATUS_STATE a) 2
/-- Witnesses of LadderRequestsAndWakes. -/
theorem wit_LadderRequests : (rungUp 0 0 false).hears .hostPcie ∧ (rungUp 0 0 false).rung < 3 ∧
    (rungUp 0 0 false).rung = 0 ∧ (rungUp 0 0 false).moving = false ∧ (rungUp 1 2 true).moving = true ∧ (rungUp 0 0 false).supvNeeded = false ∧
    ((rungUp 0 0 false).setFlag F.SEC_STATUS_ZEROISING true).supvNeeded = true ∧ (rungUp 3 3 false).inReset = false ∧
    ((rungUp 3 3 false).setFlag F.WAKE_CFG_TIMER_EN true).timerDue = true ∧ (rungUp 3 3 false).wakeRung < (rungUp 3 3 false).rung ∧
    ¬ (3 : Nat) < 3 ∧ ((rungUp 3 3 false).setFld F.WAKE_CFG_WAKE_RUNG 3).wakeRung = 3 ∧
    ((rungUp 4 4 false).setFlag F.WAKE_CFG_I2C_EN true).flag F.WAKE_CFG_I2C_EN = true ∧ (rungUp 4 4 false).jtagExt = false := by
  unfold State.hears State.reaches
  decide +kernel
theorem wit_LadderLock : (rungUp 2 2 false).rung = 2 ∧ (teUp.setFld F.RUNG_STATUS_RUNG 2).teRuns 0 = true ∧ (searchUp 0).apllState 0 = 2 ∧
    (searchUp 0).apllAllowed 0 = true ∧ pfdUnits ((searchUp 0).fld (F.APLL_CFG_PFDSEL 0)) = pfdUnits ((searchUp 0).apll 0).pfd ∧
    (searchUp 0).flag (F.APLL_STATUS_FREQ_PEND 0) = false ∧ (searchUp 0).fclkOn = false ∧ (searchUp 0).fab.keep = false ∧
    ({ searchUp 0 with fab := { (searchUp 0).fab with keep := true } }).fab.keep = true := by decide +kernel

/-- In rung `r` on the way to `tg` with a step in progress or not. -/
def stepUp (r tg : Nat) (st : Option Nat) : State := { rungUp r tg true with lad := { up.lad with step := st } }
/-- The level stands at its target. -/
def lvUp (s : State) : State := s.setFld F.RATION_LEVEL_TARGET_MA (s.fld F.RATION_LEVEL_LEVEL_MA)
/-- Witnesses of LadderSteps. -/
theorem wit_LadderSteps : (stepUp 0 4 none).moving = true ∧ (stepUp 0 4 none).mayStep 0 1 = true ∧ (stepUp 0 4 (some 1)).lad.step = some 1 ∧
    (lvUp (stepUp 0 4 (some 1))).levelled = true ∧ (stepUp 1 4 none).mayStep 1 2 = true ∧ (stepUp 2 3 none).mayStep 2 3 = true ∧
    ((stepUp 2 3 none).setFlag F.SEC_STATUS_ZEROISING true).supvNeeded = true ∧ (stepUp 2 3 none).supvNeeded = false ∧
    (stepUp 2 3 none).timerDue = false ∧ ((stepUp 2 3 none).setFlag F.WAKE_CFG_TIMER_EN true).timerDue = true ∧ (stepUp 2 3 none).wakeRung < 3 ∧
    (stepUp 3 4 none).mayStep 3 4 = true ∧ (stepUp 3 4 none).rat.htrPa = 0 ∧
    ({ stepUp 3 4 none with rat := { up.rat with htrPa := 5 } }).rat.htrPa ≠ 0 ∧ (stepUp 3 4 (some 4)).rung = 3 ∧
    (stepUp 4 0 none).mayStep 4 3 = true ∧ (stepUp 3 0 none).mayStep 3 2 = true ∧ ((stepUp 2 0 (some 2)).setFld F.SE_STATUS_STATE 2).seState ≠ 1 ∧
    ((stepUp 2 0 (some 2)).setFlag F.SELFTEST_DONE true).flag F.SELFTEST_DONE = true ∧ (stepUp 3 0 none).wHeld 6 0 = false ∧
    (stepUp 2 0 none).mayStep 2 1 = true ∧ (stepUp 2 0 none).flag F.TB_STATUS_TB_WARM = false ∧
    ((stepUp 2 0 none).setFlag F.TB_STATUS_TB_WARM true).flag F.TB_STATUS_TB_WARM = true := by decide +kernel
theorem wit_LadderAscent : (stepUp 1 0 none).mayStep 1 0 = true ∧ (up10 (stepUp 1 0 none)).hikeReady = false ∧
    (let s := (((lvUp (stepUp 1 0 (some 0))).setFld (F.APLL_STATUS_STATE 0) 3).setFlag F.HAMPER_STATUS_READY true).setFlag F.SEC_STATUS_KEYS_FILLING false
     (((s.setFlag (F.PC_TRACK_SYNC 0) true).setFlag (F.PC_TRACK_SYNC 1) true).setFlag (F.PC_TRACK_SYNC 2) true).setFlag
      (F.PC_TRACK_SYNC 3) true).hikeReady = true ∧
    ((lvUp (stepUp 1 0 (some 0))).setFld (F.APLL_STATUS_STATE 0) 0).apllState 0 = 0 ∧ (stepUp 1 0 (some 0)).flag (F.APLL_CFG_EN 0) = true ∧
    (lvUp (stepUp 1 0 (some 0))).levelled = true ∧ (stepUp 1 0 none).inReset = false := by decide +kernel

/-- Witnesses of ResetsAndRelease. -/
theorem wit_ResetsAndRelease : State.reset.inReset = true ∧ State.reset.flag F.WHISTLE_PIN_LEVEL = true ∧
    (State.reset.setFlag F.WHISTLE_PIN_LEVEL false).flag F.WHISTLE_PIN_LEVEL = false ∧ up.inReset = false ∧ up.hears .hostPcie ∧
    up.tbLocked = false ∧ (up.lock Reg.TB_CTRL).tbLocked = true ∧ (up.lock Reg.TB_CTRL).flag F.BOOT_STATUS_FCLK_RUN = false ∧
    (up.lock Reg.TB_CTRL).hears .hostPcie ∧
    ({ up with sec := { up.sec with otpAt := some (3, 0) } }).sec.otpAt = some (3, 0) ∧ up.now ≤ 0 + 10 ^ 9 ∧
    true ≠ ((2 : Nat) == 0) := by
  unfold State.hears State.reaches
  decide +kernel

/-- A message waits in source 4's buffer, its record VALID or not; on a member of a READY ring of four where `ring`. -/
def fltUp (valid ring : Bool) : State :=
  let s := (up.sendFault 4 kDmaMisalign 9).setFlag (F.FLT_VALID (if ring then 36 else 4)) valid
  if ring then (((s.setFlag F.DZ_STATUS_MASTER false).setFld F.DZ_STATUS_ID 1).setFld F.DZ_STATUS_STATE 6).setFld F.DZ_STATUS_SIZE 4 else s
/-- Index `i` of target `g` held, idle or not, with a release that waits or not. -/
def heldUp (g i : Nat) (idle rel : Bool) : State :=
  let s := (up.setFlag ⟨Reg.WHISTLE_HELD g, i, 1⟩ true).setFlag ⟨Reg.WHISTLE_IDLE g, i, 1⟩ idle
  s.setHold g i ⟨0, 5, none, if rel then some (0, 6, none) else none⟩
/-- Witnesses of FaultsAndWhistles. -/
theorem wit_Faults : (fltUp false false).hostOn = true ∧ up.fbuf 4 = .reset ∧ ((fltUp false false).fbuf 4).q.length = 1 ∧
    (fltUp false false).flag (F.FLT_VALID 4) = false ∧ (fltUp true false).flag (F.FLT_VALID 4) = true ∧ (fltUp false true).dzReady = true ∧
    (fltUp false true).dzMaster = false ∧ (fltUp true true).flag (F.FLT_VALID (32 * (fltUp true true).casc + 4)) = true ∧
    (fltUp false false).flag (F.FLT_STICKY 4) = false ∧ (fltUp false false).fld F.FLT_STATUS_NSET < 256 ∧ up.hears .se ∧
    Master.se.id = 4 ∧ Master.hostPcie.id ≠ 4 ∧ up.wHeld 9 1 = false ∧ up.wOn 9 1 = true ∧ (heldUp 9 1 true false).wHeld 9 1 = true ∧
    (up.setFlag F.FAB_STATUS_FCLK_RUN false).wOn 9 1 = false ∧ (seIn 4).wHeld 6 0 = false ∧ (seIn 4).blockOn 10 = true ∧ (seIn 4).seState = 4 ∧
    (dmaUp 2 0 true).dmaState 1 ≠ 0 ∧ (dmaUp 2 0 true).wHeld 5 1 = false := by
  unfold State.hears State.reaches
  decide +kernel
theorem wit_Whistles : (fltUp false true).dzReady = true ∧ 3 < (fltUp false true).fld F.DZ_STATUS_SIZE ∧ up.dzReady = false ∧
    (fltUp false true).hears .hostPcie ∧
    (wNames 9 1).any (fun j => up.wHeld 9 j) = false ∧ ({ up with flt := { up.flt with pinLow := true } }).flt.pinLow = true ∧ 1 < wCount 9 ∧
    (heldUp 9 1 true false).wIdle 9 1 = true ∧ (heldUp 9 1 false false).wIdle 9 1 = false ∧ up.flt.pinLow = false ∧ wNames 9 1 ≠ [] ∧
    (heldUp 9 1 false false).wDrained 9 1 = true ∧ ((heldUp 9 1 false false).wHold 9 1).rel = none ∧
    ((heldUp 9 1 false true).wHold 9 1).rel.isSome = true ∧
    ((heldUp 2 1 false false).setPe 1 { PePart.reset with insts := [inst0] }).wDrained 2 1 = false ∧
    State.reset.inReset = true ∧ up.inReset = false ∧ (seIn 4).inReset = false := by
  unfold State.hears State.reaches
  decide +kernel

/-- The lane in state `st`, on a master or on member 1, with MB12 bound to peer 2 (as device 18) and the SE. -/
def dzIn (st : Nat) (ms : Bool) : State :=
  let s := (((mbBind 12 18 4 seUp).setFld F.DZ_STATUS_STATE st).setFlag F.DZ_STATUS_MASTER ms).setFld F.DZ_STATUS_ID (if ms then 0 else 1)
  let s := (s.setFld F.DZ_STATUS_SIZE 4).setFld (F.APLL_STATUS_STATE 0) 3
  { s with dz := { s.dz with locked := decide (st = 3), sent := some (1, 2), mark := some (some 5, 7) } }
/-- Witnesses of DaisyCascade. -/
theorem wit_DaisyLane : (dzIn 0 true).blockOn 15 = true ∧ (1 : Word).getLsbD 0 = true ∧ (dzIn 0 true).dzState = 0 ∧
    (dzIn 0 true).flag F.DZ_STATUS_STRAP_ERR = false ∧ 3 ≤ (dzIn 0 true).apllState 0 ∧ (0 : Word).getLsbD 0 = false ∧ (dzIn 1 true).dzState = 1 ∧
    (dzIn 2 true).dzState = 2 ∧ (dzIn 3 true).dzState = 3 ∧ (dzIn 3 true).dzMaster = true ∧ (dzIn 4 true).dzState = 4 ∧ (dzIn 3 true).dz.locked = true ∧
    ((dzIn 3 true).setFld F.DZ_CTRL_EXPECT 5).fld F.DZ_CTRL_EXPECT = 5 ∧ (dzIn 3 true).fld F.DZ_CTRL_EXPECT = 0 ∧ (dzIn 3 false).dzMaster = false ∧
    (dzIn 3 false).casc = 1 ∧ (dzIn 5 true).dzState = 5 ∧ (dzIn 6 true).dzState = 6 ∧ (dzIn 2 true).dz.locked = false ∧ (dzIn 6 true).hears .hostPcie ∧
    (dzIn 4 true).dz.since + (dzIn 4 true).dzLimit ≤ { dzIn 4 true with now := 10 ^ 12 }.now ∧ (dzIn 4 true).now < (dzIn 4 true).dz.since + (dzIn 4 true).dzLimit ∧ (dzIn 6 true).rung = 0 ∧ ((dzIn 6 true).setFld F.RUNG_STATUS_RUNG 2).rung ≠ 0 ∧
    ((dzIn 6 true).setFld F.RUNG_STATUS_RUNG 2).hears .hostPcie := by
  unfold State.hears State.reaches
  decide +kernel
theorem wit_DaisyReady : (dzIn 6 true).dzReady = true ∧ (dzIn 5 true).dzReady = false ∧ (((dzIn 6 true).setTs 0 { (dzIn 6 true).tsp 0 with run := true }).tsp 0).run = true ∧
    (dzIn 6 true).dz.sent = some (1, 2) ∧ (dzIn 6 false).dzReady = true ∧ (dzIn 6 false).dz.mark = some (some 5, 7) ∧
    (dzIn 6 false).fld ⟨Reg.DZ_HOP_IN, 0, 24⟩ = (dzIn 6 false).dz.target ∧ (dzIn 6 true).mbAccess 13 18 = .foreign ∧
    (dzIn 6 true).mbAccess 12 18 = .side 0 ∧ (dzIn 6 true).mbGo 12 0 = false ∧ (dzIn 6 true).mbSide 12 18 = some 0 ∧
    Tbl.get (fun _ => []) (dzIn 6 true).se.resp 12 = ([] : List BlkOut) ∧ ((dzIn 6 true).setRv (Reg.CTL 12 1) 1).mbGo 12 1 = true ∧ wWord 9 1 1 (some 1) < 2 ^ 32 ∧
    (dzIn 6 false).casc = 1 ∧ 1 < wCount 9 ∧ (dzIn 6 false).wHeld 9 1 = false ∧ (dzIn 6 false).wOn 9 1 = true ∧ (dzIn 6 true).hostOn = true ∧
    (dzIn 6 true).flag (F.FLT_VALID 40) = false := by decide +kernel

end Sys2Proof.Tests
end

section
/-! What a reset of the endpoint does to the interrupt part: the mailboxes, NVS accesses, CO session and DMA channels that it ends leave that
part alone, and the sending of messages touches only its pending bits and the conditions seen (R71, R399, R424, R514). -/

namespace Sys2Proof.Machine

/-! ### A loop keeps what each of its rounds keeps -/

theorem forEach_keeps {α β : Type} {g : State → β} {f : State → α → State} (hf : ∀ s a, g (f s a) = g s) (l : List α) (s : State) :
    g (forEach l f s) = g s := by
  induction l generalizing s with
  | nil => rfl
  | cons a t ih => exact (ih (f s a)).trans (hf s a)

/-! ### The reset of a side leaves the interrupt part alone -/

@[simp] theorem dzSend_irq (k : Nat) (m : DzMsg) (s : State) : (dzSend k m s).irq = s.irq := by
  unfold dzSend
  split <;> rfl

@[simp] theorem tunnelSend_irq (n d : Nat) (m : State → DzMsg) (s : State) : (tunnelSend n d m s).irq = s.irq := by
  unfold tunnelSend
  split
  · split
    · exact dzSend_irq _ _ s
    · rfl
  · rfl

@[simp] theorem mbUncross_irq (n : Nat) (s : State) : (mbUncross n s).irq = s.irq := by
  unfold mbUncross
  split
  · rfl
  · exact s.setFlag_irq _ _

@[simp] theorem mbDiscard_irq (n d : Nat) (s : State) : (mbDiscard n d s).irq = s.irq := by
  unfold mbDiscard
  simp only [tunnelSend_irq, mbUncross_irq, State.bump_irq, State.setFlag_irq]
  split <;> rfl

@[simp] theorem mbMark_irq (n d : Nat) (s : State) : (mbMark n d s).irq = s.irq := by
  unfold mbMark
  simp only
  split
  · exact tunnelSend_irq _ _ _ _
  · split <;> rfl

@[simp] theorem mbSideReset_irq (m : Nat) (s : State) : (mbSideReset m s).irq = s.irq := by
  refine forEach_keeps (g := State.irq) (fun s n => ?_) _ s
  split
  · split <;> simp
  · rfl

@[simp] theorem nvsCloseAll_irq (m : Nat) (s : State) : (nvsCloseAll m s).irq = s.irq :=
  forEach_keeps (g := State.irq) (fun s _ => s.setOpen_irq _ _ _ _) _ s

@[simp] theorem coEnd_irq (s : State) : (coEnd s).irq = s.irq := by
  unfold coEnd
  split <;> rfl

/-- The mailbox sides, the NVS accesses and the CO session that end with a side hold nothing of the endpoint (R399, R438, R463). -/
@[simp] theorem sideReset_irq (m : Nat) (s : State) : (sideReset m s).irq = s.irq := by
  unfold sideReset
  simp only
  split <;> simp

/-! ### The halt of the DMA engine leaves the interrupt part alone -/

@[simp] theorem dmaEnd_irq (c result : Nat) (s : State) : (dmaEnd c result s).irq = s.irq := by
  unfold dmaEnd
  simp only
  split <;> rfl

@[simp] theorem dmaEndAll_irq (result : Nat) (s : State) : (dmaEndAll result s).irq = s.irq := by
  refine forEach_keeps (g := State.irq) (fun s c => ?_) _ s
  split
  · rfl
  · exact dmaEnd_irq c result s

@[simp] theorem dmaHalt_irq (cause tag addr tags : Nat) (s : State) : (dmaHalt cause tag addr tags s).irq = s.irq := by
  simp [dmaHalt]

@[simp] theorem dmaLinkDown_irq (s : State) : (dmaLinkDown s).irq = s.irq := by
  unfold dmaLinkDown
  split
  · exact dmaHalt_irq _ _ _ _ s
  · rfl

/-! ### The endpoint after it went down -/

/-- What the endpoint's reset, or link down, leaves of the interrupt part: all but the conditions seen and the reference clock is set anew,
and the link stays in L0 only where `linkStays` (R71, R514). -/
@[simp] theorem endpointDown_irq (linkStays perst : Bool) (s : State) :
    (endpointDown linkStays perst s).irq = { s.irq with
      mask := 0xffffffff, pend := 0, fresh := 0xffffffff, enabled := false, d3hot := false, table := [],
      linkL0 := linkStays && s.irq.linkL0, perstLow := perst } := by
  simp [endpointDown, endpointReset]

/-! ### What the sending of messages leaves alone -/

/-- A function of the state that reads nothing that the sending of MSI-X messages changes: not what has left the device, the conditions
seen, or which vectors wait (R71). -/
def SendBlind {β : Type} (g : State → β) : Prop :=
  ∀ (s : State) (o : List Out) (hc pend fresh : Word), g { s with out := o, irq := { s.irq with hc := hc, pend := pend, fresh := fresh } } = g s

theorem State.raise_sendBlind {β : Type} {g : State → β} (hg : SendBlind g) (s : State) (v : Nat) : g (s.raise v) = g s := by
  unfold State.raise
  split
  · exact hg s _ _ _ _
  · exact hg s s.out s.irq.hc _ s.irq.fresh

theorem State.raiseAll_sendBlind {β : Type} {g : State → β} (hg : SendBlind g) (s : State) (l : List Nat) : g (s.raiseAll l) = g s := by
  induction l generalizing s with
  | nil => rfl
  | cons v t ih => exact (ih (s.raise v)).trans (s.raise_sendBlind hg v)

theorem settle_sendBlind {β : Type} {g : State → β} (hg : SendBlind g) (s : State) : g (settle s) = g s := by
  unfold settle
  simp only
  split
  · rfl
  · exact (State.raiseAll_sendBlind hg _ _).trans (hg s s.out _ s.irq.pend s.irq.fresh)

theorem State.flushPend_sendBlind {β : Type} {g : State → β} (hg : SendBlind g) (s : State) (l : List Nat) : g (s.flushPend l) = g s := by
  induction l generalizing s with
  | nil => rfl
  | cons v t ih =>
    refine (ih _).trans ?_
    split
    · simp only
      split
      · exact hg s _ s.irq.hc _ _
      · exact hg s s.out s.irq.hc _ _
    · rfl

theorem sendAll_sendBlind {β : Type} {g : State → β} (hg : SendBlind g) (s : State) : g (sendAll s) = g s := by
  unfold sendAll
  split
  · exact (State.flushPend_sendBlind hg _ _).trans (hg s s.out s.irq.hc _ s.irq.fresh)
  · rfl

@[simp] theorem settle_irq_enabled (s : State) : (settle s).irq.enabled = s.irq.enabled :=
  settle_sendBlind (g := fun s => s.irq.enabled) (fun _ _ _ _ _ => rfl) s
@[simp] theorem settle_irq_mask (s : State) : (settle s).irq.mask = s.irq.mask :=
  settle_sendBlind (g := fun s => s.irq.mask) (fun _ _ _ _ _ => rfl) s
@[simp] theorem settle_irq_table (s : State) : (settle s).irq.table = s.irq.table :=
  settle_sendBlind (g := fun s => s.irq.table) (fun _ _ _ _ _ => rfl) s
@[simp] theorem settle_irq_d3hot (s : State) : (settle s).irq.d3hot = s.irq.d3hot :=
  settle_sendBlind (g := fun s => s.irq.d3hot) (fun _ _ _ _ _ => rfl) s
@[simp] theorem settle_irq_linkL0 (s : State) : (settle s).irq.linkL0 = s.irq.linkL0 :=
  settle_sendBlind (g := fun s => s.irq.linkL0) (fun _ _ _ _ _ => rfl) s
@[simp] theorem settle_irq_perstLow (s : State) : (settle s).irq.perstLow = s.irq.perstLow :=
  settle_sendBlind (g := fun s => s.irq.perstLow) (fun _ _ _ _ _ => rfl) s
@[simp] theorem settle_irq_refClk (s : State) : (settle s).irq.refClk = s.irq.refClk :=
  settle_sendBlind (g := fun s => s.irq.refClk) (fun _ _ _ _ _ => rfl) s

@[simp] theorem sendAll_regs (s : State) : (sendAll s).regs = s.regs := sendAll_sendBlind (g := State.regs) (fun _ _ _ _ _ => rfl) s
@[simp] theorem sendAll_irq_enabled (s : State) : (sendAll s).irq.enabled = s.irq.enabled :=
  sendAll_sendBlind (g := fun s => s.irq.enabled) (fun _ _ _ _ _ => rfl) s
@[simp] theorem sendAll_irq_mask (s : State) : (sendAll s).irq.mask = s.irq.mask :=
  sendAll_sendBlind (g := fun s => s.irq.mask) (fun _ _ _ _ _ => rfl) s
@[simp] theorem sendAll_irq_linkL0 (s : State) : (sendAll s).irq.linkL0 = s.irq.linkL0 :=
  sendAll_sendBlind (g := fun s => s.irq.linkL0) (fun _ _ _ _ _ => rfl) s
@[simp] theorem sendAll_irq_perstLow (s : State) : (sendAll s).irq.perstLow = s.irq.perstLow :=
  sendAll_sendBlind (g := fun s => s.irq.perstLow) (fun _ _ _ _ _ => rfl) s

/-! ### The commands with the host island running -/

theorem exec_pcieReset (k : Fin 3) {s : State} (hon : s.hostOn = true) :
    exec (.pcieReset k) s = .next (settle (endpointDown (decide (k.val = 2)) (decide (k.val = 0) || s.irq.perstLow) s)) := by
  change execPcieReset k s = _
  rw [execPcieReset, if_pos hon, fin_next]
  by_cases hk : k.val = 0
  · rw [if_pos hk, decide_eq_true hk, Bool.true_or]
  · rw [if_neg hk, decide_eq_false hk, Bool.false_or]

theorem exec_pcieLinkDown {s : State} (hon : s.hostOn = true) :
    exec .pcieLinkDown s = .next (settle (endpointDown false s.irq.perstLow s)) := by
  change execPcieLinkDown s = _
  rw [execPcieLinkDown, if_pos hon, fin_next]

theorem exec_pcieLinkUp {s : State} (hon : s.hostOn = true) (hr : s.rung ≤ 2) :
    exec .pcieLinkUp s = .next (settle (sendAll { s with irq := { s.irq with linkL0 := true, perstLow := false } })) := by
  change execPcieLinkUp s = _
  rw [execPcieLinkUp, if_pos (by simp [hon, hr]), fin_next]

theorem exec_hostClockFailover {s : State} (hon : s.hostOn = true) (hc : s.irq.refClk = true) :
    exec .hostClockFailover s = .next (settle (endpointDown false s.irq.perstLow { s with irq := { s.irq with refClk := false } })) := by
  change execHostClockFailover s = _
  rw [execHostClockFailover, if_pos (by simp [hon, hc]), fin_next]

/-- The reference clock is lost once: without it the command does nothing (R13). -/
theorem exec_hostClockFailover_of_lost {s : State} (hc : s.irq.refClk = false) : exec .hostClockFailover s = .next (settle s) := by
  change execHostClockFailover s = _
  rw [execHostClockFailover, if_neg (by simp [hc]), fin_next]

end Sys2Proof.Machine

namespace Sys2Proof

open Machine

/-- Settles O37: each command's next state is `settle` of an update of the interrupt part, which `settle` keeps but for the pending bits and
the conditions seen. -/
theorem pcieEndpointCommands : Obligations.PcieEndpointCommands := by
  unfold Obligations.PcieEndpointCommands
  refine ⟨fun k s hon => ?reset, fun s hon => ⟨?linkDown, fun hr => ?linkUp, fun hc => ?clockLost, fun hc => ?clockGone⟩, ?identity⟩
  case reset => exact ⟨_, exec_pcieReset k hon, by simp⟩
  case linkDown => exact ⟨_, exec_pcieLinkDown hon, by simp⟩
  case linkUp => exact ⟨_, exec_pcieLinkUp hon hr, by simp⟩
  case clockLost => exact ⟨_, exec_hostClockFailover hon hc, by simp⟩
  case clockGone => exact ⟨_, exec_hostClockFailover_of_lost hc, settle_sameBut s⟩
  case identity => exact ⟨rfl, rfl, rfl⟩

end Sys2Proof
end

section
/-! The frame of an operation: the areas whose registers, and the parts of the state, in which the state after it can differ from the state
before. One lemma per operation says its frame; whatever reads only other areas and parts is then as it was. -/

namespace Sys2Proof.Machine

/-- The parts of the state beside its registers, its clock and its queue. -/
inductive Part where
  | out | free | bus | irq | flt | rat | tb | tiu | ref | steer | dpll | tm | syn | gnss | prt | fab | itin | eng | nvs | mb | sec | se | svc
  | dma | dz | lad | tst
  deriving DecidableEq

/-- `x`, or `d` where the part `p` is among those of the list. -/
def Part.hide {α : Type} (P : List Part) (p : Part) (d x : α) : α := if p ∈ P then d else x

theorem Part.hide_hide {α : Type} {P Q : List Part} (h : ∀ p ∈ Q, p ∈ P) (p : Part) (d x : α) : p.hide P d (p.hide Q d x) = p.hide P d x := by
  unfold Part.hide
  by_cases hq : p ∈ Q
  · simp [h p hq]
  · simp [hq]

/-- The state without its registers and the parts of the list. -/
def State.without (P : List Part) (s : State) : State :=
  { s with
    regs := [], out := Part.hide P .out [] s.out, free := Part.hide P .free 0 s.free, bus := Part.hide P .bus .reset s.bus
    irq := Part.hide P .irq .reset s.irq, flt := Part.hide P .flt .reset s.flt, rat := Part.hide P .rat .reset s.rat
    tb := Part.hide P .tb .reset s.tb, tiu := Part.hide P .tiu .reset s.tiu, ref := Part.hide P .ref [] s.ref
    steer := Part.hide P .steer [] s.steer, dpll := Part.hide P .dpll [] s.dpll, tm := Part.hide P .tm .reset s.tm
    syn := Part.hide P .syn .reset s.syn, gnss := Part.hide P .gnss .reset s.gnss, prt := Part.hide P .prt [] s.prt
    fab := Part.hide P .fab .reset s.fab, itin := Part.hide P .itin .reset s.itin, eng := Part.hide P .eng [] s.eng
    nvs := Part.hide P .nvs .reset s.nvs, mb := Part.hide P .mb [] s.mb, sec := Part.hide P .sec .reset s.sec, se := Part.hide P .se .reset s.se
    svc := Part.hide P .svc [] s.svc, dma := Part.hide P .dma .reset s.dma, dz := Part.hide P .dz .reset s.dz
    lad := Part.hide P .lad .reset s.lad, tst := Part.hide P .tst .reset s.tst }

theorem State.without_without {P Q : List Part} (h : ∀ p ∈ Q, p ∈ P) (s : State) : (s.without Q).without P = s.without P := by
  unfold State.without
  simp only [Part.hide_hide h]

/-- The area that a register belongs to: its block, divided where the frames need it. The registers of the power ladder (0x100) are apart
from block 0, the triggers (0x103) from block 5, the outputs (0x102) from block 6, and port p of block 8 has its own area (0x200 + p). The
words at 0x28 of a 64-byte line from block 6 up are apart too (0x101): an output whose hand-over fails counts at one of them, since no
register bounds the number of its APLL. -/
def regArea (a : Nat) : Nat :=
  if a < 0x10000 then (if 0x100 ≤ a ∧ a < 0x200 then 0x100 else 0)
  else if 0x51000 ≤ a ∧ a < 0x60000 then 0x103
  else if 0x60000 ≤ a ∧ a % 0x40 = 0x28 then 0x101
  else if 0x60400 ≤ a ∧ a < 0x70000 then 0x102
  else if 0x80000 ≤ a ∧ a < 0x90000 then a / 0x1000 + 0x180
  else a / 0x10000

/-- The register is in the part of block `b` that keeps the block's number. -/
abbrev inBlock (a b : Nat) : Prop :=
  0 < b ∧ b ≠ 8 ∧ a / 0x10000 = b ∧ (a < 0x51000 ∨ 0x60000 ≤ a) ∧ (a < 0x60400 ∨ 0x70000 ≤ a) ∧ (a < 0x60000 ∨ a % 0x40 ≠ 0x28)

theorem regArea_of_block {a b : Nat} (h : inBlock a b) : regArea a = b := by
  obtain ⟨hb, h8, ha, htrg, hout, hs⟩ := h
  unfold regArea
  rw [if_neg (by omega), if_neg (by omega), if_neg (by omega), if_neg (by omega), if_neg (by omega), ha]

theorem regArea_mem {a b : Nat} {B : List Nat} (h : inBlock a b) (hB : b ∈ B := by decide) : regArea a ∈ B := by
  rwa [regArea_of_block h]

/-- A register of block `b` is in the area of its block or among the words at 0x28. -/
theorem regArea_mem_pair {a b : Nat} {B : List Nat} (h : a / 0x10000 = b ∧ 6 < b ∧ b ≠ 8) (hB : b ∈ B := by decide)
    (hB' : 0x101 ∈ B := by decide) : regArea a ∈ B := by
  obtain ⟨ha, h6, h8⟩ := h
  unfold regArea
  rw [if_neg (by omega), if_neg (by omega)]
  split
  · exact hB'
  · rwa [if_neg (by omega), if_neg (by omega), ha]

/-- `t` differs from `s` at most in registers of the areas `B` and in the parts `P`. -/
structure State.within (t s : State) (B : List Nat) (P : List Part) : Prop where
  reg : ∀ a, regArea a ∉ B → t.reg a = s.reg a
  parts : t.without P = s.without P

namespace State.within

variable {s t u : State} {B B' : List Nat} {P P' : List Part}

theorem refl : s.within s B P := ⟨fun _ _ => rfl, rfl⟩

theorem trans (h : u.within t B P) (h' : t.within s B P) : u.within s B P :=
  ⟨fun a ha => (h.reg a ha).trans (h'.reg a ha), h.parts.trans h'.parts⟩

theorem mono (h : t.within s B' P') (hB : ∀ b ∈ B', b ∈ B := by decide) (hP : ∀ p ∈ P', p ∈ P := by decide) : t.within s B P := by
  refine ⟨fun a ha => h.reg a (fun hb => ha (hB _ hb)), ?_⟩
  rw [← State.without_without hP t, h.parts, State.without_without hP s]

/-- An operation within fewer areas and parts comes after what was within `B` and `P`. -/
theorem after (h' : u.within t B' P') (h : t.within s B P) (hB : ∀ b ∈ B', b ∈ B := by decide) (hP : ∀ p ∈ P', p ∈ P := by decide) :
    u.within s B P := (h'.mono hB hP).trans h

/-- Whatever reads only other parts is as it was. -/
theorem get {β : Type} (h : t.within s B P) (g : State → β) (hg : ∀ u, g (u.without P) = g u) : g t = g s := by
  rw [← hg t, h.parts, hg s]

theorem rv (h : t.within s B P) {a : Nat} (ha : regArea a ∉ B := by decide) : t.rv a = s.rv a := by
  unfold State.rv
  rw [h.reg a ha]

theorem fld (h : t.within s B P) {f : Fld} (ha : regArea f.addr ∉ B := by decide) : t.fld f = s.fld f := by
  unfold State.fld
  rw [h.rv ha]

theorem flag (h : t.within s B P) {f : Fld} (ha : regArea f.addr ∉ B := by decide) : t.flag f = s.flag f := by
  unfold State.flag
  rw [h.fld ha]

/-- What is held by whistles changes in the area of the whistles alone. -/
theorem wHeld (h : t.within s B P) {k i : Nat} (hk : k < 10 := by decide) (hb : 14 ∉ B := by decide) : t.wHeld k i = s.wHeld k i := by
  have ha : regArea (Reg.WHISTLE_HELD k) = 14 := regArea_of_block (by simp only [inBlock, Reg.WHISTLE_HELD]; omega)
  unfold State.wHeld
  rw [h.rv (by rwa [ha])]

theorem ite {c : Prop} [Decidable c] (h1 : c → t.within s B P) (h2 : ¬ c → u.within s B P) : (if c then t else u).within s B P := by
  split
  · next h => exact h1 h
  · next h => exact h2 h

theorem forEach {α : Type} {l : List α} {f : State → α → State} (h : t.within s B P) (hf : ∀ a ∈ l, ∀ u, (f u a).within u B P) :
    (forEach l f t).within s B P := by
  induction l generalizing t with
  | nil => exact h
  | cons a l ih => exact ih ((hf a (by simp) t).trans h) (fun b hb u => hf b (by simp [hb]) u)

/-- An update of parts of `P` alone. -/
theorem update (h : t.within s B P) (hr : u.regs = t.regs) (hp : u.without P = t.without P) : u.within s B P :=
  ⟨fun a ha => by rw [State.reg_congr hr]; exact h.reg a ha, hp.trans h.parts⟩

theorem setReg {a : Nat} {v : Word} (h : t.within s B P) (ha : regArea a ∈ B := by decide) : (t.setReg a v).within s B P :=
  ⟨fun b hb => by rw [State.reg_setReg_ne]; exacts [h.reg b hb, fun e => hb (e ▸ ha)], h.parts⟩

theorem setRv {a v : Nat} (h : t.within s B P) (ha : regArea a ∈ B := by decide) : (t.setRv a v).within s B P := h.setReg ha

theorem setFld {f : Fld} {v : Nat} (h : t.within s B P) (ha : regArea f.addr ∈ B := by decide) : (t.setFld f v).within s B P := h.setReg ha

theorem setFlag {f : Fld} {b : Bool} (h : t.within s B P) (ha : regArea f.addr ∈ B := by decide) : (t.setFlag f b).within s B P :=
  h.setReg ha

theorem bump {a : Nat} (h : t.within s B P) (ha : regArea a ∈ B := by decide) : (t.bump a).within s B P := h.setReg ha

theorem bumpSat {a : Nat} (h : t.within s B P) (ha : regArea a ∈ B := by decide) : (t.bumpSat a).within s B P :=
  ite (fun _ => h.setRv ha) (fun _ => h)

theorem bumpFld {f : Fld} (h : t.within s B P) (ha : regArea f.addr ∈ B := by decide) : (t.bumpFld f).within s B P :=
  ite (fun _ => h.setFld ha) (fun _ => h)

theorem bump16 {a : Nat} (h : t.within s B P) (ha : regArea a ∈ B := by decide) : (t.bump16 a).within s B P := h.bumpFld ha

theorem setQuant {a n v : Nat} (h : t.within s B P) (ha : ∀ k, k < n → regArea (a + 4 * k) ∈ B := by decide) :
    (t.setQuant a n v).within s B P := by
  induction n generalizing t a v with
  | zero => exact h
  | succ n ih =>
    refine ih (h.setRv (ha 0 (by omega))) (fun k hk => ?_)
    have := ha (k + 1) (by omega)
    rwa [show a + 4 + 4 * k = a + 4 * (k + 1) by ring]

theorem emit {o : Out} (h : t.within s B P) (hp : ∀ p ∈ [Part.out], p ∈ P := by decide) : (t.emit o).within s B P :=
  after (B' := []) (P' := [.out]) (update (t := t) refl rfl rfl) h (by simp) hp

theorem sendFault {src kind a : Nat} (h : t.within s B P) (hp : ∀ p ∈ [Part.flt], p ∈ P := by decide) :
    (t.sendFault src kind a).within s B P :=
  after (B' := []) (P' := [.flt]) (update (t := t) refl rfl rfl) h (by simp) hp

end State.within

/-! ### What an update of one part leaves -/

theorem setOut_within (s : State) (o : Nat) (v : OutPart) : (s.setOut o v).within s [] [.syn] := .update .refl rfl rfl
theorem setMbDir_within (s : State) (n d : Nat) (v : MbDir) : (s.setMbDir n d v).within s [] [.mb] := .update .refl rfl rfl
theorem setDz_within (s : State) (d : DaisyPart) : (s.setDz d).within s [] [.dz] := .update .refl rfl rfl
theorem setPe_within (s : State) (p : Nat) (e : PePart) : (s.setPe p e).within s [] [.fab] := .update .refl rfl rfl
theorem setPrt_within (s : State) (p : Nat) (e : PortPart) : (s.setPrt p e).within s [] [.prt] := .update .refl rfl rfl
theorem setEng_within (s : State) (e : Nat) (g : EngPart) : (s.setEng e g).within s [] [.eng] := .update .refl rfl rfl
theorem setStat_within (s : State) (k : Nat) (v : Stat) : (s.setStat k v).within s [] [.tiu] := .update .refl rfl rfl
theorem setChan_within (s : State) (n : Nat) (c : Chan) : (s.setChan n c).within s [] [.tiu] := .update .refl rfl rfl
theorem setGnss_within (s : State) (g : GnssPart) : (s.setGnss g).within s [] [.gnss] := .update .refl rfl rfl
theorem setDpll_within (s : State) (d : Nat) (v : DpllPart) : (s.setDpll d v).within s [] [.dpll] := .update .refl rfl rfl
theorem setTrg_within (s : State) (i : Nat) (v : TrgPart) : (s.setTrg i v).within s [] [.tm] := .update .refl rfl rfl
theorem setNvsBank_within (s : State) (m : Nat) (b : NvsBank) : (s.setNvsBank m b).within s [] [.nvs] := .update .refl rfl rfl
theorem setDmaCh_within (s : State) (c : Nat) (v : DmaCh) : (s.setDmaCh c v).within s [] [.dma] := .update .refl rfl rfl
theorem setItin_within (s : State) (v : ItinPart) : ({ s with itin := v } : State).within s [] [.itin] := .update .refl rfl rfl
theorem setTm_within (s : State) (v : TimePart) : ({ s with tm := v } : State).within s [] [.tm] := .update .refl rfl rfl
theorem setTiu_within (s : State) (v : TiuPart) : ({ s with tiu := v } : State).within s [] [.tiu] := .update .refl rfl rfl
theorem setIrq_within (s : State) (i : IrqPart) : ({ s with irq := i } : State).within s [] [.irq] := .update .refl rfl rfl

theorem tmuxEvent_within (c : Nat) (s : State) : (tmuxEvent c s).within s [] [.out] :=
  State.within.refl.forEach (fun _ _ _ => .ite (fun _ => State.within.refl.emit) (fun _ => .refl))

end Sys2Proof.Machine
end

section
/-! What a register, a field or a flag reads after an update of another field, of the same word or of another one; the registers that a
command's next state may differ in. -/

namespace Sys2Proof.Machine

theorem State.rv_of_reg {s t : State} {a : Nat} (h : t.reg a = s.reg a) : t.rv a = s.rv a := congrArg BitVec.toNat h

theorem State.fld_of_reg {s t : State} {f : Fld} (h : t.reg f.addr = s.reg f.addr) : t.fld f = s.fld f := by
  unfold State.fld
  rw [State.rv_of_reg h]

theorem State.flag_of_reg {s t : State} {f : Fld} (h : t.reg f.addr = s.reg f.addr) : t.flag f = s.flag f := by
  unfold State.flag
  rw [State.fld_of_reg h]

/-- The two fields share no bit. -/
abbrev Fld.apart (f g : Fld) : Prop := g.addr ≠ f.addr ∨ (f.lo + f.w ≤ 32 ∧ (f.lo + f.w ≤ g.lo ∨ g.lo + g.w ≤ f.lo))

theorem State.fld_setFld_apart (s : State) {f g : Fld} (v : Nat) (h : f.apart g) : (s.setFld f v).fld g = s.fld g := by
  by_cases ha : g.addr = f.addr
  · obtain ⟨hf, hd⟩ := h.resolve_left (not_not.mpr ha)
    exact s.fld_setFld_disjoint f g v ha hf hd
  · exact s.fld_setFld_ne f g v ha

theorem State.fld_setFlag_apart (s : State) {f g : Fld} (b : Bool) (h : f.apart g) : (s.setFlag f b).fld g = s.fld g :=
  s.fld_setFld_apart _ h

theorem State.flag_setFld_apart (s : State) {f g : Fld} (v : Nat) (h : f.apart g) : (s.setFld f v).flag g = s.flag g := by
  unfold State.flag
  rw [s.fld_setFld_apart v h]

theorem State.flag_setFlag_apart (s : State) {f g : Fld} (b : Bool) (h : f.apart g) : (s.setFlag f b).flag g = s.flag g :=
  s.flag_setFld_apart _ h

theorem State.reg_setFlag_ne (s : State) (f : Fld) {a : Nat} (b : Bool) (h : a ≠ f.addr) : (s.setFlag f b).reg a = s.reg a :=
  s.reg_setFld_ne f _ h

theorem State.rv_setFlag_ne (s : State) (f : Fld) {a : Nat} (b : Bool) (h : a ≠ f.addr) : (s.setFlag f b).rv a = s.rv a :=
  s.rv_setFld_ne f _ h

theorem State.rv_bumpSat_ne (s : State) {a b : Nat} (h : b ≠ a) : (s.bumpSat a).rv b = s.rv b := by
  unfold State.rv
  rw [s.reg_bumpSat_ne h]

theorem State.fld_bumpSat_ne (s : State) {a : Nat} (g : Fld) (h : g.addr ≠ a) : (s.bumpSat a).fld g = s.fld g := by
  unfold State.fld
  rw [s.rv_bumpSat_ne h]

theorem State.flag_setRv_ne (s : State) {a : Nat} (v : Nat) (g : Fld) (h : g.addr ≠ a) : (s.setRv a v).flag g = s.flag g := by
  unfold State.flag
  rw [s.fld_setRv_ne v g h]

/-! ### The next state of a command -/

theorem State.sameBut.trans {t u v : State} (h : t.sameBut u) (h' : u.sameBut v) : t.sameBut v := by
  have h2 := congrArg (fun w : State => { w with out := v.out, irq := v.irq }) h
  exact Eq.trans h2 h'

theorem settle_sameBut_of {t u : State} (h : t.sameBut u) : (settle t).sameBut u := (settle_sameBut t).trans h

theorem State.sameBut_refl (s : State) : s.sameBut s := rfl

/-- After a command whose update changes registers alone, only those that the update changed differ. -/
theorem settle_onlyRegs {t s : State} {l : List Nat} (hr : ∀ a, a ∉ l → t.reg a = s.reg a) (h : t.sameBut { s with regs := t.regs }) :
    (settle t).onlyRegs s l :=
  ⟨fun a ha => (settle_reg t a).trans (hr a ha), by rw [settle_regs]; exact settle_sameBut_of h⟩

end Sys2Proof.Machine
end

section
/-! The rations' commands (R31–R45): what the parts of a window keep, and what becomes of the trim. -/

namespace Sys2Proof.Machine

/-! ### What the parts of a window touch -/

theorem govTake_within (g q : Nat) (s : State) : (govTake g q s).within s [] [.rat] :=
  .ite (fun _ => .refl) (fun _ => .update .refl rfl rfl)

/-! ### The monitor (R45) -/

@[simp] theorem State.overrun_reg (s : State) (cause mean a : Nat) : (s.overrun cause mean).reg a = s.reg a := State.sendFault_reg ..
@[simp] theorem State.overrun_rv (s : State) (cause mean a : Nat) : (s.overrun cause mean).rv a = s.rv a := State.sendFault_rv ..
@[simp] theorem State.overrun_fld (s : State) (cause mean : Nat) (f : Fld) : (s.overrun cause mean).fld f = s.fld f := State.sendFault_fld ..
@[simp] theorem State.overrun_rat (s : State) (cause mean : Nat) : (s.overrun cause mean).rat = s.rat := State.sendFault_rat ..

/-- The monitor writes its own registers alone. -/
theorem monitor_reg (mean : Nat) (s : State) {a : Nat}
    (h : a ∉ [Reg.RATION_MEASURED, Reg.RATION_STATUS, Reg.WIN_OUT, Reg.STEP_OUT]) : (monitor mean s).reg a = s.reg a := by
  simp only [List.mem_cons, List.not_mem_nil, or_false, not_or] at h
  obtain ⟨hm, hs, hw, hp⟩ := h
  unfold monitor
  extract_lets lv dev inBand step clk steps _ s1 s2 s3 s4
  have h1 : s1.reg a = s.reg a := State.reg_congr rfl a
  clear_value s1
  have h3 : s3.reg a = s.reg a := by
    simp (disch := assumption) only [s3, s2, State.reg_setFlag_ne, State.reg_setFld_ne, h1]
  clear_value s3
  have h4 : s4.reg a = s.reg a := by
    unfold s4
    split
    · exact h3
    · rw [State.overrun_reg, State.reg_bumpSat_ne _ hw, h3]
  split
  · rw [State.overrun_reg, State.reg_bumpSat_ne _ hp, h4]
  · exact h4

theorem monitor_rat (mean : Nat) (s : State) :
    (monitor mean s).rat.prevMean = some mean ∧ (monitor mean s).rat.xfers = s.rat.xfers := by
  unfold monitor
  extract_lets lv dev inBand step clk steps _ s1 s2 s3 s4
  have h1 : s1.rat.prevMean = some mean ∧ s1.rat.xfers = s.rat.xfers := ⟨rfl, rfl⟩
  clear_value s1
  have h4 : s4.rat = s1.rat := by
    unfold s4 s3 s2
    split <;> simp
  clear_value s4
  split
  · rw [State.overrun_rat, State.bumpSat_rat, h4]
    exact h1
  · rw [h4]
    exact h1

theorem meanStep_gt_iff (mean : Nat) (s : State) (k : Nat) :
    k < s.meanStep mean ↔ ∃ p, s.rat.prevMean = some p ∧ k < max mean p - min mean p := by
  unfold State.meanStep
  cases s.rat.prevMean with
  | none => simp
  | some p => simp only [Option.some.injEq, exists_eq_left']; split <;> omega

/-- What the monitor leaves in the window's mean and in its two counters. -/
theorem monitor_measured (mean : Nat) (s : State) :
    (monitor mean s).fld F.RATION_MEASURED_MEAN = min mean 8191 ∧
    (monitor mean s).rv Reg.WIN_OUT =
      (if (max mean (s.fld F.RATION_LEVEL_LEVEL_MA) - min mean (s.fld F.RATION_LEVEL_LEVEL_MA)) * 1000 ≤ s.fld F.RATION_LEVEL_LEVEL_MA * 15
        then s.rv Reg.WIN_OUT else min (s.rv Reg.WIN_OUT + 1) (2 ^ 32 - 1)) ∧
    (monitor mean s).rv Reg.STEP_OUT = (if 20 < s.meanStep mean then min (s.rv Reg.STEP_OUT + 1) (2 ^ 32 - 1) else s.rv Reg.STEP_OUT) := by
  unfold monitor
  extract_lets lv dev inBand step clk steps _ s1 s2 s3 s4
  have hdev : dev = max mean lv - min mean lv := by unfold dev; split <;> omega
  have h1 : ∀ a, s1.rv a = s.rv a := fun a => congrArg BitVec.toNat (State.reg_congr rfl a)
  clear_value s1
  have h3 : s3.fld F.RATION_MEASURED_MEAN = min mean 8191 ∧ s3.rv Reg.WIN_OUT = s.rv Reg.WIN_OUT ∧ s3.rv Reg.STEP_OUT = s.rv Reg.STEP_OUT := by
    refine ⟨?_, ?_, ?_⟩
    · simp only [s3, s2]
      rw [State.fld_setFlag_apart _ _ (by decide), State.fld_setFld_apart _ _ (by decide), State.fld_setFld _ _ _ (by decide)]
      exact Nat.mod_eq_of_lt (by change _ < 8192; omega)
    · simp only [s3, s2]
      rw [State.rv_setFlag_ne _ _ _ (by decide), State.rv_setFld_ne _ _ _ (by decide), State.rv_setFld_ne _ _ _ (by decide), h1]
    · simp only [s3, s2]
      rw [State.rv_setFlag_ne _ _ _ (by decide), State.rv_setFld_ne _ _ _ (by decide), State.rv_setFld_ne _ _ _ (by decide), h1]
  clear_value s3
  obtain ⟨h3m, h3w, h3p⟩ := h3
  have h4 : s4.fld F.RATION_MEASURED_MEAN = min mean 8191 ∧
      s4.rv Reg.WIN_OUT = (if dev * 1000 ≤ lv * 15 then s.rv Reg.WIN_OUT else min (s.rv Reg.WIN_OUT + 1) (2 ^ 32 - 1)) ∧
      s4.rv Reg.STEP_OUT = s.rv Reg.STEP_OUT := by
    unfold s4 inBand
    simp only [decide_eq_true_eq]
    split
    · exact ⟨h3m, h3w, h3p⟩
    · simp only [State.overrun_fld, State.overrun_rv]
      rw [State.fld_bumpSat_ne _ _ (by decide), State.rv_bumpSat, State.rv_bumpSat_ne _ (by decide), h3m, h3w, h3p]
      exact ⟨rfl, rfl, rfl⟩
  clear_value s4
  obtain ⟨h4m, h4w, h4p⟩ := h4
  rw [← hdev]
  split
  · simp only [State.overrun_fld, State.overrun_rv]
    rw [State.fld_bumpSat_ne _ _ (by decide), State.rv_bumpSat, State.rv_bumpSat_ne _ (by decide), h4m, h4w, h4p]
    exact ⟨rfl, rfl, rfl⟩
  · exact ⟨h4m, h4w, h4p⟩

/-! ### The trim (R34, R41, R43) -/

theorem trimFlags_reg (mean : Nat) (s : State) {a : Nat} (h : a ≠ Reg.RATION_STATUS) : (trimFlags mean s).reg a = s.reg a := by
  unfold trimFlags
  extract_lets lo hi rose ramping s1 s2 _ owed s3 _
  have h2 : s2.reg a = s.reg a := by simp (disch := assumption) only [s2, s1, State.reg_setFlag_ne]
  clear_value s2
  have h3 : s3.reg a = s.reg a := by
    unfold s3
    split <;> exact h2
  clear_value s3
  split_ifs
  exacts [h2, h2, h3, h3, h3, h3]

theorem heaterStepBy_within (ps mv : Nat) (s : State) : (heaterStepBy ps mv s).within s [] [.rat, .tb] := by
  have key : ∀ (r : RationPart) (b : TbPart), ({ s with rat := r, tb := b } : State).within s [] [.rat, .tb] := fun _ _ => .update .refl rfl rfl
  exact key _ _

theorem heaterStepBy_prevMean (ps mv : Nat) (s : State) : (heaterStepBy ps mv s).rat.prevMean = s.rat.prevMean := by
  have key : ∀ (x : Nat) (b : TbPart), ({ s with rat := { s.rat with htrPa := x }, tb := b } : State).rat.prevMean = s.rat.prevMean :=
    fun _ _ => rfl
  exact key _ _

/-- What follows a window's trim step: the saturation flags, the owed report and the heater (R34, R42). -/
theorem windowEnd_reg (mean mv : Nat) (s : State) {a : Nat} (h : a ≠ Reg.RATION_STATUS) :
    (heaterStep mv (trimFlags mean s)).reg a = s.reg a :=
  ((heaterStepBy_within ..).reg a (by simp)).trans (trimFlags_reg mean s h)

theorem windowEnd_trim (mean mv : Nat) (s : State) : (heaterStep mv (trimFlags mean s)).trim = s.trim := by
  unfold State.trim State.rv
  rw [windowEnd_reg mean mv s (by decide)]

theorem trimFlags_prevMean (mean : Nat) (s : State) : (trimFlags mean s).rat.prevMean = s.rat.prevMean := by
  unfold trimFlags
  extract_lets lo hi rose ramping s1 s2 _ owed s3 _
  have h2 : s2.rat.prevMean = s.rat.prevMean := rfl
  clear_value s2
  have h3 : s3.rat.prevMean = s.rat.prevMean := by
    unfold s3
    split <;> exact h2
  clear_value s3
  split_ifs
  exacts [h2, h2, h3, h3, h3, h3]

theorem trim_setRv {s : State} {v : Nat} (h : v < 2 ^ 32) : (s.setRv Reg.RATION_TRIM v).trim = v :=
  (s.rv_setRv _ _).trans (Nat.mod_eq_of_lt h)

theorem State.trim_lt (s : State) : s.trim < 2 ^ 32 := s.rv_lt _

theorem trimStep_trim (mean : Nat) (s : State) :
    (trimStep mean s).trim = if mean < s.fld F.RATION_LEVEL_LEVEL_MA then min 1200 (s.trim + 1)
      else if s.fld F.RATION_LEVEL_LEVEL_MA < mean then s.trim - 1 else s.trim := by
  unfold trimStep
  extract_lets lv
  have := s.trim_lt
  split_ifs
  · exact trim_setRv (by omega)
  · exact trim_setRv (by omega)
  · rfl

theorem trimStep_reg (mean : Nat) (s : State) {a : Nat} (h : a ≠ Reg.RATION_TRIM) : (trimStep mean s).reg a = s.reg a := by
  unfold trimStep
  extract_lets lv
  split_ifs
  · exact s.reg_setRv_ne _ h
  · exact s.reg_setRv_ne _ h
  · rfl

theorem trimStep_rat (mean : Nat) (s : State) : (trimStep mean s).rat = s.rat := by
  unfold trimStep
  extract_lets lv
  split_ifs <;> rfl

theorem rampStep_trim_le {s : State} (h : s.trim ≤ 1200) : (rampStep s).trim ≤ 1200 := by
  unfold rampStep
  dsimp only
  split_ifs
  · exact h
  · rw [trim_setRv (by omega)]
    omega
  all_goals
    rw [trim_setRv (by omega)]
    omega

theorem targetXfer_trim_le (s : State) (x : Xfer) : (targetXfer s x).trim ≤ 1200 := by
  unfold targetXfer
  rw [trim_setRv (by omega)]
  omega

/-- An allowance transfer that is made moves the trim within its range; one that is refused leaves it alone (R41). -/
theorem allowanceXfer_trim_le {s : State} {x : Xfer} (hx : Reg.RATION_TRIM ≠ x.addr) (h : s.trim ≤ 1200) : (allowanceXfer s x).trim ≤ 1200 := by
  unfold allowanceXfer State.trimTake
  extract_lets old t
  split_ifs with hr
  · have : (((s.setRv Reg.RATION_TRIM t.toNat).setAlw x.addr x.val.toNat).setReg x.addr x.val).trim = t.toNat :=
      (State.rv_setReg_ne _ _ hx).trans (trim_setRv (by omega))
    dsimp only
    rw [this]
    omega
  · change ((s.setRv x.addr _).bumpSat Reg.TRANSFER_REFUSED).rv Reg.RATION_TRIM ≤ 1200
    rw [State.rv_bumpSat_ne _ (by decide), State.rv_setRv_ne _ _ hx]
    exact h

/-- The transfers of allowances and of targets: those that no port asked for (R41, R43). -/
def Xfer.ofRation (x : Xfer) : Prop := (∃ g : Fin 4, x.addr = alwReg g.val) ∨ ∃ te, x.addr = targetKey te

theorem applyXfer_trim_le {s : State} {x : Xfer} (hx : x.ofRation) (h : s.trim ≤ 1200) : (applyXfer s x).trim ≤ 1200 := by
  unfold applyXfer
  rcases hx with ⟨g, hg⟩ | ⟨te, ht⟩
  · have hb : Reg.ALLOW_SE ≤ x.addr ∧ x.addr < 0x80000 := by
      rw [hg]
      exact (by decide : ∀ g : Fin 4, Reg.ALLOW_SE ≤ alwReg g.val ∧ alwReg g.val < 0x80000) g
    rw [if_neg (by omega), if_pos hb.2]
    exact allowanceXfer_trim_le (by simp only [Reg.ALLOW_SE, Reg.RATION_TRIM] at *; omega) h
  · have hb : x.addr < Reg.ALLOW_SE := by
      rw [ht]
      cases te <;> decide
    rw [if_pos hb]
    exact targetXfer_trim_le s x

theorem applyXfers_trim_le {s : State} (hx : ∀ x ∈ s.rat.xfers, x.ofRation) (h : s.trim ≤ 1200) : (applyXfers s).trim ≤ 1200 := by
  unfold applyXfers
  generalize s.rat.xfers = l at hx
  have h0 : ({ s with rat := { s.rat with xfers := [] } } : State).trim ≤ 1200 := h
  generalize ({ s with rat := { s.rat with xfers := [] } } : State) = u at h0
  induction l generalizing u with
  | nil => exact h0
  | cons x l ih => exact ih (fun y hy => hx y (by simp [hy])) _ (applyXfer_trim_le (hx x (by simp)) h0)

theorem calWindow_reg (s : State) {a : Nat} (h : a ≠ Reg.STALL_TIUCAL) : (calWindow s).reg a = s.reg a := by
  unfold calWindow
  extract_lets due n _ s1 m _ s2
  have h1 : s1.reg a = s.reg a := (govTake_within ..).reg a (by simp)
  have h2 : s2.reg a = s.reg a := ((govTake_within ..).reg a (by simp)).trans h1
  clear_value s2
  split
  · unfold govStall
    split
    · exact h2
    · rw [State.setGov_reg]
      exact (State.reg_bumpSat_ne _ h).trans h2
  · exact h2

/-- The refill of the governors and the calibration of a window write no register but a stall counter (R40). -/
theorem windowRefill_reg (s : State) {a : Nat} (h : a ≠ Reg.STALL_TIUCAL) : (calWindow (forEach (List.range 4) govRefill s)).reg a = s.reg a := by
  rw [calWindow_reg _ h]
  exact forEach_keeps (g := fun u => u.reg a) (f := govRefill) (fun _ _ => rfl) _ s

theorem windowRefill_prevMean (s : State) : (calWindow (forEach (List.range 4) govRefill s)).rat.prevMean = s.rat.prevMean := by
  have ht : ∀ (q : Nat) (u : State), (govTake 3 q u).rat.prevMean = u.rat.prevMean := by
    intro q u
    unfold govTake
    split <;> rfl
  have hc : ∀ u : State, (calWindow u).rat.prevMean = u.rat.prevMean := by
    intro u
    unfold calWindow
    extract_lets due n _ s1 m _ s2
    have h2 : s2.rat.prevMean = u.rat.prevMean := (ht _ _).trans (ht _ _)
    clear_value s2
    unfold govStall
    split_ifs
    · exact h2
    · exact (congrArg RationPart.prevMean (State.bumpSat_rat s2 (stallReg 3))).trans h2
    · exact h2
  rw [hc]
  exact forEach_keeps (g := fun u => u.rat.prevMean) (f := govRefill) (fun _ _ => rfl) _ s

/-! ### A window (R31–R45) -/

/-- The state in which a window's transfers begin: the mean is measured and the window is clocked anew. -/
def windowStart (mean : Nat) (s : State) : State := (monitor mean (tmuxEvent 0x56 s)).setFlag F.RATION_STATUS_WINDOW_TCLK (!s.fclkOn)

theorem rationWindow_eq (mean mv : Nat) (s : State) :
    rationWindow mean mv s =
      let s1 := windowStart mean s
      let s2 := calWindow (forEach (List.range 4) govRefill (applyXfers s1))
      heaterStep mv (trimFlags mean (if s1.fld F.RATION_LEVEL_LEVEL_MA != s1.fld F.RATION_LEVEL_TARGET_MA then rampStep s2
        else if s1.rat.xfers.isEmpty then trimStep mean s2 else s2)) := rfl

theorem windowStart_reg (mean : Nat) (s : State) {a : Nat}
    (h : a ∉ [Reg.RATION_MEASURED, Reg.RATION_STATUS, Reg.WIN_OUT, Reg.STEP_OUT]) : (windowStart mean s).reg a = s.reg a := by
  have hs : a ≠ Reg.RATION_STATUS := by
    rintro rfl
    exact h (by decide)
  unfold windowStart
  rw [State.reg_setFlag_ne _ _ _ hs, monitor_reg _ _ h]
  exact (tmuxEvent_within ..).reg a (by simp)

theorem windowStart_rat (mean : Nat) (s : State) :
    (windowStart mean s).rat.prevMean = some mean ∧ (windowStart mean s).rat.xfers = s.rat.xfers := by
  unfold windowStart
  rw [State.setFlag_rat, ← (tmuxEvent_within 0x56 s).get State.rat (fun _ => rfl)]
  exact monitor_rat mean _

theorem windowStart_mean (mean : Nat) (s : State) : (windowStart mean s).fld F.RATION_MEASURED_MEAN = min mean 8191 := by
  unfold windowStart
  rw [State.fld_setFlag_apart _ _ (by decide)]
  exact (monitor_measured mean _).1

theorem windowStart_trim (mean : Nat) (s : State) : (windowStart mean s).trim = s.trim :=
  congrArg BitVec.toNat (windowStart_reg mean s (by decide))

theorem rationWindow_trim_le (mean mv : Nat) {s : State} (hx : ∀ x ∈ s.rat.xfers, x.ofRation) (h : s.trim ≤ 1200) :
    (rationWindow mean mv s).trim ≤ 1200 := by
  rw [rationWindow_eq]
  extract_lets s1 s2
  have h1 : (applyXfers s1).trim ≤ 1200 :=
    applyXfers_trim_le (by rw [(windowStart_rat mean s).2]; exact hx) ((windowStart_trim mean s).le.trans h)
  have h2 : s2.trim ≤ 1200 := (congrArg BitVec.toNat (windowRefill_reg (applyXfers s1) (by decide))).le.trans h1
  rw [windowEnd_trim]
  clear_value s2
  split_ifs
  · exact rampStep_trim_le h2
  · rw [trimStep_trim]
    split_ifs <;> omega
  · exact h2

/-- A window in which no transfer waits and no ramp runs. -/
theorem rationWindow_quiet (mean mv : Nat) {s : State} (hx : s.rat.xfers = [])
    (hl : s.fld F.RATION_LEVEL_LEVEL_MA = s.fld F.RATION_LEVEL_TARGET_MA) :
    ∃ s2, rationWindow mean mv s = heaterStep mv (trimFlags mean (trimStep mean s2)) ∧ s2.rat.prevMean = some mean ∧
      ∀ a, a ∉ [Reg.RATION_STATUS, Reg.STALL_TIUCAL] → s2.reg a = (windowStart mean s).reg a := by
  have hx1 := (windowStart_rat mean s).2.trans hx
  have hl1 : (windowStart mean s).reg Reg.RATION_LEVEL = s.reg Reg.RATION_LEVEL := windowStart_reg mean s (by decide)
  have hf : ∀ f : Fld, f.addr = Reg.RATION_LEVEL → (windowStart mean s).fld f = s.fld f := fun f e => by
    unfold State.fld State.rv
    rw [e, hl1]
  have ha : applyXfers (windowStart mean s) = { windowStart mean s with rat := { (windowStart mean s).rat with xfers := [] } } := by
    unfold applyXfers
    rw [hx1]
    rfl
  refine ⟨calWindow (forEach (List.range 4) govRefill (applyXfers (windowStart mean s))), ?_, ?_, ?_⟩
  · rw [rationWindow_eq]
    extract_lets s1 s2
    rw [if_neg (by rw [hf _ rfl, hf _ rfl, hl]; simp), if_pos (by rw [hx1]; rfl)]
  · rw [windowRefill_prevMean, ha]
    exact (windowStart_rat mean s).1
  · intro a h
    simp only [List.mem_cons, List.not_mem_nil, or_false, not_or] at h
    rw [windowRefill_reg _ h.2, ha]
    exact State.reg_congr rfl a

end Sys2Proof.Machine

namespace Sys2Proof

open Machine

/-- Settles O8: the two counters, with the window before named as the mean it left. -/
theorem windowMonitor : Obligations.WindowMonitor := by
  unfold Obligations.WindowMonitor
  intro mean s
  obtain ⟨-, hwin, hstep⟩ := monitor_measured mean s
  exact ⟨hwin, by simp only [hstep, meanStep_gt_iff]⟩

/-- Settles O9: each transfer keeps the trim's range, and so do the ramp and the trim step after them. -/
theorem trimStaysInRange : Obligations.TrimStaysInRange := by
  unfold Obligations.TrimStaysInRange
  intro mean mv s h hx
  refine ⟨_, rfl, ?_⟩
  change (settle _).rv Reg.RATION_TRIM ≤ 1200
  rw [settle_rv]
  split
  · exact rationWindow_trim_le mean mv hx h
  · exact h

/-- Settles O7: the grant part's end and an allowance write are one update each; a quiet window makes the trim step alone. -/
theorem rationCommands : Obligations.RationCommands := by
  unfold Obligations.RationCommands
  refine ⟨fun g s hs => ?grant, fun g v s hon => ?allowance, fun mean mv s hon hs hx hl => ?window⟩
  case grant => exact ⟨_, rfl, by rw [if_neg (by simp [hs])]; exact settle_sameBut _⟩
  case allowance =>
    refine ⟨_, rfl, ?_, fun hs => ?_, fun hs => ?_⟩ <;> unfold whenOn landAllowance <;> rw [if_pos hon] <;> dsimp only
    · rw [settle_rat]
      split <;> rfl
    · rw [if_neg (by rw [show (s.askXfer (alwReg g.val) (v &&& 0xfff)).suspended = s.suspended from rfl, hs]; simp)]
      exact settle_sameBut _
    · rw [if_pos (by rw [show (s.askXfer (alwReg g.val) (v &&& 0xfff)).suspended = s.suspended from rfl, hs])]
      exact settle_sameBut _
  case window =>
    obtain ⟨s2, hw, hp, hr⟩ := rationWindow_quiet mean mv hx hl
    have hlev : s2.fld F.RATION_LEVEL_LEVEL_MA = s.fld F.RATION_LEVEL_LEVEL_MA := by
      unfold State.fld State.rv
      rw [hr _ (by decide), windowStart_reg mean s (by decide)]
    have htrim : s2.trim = s.trim := congrArg BitVec.toNat ((hr _ (by decide)).trans (windowStart_reg mean s (by decide)))
    have hend : ∀ a, a ≠ Reg.RATION_STATUS → a ≠ Reg.RATION_TRIM → (rationWindow mean mv s).reg a = s2.reg a := fun a h1 h2 => by
      rw [hw, windowEnd_reg mean mv _ h1, trimStep_reg mean s2 h2]
    refine ⟨_, rfl, ?_⟩
    rw [if_pos (by simp [hon, hs])]
    refine ⟨?_, ?_, ?_, ?_⟩
    · rw [settle_fld, ← windowStart_mean mean s]
      unfold State.fld State.rv
      rw [hend _ (by decide) (by decide), hr _ (by decide)]
    · rw [settle_rat, hw, ← hp]
      unfold heaterStep
      rw [heaterStepBy_prevMean, trimFlags_prevMean, trimStep_rat]
    · change (settle _).rv Reg.RATION_TRIM = _
      rw [settle_rv, hw, ← hlev, ← htrim, ← trimStep_trim]
      exact windowEnd_trim mean mv _
    · rw [settle_fld, ← hlev]
      unfold State.fld State.rv
      rw [hend _ (by decide) (by decide)]

end Sys2Proof
end

section
/-! A master's write of a register (R50–R61): what reaches the register decode, the rows without an effect of their own, and what each outcome
leaves unchanged. -/

namespace Sys2Proof.Machine

/-! ### The charge of an access (R39, R410) -/

theorem tlp_within (s : State) (m : Master) (n : Nat) : (s.tlp m n).within s [] [.rat] :=
  .ite (fun _ => govTake_within ..) (fun _ => .refl)

theorem tlp_get {β : Type} {g : State → β} (hg : ∀ (u : State) (r : RationPart), g { u with rat := r } = g u) (s : State) (m : Master) (n : Nat) :
    g (s.tlp m n) = g s := by
  unfold State.tlp govTake
  split
  · split
    · rfl
    · exact hg s _
  · rfl

@[simp] theorem tlp_regs (s : State) (m : Master) (n : Nat) : (s.tlp m n).regs = s.regs := tlp_get (fun _ _ => rfl) s m n
@[simp] theorem tlp_bus (s : State) (m : Master) (n : Nat) : (s.tlp m n).bus = s.bus := tlp_get (fun _ _ => rfl) s m n
@[simp] theorem tlp_reg (s : State) (m : Master) (n a : Nat) : (s.tlp m n).reg a = s.reg a := State.reg_congr (tlp_regs s m n) a
@[simp] theorem tlp_masterOn (s : State) (m m' : Master) (n : Nat) : (s.tlp m n).masterOn m' = s.masterOn m' :=
  tlp_get (g := fun u => u.masterOn m') (fun _ _ => rfl) s m n
@[simp] theorem tlp_blockOn (s : State) (m : Master) (n b : Nat) : (s.tlp m n).blockOn b = s.blockOn b :=
  tlp_get (g := fun u => u.blockOn b) (fun _ _ => rfl) s m n
@[simp] theorem tlp_guardOf (s : State) (m m' : Master) (n : Nat) : (s.tlp m n).guardOf m' = s.guardOf m' := by
  unfold State.guardOf
  rw [tlp_bus]

/-- The state in which the decode meets a write of master `m`: its TLP is drawn, and it is answered as carried out. -/
def State.decoded (s : State) (m : Master) : State := answer .ok [] (s.tlp m 1)

@[simp] theorem State.decoded_bus (s : State) (m : Master) : (s.decoded m).bus = { s.bus with reply := ⟨.ok, []⟩ } := by
  rw [← tlp_bus s m 1]
  rfl

@[simp] theorem State.decoded_reg (s : State) (m : Master) (a : Nat) : (s.decoded m).reg a = s.reg a := tlp_reg s m 1 a
@[simp] theorem State.decoded_blockOn (s : State) (m : Master) (b : Nat) : (s.decoded m).blockOn b = s.blockOn b := tlp_blockOn s m 1 b

@[simp] theorem State.decoded_postedAt (s : State) (m : Master) (b : Nat) : (s.decoded m).postedAt b = s.postedAt b := by
  unfold State.postedAt
  rw [State.decoded_bus]

/-! ### What reaches the register decode (R50, R52) -/

theorem access_of_reaches {m : Master} {s : State} (h : s.reaches m 1) (f : State → State) : access m f s = f (s.tlp m 1) := by
  obtain ⟨hbus, hon, htlp⟩ := h
  unfold access reach
  rw [if_pos hbus, if_neg (by simp [hon]), if_pos htlp]

/-- A single-word write of BAR 0 by a master that has no guarded value armed. -/
theorem busWrite_eq {m : Master} {s : State} {a : Nat} {v : Word} (hbus : onBus m = true) (hon : s.masterOn m = true)
    (hg : s.guardOf m = none) (ha : a < 0x100000) : busWrite m a v s = wordWrite m a v (answer .ok [] s) := by
  have hg' : (answer .ok [] s).guardOf m = none := hg
  have hl : guardLate m (answer .ok [] s) = answer .ok [] s := by
    unfold guardLate
    rw [hg']
  unfold busWrite bar0Write
  rw [if_neg (by simp [hbus, hon]), if_pos ha]
  dsimp only
  rw [hl, hg']

theorem exec_registerWrite_word {m : Master} {a : BitVec 21} {v : Word} {s : State} (h : s.hears m) (h4 : a.toNat % 4 = 0)
    (ha : a.toNat < 0x100000) :
    exec (.registerWrite m a [v] true) s = .next (settle (wordWrite m a.toNat v (s.decoded m))) := by
  obtain ⟨hr, hg⟩ := h
  change fin (access m (requestWrite m a.toNat [v] true) s) = _
  rw [access_of_reaches hr, fin_next]
  unfold requestWrite
  rw [if_neg (by simp [h4])]
  dsimp only
  rw [busWrite_eq hr.1 (by rw [tlp_masterOn]; exact hr.2.1) (by rw [tlp_guardOf]; exact hg) ha]
  rfl

/-! ### Rows without an effect of their own -/

theorem landNear_of_not_effect {r : Row} (h : r.base ∉ effectBases) (i m : Nat) (v : Word) (a q : Nat) (ws : List Word) (s : State) :
    landNear r i m v a q ws s = none := by
  unfold landNear
  extract_lets n
  split
  iterate 21 next e => exact absurd (by rw [e]; decide) h
  rfl

theorem landFar_of_not_effect {r : Row} (h : r.base ∉ effectBases) (hb : r.base / 0x10000 ≠ 12) (i m : Nat) (v : Word) (a q : Nat)
    (ws : List Word) (s : State) : landFar r i m v a q ws s = none := by
  unfold landFar
  extract_lets n
  split
  iterate 16 next e => exact absurd (by rw [e]; decide) h
  exact if_neg hb

theorem findRow_mem {l : List Row} {a : Nat} {x : Row × Nat × Nat} (h : findRow l a = some x) : x.1 ∈ l := by
  induction l with
  | nil => simp [findRow] at h
  | cons r t ih =>
    simp only [findRow] at h
    split at h
    · cases h
      simp
    · simp [ih h]

/-- Every row stands in the block of its table. -/
theorem base_of_mem_blockRows {b : Nat} {r : Row} (h : r ∈ blockRows b) : r.base / 0x10000 = b := by
  have hl : b < 16 := by
    by_contra hb
    unfold blockRows at h
    split at h <;> simp_all
  have key : ∀ b : Fin 16, (blockRows b.val).all (fun r => r.base / 0x10000 == b.val) = true := by decide +kernel
  have := List.all_eq_true.mp (key ⟨b, hl⟩) r h
  simpa using this

theorem base_of_rowAt {a : Nat} {r : Row} {i w : Nat} (h : rowAt a = some (r, i, w)) : r.base / 0x10000 = a / 0x10000 :=
  base_of_mem_blockRows (findRow_mem h)

/-- The row of a plain register, taken apart. -/
theorem plainRow_iff (r : Row) : plainRow r = true ↔ r.acc = .rw ∧ r.words = 1 ∧ r.base ∉ effectBases ∧ r.base / 0x10000 ≠ 12 := by
  simp [plainRow, and_assoc]

theorem ackDone_quiet {β : Type} {g : State → β} (hg : Quiet g) (a : Nat) (s : State) : g (ackDone a s) = g s := by
  unfold ackDone
  split
  · split
    · exact s.raise_quiet hg _
    · rfl
  · rfl

theorem ackDone_sameBut (a : Nat) (s : State) : (ackDone a s).sameBut s := by
  have h := ackDone_quiet (g := fun u => { u with out := [], irq := IrqPart.reset }) (fun _ _ _ => rfl) a s
  exact congrArg (fun u : State => { u with out := s.out, irq := s.irq }) h

/-- A plain register of the host island takes the writable bits of the value (R51). -/
theorem land_plain {m a k : Nat} {v : Word} {r : Row} {i : Nat} (hr : rowAt a = some (r, i, 0)) (hp : plainRow r = true) (hm : r.mask = [k])
    (hb : a / 0x10000 ∉ [2, 3, 4, 5, 6]) (s : State) : land m a [v] s = ackDone a (s.setReg a (v &&& BitVec.ofNat 32 k)) := by
  obtain ⟨hacc, -, heff, h12⟩ := (plainRow_iff r).mp hp
  have hbase := base_of_rowAt hr
  simp only [List.mem_cons, List.not_mem_nil, or_false, not_or] at hb
  obtain ⟨h2, h3, h4, h5, h6⟩ := hb
  have hland : landPlain r a [v] s = ackDone a (s.setReg a (v &&& BitVec.ofNat 32 k)) := by
    unfold landPlain
    rw [hacc, hm]
    rfl
  unfold land
  rw [hr]
  dsimp only
  rw [if_neg (by simp [hacc]), if_neg (by omega), landNear_of_not_effect heff, landFar_of_not_effect heff h12, hbase]
  split
  · exact hland
  · exact hland
  · exact hland
  · exact hland
  iterate 5 next e => exact absurd e (by assumption)
  · exact hland

/-! ### What a write of a plain register comes to (R58, R59, R61) -/

/-- A write that no guard, lock or effect of the row concerns is put to its register. -/
theorem wordWrite_plain {m : Master} {a i : Nat} {v : Word} {r : Row} {s : State} (hr : rowAt a = some (r, i, 0)) (hp : plainRow r = true)
    (hc : a % 0x10000 < 0xfff0) (h12 : a / 0x10000 ≠ 12) (hon : nearReg a = true ∨ s.blockOn (a / 0x10000) = true) :
    wordWrite m a v s = putWords m a a [v] s := by
  obtain ⟨hacc, hw, -, -⟩ := (plainRow_iff r).mp hp
  have hshut : s.nvsShut a = false := by simp [State.nvsShut, h12]
  have hq : r.quantity = false := by simp [Row.quantity, hw]
  unfold wordWrite
  rw [if_neg (by rcases hon with h | h <;> simp [h]), if_neg (by rintro rfl; exact h12 (by decide)), if_neg (by simp [hshut]),
    if_neg (by omega), hr]
  dsimp only
  rw [if_neg (by simp [hacc])]
  unfold rowWrite
  rw [if_neg (by simp [hacc]), if_neg (by simp [hq])]

theorem wordWrite_off {m : Master} {a : Nat} {v : Word} {s : State} (hn : nearReg a = false) (hoff : s.blockOn (a / 0x10000) = false) :
    wordWrite m a v s = offWrite m s := by
  unfold wordWrite
  rw [if_pos (by simp [hn, hoff])]

theorem putWords_near {m : Master} {base a : Nat} {ws : List Word} {s : State} (h : nearReg a = true) :
    putWords m base a ws s = land m.id base ws s := by
  unfold putWords
  rw [if_pos h]

theorem putWords_busy {m : Master} {base a : Nat} {ws : List Word} {s : State} (h : nearReg a = false)
    (hp : s.postedAt (a / 0x10000) ≠ none) : putWords m base a ws s = s.sendFault srcHostDecode kBusyWrite a := by
  unfold putWords
  rw [if_neg (by simp [h]), if_pos (by simpa [Option.isSome_iff_ne_none] using hp)]
  rfl

theorem putWords_posted {m : Master} {base a : Nat} {ws : List Word} {s : State} (h : nearReg a = false)
    (hp : s.postedAt (a / 0x10000) = none) :
    (putWords m base a ws s).postedAt (a / 0x10000) = some ⟨base, ws, a, m⟩ ∧ (putWords m base a ws s).bus.reply = s.bus.reply ∧
      putWords m base a ws s = { s with bus := (putWords m base a ws s).bus } := by
  unfold putWords
  extract_lets b s1
  rw [if_neg (by simp [h]), if_neg (by simp [b, hp])]
  exact ⟨(State.postedAt_setPosted s b (some ⟨base, ws, a, m⟩) :), rfl, rfl⟩

/-- An access to a block that is off: counted, and answered so but on PCIe (R61). -/
theorem offWrite_spec (m : Master) (s : State) (hr : s.bus.reply = ⟨.ok, []⟩) :
    (offWrite m s).bus.reply = ⟨if m = .hostPcie then .ok else .domainOff, []⟩ ∧ (offWrite m s).bus.posted = s.bus.posted ∧
      (offWrite m s).regs = (s.bump16 Reg.OFF_ACCESS).regs := by
  unfold offWrite answerWr offAccess
  split
  · exact ⟨(congrArg BusPart.reply (State.bump16_bus ..)).trans hr, congrArg BusPart.posted (State.bump16_bus ..), rfl⟩
  · exact ⟨rfl, (congrArg BusPart.posted (State.bump16_bus s Reg.OFF_ACCESS) :), rfl⟩

/-- The common registers take their value at once, in whatever block (R58). -/
theorem nearReg_common {a : Nat} (h : 0xfff0 ≤ a % 0x10000) : nearReg a = true := by
  unfold nearReg
  split
  iterate 4 rfl
  · next e =>
    have : 0x7fff0 ≤ a := by omega
    simp [this]
  · simp [h]

theorem wordWrite_blkIntEn {m : Master} {b : Nat} {v : Word} {s : State} : wordWrite m (blkIntEn b) v s = s.setReg (blkIntEn b) v := by
  have hmod : blkIntEn b % 0x10000 = 0xfff4 := by unfold blkIntEn; omega
  have hn : nearReg (blkIntEn b) = true := nearReg_common (by omega)
  unfold wordWrite putCommon
  rw [if_neg (by simp [hn]), if_neg (by intro h; rw [h] at hmod; exact absurd hmod (by decide)), if_neg (by simp [State.nvsShut, hn]),
    if_pos (by omega), hmod]
  rfl

end Sys2Proof.Machine

namespace Sys2Proof

open Machine

/-- Settles O10: every outcome is one of the decode's branches, and `settle` keeps its registers and bus part. -/
theorem registerWritesLandOrArePosted : Obligations.RegisterWritesLandOrArePosted := by
  unfold Obligations.RegisterWritesLandOrArePosted
  refine ⟨fun m a v s r i k h h4 ha hc h12 hr hp hm => ?plain, fun m b v s h => ?common, fun m a ws s h => ?malformed,
    fun m a ws whole s hon hno hpcie => ?stalled⟩
  case plain =>
    have hexec := exec_registerWrite_word (v := v) h h4 ha
    have hput : nearReg a.toNat = true ∨ s.blockOn (a.toNat / 0x10000) = true →
        exec (.registerWrite m a [v] true) s = .next (settle (putWords m a.toNat a.toNat [v] (s.decoded m))) := fun hon => by
      rw [hexec, wordWrite_plain hr hp hc h12 (hon.imp_right (s.decoded_blockOn m _).trans)]
    refine ⟨fun hn => ⟨_, hput (.inl hn), ?_⟩, fun hn hon hnone => ⟨_, hput (.inr hon), ?_⟩, fun hn hon hbusy => ⟨_, hput (.inr hon), ?_⟩,
      fun hn hoff => ⟨_, hexec, ?_⟩⟩
    · have hblk : a.toNat / 0x10000 ∉ [2, 3, 4, 5, 6] := by
        intro hb
        simp only [List.mem_cons, List.not_mem_nil, or_false] at hb
        rcases hb with hb | hb | hb | hb | hb <;> simp [nearReg, hb] at hn <;> omega
      rw [putWords_near hn, land_plain hr hp hm hblk]
      have hq := ackDone_sameBut a.toNat ((s.decoded m).setReg a.toNat (v &&& BitVec.ofNat 32 k))
      have hreg := ackDone_quiet (g := State.regs) (fun _ _ _ => rfl) a.toNat ((s.decoded m).setReg a.toNat (v &&& BitVec.ofNat 32 k))
      have hbus := ackDone_quiet (g := State.bus) (fun _ _ _ => rfl) a.toNat ((s.decoded m).setReg a.toNat (v &&& BitVec.ofNat 32 k))
      refine ⟨?_, fun x hx => ?_, ?_, ?_⟩
      · rw [settle_reg, State.reg_congr hreg, State.reg_setReg]
      · rw [settle_reg, State.reg_congr hreg, State.reg_setReg_ne _ _ hx, State.decoded_reg]
      · rw [settle_bus, hbus, State.setReg_bus, State.decoded_bus]
      · rw [settle_regs, settle_bus, hreg, hbus]
        exact settle_sameBut_of hq
    · obtain ⟨h1, h2, h3⟩ := putWords_posted (m := m) (base := a.toNat) (ws := [v]) hn ((s.decoded_postedAt m _).trans hnone)
      refine ⟨?_, ?_, ?_⟩
      · unfold State.postedAt at h1 ⊢
        rw [settle_bus, h1]
      · rw [settle_bus, h2, State.decoded_bus]
      · rw [settle_bus]
        refine settle_sameBut_of ?_
        rw [h3]
        exact State.sameBut_refl _
    · rw [putWords_busy hn (by rw [State.decoded_postedAt]; exact hbusy)]
      refine ⟨?_, settle_sameBut _⟩
      rw [settle_bus, State.sendFault_bus, State.decoded_bus]
    · rw [wordWrite_off hn ((s.decoded_blockOn m _).trans hoff)]
      obtain ⟨h1, h2, h3⟩ := offWrite_spec m (s.decoded m) (by rw [State.decoded_bus])
      have hreg := State.reg_congr h3
      refine ⟨?_, ?_, ?_, fun x hx => ?_⟩
      · rw [settle_bus, h1]
      · rw [settle_bus, h2, State.decoded_bus]
      · have hf : (offWrite m (s.decoded m)).fld ⟨Reg.OFF_ACCESS, 0, 16⟩ = ((s.decoded m).bump16 Reg.OFF_ACCESS).fld ⟨Reg.OFF_ACCESS, 0, 16⟩ := by
          unfold State.fld State.rv
          rw [hreg]
        have hs : (s.decoded m).fld ⟨Reg.OFF_ACCESS, 0, 16⟩ = s.fld ⟨Reg.OFF_ACCESS, 0, 16⟩ := by
          unfold State.fld State.rv
          rw [State.decoded_reg]
        rw [settle_fld, hf, ← hs]
        exact State.fld_bumpFld _ _ (by decide)
      · rw [settle_reg, hreg, State.reg_bump16_ne _ hx, State.decoded_reg]
  case common =>
    have ha : (BitVec.ofNat 21 (b.val * 0x10000 + 0xfff4)).toNat = blkIntEn b.val := by
      have := b.isLt
      rw [BitVec.toNat_ofNat]
      exact Nat.mod_eq_of_lt (by omega)
    refine ⟨_, exec_registerWrite_word h ?_ ?_, ?_⟩
    · rw [ha]
      unfold blkIntEn
      omega
    · have := b.isLt
      rw [ha]
      unfold blkIntEn
      omega
    · rw [ha, wordWrite_blkIntEn]
      exact ⟨by rw [settle_reg, State.reg_setReg], fun x hx => by rw [settle_reg, State.reg_setReg_ne _ _ hx, State.decoded_reg]⟩
  case malformed =>
    refine ⟨_, rfl, settle_sameBut_of ?_⟩
    rw [access_of_reaches h.1]
    exact State.sameBut_refl _
  case stalled =>
    subst hpcie
    refine ⟨_, rfl, settle_sameBut_of ?_⟩
    unfold access reach
    rw [if_pos (show onBus .hostPcie = true from rfl), if_neg (by simp [hon]), if_neg (by simp [hno])]
    exact State.sameBut_refl _

end Sys2Proof
end

section
/-! The swap of an itinerary (R326–R335): what arms, disarms and commits it, and what the engines take at its cycle. -/

namespace Sys2Proof.Machine

-- The default arguments of the frame lemmas wait for the proofs before them: a thread each, where proofs are elaborated side by side.
set_option Elab.async false

/-! ### Loops over the ports, and quantities of two words -/

theorem forEach_keeps_of_mem {α β : Type} {g : State → β} {f : State → α → State} {l : List α} (hf : ∀ s, ∀ a ∈ l, g (f s a) = g s)
    (s : State) : g (forEach l f s) = g s := by
  induction l generalizing s with
  | nil => rfl
  | cons a t ih => exact (ih (fun s b hb => hf s b (by simp [hb])) (f s a)).trans (hf s a (by simp))

/-- A loop over indices, each of whose rounds gives its own index what the others leave it. -/
theorem forEach_range_each {Q : Nat → State → Prop} {f : State → Nat → State} {n : Nat} (hset : ∀ s p, p < n → Q p (f s p))
    (hkeep : ∀ s p q, q ≠ p → p < n → Q q s → Q q (f s p)) (s : State) : ∀ p, p < n → Q p (forEach (List.range n) f s) := by
  have key : ∀ k, k ≤ n → ∀ p, p < k → Q p (forEach (List.range k) f s) := by
    intro k
    induction k with
    | zero => intro _ p hp; omega
    | succ k ih =>
      intro hk p hp
      have hs : forEach (List.range (k + 1)) f s = f (forEach (List.range k) f s) k := by
        unfold forEach
        rw [List.range_succ, List.foldl_append]
        rfl
      rw [hs]
      by_cases he : p = k
      · exact he ▸ hset _ _ (by omega)
      · exact hkeep _ _ _ he (by omega) (ih (by omega) p (by omega))
  exact key n le_rfl

theorem State.quant_two (s : State) (a : Nat) : s.quant a 2 = s.rv a + 2 ^ 32 * s.rv (a + 4) := by
  simp [State.quant]

theorem State.quant_setQuant_two (s : State) (a v : Nat) : (s.setQuant a 2 v).quant a 2 = v % 2 ^ 64 := by
  have h : s.setQuant a 2 v = (s.setRv a v).setRv (a + 4) (v / 2 ^ 32) := rfl
  rw [State.quant_two, h, State.rv_setRv_ne _ _ (by omega), State.rv_setRv, State.rv_setRv]
  omega

theorem State.rv_setQuant_two_ne (s : State) {a x : Nat} (v : Nat) (h : x ≠ a) (h' : x ≠ a + 4) : (s.setQuant a 2 v).rv x = s.rv x :=
  (State.rv_setRv_ne _ _ h').trans (State.rv_setRv_ne _ _ h)

/-! ### Arming and disarming (R44, R326, R333) -/

theorem landItinCmd_swap {b : Nat} (hb : b < 2) (s : State) : landItinCmd (2 + 256 * b) s = itinSwap b s := by
  unfold landItinCmd
  extract_lets c
  have hc : c = b := by unfold c; omega
  rw [show (2 + 256 * b) % 16 = 2 by omega, hc]
  rfl

theorem le_nextMult (l c : Nat) : c ≤ nextMult l c := by
  unfold nextMult
  split
  · exact le_rfl
  · have h1 := Nat.div_add_mod (c + l - 1) l
    have h2 := Nat.mod_lt (c + l - 1) (show 0 < l by omega)
    have h3 : (c + l - 1) / l * l = l * ((c + l - 1) / l) := Nat.mul_comm ..
    omega

theorem dvd_nextMult {l : Nat} (h : l ≠ 0) (c : Nat) : l ∣ nextMult l c := by
  unfold nextMult
  rw [if_neg h]
  exact Dvd.intro_left _ rfl

/-- Disarming leaves no swap armed and says why. -/
theorem swapDisarm_spec (k : Nat) (s : State) (hk : k < 8) :
    (swapDisarm k s).itin.arm = none ∧ (swapDisarm k s).flag F.ITIN_STATUS_ARMED = false ∧ (swapDisarm k s).fld F.SWAP_RESULT_CODE = k := by
  unfold swapDisarm
  refine ⟨rfl, ?_, ?_⟩
  · rw [State.flag_setFld_apart _ _ (by decide), State.flag_setFlag _ _ _ (by decide) rfl]
  · rw [State.fld_setFld _ _ _ (by decide)]
    exact Nat.mod_eq_of_lt hk

/-- The record of a rejection: four registers, a fault message and the counter of its kind (R321). -/
theorem rejectRec_eq (b : Nat) (r : Rej) (s : State) : ∃ c w x o f e, c = r.code % 65536 + 65536 * b + 2 ^ 31 ∧
    (e = Reg.SWAP_EVT ∨ e = Reg.VER_EVT) ∧ rejectRec b r s = (((((s.setRv Reg.REJ_CODE c).setRv Reg.REJ_WHERE w).setRv Reg.REJ_AUX x).setRv
      Reg.REJ_OFFSET o).sendFault srcVerifier kItineraryReject f).bump e := by
  refine ⟨_, _, _, _, _, _, rfl, ?_, rfl⟩
  split
  · exact .inl rfl
  · exact .inr rfl

theorem rejectRec_reg (b : Nat) (r : Rej) (s : State) {a : Nat}
    (h : a ∉ [Reg.REJ_CODE, Reg.REJ_WHERE, Reg.REJ_AUX, Reg.REJ_OFFSET, Reg.SWAP_EVT, Reg.VER_EVT]) : (rejectRec b r s).reg a = s.reg a := by
  simp only [List.mem_cons, List.not_mem_nil, or_false, not_or] at h
  obtain ⟨hc, hw, hx, ho, he, hv⟩ := h
  obtain ⟨c, w, x, o, f, e, -, hevt, heq⟩ := rejectRec_eq b r s
  have hne : a ≠ e := by rcases hevt with rfl | rfl <;> assumption
  rw [heq]
  simp (disch := assumption) only [State.reg_bump_ne, State.sendFault_reg, State.reg_setRv_ne]

theorem rejectRec_code (b : Nat) (r : Rej) (s : State) (hb : b < 2) :
    (rejectRec b r s).rv Reg.REJ_CODE = r.code % 65536 + 65536 * b + 2 ^ 31 := by
  obtain ⟨c, w, x, o, f, e, hc, hevt, heq⟩ := rejectRec_eq b r s
  have hne : Reg.REJ_CODE ≠ e := by rcases hevt with rfl | rfl <;> decide
  have hlt : c < 2 ^ 32 := by omega
  unfold State.rv
  rw [heq, State.reg_bump_ne _ hne, State.sendFault_reg]
  simp (disch := decide) only [State.reg_setRv_ne, State.reg_setRv]
  rw [← hc, BitVec.toNat_ofNat]
  exact Nat.mod_eq_of_lt hlt

theorem rejectRec_itin (b : Nat) (r : Rej) (s : State) : (rejectRec b r s).itin = s.itin := by
  obtain ⟨c, w, x, o, f, e, -, -, heq⟩ := rejectRec_eq b r s
  rw [heq, State.bump_itin, State.sendFault_itin]
  simp only [State.setRv_itin]

theorem itinSwap_refused {b : Nat} {s : State} (h : s.bank b ≠ 3 ∨ s.itin.arm.isSome = true ∨ s.bank (1 - b) = 6) :
    itinSwap b s = s.bump16 Reg.ITIN_CMD_REF := by
  unfold itinSwap
  rw [if_pos (by rcases h with h | h | h <;> simp [h])]
  rfl

/-- The cycle of a swap armed now: at least 2,048 cycles ahead, a multiple of the laps that must meet there (R326). -/
def State.swapAt (s : State) (b : Nat) : Nat :=
  nextMult (if s.itinRuns then Nat.lcm (s.img s.runBank).peLap (s.img b).peLap else (s.img b).peLap) (s.cycle + 2048)

theorem State.swapAt_dvd {s : State} {b : Nat} (hl : (s.img b).peLap ≠ 0) (hr : s.itinRuns = true → (s.img s.runBank).peLap ≠ 0) :
    s.swapAt b % (s.img b).peLap = 0 := by
  unfold State.swapAt
  apply Nat.mod_eq_zero_of_dvd
  split
  · next h => exact (Nat.dvd_lcm_right _ _).trans (dvd_nextMult (Nat.lcm_ne_zero (hr h) hl) _)
  · exact dvd_nextMult hl _

/-- A swap whose charge fits is armed, and its cycle shows. -/
theorem itinSwap_armed {b : Nat} {s : State} (h3 : s.bank b = 3) (ha : s.itin.arm = none) (h6 : s.bank (1 - b) ≠ 6) (hc : s.swapCheck b = none) :
    (itinSwap b s).itin.arm = some ⟨b, s.swapAt b, false⟩ ∧ (itinSwap b s).flag F.ITIN_STATUS_ARMED = true ∧
      (itinSwap b s).quant Reg.SWAP_CYCLE 2 = s.swapAt b % 2 ^ 64 := by
  unfold itinSwap
  rw [if_neg (by simp [h3, ha, h6]), hc]
  extract_lets i l cs _ s1 s2 s3
  have hloop : ∀ (u : State) (x : Nat), x < Reg.COMPAT 0 → (forEach (List.range 4) (fun s4 p =>
      s4.setRv (Reg.COMPAT p) (if s.itinRuns && !s.wHeld 1 0 then compat (s.img s.runBank) i p else 0)) u).rv x = u.rv x := fun u x hx =>
    forEach_keeps (g := fun v => v.rv x) (fun v p => v.rv_setRv_ne _ (by simp only [Reg.COMPAT] at hx ⊢; omega)) _ u
  have hitin : ∀ u : State, (forEach (List.range 4) (fun s4 p =>
      s4.setRv (Reg.COMPAT p) (if s.itinRuns && !s.wHeld 1 0 then compat (s.img s.runBank) i p else 0)) u).itin = u.itin := fun u =>
    forEach_keeps (g := State.itin) (fun v p => v.setRv_itin _ _) _ u
  have hcs : cs = s.swapAt b := rfl
  clear_value cs
  refine ⟨?_, ?_, ?_⟩
  · rw [hitin]
    simp only [s3, s2, State.setFld_itin, State.setQuant_itin, State.setFlag_itin]
    rw [← hcs]
  · have h1 : (s1.setFlag F.ITIN_STATUS_ARMED true).flag F.ITIN_STATUS_ARMED = true := State.flag_setFlag _ _ _ (by decide) rfl
    unfold State.flag State.fld at h1 ⊢
    rw [hloop _ _ (by decide)]
    simp only [s3, s2]
    rw [State.rv_setFld_ne _ _ _ (by decide), State.rv_setFld_ne _ _ _ (by decide), State.rv_setQuant_two_ne _ _ (by decide) (by decide)]
    exact h1
  · rw [State.quant_two, hloop _ _ (by decide), hloop _ _ (by decide)]
    simp only [s3]
    rw [State.rv_setFld_ne _ _ _ (by decide), State.rv_setFld_ne _ _ _ (by decide), State.rv_setFld_ne _ _ _ (by decide),
      State.rv_setFld_ne _ _ _ (by decide), ← State.quant_two, ← hcs]
    exact State.quant_setQuant_two _ _ _

/-- A swap whose charge does not fit: nothing is armed, and the check's code stands (R44). -/
theorem itinSwap_unfit {b c : Nat} {s : State} (hb : b < 2) (h3 : s.bank b = 3) (ha : s.itin.arm = none) (h6 : s.bank (1 - b) ≠ 6)
    (hc : s.swapCheck b = some c) : (itinSwap b s).itin.arm = none ∧ (itinSwap b s).fld F.SWAP_RESULT_CODE = 6 ∧
      (itinSwap b s).rv Reg.REJ_CODE = c % 65536 + 65536 * b + 2 ^ 31 := by
  unfold itinSwap
  rw [if_neg (by simp [h3, ha, h6]), hc]
  dsimp only
  refine ⟨?_, ?_, rejectRec_code b (rejImg c 0) _ hb⟩
  · rw [rejectRec_itin]
    exact ha
  · unfold State.fld State.rv
    rw [rejectRec_reg _ _ _ (by decide)]
    exact State.fld_setFld s F.SWAP_RESULT_CODE 6 (by decide)

theorem itinCancel_refused {s : State} (h : ∀ a, s.itin.arm = some a → a.committed = true ∨ a.cs ≤ s.cycle + 1024) :
    itinCancel s = s.bump16 Reg.ITIN_CMD_REF := by
  unfold itinCancel
  split
  · next a ha => rw [if_pos (by simpa [Arm.within] using h a ha)]; rfl
  · rfl

theorem itinCancel_made {s : State} {a : Arm} (ha : s.itin.arm = some a) (hc : a.committed = false) (hw : s.cycle + 1024 < a.cs) :
    itinCancel s = swapCancel 2 s := by
  unfold itinCancel
  rw [ha]
  dsimp only
  rw [if_neg (by simp [hc, Arm.within, hw])]

theorem swapCancel_spec (k : Nat) (s : State) (hk : k < 8) :
    (swapCancel k s).itin.arm = none ∧ (swapCancel k s).flag F.ITIN_STATUS_ARMED = false ∧ (swapCancel k s).fld F.SWAP_RESULT_CODE = k ∧
      (swapCancel k s).reg Reg.SWAP_EVT = s.reg Reg.SWAP_EVT + 1 := by
  obtain ⟨h1, h2, h3⟩ := swapDisarm_spec k s hk
  have hne : ∀ f : Fld, f.addr ≠ Reg.SWAP_EVT → (swapCancel k s).fld f = (swapDisarm k s).fld f := fun f h => State.fld_setRv_ne _ _ f h
  refine ⟨h1, ?_, ?_, ?_⟩
  · unfold State.flag at h2 ⊢
    rw [hne _ (by decide), h2]
  · rw [hne _ (by decide), h3]
  · unfold swapCancel
    rw [State.reg_bump]
    unfold swapDisarm
    rw [State.reg_setFld_ne _ _ _ (by decide), State.reg_setFlag_ne _ _ _ (by decide)]
    rfl

theorem swapCancel_within (k : Nat) (s : State) : (swapCancel k s).within s [9] [.itin] := by
  unfold swapCancel swapDisarm
  extract_lets _ s1
  have h1 : s1.within s [9] [.itin] := (setItin_within s _).mono
  exact ((h1.setFlag).setFld).bump

/-- What changed registers and the itinerary's part alone. -/
theorem State.within.sameBut_itin {s t : State} {B : List Nat} (h : t.within s B [.itin]) :
    t.sameBut { { s with itin := t.itin } with regs := t.regs } := by
  unfold State.sameBut
  exact congrArg (fun u : State => { u with itin := t.itin, regs := t.regs, out := s.out, irq := s.irq }) h.parts

theorem swapCancel_onlyRegs (k : Nat) (s : State) :
    (settle (swapCancel k s)).onlyRegs { s with itin := (settle (swapCancel k s)).itin } [Reg.ITIN_STATUS, Reg.SWAP_RESULT, Reg.SWAP_EVT] := by
  rw [settle_itin]
  refine settle_onlyRegs (fun a ha => ?_) (swapCancel_within k s).sameBut_itin
  simp only [List.mem_cons, List.not_mem_nil, or_false, not_or] at ha
  obtain ⟨hs, hr, he⟩ := ha
  unfold swapCancel swapDisarm
  rw [State.reg_bump_ne _ he]
  simp (disch := assumption) only [State.reg_setFld_ne, State.reg_setFlag_ne]
  rfl

/-- At the commit point the charge is checked again (R44, R326). -/
theorem commitPoint_fits {s : State} {a : Arm} (ha : s.itin.arm = some a) (hc : a.committed = false) (hw : a.cs ≤ s.cycle + 1024)
    (hk : s.swapCheck a.bank = none) : commitPoint s = { s with itin := { s.itin with arm := some { a with committed := true } } } := by
  unfold commitPoint
  rw [ha]
  dsimp only
  rw [if_neg (by simp [hc, Arm.within, hw]), hk]

theorem commitPoint_unfit {s : State} {a : Arm} {c : Nat} (ha : s.itin.arm = some a) (hc : a.committed = false) (hw : a.cs ≤ s.cycle + 1024)
    (hk : s.swapCheck a.bank = some c) : commitPoint s = rejectRec a.bank (rejImg c 0) (swapDisarm 4 s) := by
  unfold commitPoint
  rw [ha]
  dsimp only
  rw [if_neg (by simp [hc, Arm.within, hw]), hk]

/-! ### The gap before an incompatible port (R330) -/

theorem testBit_add_two_pow {n p : Nat} (h : n.testBit p = false) : (n + 2 ^ p).testBit p = true := by
  rw [Nat.add_comm, Nat.testBit_two_pow_add_eq, h]
  rfl

theorem gapOpen_made {p : Nat} {s : State} {a : Arm} (hp : p < 4) (ha : s.itin.arm = some a) (hc : a.committed = true)
    (hw : a.cs ≤ s.cycle + dcyc ((s.pe_ p).hdr.d.getD (s.modeIdx p) 0)) (hf : s.fld (F.COMPAT_COND p) ≠ 0) (hg : s.itin.gap.testBit p = false) :
    (gapOpen p s).itin.gap.testBit p = true ∧ (gapOpen p s).flag (F.COMPAT_GAP p) = true ∧
      ((gapOpen p s).fld F.SWAP_RESULT_GAPS).testBit p = true := by
  unfold gapOpen
  extract_lets open_ _ s1
  have ho : open_ = true := by
    unfold open_
    rw [ha]
    dsimp only
    rw [hc, Bool.true_and]
    exact decide_eq_true hw
  rw [if_pos (by simp [ho, hf, hg])]
  refine ⟨testBit_add_two_pow hg, ?_, ?_⟩
  · rw [State.flag_setFld_apart _ _ (.inl (by simp only [Reg.COMPAT, Reg.SWAP_RESULT]; omega)), State.flag_setFlag _ _ _ (show 3 + 1 ≤ 32 by decide) rfl]
  · rw [State.fld_setFld _ _ _ (by decide), Nat.testBit_mod_two_pow, Nat.testBit_or, Nat.testBit_two_pow_self]
    simp [hp]

/-! ### The engines take the bank (R327, R328) -/

theorem engLoad_within (e b : Nat) (keep : Bool) (s : State) : (engLoad e b keep s).within s [] [.eng] := by
  have key : ∀ g : EngPart, (s.setEng e g).within s [] [.eng] := fun _ => .update .refl rfl rfl
  exact key _

theorem engLoad_regs (e b : Nat) (keep : Bool) (s : State) : (engLoad e b keep s).regs = s.regs := State.setEng_regs ..

/-- What a port engine has after it took a bank. -/
theorem peTake_eq (p b : Nat) (keep : Bool) (s : State) : ∃ g e, (e : PePart).bank = b ∧ e.runs = !s.wHeld 1 0 ∧
    peTake p b keep s = ((s.setEng p g).setPe p e).setFlag (F.PE_STATUS_RUNNING p) (!s.wHeld 1 0) :=
  ⟨_, _, rfl, rfl, rfl⟩

theorem showDark_within {p : Nat} (hp : p < 4) (s : State) : (showDark p s).within s [9, 0x101] [] :=
  .ite (fun _ => (State.within.refl.setFlag (regArea_mem_pair (b := 9) (by simp only [Reg.COMPAT]; omega))).setFld)
    (fun _ => .refl)

theorem peTake_within {p : Nat} (hp : p < 4) (b : Nat) (keep : Bool) (s : State) : (peTake p b keep s).within s [9] [.eng, .fab] := by
  obtain ⟨g, e, -, -, heq⟩ := peTake_eq p b keep s
  rw [heq]
  have h : ((s.setEng p g).setPe p e).within s [9] [.eng, .fab] := (setPe_within ..).after ((setEng_within s p g).mono)
  exact h.setFlag (regArea_mem (b := 9) (by simp only [inBlock, Reg.PE_STATUS]; omega))

theorem showDark_reg {p a : Nat} (s : State) (hc : a ≠ Reg.COMPAT p) (hr : a ≠ Reg.SWAP_RESULT) : (showDark p s).reg a = s.reg a := by
  unfold showDark
  split
  · simp (disch := assumption) only [State.reg_setFld_ne, State.reg_setFlag_ne]
  · rfl

theorem peTake_reg {p a : Nat} (b : Nat) (keep : Bool) (s : State) (h : a ≠ Reg.PE_STATUS p) : (peTake p b keep s).reg a = s.reg a := by
  obtain ⟨g, e, -, -, heq⟩ := peTake_eq p b keep s
  rw [heq, State.reg_setFlag_ne _ _ _ h]
  rfl

/-- The four port engines take a bank, and their ports show a mode that it does not serve. -/
def pesTake (b : Nat) (s : State) : State := forEach (List.range 4) (fun s p => showDark p (peTake p b true s)) s

theorem pesTake_within (b : Nat) (s : State) : (pesTake b s).within s [9, 0x101] [.eng, .fab] :=
  State.within.refl.forEach (fun p hp u =>
    have hp : p < 4 := List.mem_range.mp hp
    .after (showDark_within hp _) (peTake_within hp b true u).mono)

theorem pesTake_reg (b : Nat) (s : State) {a : Nat} (ha : a = Reg.ITIN_STATUS ∨ a = Reg.SWAP_EVT) : (pesTake b s).reg a = s.reg a := by
  refine forEach_keeps_of_mem (g := fun u => u.reg a) (fun u p hp => ?_) s
  have hp : p < 4 := List.mem_range.mp hp
  have hc : a ≠ Reg.COMPAT p ∧ a ≠ Reg.SWAP_RESULT ∧ a ≠ Reg.PE_STATUS p := by
    simp only [Reg.COMPAT, Reg.PE_STATUS, Reg.SWAP_RESULT, Reg.ITIN_STATUS, Reg.SWAP_EVT] at ha ⊢
    omega
  obtain ⟨hc, hr, hs⟩ := hc
  exact (showDark_reg _ hc hr).trans (peTake_reg _ _ _ hs)

theorem pesTake_pe (b : Nat) (s : State) {p : Nat} (hp : p < 4) :
    ((pesTake b s).pe_ p).bank = b ∧ ((pesTake b s).pe_ p).runs = !(pesTake b s).wHeld 1 0 := by
  have hdark : ∀ (u : State) (q p : Nat), p < 4 → (showDark p u).pe_ q = u.pe_ q := fun u q p hp =>
    (showDark_within hp u).get (fun v => v.pe_ q) (fun _ => rfl)
  refine forEach_range_each (Q := fun p u => (u.pe_ p).bank = b ∧ (u.pe_ p).runs = !u.wHeld 1 0) (fun u p hp => ?_)
    (fun u p q hq hp hu => ?_) s p hp
  · rw [hdark _ _ _ hp, (showDark_within hp _).wHeld, (peTake_within hp b true u).wHeld]
    obtain ⟨g, e, hb, hr, heq⟩ := peTake_eq p b true u
    have he : (peTake p b true u).pe_ p = e := by
      rw [heq]
      exact State.pe__setPe _ _ _
    rw [he]
    exact ⟨hb, hr⟩
  · rw [hdark _ _ _ hp, (showDark_within hp _).wHeld, (peTake_within hp b true u).wHeld]
    obtain ⟨g, e, -, -, heq⟩ := peTake_eq p b true u
    have he : (peTake p b true u).pe_ q = u.pe_ q := by
      rw [heq]
      exact State.pe__setPe_ne _ _ hq
    rw [he]
    exact hu

/-! ### The swap cycle (R327, R332, R335) -/

theorem targetMove_within (te : Bool) (ma : Nat) (d : Int) (s : State) : (targetMove te ma d s).within s [1] [.rat] := by
  unfold targetMove
  extract_lets s1
  have h1 : s1.within s [1] [.rat] := State.within.refl.setFld (by split <;> decide)
  exact .ite (fun _ => h1) (fun _ => h1.update rfl rfl)

theorem fabTarget_within (ma : Nat) (ran : Bool) (s : State) : (fabTarget ma ran s).within s [1] [.rat] :=
  (targetMove_within _ _ _ _).update rfl rfl

theorem teTarget_within (ma : Nat) (s : State) : (teTarget ma s).within s [1] [.rat] := targetMove_within ..

theorem milestone_within {k : Nat} (hk : k < 16) (s : State) : (s.milestone k).within s [0] [] := by
  have ht : regArea (Reg.BOOT_TIME k) ∈ [0] := by
    simp only [regArea, Reg.BOOT_TIME, List.mem_singleton]
    rw [if_pos (by omega), if_neg (by omega)]
  exact .ite (fun _ => .refl) (fun _ => ((State.within.refl.setFlag (show regArea Reg.BOOT_STATUS ∈ [0] by decide)).setRv ht).bump)

theorem rampTo_within (target backfill gov : Nat) (s : State) : (s.rampTo target backfill gov).within s [1] [.rat] := by
  have h : ({ s with rat := { s.rat with backfillTo := backfill, govTo := gov } } : State).within s [1] [.rat] := .update .refl rfl rfl
  exact h.setFld.setFlag

/-- The state in which the swap cycle begins: no swap is armed, and the TEs have yet to take the bank. -/
def swapStart (s : State) : State := { s with itin := { s.itin with arm := none, gap := 0, teWait := 3, drainTo := s.lastStop } }

/-- The state in which the swap cycle has given the engines the new bank and the banks their states. -/
def swapMade (a : Arm) (s : State) : State :=
  let s2 := pesTake a.bank (swapStart s)
  let s3 := if s.itinRuns then s2.setBank s.runBank 6 else s2
  let s4 := ((s3.setBank a.bank 5).setFld F.ITIN_STATUS_RUN_BANK a.bank).setFlag F.ITIN_STATUS_RUNNING true
  ((s4.setFlag F.ITIN_STATUS_ARMED false).setFlag F.FAB_STATUS_ITIN_RUN true).setFld F.SWAP_RESULT_CODE 1

/-- What ends the swap cycle: the fabric target, the backfill's flag, the event and its milestone. -/
def swapEnd (ma : Nat) (ran : Bool) (s : State) : State :=
  let s6 := fabTarget ma ran s
  let s7 := if s.wHeld 1 0 then s6 else s6.setFlag F.RATION_STATUS_FABRIC_BACKFILL false
  (s7.bump Reg.SWAP_EVT).milestone 7

theorem swapMade_within_pesTake (a : Arm) (s : State) : (swapMade a s).within (pesTake a.bank (swapStart s)) [9] [] := by
  unfold swapMade
  extract_lets s2 s3 s4
  have hb : regArea Reg.ITIN_STATUS ∈ [9] := by decide
  have h3 : s3.within s2 [9] [] := .ite (fun _ => State.within.refl.setFld hb) (fun _ => .refl)
  have h4 : s4.within s2 [9] [] := ((h3.setFld hb).setFld).setFlag
  exact h4.setFlag.setFlag.setFld

theorem swapMade_within (a : Arm) (s : State) : (swapMade a s).within s [9, 0x101] [.eng, .fab, .itin] := by
  have h : (swapStart s).within s [9, 0x101] [.eng, .fab, .itin] := .update .refl rfl rfl
  exact (swapMade_within_pesTake a s).after ((pesTake_within ..).after h)

theorem swapCycle_due {s : State} {a : Arm} (ha : s.itin.arm = some a) (hc : a.committed = true) (hw : a.cs ≤ s.cycle) :
    swapCycle s = swapEnd (s.img a.bank).fabMa s.itinRuns (swapMade a s) := by
  unfold swapCycle
  rw [ha]
  dsimp only
  rw [if_neg (by simp [hc, Arm.within, hw])]
  have hh : (swapMade a s).wHeld 1 0 = s.wHeld 1 0 := (swapMade_within a s).wHeld
  unfold swapEnd
  rw [hh]
  rfl

/-- The end of the swap cycle touches no register of the fabric but SWAP_EVT, and no part but the rations'. -/
theorem swapEnd_spec (ma : Nat) (ran : Bool) (s : State) : ∃ u, (u : State).within s [1] [.rat] ∧ swapEnd ma ran s = (u.bump Reg.SWAP_EVT).milestone 7 := by
  refine ⟨_, ?_, rfl⟩
  have h := fabTarget_within ma ran s
  exact .ite (fun _ => h) (fun _ => h.setFlag)

theorem swapEnd_reg (ma : Nat) (ran : Bool) (s : State) {x : Nat} (h9 : x / 0x10000 = 9) (hx : x ≠ Reg.SWAP_EVT) :
    (swapEnd ma ran s).reg x = s.reg x := by
  obtain ⟨u, hu, heq⟩ := swapEnd_spec ma ran s
  have ha : regArea x ∈ [9, 0x101] := regArea_mem_pair ⟨h9, by decide⟩
  have h0 : regArea x ∉ [0] := fun h => by simp_all
  have h1 : regArea x ∉ [1] := fun h => by simp_all
  rw [heq, (milestone_within (by decide) _).reg x h0, State.reg_bump_ne _ hx, hu.reg x h1]

theorem swapEnd_evt (ma : Nat) (ran : Bool) (s : State) : (swapEnd ma ran s).reg Reg.SWAP_EVT = s.reg Reg.SWAP_EVT + 1 := by
  obtain ⟨u, hu, heq⟩ := swapEnd_spec ma ran s
  rw [heq, (milestone_within (by decide) _).reg _ (by decide), State.reg_bump, hu.reg _ (by decide)]

theorem swapEnd_get {β : Type} (g : State → β) (hg : ∀ u : State, g (u.without [.rat]) = g u) (ma : Nat) (ran : Bool) (s : State) :
    g (swapEnd ma ran s) = g s := by
  obtain ⟨u, hu, heq⟩ := swapEnd_spec ma ran s
  have hm : (swapEnd ma ran s).within s [0, 1, 9] [.rat] := by
    rw [heq]
    exact (milestone_within (by decide) _).after (State.within.bump (hu.mono))
  exact hm.get g hg

theorem swapMade_itin (a : Arm) (s : State) : (swapMade a s).itin.arm = none ∧ (swapMade a s).itin.teWait = 3 := by
  rw [(swapMade_within_pesTake a s).get State.itin (fun _ => rfl), (pesTake_within ..).get State.itin (fun _ => rfl)]
  exact ⟨rfl, rfl⟩

theorem swapMade_pe (a : Arm) (s : State) {p : Nat} (hp : p < 4) :
    ((swapMade a s).pe_ p).bank = a.bank ∧ ((swapMade a s).pe_ p).runs = !s.wHeld 1 0 := by
  obtain ⟨hb, hr⟩ := pesTake_pe a.bank (swapStart s) hp
  rw [(swapMade_within_pesTake a s).get (fun v => v.pe_ p) (fun _ => rfl), hb, hr, (pesTake_within _ _).wHeld]
  exact ⟨rfl, rfl⟩

theorem State.bank_setFld_apart (s : State) {b v : Nat} {f : Fld} (h : f.apart ⟨Reg.ITIN_STATUS, 4 * b, 3⟩) : (s.setFld f v).bank b = s.bank b :=
  s.fld_setFld_apart v h

theorem State.bank_setBank (s : State) {b v : Nat} (hb : b < 2) (hv : v < 8) : (s.setBank b v).bank b = v :=
  (s.fld_setFld _ _ (by simp only; omega)).trans (Nat.mod_eq_of_lt hv)

/-- What ITIN_STATUS, SWAP_RESULT and SWAP_EVT show at the swap cycle. -/
theorem swapMade_shows {a : Arm} (ha : a.bank < 2) (s : State) :
    (swapMade a s).bank a.bank = 5 ∧ (swapMade a s).runBank = a.bank ∧ (swapMade a s).itinRuns = true ∧
      (swapMade a s).fld F.SWAP_RESULT_CODE = 1 ∧ (swapMade a s).flag F.ITIN_STATUS_ARMED = false ∧
      (swapMade a s).reg Reg.SWAP_EVT = s.reg Reg.SWAP_EVT ∧
      (s.itinRuns = true → s.runBank ≠ a.bank → (swapMade a s).bank s.runBank = 6) := by
  have hold : s.runBank < 2 := s.fld_lt F.ITIN_STATUS_RUN_BANK
  have hevt : (pesTake a.bank (swapStart s)).reg Reg.SWAP_EVT = s.reg Reg.SWAP_EVT := pesTake_reg _ _ (.inr rfl)
  have hne : Reg.SWAP_EVT ≠ Reg.ITIN_STATUS := by decide
  unfold swapMade
  extract_lets s2 s3 s4
  have h3 : s3.reg Reg.SWAP_EVT = s.reg Reg.SWAP_EVT := by
    unfold s3
    split
    · exact (State.reg_setFld_ne _ _ _ hne).trans hevt
    · exact hevt
  have hold6 : s.itinRuns = true → s3.bank s.runBank = 6 := fun hr => by
    unfold s3
    rw [if_pos hr]
    exact State.bank_setBank _ hold (by decide)
  clear_value s3
  have happ : ∀ b, b < 2 → ∀ lo, 8 ≤ lo → lo < 32 → Fld.apart ⟨Reg.ITIN_STATUS, lo, 1⟩ ⟨Reg.ITIN_STATUS, 4 * b, 3⟩ :=
    fun b hb lo h8 h32 => .inr ⟨h32, .inr (by simp only; omega)⟩
  have hbank : ∀ b, b < 2 → (((s4.setFlag F.ITIN_STATUS_ARMED false).setFlag F.FAB_STATUS_ITIN_RUN true).setFld F.SWAP_RESULT_CODE 1).bank b =
      (s3.setBank a.bank 5).bank b := fun b hb => by
    refine (State.bank_setFld_apart _ (.inl (show Reg.ITIN_STATUS ≠ Reg.SWAP_RESULT by decide))).trans ?_
    refine (State.bank_setFld_apart _ (.inl (show Reg.ITIN_STATUS ≠ Reg.FAB_STATUS by decide))).trans ?_
    refine (State.bank_setFld_apart _ (happ b hb 10 (by decide) (by decide))).trans ?_
    refine (State.bank_setFld_apart _ (happ b hb 9 (by decide) (by decide))).trans ?_
    exact State.bank_setFld_apart _ (happ b hb 8 (by decide) (by decide))
  refine ⟨?_, ?_, ?_, ?_, ?_, ?_, fun hr hne => ?_⟩
  · rw [hbank _ ha]
    exact State.bank_setBank _ ha (by decide)
  · unfold State.runBank
    rw [State.fld_setFld_apart _ _ (by decide), State.fld_setFlag_apart _ _ (by decide), State.fld_setFlag_apart _ _ (by decide)]
    simp only [s4]
    rw [State.fld_setFlag_apart _ _ (by decide), State.fld_setFld _ _ _ (by decide)]
    exact Nat.mod_eq_of_lt ha
  · unfold State.itinRuns
    rw [State.flag_setFld_apart _ _ (by decide), State.flag_setFlag_apart _ _ (by decide), State.flag_setFlag_apart _ _ (by decide)]
    exact State.flag_setFlag _ _ _ (by decide) rfl
  · rw [State.fld_setFld _ _ _ (by decide)]
    rfl
  · rw [State.flag_setFld_apart _ _ (by decide), State.flag_setFlag_apart _ _ (by decide), State.flag_setFlag _ _ _ (by decide) rfl]
  · rw [State.reg_setFld_ne _ _ _ (by decide), State.reg_setFlag_ne _ _ _ (by decide), State.reg_setFlag_ne _ _ _ (by decide)]
    simp only [s4]
    rw [State.reg_setFlag_ne _ _ _ (by decide), State.reg_setFld_ne _ _ _ (by decide)]
    exact (State.reg_setFld_ne _ _ _ hne).trans h3
  · rw [hbank _ hold]
    refine (State.bank_setFld_apart _ (.inr ⟨?_, ?_⟩)).trans (hold6 hr) <;> simp only <;> omega

theorem State.bank_of_reg {s t : State} (h : t.reg Reg.ITIN_STATUS = s.reg Reg.ITIN_STATUS) (b : Nat) : t.bank b = s.bank b := State.fld_of_reg h
theorem State.runBank_of_reg {s t : State} (h : t.reg Reg.ITIN_STATUS = s.reg Reg.ITIN_STATUS) : t.runBank = s.runBank := State.fld_of_reg h
theorem State.itinRuns_of_reg {s t : State} (h : t.reg Reg.ITIN_STATUS = s.reg Reg.ITIN_STATUS) : t.itinRuns = s.itinRuns := State.flag_of_reg h

/-- What the command leaves at the swap cycle: the end of the cycle and `settle` keep what the banks and engines show. -/
theorem swapEnd_shows {a : Arm} (ha : a.bank < 2) (s : State) (ma : Nat) (ran : Bool) :
    let t := settle (swapEnd ma ran (swapMade a s))
    t.itin.arm = none ∧ t.bank a.bank = 5 ∧ t.runBank = a.bank ∧ t.itinRuns = true ∧ t.fld F.SWAP_RESULT_CODE = 1 ∧
      t.reg Reg.SWAP_EVT = s.reg Reg.SWAP_EVT + 1 ∧ t.flag F.ITIN_STATUS_ARMED = false ∧ t.itin.teWait = 3 ∧
      (s.itinRuns = true → s.runBank ≠ a.bank → t.bank s.runBank = 6) ∧
      ∀ p, p < 4 → (t.pe_ p).bank = a.bank ∧ (t.pe_ p).runs = !s.wHeld 1 0 := by
  obtain ⟨hbank, hrun, hruns, hres, harm, hevt, hold⟩ := swapMade_shows ha s
  obtain ⟨hnone, hwait⟩ := swapMade_itin a s
  have hpe := fun p hp => swapMade_pe a s (p := p) hp
  generalize swapMade a s = u at *
  intro t
  have hreg : ∀ x, x / 0x10000 = 9 ∧ x ≠ Reg.SWAP_EVT → t.reg x = u.reg x := fun x hx => (settle_reg ..).trans (swapEnd_reg _ _ _ hx.1 hx.2)
  have hstatus := hreg Reg.ITIN_STATUS (by decide)
  have hswap : t.reg Reg.SWAP_EVT = u.reg Reg.SWAP_EVT + 1 := (settle_reg _ _).trans (swapEnd_evt ma ran u)
  have hitin : t.itin = u.itin := (settle_itin _).trans (swapEnd_get State.itin (fun _ => rfl) ..)
  have hfab : ∀ p, t.pe_ p = u.pe_ p := fun p => by
    unfold State.pe_
    rw [(settle_fab _).trans (swapEnd_get State.fab (fun _ => rfl) ma ran u)]
  clear_value t
  refine ⟨?_, ?_, ?_, ?_, ?_, ?_, ?_, ?_, fun hr hne => ?_, fun p hp => ?_⟩
  · rw [hitin, hnone]
  · rw [State.bank_of_reg hstatus, hbank]
  · rw [State.runBank_of_reg hstatus, hrun]
  · rw [State.itinRuns_of_reg hstatus, hruns]
  · rw [State.fld_of_reg (f := F.SWAP_RESULT_CODE) (hreg _ (by decide)), hres]
  · rw [hswap, hevt]
  · rw [State.flag_of_reg (f := F.ITIN_STATUS_ARMED) hstatus, harm]
  · rw [hitin, hwait]
  · rw [State.bank_of_reg hstatus, hold hr hne]
  · rw [hfab]
    exact hpe p hp

/-! ### A timekeeping engine takes the bank (R328) -/

theorem teSwap_due {k : Nat} {s : State} (hw : s.itin.teWait.testBit k = true) :
    Tbl.get (fun _ => none) (teSwap k s).itin.teBank k = some s.runBank ∧ (teSwap k s).itin.teWait = s.itin.teWait - 2 ^ k ∧
      (k = 0 → (teSwap k s).rv Reg.SEL_VER = (s.img s.runBank).selVer % 2 ^ 32 ∧ (teSwap k s).rv Reg.DPLL_VER = (s.img s.runBank).dpllVer % 2 ^ 32) ∧
      (k = 1 → (teSwap k s).regs = s.regs) := by
  unfold teSwap
  rw [if_neg (by simp [hw])]
  extract_lets b i _ s1 s2 s3
  have h2 : s2.itin = s1.itin ∧ s2.regs = s.regs := by
    unfold s2
    split
    · exact ⟨rfl, rfl⟩
    · exact ⟨(engLoad_within ..).get State.itin (fun _ => rfl), engLoad_regs ..⟩
  have h1 : Tbl.get (fun _ => none) s1.itin.teBank k = some s.runBank ∧ s1.itin.teWait = s.itin.teWait - 2 ^ k :=
    ⟨Tbl.get_set_same (fun _ => none) s.itin.teBank k (some b), rfl⟩
  clear_value s2 s1
  obtain ⟨h2i, h2r⟩ := h2
  by_cases h0 : k = 0
  · rw [if_pos h0]
    have hend : ((teTarget i.teMa s3).rampTo i.ration s3.rat.backfillTo s3.rat.govTo).within s3 [1] [.rat] :=
      .after (rampTo_within ..) (teTarget_within ..)
    refine ⟨?_, ?_, fun _ => ⟨?_, ?_⟩, fun h1 => by omega⟩
    · rw [hend.get State.itin (fun _ => rfl)]
      exact (congrArg (fun x : ItinPart => Tbl.get (fun _ => none) x.teBank k) h2i).trans h1.1
    · rw [hend.get State.itin (fun _ => rfl)]
      exact (congrArg ItinPart.teWait h2i).trans h1.2
    · rw [hend.rv]
      simp only [s3]
      rw [State.rv_setRv_ne _ _ (by decide), State.rv_setRv]
    · rw [hend.rv]
      simp only [s3]
      rw [State.rv_setRv]
  · rw [if_neg h0, h2i]
    exact ⟨h1.1, h1.2, fun h => absurd h h0, fun _ => h2r⟩

end Sys2Proof.Machine

namespace Sys2Proof

open Machine

/-- Settles O45: each command is one of the store's operations on a block that is on; their lemmas say what each of them leaves. -/
theorem itinerarySwaps : Obligations.ItinerarySwaps := by
  unfold Obligations.ItinerarySwaps
  have hswap : ∀ (b : Fin 2) (s : State), s.blockOn 9 = true → exec (.swap b) s = .next (settle (itinSwap b.val s)) := fun b s hon => by
    change fin (whenOn 9 (landItinCmd (2 + 256 * b.val)) s) = _
    rw [whenOn, if_pos hon, landItinCmd_swap b.isLt, fin_next]
  have hcancel : ∀ s : State, s.blockOn 9 = true → exec .cancel s = .next (settle (itinCancel s)) := fun s hon => by
    change fin (whenOn 9 (landItinCmd 3) s) = _
    rw [whenOn, if_pos hon, fin_next]
    rfl
  have hrefused : ∀ s : State, s.blockOn 9 = true → (∀ a, s.itin.arm = some a → a.committed = true ∨ a.cs ≤ s.cycle + 1024) →
      ∃ t, exec .cancel s = .next t ∧ t.sameBut (s.bump16 Reg.ITIN_CMD_REF) := fun s hon h =>
    ⟨_, hcancel s hon, by rw [itinCancel_refused h]; exact settle_sameBut _⟩
  refine ⟨fun b s hon => ⟨fun h3 ha h6 => ⟨_, hswap b s hon, ?swap⟩, fun h => ⟨_, hswap b s hon, ?refused⟩⟩,
    fun s hon => ⟨fun a ha hc hw => ⟨_, hcancel s hon, ?cancel⟩, fun a ha hc hw => ⟨hrefused s hon ?late, ?commit⟩,
      fun ha => hrefused s hon ?idle, fun a ha hc => ⟨hrefused s hon ?committed, fun hb hw => ?cycle⟩, fun p a ha hc hw hf hg => ?gap⟩,
    fun k s hon hw => ?te⟩
  case swap =>
    cases hk : s.swapCheck b.val with
    | some c =>
      obtain ⟨h1, h2, h3⟩ := itinSwap_unfit b.isLt h3 ha h6 hk
      dsimp only
      rw [settle_itin, settle_fld, settle_rv]
      exact ⟨h1, h2, h3⟩
    | none =>
      obtain ⟨h1, h2, h3⟩ := itinSwap_armed h3 ha h6 hk
      refine ⟨_, by rw [settle_itin]; exact h1, rfl, rfl, le_nextMult _ _, by rw [settle_flag]; exact h2, ?_, State.swapAt_dvd⟩
      rw [← h3, State.quant_two, State.quant_two, settle_rv, settle_rv]
  case refused =>
    rw [itinSwap_refused h]
    exact settle_sameBut _
  case cancel =>
    rw [itinCancel_made ha hc hw]
    obtain ⟨h1, h2, h3, h4⟩ := swapCancel_spec 2 s (by decide)
    exact ⟨by rw [settle_itin]; exact h1, by rw [settle_flag]; exact h2, by rw [settle_fld]; exact h3, by rw [settle_reg]; exact h4,
      swapCancel_onlyRegs 2 s⟩
  case late => exact fun a' ha' => .inr (by rw [ha] at ha'; cases ha'; exact hw)
  case commit =>
    refine ⟨_, rfl, ?_⟩
    rw [whenOn, if_pos hon]
    cases hk : s.swapCheck a.bank with
    | none =>
      rw [commitPoint_fits ha hc hw hk]
      exact settle_sameBut _
    | some c =>
      obtain ⟨h1, h2, h3⟩ := swapDisarm_spec 4 s (by decide)
      rw [commitPoint_unfit ha hc hw hk]
      refine ⟨by rw [settle_itin, rejectRec_itin]; exact h1, ?_, ?_⟩
      · rw [settle_fld]
        exact (State.fld_of_reg (rejectRec_reg _ _ _ (by decide))).trans h3
      · rw [settle_flag]
        exact (State.flag_of_reg (rejectRec_reg _ _ _ (by decide))).trans h2
  case idle => exact fun a ha' => by rw [ha] at ha'; cases ha'
  case committed => exact fun a' ha' => .inl (by rw [ha] at ha'; cases ha'; exact hc)
  case cycle =>
    refine ⟨_, rfl, ?_⟩
    rw [whenOn, if_pos hon, swapCycle_due ha hc hw]
    exact swapEnd_shows hb s _ _
  case gap =>
    obtain ⟨h1, h2, h3⟩ := gapOpen_made p.isLt ha hc hw hf hg
    refine ⟨_, rfl, ?_⟩
    rw [whenOn, if_pos hon, settle_itin, settle_flag, settle_fld]
    exact ⟨h1, h2, h3⟩
  case te =>
    obtain ⟨h1, h2, h3, h4⟩ := teSwap_due hw
    refine ⟨_, rfl, ?_⟩
    rw [if_pos hon, settle_itin, settle_rv, settle_rv, settle_regs]
    exact ⟨h1, h2, h3, h4⟩

end Sys2Proof
end

section
/-! The DMA channels (R414–R425): how a transfer starts and ends, the list's check, the bursts, and a halt. -/

namespace Sys2Proof.Machine

-- The default arguments of the frame lemmas wait for the proofs before them: a thread each, where proofs are elaborated side by side.
set_option Elab.async false

/-! ### The state of a channel -/

theorem State.dmaState_of_reg {s t : State} {c : Nat} (h : t.reg (Reg.DMA_STATUS c) = s.reg (Reg.DMA_STATUS c)) : t.dmaState c = s.dmaState c :=
  State.fld_of_reg h

/-- The end of a transfer: IDLE with its RESULT, counted but where it is done and INT_FULL does not ask for it (R420). -/
theorem dmaEnd_shows (c result : Nat) (s : State) :
    (dmaEnd c result s).dmaState c = 0 ∧ (dmaEnd c result s).fld (F.DMA_STATUS_RESULT c) = result % 16 ∧
      (result ≠ dDone → (dmaEnd c result s).reg (Reg.DONE_EVT c) = s.reg (Reg.DONE_EVT c) + 1) := by
  have hne : Reg.DMA_STATUS c ≠ Reg.DONE_EVT c := by simp only [Reg.DMA_STATUS, Reg.DONE_EVT]; omega
  have hap : (F.DMA_STATUS_RESULT c).apart (F.DMA_STATUS_STATE c) := .inr ⟨show 4 + 4 ≤ 32 by decide, .inr (show 0 + 2 ≤ 4 by decide)⟩
  unfold dmaEnd
  extract_lets s1
  have h0 : s1.fld (F.DMA_STATUS_STATE c) = 0 := by
    rw [State.fld_setFld_apart _ _ hap, State.fld_setFld _ _ _ (show 0 + 2 ≤ 32 by decide)]
    rfl
  have hres : s1.fld (F.DMA_STATUS_RESULT c) = result % 16 := State.fld_setFld _ _ _ (show 4 + 4 ≤ 32 by decide)
  have hevt : s1.reg (Reg.DONE_EVT c) = s.reg (Reg.DONE_EVT c) :=
    (State.reg_setFld_ne _ _ _ hne.symm).trans (State.reg_setFld_ne _ _ _ hne.symm)
  clear_value s1
  split
  · have hst : (s1.bump (Reg.DONE_EVT c)).reg (Reg.DMA_STATUS c) = s1.reg (Reg.DMA_STATUS c) := State.reg_bump_ne _ hne
    refine ⟨(State.dmaState_of_reg hst).trans h0, (State.fld_of_reg hst).trans hres, fun _ => ?_⟩
    rw [State.reg_bump, hevt]
  · next hd => exact ⟨h0, hres, fun h => absurd (by simp [h]) hd⟩

theorem dmaEnd_reg (c result : Nat) (s : State) {a : Nat} (h1 : a ≠ Reg.DMA_STATUS c) (h2 : a ≠ Reg.DONE_EVT c) :
    (dmaEnd c result s).reg a = s.reg a := by
  have h : ((s.setFld (F.DMA_STATUS_STATE c) 0).setFld (F.DMA_STATUS_RESULT c) result).reg a = s.reg a :=
    (State.reg_setFld_ne _ _ _ h1).trans (State.reg_setFld_ne _ _ _ h1)
  unfold dmaEnd
  extract_lets s1
  split
  · exact (State.reg_bump_ne _ h2).trans h
  · exact h

/-- The registers of the eight channels stand in the DMA block. -/
theorem dmaReg_block {c o : Nat} (hc : c < 8) (ho : o < 0x40 ∧ o ≠ 0x28) : regArea (0xb0000 + o + 0x40 * c) ∈ [11] :=
  regArea_mem (b := 11) (by simp only [inBlock]; omega)

theorem dmaEnd_within {c : Nat} (hc : c < 8) (result : Nat) (s : State) : (dmaEnd c result s).within s [11] [] := by
  have hs : regArea (Reg.DMA_STATUS c) ∈ [11] := dmaReg_block (o := 0x1c) hc (by decide)
  have h : ((s.setFld (F.DMA_STATUS_STATE c) 0).setFld (F.DMA_STATUS_RESULT c) result).within s [11] [] := (State.within.refl.setFld hs).setFld hs
  exact .ite (fun _ => h.bump (dmaReg_block (o := 0x2c) hc (by decide))) (fun _ => h)

/-! ### Doorbells (R415, R419, R425) -/

theorem guardEnd_of_none {m : Master} {s : State} (h : s.guardOf m = none) : guardEnd m s = s := by
  unfold guardEnd
  rw [h]

/-- A write of master `m` that reaches a channel's registers, with nothing of its own armed. -/
theorem reach_of_sends {m : Master} {s : State} (h : s.sends m) (f : State → State) : reach m 1 (fun s => f (guardEnd m s)) s = f (s.tlp m 1) := by
  obtain ⟨hon, htlp, hg⟩ := h
  unfold reach
  rw [if_neg (by simp [hon]), if_pos htlp]
  exact congrArg f (guardEnd_of_none (by rw [tlp_guardOf, hg]))

theorem dmaOwned_foreign {m c : Nat} {s : State} (h : s.rv (Reg.DMA_OWNER c) ≠ m) (f : State → State) :
    dmaOwned m c f s = s.bump16 Reg.DMA_FOREIGN := if_neg h

theorem dmaOwned_owner {m c : Nat} {s : State} (h : s.rv (Reg.DMA_OWNER c) = m) (f : State → State) : dmaOwned m c f s = f s := if_pos h

theorem dmaStart_within {c : Nat} (hc : c < 8) (s : State) : (dmaStart c s).within s [11] [.dma] := by
  have hs : regArea (Reg.DMA_STATUS c) ∈ [11] := dmaReg_block (o := 0x1c) hc (by decide)
  unfold dmaStart dmaRefuse
  refine .ite (fun _ => .bump16 .refl) (fun _ => .ite (fun _ => ?_) (fun _ => ?_))
  · exact .bump (.setFld (.bump16 .refl) hs) (dmaReg_block (o := 0x2c) hc (by decide))
  · extract_lets s1
    have h1 : s1.within s [11] [.dma] :=
      ((((State.within.refl.setRv (dmaReg_block (o := 0x20) hc (by decide))).setFld hs).setFld hs).setFld hs)
    exact ((setDmaCh_within s1 c .reset).after h1).setFld hs

theorem dmaStart_refused {c : Nat} {s : State} (h : s.dmaState c ≠ 0 ∨ s.flag F.DMA_HALT_HALTED = true ∨ s.wHeld 5 c = true) :
    dmaStart c s = s.bump16 Reg.DMA_CMD_REF := by
  unfold dmaStart
  rw [if_pos (by rcases h with h | h | h <;> simp [h])]
  rfl

/-- The channel's registers as a START clears them (R419). -/
def dmaCleared (c : Nat) (s : State) : State :=
  (((s.setRv (Reg.DMA_PROGRESS c) 0).setFld (F.DMA_STATUS_RESULT c) 0).setFld (F.DMA_STATUS_ENTRY c) 0).setFld (F.DMA_STATUS_CAUSE c) 0

theorem dmaCleared_reg {c a : Nat} (s : State) (h : a ∉ [Reg.DMA_STATUS c, Reg.DMA_PROGRESS c]) : (dmaCleared c s).reg a = s.reg a := by
  simp only [List.mem_cons, List.not_mem_nil, or_false, not_or] at h
  obtain ⟨ha1, ha2⟩ := h
  unfold dmaCleared
  simp (disch := assumption) only [State.reg_setFld_ne, State.reg_setRv_ne]

theorem dmaCleared_progress (c : Nat) (s : State) : (dmaCleared c s).rv (Reg.DMA_PROGRESS c) = 0 := by
  have hne : Reg.DMA_PROGRESS c ≠ Reg.DMA_STATUS c := by simp only [Reg.DMA_STATUS, Reg.DMA_PROGRESS]; omega
  unfold dmaCleared
  rw [State.rv_setFld_ne _ _ _ hne, State.rv_setFld_ne _ _ _ hne, State.rv_setFld_ne _ _ _ hne, State.rv_setRv]
  rfl

theorem dmaCleared_result (c : Nat) (s : State) : (dmaCleared c s).fld (F.DMA_STATUS_RESULT c) = 0 := by
  have hap : ∀ lo w, 8 ≤ lo → lo + w ≤ 32 → (Fld.mk (Reg.DMA_STATUS c) lo w).apart (F.DMA_STATUS_RESULT c) :=
    fun lo w h8 h32 => .inr ⟨h32, .inr h8⟩
  unfold dmaCleared
  rw [State.fld_setFld_apart _ _ (hap 16 4 (by decide) (by decide)), State.fld_setFld_apart _ _ (hap 8 6 (by decide) (by decide)),
    State.fld_setFld _ _ _ (show 4 + 4 ≤ 32 by decide)]
  rfl

theorem dmaStart_fetches {c : Nat} {s : State} (h0 : s.dmaState c = 0) (hh : s.flag F.DMA_HALT_HALTED = false) (hw : s.wHeld 5 c = false)
    (hl : s.irq.linkL0 = true) : ∃ w : State, w.dmaCh c = .reset ∧ (∀ a, w.reg a = (dmaCleared c s).reg a) ∧
      dmaStart c s = w.setFld (F.DMA_STATUS_STATE c) 1 := by
  refine ⟨(dmaCleared c s).setDmaCh c .reset, State.dmaCh_setDmaCh .., fun a => (setDmaCh_within _ c .reset).reg a List.not_mem_nil, ?_⟩
  unfold dmaStart
  rw [if_neg (by simp [h0, hh, hw]), if_neg (by simp [hl])]
  rfl

/-- A START that is taken: the channel fetches its list, with nothing moved and no RESULT (R419). -/
theorem dmaStart_taken {c : Nat} {s : State} (h0 : s.dmaState c = 0) (hh : s.flag F.DMA_HALT_HALTED = false) (hw : s.wHeld 5 c = false)
    (hl : s.irq.linkL0 = true) : (dmaStart c s).dmaState c = 1 ∧ (dmaStart c s).rv (Reg.DMA_PROGRESS c) = 0 ∧
      (dmaStart c s).fld (F.DMA_STATUS_RESULT c) = 0 ∧ (dmaStart c s).dmaCh c = .reset ∧
      (∀ a, a ∉ [Reg.DMA_STATUS c, Reg.DMA_PROGRESS c] → (dmaStart c s).reg a = s.reg a) := by
  have hne : Reg.DMA_PROGRESS c ≠ Reg.DMA_STATUS c := by simp only [Reg.DMA_STATUS, Reg.DMA_PROGRESS]; omega
  obtain ⟨w, hch, hw, heq⟩ := dmaStart_fetches h0 hh hw hl
  rw [heq]
  refine ⟨(State.fld_setFld _ _ _ (show 0 + 2 ≤ 32 by decide)).trans rfl, ?_, ?_, hch, fun a ha => ?_⟩
  · rw [State.rv_setFld_ne _ _ _ hne, State.rv_of_reg (hw _), dmaCleared_progress]
  · rw [State.fld_setFld_apart w _ (.inr ⟨show 0 + 2 ≤ 32 by decide, .inl (show 0 + 2 ≤ 4 by decide)⟩),
      State.fld_of_reg (f := F.DMA_STATUS_RESULT c) (hw _), dmaCleared_result]
  · rw [State.reg_setFld_ne _ _ _ (fun h => ha (by simp [h])), hw, dmaCleared_reg s ha]

/-- A START without the link: refused, with its RESULT, and counted as done (R418, R420). -/
theorem dmaStart_noLink {c : Nat} {s : State} (h0 : s.dmaState c = 0) (hh : s.flag F.DMA_HALT_HALTED = false) (hw : s.wHeld 5 c = false)
    (hl : s.irq.linkL0 = false) (hc : c < 8) : (dmaStart c s).dmaState c = 0 ∧ (dmaStart c s).fld (F.DMA_STATUS_RESULT c) = dNoLink ∧
      (dmaStart c s).reg (Reg.DONE_EVT c) = s.reg (Reg.DONE_EVT c) + 1 ∧
      (dmaStart c s).fld ⟨Reg.DMA_CMD_REF, 0, 16⟩ = min (s.fld ⟨Reg.DMA_CMD_REF, 0, 16⟩ + 1) 65535 ∧
      (∀ a, a ∉ [Reg.DMA_STATUS c, Reg.DONE_EVT c, Reg.DMA_CMD_REF] → (dmaStart c s).reg a = s.reg a) ∧
      (dmaStart c s).dma = s.dma := by
  have h1 : Reg.DMA_STATUS c ≠ Reg.DONE_EVT c := by simp only [Reg.DMA_STATUS, Reg.DONE_EVT]; omega
  have h2 : Reg.DMA_STATUS c ≠ Reg.DMA_CMD_REF := by simp only [Reg.DMA_STATUS, Reg.DMA_CMD_REF]; omega
  have h3 : Reg.DONE_EVT c ≠ Reg.DMA_CMD_REF := by simp only [Reg.DONE_EVT, Reg.DMA_CMD_REF]; omega
  unfold dmaStart dmaRefuse
  rw [if_neg (by simp [h0, hh, hw]), if_pos (by simp [hl])]
  have hst : (s.bump16 Reg.DMA_CMD_REF).reg (Reg.DMA_STATUS c) = s.reg (Reg.DMA_STATUS c) := State.reg_bump16_ne _ h2
  have hcmd : (s.bump16 Reg.DMA_CMD_REF).fld ⟨Reg.DMA_CMD_REF, 0, 16⟩ = min (s.fld ⟨Reg.DMA_CMD_REF, 0, 16⟩ + 1) 65535 :=
    State.fld_bumpFld _ _ (by decide)
  have hevt : (s.bump16 Reg.DMA_CMD_REF).reg (Reg.DONE_EVT c) = s.reg (Reg.DONE_EVT c) := State.reg_bump16_ne _ h3
  have hreg : ∀ a, a ≠ Reg.DMA_CMD_REF → (s.bump16 Reg.DMA_CMD_REF).reg a = s.reg a := fun a ha => State.reg_bump16_ne _ ha
  have hdma : (s.bump16 Reg.DMA_CMD_REF).dma = s.dma := State.bump16_dma s _
  generalize s.bump16 Reg.DMA_CMD_REF = u at *
  refine ⟨?_, ?_, ?_, ?_, fun a ha => ?_, ?_⟩
  · refine (State.dmaState_of_reg (State.reg_bump_ne _ h1)).trans ?_
    refine (State.fld_setFld_apart _ _ (.inr ⟨show 4 + 4 ≤ 32 by decide, .inr (show 0 + 2 ≤ 4 by decide)⟩)).trans ?_
    exact (State.dmaState_of_reg hst).trans h0
  · refine (State.fld_of_reg (f := F.DMA_STATUS_RESULT c) (State.reg_bump_ne _ h1)).trans ?_
    exact (State.fld_setFld _ _ _ (show 4 + 4 ≤ 32 by decide)).trans rfl
  · rw [State.reg_bump, State.reg_setFld_ne _ _ _ h1.symm, hevt]
  · rw [← hcmd]
    refine State.fld_of_reg ?_
    rw [State.reg_bump_ne _ h3.symm, State.reg_setFld_ne _ _ _ h2.symm]
  · simp only [List.mem_cons, List.not_mem_nil, or_false, not_or] at ha
    rw [State.reg_bump_ne _ ha.2.1, State.reg_setFld_ne _ _ _ ha.1, hreg a ha.2.2]
  · rw [State.bump_dma, State.setFld_dma, hdma]

/-- From a state within the DMA block's registers and part, everything but those is as it was. -/
theorem State.within.onlyRegs_dma {t s : State} {l : List Nat} (h : t.within s [11] [.dma]) (hr : ∀ a, a ∉ l → t.reg a = s.reg a) :
    (settle t).onlyRegs { s with dma := (settle t).dma } l := by
  have hp : t = { s with regs := t.regs, dma := t.dma } :=
    congrArg (fun u : State => { u with regs := t.regs, dma := t.dma }) h.parts
  rw [settle_dma]
  have h2 := congrArg (fun u : State => { u with out := s.out, irq := s.irq }) hp
  exact settle_onlyRegs hr h2

/-! ### The list's check (R416–R418) -/

/-- No check of the list fails with the RESULT of a transfer that is done. -/
theorem dmaCheck_result {c bank b0 b2 b4 : Nat} {l : List DmaEntry} {s : State} {f : DmaFail} (h : dmaCheck c bank l b0 b2 b4 s = some f) :
    f.result ≠ dDone := by
  have hfind : ∀ (k : DmaEntry × Nat → Nat) (res : Nat) (g : DmaFail) (l : List (DmaEntry × Nat)),
      l.findSome? (fun e => if k e = 0 then none else some (DmaFail.mk res (k e) e.2 false)) = some g → g.result = res := by
    intro k res g l hf
    obtain ⟨e, -, he⟩ := List.exists_of_findSome?_eq_some hf
    split at he
    · cases he
    · cases he
      rfl
  have hmis : ∀ g, dmaMisalign c l s = some g → g.result = dMisalign := by
    intro g hg
    unfold dmaMisalign at hg
    extract_lets dev total list cnt sp whole bad at hg
    split_ifs at hg
    · cases hg; rfl
    · cases hg; rfl
    · exact hfind _ _ _ _ hg
    · cases hg; rfl
    · cases hg; rfl
    · cases hg; rfl
  have hover : ∀ g, dmaOverlap c l b0 b2 b4 s = some g → g.result = dOverlap := by
    intro g hg
    unfold dmaOverlap at hg
    extract_lets toHost bars list ent other at hg
    split_ifs at hg
    · exact hfind _ _ _ _ hg
    · cases hg; rfl
  unfold dmaCheck at h
  split at h
  · next g hg => cases h; rw [hmis _ hg]; decide
  · split at h
    · next g hg => cases h; rw [hover _ hg]; decide
    · split_ifs at h
      · cases h; decide
      · cases h; decide

theorem dmaFault_within (c : Nat) (f : DmaFail) (s : State) : (dmaFault c f s).within s [] [.flt] := by
  unfold dmaFault
  extract_lets a
  exact .ite (fun _ => .sendFault .refl) (fun _ => .ite (fun _ => .sendFault .refl) (fun _ => .ite (fun _ => .sendFault .refl) (fun _ => .refl)))

/-- The fault of a failed check depends on the programming of the channel and on the messages that wait. -/
theorem dmaFault_flt {c : Nat} {f : DmaFail} {s t : State} (hf : t.flt = s.flt) (hcfg : t.reg (Reg.DMA_CFG c) = s.reg (Reg.DMA_CFG c))
    (hdev : t.reg (Reg.DMA_DEV_ADDR c) = s.reg (Reg.DMA_DEV_ADDR c)) : (dmaFault c f t).flt = (dmaFault c f s).flt := by
  have hw : t.dmaWrites c = s.dmaWrites c := congrArg (· == 0) (State.fld_of_reg (f := F.DMA_CFG_DIR c) hcfg)
  have hsp : t.dmaSpace c = s.dmaSpace c := State.fld_of_reg (f := F.DMA_CFG_SPACE c) hcfg
  have hsend : ∀ kind a, (t.sendFault srcDma kind a).flt = (s.sendFault srcDma kind a).flt := fun kind a => by
    unfold State.sendFault State.fbuf
    rw [hf]
  unfold dmaFault
  extract_lets a
  rw [hw, hsp, State.rv_of_reg hdev]
  split_ifs
  exacts [hsend _ _, hsend _ _, hsend _ _, hsend _ _, hf]

/-- A list whose checks fail ends the transfer with their RESULT; one whose checks pass makes the channel move (R418). -/
theorem dmaListCheck_failed {c b0 b2 b4 : Nat} {l : List DmaEntry} {s : State} {f : DmaFail} (h1 : s.dmaState c = 1)
    (hf : dmaCheck c (if s.dmaWrites c then s.fld F.ITIN_CTRL_LOAD_BANK else s.fld (F.DMA_CFG_BANK c)) l b0 b2 b4 s = some f) :
    dmaListCheck c l b0 b2 b4 s = dmaEnd c f.result (dmaFault c f ((s.setFld (F.DMA_STATUS_ENTRY c) f.entry).setFld (F.DMA_STATUS_CAUSE c) f.cause)) := by
  unfold dmaListCheck
  rw [if_neg (by simp [h1])]
  dsimp only
  rw [hf]

theorem dmaListCheck_passed {c b0 b2 b4 : Nat} {l : List DmaEntry} {s : State} (h1 : s.dmaState c = 1)
    (hf : dmaCheck c (if s.dmaWrites c then s.fld F.ITIN_CTRL_LOAD_BANK else s.fld (F.DMA_CFG_BANK c)) l b0 b2 b4 s = none) :
    dmaListCheck c l b0 b2 b4 s = (s.setDmaCh c ⟨l.map (fun e => (e.1, e.2.1)), 0, 0,
      if s.dmaWrites c then s.fld F.ITIN_CTRL_LOAD_BANK else s.fld (F.DMA_CFG_BANK c), false⟩).setFld (F.DMA_STATUS_STATE c) 2 := by
  unfold dmaListCheck
  rw [if_neg (by simp [h1])]
  dsimp only
  rw [hf]

/-! ### A halt (R424) -/

theorem dmaEndAll_within (result : Nat) (s : State) : (dmaEndAll result s).within s [11] [] :=
  State.within.refl.forEach (fun _ hc _ => .ite (fun _ => .refl) (fun _ => dmaEnd_within (List.mem_range.mp hc) _ _))

theorem dmaEndAll_reg (result : Nat) (s : State) {a : Nat} (h1 : ∀ c, c < 8 → a ≠ Reg.DMA_STATUS c) (h2 : ∀ c, c < 8 → a ≠ Reg.DONE_EVT c) :
    (dmaEndAll result s).reg a = s.reg a := by
  refine forEach_keeps_of_mem (g := fun u : State => u.reg a) (fun u c hc => ?_) s
  split
  · rfl
  · exact dmaEnd_reg _ _ _ (h1 c (List.mem_range.mp hc)) (h2 c (List.mem_range.mp hc))

/-- What the end of every transfer leaves of channel `c`: IDLE, with the RESULT and a count where it was not IDLE before. -/
theorem dmaEndAll_channel {result : Nat} (hd : result ≠ dDone) (s : State) : ∀ c, c < 8 → (dmaEndAll result s).dmaState c = 0 ∧
    (s.dmaState c ≠ 0 → (dmaEndAll result s).fld (F.DMA_STATUS_RESULT c) = result % 16 ∧
      (dmaEndAll result s).reg (Reg.DONE_EVT c) = s.reg (Reg.DONE_EVT c) + 1) := by
  have hkeep : ∀ (u : State) (p q : Nat), q ≠ p → p < 8 →
      let v := if u.dmaState p = 0 then u else dmaEnd p result u
      v.reg (Reg.DMA_STATUS q) = u.reg (Reg.DMA_STATUS q) ∧ v.reg (Reg.DONE_EVT q) = u.reg (Reg.DONE_EVT q) := by
    intro u p q hq hp
    dsimp only
    split
    · exact ⟨rfl, rfl⟩
    · constructor <;> apply dmaEnd_reg <;> simp only [Reg.DMA_STATUS, Reg.DONE_EVT] <;> omega
  have key : ∀ k, k ≤ 8 → ∀ c, c < 8 →
      let t := forEach (List.range k) (fun s c => if s.dmaState c = 0 then s else dmaEnd c result s) s
      (k ≤ c → t.reg (Reg.DMA_STATUS c) = s.reg (Reg.DMA_STATUS c) ∧ t.reg (Reg.DONE_EVT c) = s.reg (Reg.DONE_EVT c)) ∧
      (c < k → t.dmaState c = 0 ∧ (s.dmaState c ≠ 0 → t.fld (F.DMA_STATUS_RESULT c) = result % 16 ∧
        t.reg (Reg.DONE_EVT c) = s.reg (Reg.DONE_EVT c) + 1)) := by
    intro k
    induction k with
    | zero => exact fun _ c _ => ⟨fun _ => ⟨rfl, rfl⟩, fun h => absurd h (by omega)⟩
    | succ k ih =>
      intro hk c hc
      have hs : ∀ f : State → Nat → State, forEach (List.range (k + 1)) f s = f (forEach (List.range k) f s) k := fun f => by
        unfold forEach
        rw [List.range_succ, List.foldl_append]
        rfl
      rw [hs]
      obtain ⟨hnot, hdone⟩ := ih (by omega) c hc
      generalize forEach (List.range k) (fun s c => if s.dmaState c = 0 then s else dmaEnd c result s) s = u at hnot hdone
      by_cases he : c = k
      · subst he
        obtain ⟨hst, hevt⟩ := hnot le_rfl
        refine ⟨fun h => absurd h (by omega), fun _ => ?_⟩
        have h0 : u.dmaState c = s.dmaState c := State.dmaState_of_reg hst
        split
        · next h => exact ⟨h, fun hn => absurd (h0 ▸ h) hn⟩
        · obtain ⟨h1, h2, h3⟩ := dmaEnd_shows c result u
          exact ⟨h1, fun _ => ⟨h2, by rw [h3 hd, hevt]⟩⟩
      · obtain ⟨hst, hevt⟩ := hkeep u k c he (by omega)
        refine ⟨fun h => ?_, fun h => ?_⟩
        · rw [hst, hevt]
          exact hnot (by omega)
        · rw [State.dmaState_of_reg hst, State.fld_of_reg (f := F.DMA_STATUS_RESULT c) hst, hevt]
          exact hdone (by omega)
  exact fun c hc => (key 8 le_rfl c hc).2 hc

/-- The registers that a halt writes before it ends the transfers. -/
def haltShown (tags addr : Nat) (s : State) : State :=
  (((s.setFlag F.DMA_HALT_HALTED true).setFld F.DMA_HALT_TAGS (min 15 tags)).bump Reg.HALT_EVT).setQuant Reg.DMA_HALT_ADDR 2 addr

theorem haltShown_within (tags addr : Nat) (s : State) : (haltShown tags addr s).within s [11] [] :=
  (((State.within.refl.setFlag).setFld).bump).setQuant (by decide)

theorem haltShown_reg (tags addr : Nat) (s : State) {a : Nat} (h : a < Reg.DMA_HALT) : (haltShown tags addr s).reg a = s.reg a := by
  simp only [Reg.DMA_HALT] at h
  have h1 : a ≠ Reg.DMA_HALT_ADDR := by simp only [Reg.DMA_HALT_ADDR]; omega
  have h2 : a ≠ Reg.DMA_HALT_ADDR + 4 := by simp only [Reg.DMA_HALT_ADDR]; omega
  have h3 : a ≠ Reg.HALT_EVT := by simp only [Reg.HALT_EVT]; omega
  have h4 : a ≠ Reg.DMA_HALT := by simp only [Reg.DMA_HALT]; omega
  unfold haltShown
  refine (State.reg_setRv_ne _ _ h2).trans ((State.reg_setRv_ne _ _ h1).trans ?_)
  rw [State.reg_bump_ne _ h3, State.reg_setFld_ne _ _ _ h4, State.reg_setFlag_ne _ _ _ h4]

theorem haltShown_shows (tags addr : Nat) (s : State) : (haltShown tags addr s).flag F.DMA_HALT_HALTED = true ∧
    (haltShown tags addr s).fld F.DMA_HALT_TAGS = min 15 tags ∧ (haltShown tags addr s).quant Reg.DMA_HALT_ADDR 2 = addr % 2 ^ 64 ∧
    (haltShown tags addr s).reg Reg.HALT_EVT = s.reg Reg.HALT_EVT + 1 := by
  unfold haltShown
  have hq : ∀ (u : State) (x : Nat), x ≠ Reg.DMA_HALT_ADDR → x ≠ Reg.DMA_HALT_ADDR + 4 →
      (u.setQuant Reg.DMA_HALT_ADDR 2 addr).reg x = u.reg x := fun u x h h' => (State.reg_setRv_ne _ _ h').trans (State.reg_setRv_ne _ _ h)
  have hhalt : ∀ u : State, ((u.bump Reg.HALT_EVT).setQuant Reg.DMA_HALT_ADDR 2 addr).reg Reg.DMA_HALT = u.reg Reg.DMA_HALT := fun u =>
    (hq _ _ (by decide) (by decide)).trans (State.reg_bump_ne _ (by decide))
  refine ⟨?_, ?_, State.quant_setQuant_two _ _ _, ?_⟩
  · rw [State.flag_of_reg (f := F.DMA_HALT_HALTED) (hhalt _), State.flag_setFld_apart _ _ (by decide), State.flag_setFlag _ _ _ (by decide) rfl]
  · rw [State.fld_of_reg (f := F.DMA_HALT_TAGS) (hhalt _), State.fld_setFld _ _ _ (by decide)]
    exact Nat.mod_eq_of_lt (show min 15 tags < 16 by omega)
  · rw [hq _ _ (by decide) (by decide), State.reg_bump, State.reg_setFld_ne _ _ _ (by decide), State.reg_setFlag_ne _ _ _ (by decide)]

theorem dmaHalt_eq (cause tag addr tags : Nat) (s : State) : ∃ u, dmaHalt cause tag addr tags s = dmaEndAll dHalted u ∧
    u.regs = (haltShown tags addr s).regs ∧ u.flt = ((haltShown tags addr s).sendFault srcDma kDmaBusError (tag % 256 + cause * 256)).flt :=
  ⟨_, rfl, rfl, rfl⟩

theorem sendFault_flt_of {s t : State} (h : t.flt = s.flt) (src kind a : Nat) : (t.sendFault src kind a).flt = (s.sendFault src kind a).flt := by
  unfold State.sendFault State.fbuf
  rw [h]

/-- A halt: HALTED, the tags, the address, the count and the fault; every transfer ends (R424). -/
theorem dmaHalt_spec (cause tag addr tags : Nat) (s : State) : let t := dmaHalt cause tag addr tags s
    t.flag F.DMA_HALT_HALTED = true ∧ t.fld F.DMA_HALT_TAGS = min 15 tags ∧ t.quant Reg.DMA_HALT_ADDR 2 = addr % 2 ^ 64 ∧
      t.reg Reg.HALT_EVT = s.reg Reg.HALT_EVT + 1 ∧ t.flt = (s.sendFault srcDma kDmaBusError (tag % 256 + cause * 256)).flt ∧
      ∀ c, c < 8 → t.dmaState c = 0 ∧ t.reg (Reg.DMA_PROGRESS c) = s.reg (Reg.DMA_PROGRESS c) ∧
        (s.dmaState c ≠ 0 → t.fld (F.DMA_STATUS_RESULT c) = dHalted ∧ t.reg (Reg.DONE_EVT c) = s.reg (Reg.DONE_EVT c) + 1) := by
  obtain ⟨u, heq, hregs, hflt⟩ := dmaHalt_eq cause tag addr tags s
  obtain ⟨hhalt, htags, haddr, hevt⟩ := haltShown_shows tags addr s
  have hu : ∀ a, u.reg a = (haltShown tags addr s).reg a := fun a => by rw [State.reg_congr hregs]
  have hreg : ∀ a, 0xb0400 ≤ a → (dmaEndAll dHalted u).reg a = (haltShown tags addr s).reg a := fun a ha =>
    (dmaEndAll_reg _ u (fun c hc => by simp only [Reg.DMA_STATUS]; omega) (fun c hc => by simp only [Reg.DONE_EVT]; omega)).trans (hu a)
  dsimp only
  rw [heq]
  refine ⟨?_, ?_, ?_, ?_, ?_, fun c hc => ?_⟩
  · rw [State.flag_of_reg (f := F.DMA_HALT_HALTED) (hreg _ (by decide)), hhalt]
  · rw [State.fld_of_reg (f := F.DMA_HALT_TAGS) (hreg _ (by decide)), htags]
  · rw [← haddr, State.quant_two, State.quant_two, State.rv_of_reg (hreg Reg.DMA_HALT_ADDR (by decide)),
      State.rv_of_reg (hreg (Reg.DMA_HALT_ADDR + 4) (by decide))]
  · rw [hreg _ (by decide), hevt]
  · rw [(dmaEndAll_within dHalted u).get State.flt (fun _ => rfl), hflt]
    exact sendFault_flt_of ((haltShown_within tags addr s).get State.flt (fun _ => rfl)) _ _ _
  · have hch : ∀ o, o < 0x40 → u.reg (0xb0000 + o + 0x40 * c) = s.reg (0xb0000 + o + 0x40 * c) := fun o ho =>
      (hu _).trans (haltShown_reg tags addr s (by simp only [Reg.DMA_HALT]; omega))
    have hstate : u.dmaState c = s.dmaState c := State.dmaState_of_reg (hch 0x1c (by decide))
    have hdone : u.reg (Reg.DONE_EVT c) = s.reg (Reg.DONE_EVT c) := hch 0x2c (by decide)
    obtain ⟨h1, h2⟩ := dmaEndAll_channel (result := dHalted) (by decide) u c hc
    refine ⟨h1, ?_, fun hn => ?_⟩
    · refine (dmaEndAll_reg _ u (fun d hd => ?_) (fun d hd => ?_)).trans (hch 0x20 (by decide))
      · simp only [Reg.DMA_STATUS, Reg.DMA_PROGRESS]; omega
      · simp only [Reg.DONE_EVT, Reg.DMA_PROGRESS]; omega
    · obtain ⟨h3, h4⟩ := h2 (by rwa [hstate])
      exact ⟨h3.trans rfl, by rw [h4, hdone]⟩

/-- The guarded CLEAR of a halt waits for the tags (R424). -/
theorem landHaltClr_cleared {s : State} (h : s.dmaTags = 0) :
    landHaltClr 1 s = (s.setFlag F.DMA_HALT_HALTED false).setFld F.DMA_HALT_TAGS 0 := by
  unfold landHaltClr
  rw [if_neg (by decide), if_neg (by simp [h])]

theorem landHaltClr_waits {s : State} (h : s.dmaTags ≠ 0) : landHaltClr 1 s = s.bump16 Reg.DMA_CMD_REF := by
  unfold landHaltClr
  rw [if_neg (by decide), if_pos (by simp [h])]
  rfl

/-! ### A burst (R420–R423) -/

/-- The arbiter chooses a channel that is moving. -/
theorem State.dmaPick_ready {s : State} {c : Nat} (h : s.dmaPick = some c) : c < 8 ∧ s.dmaState c = 2 := by
  have hmem : c ∈ (List.range 8).filter s.dmaReady := by
    unfold State.dmaPick at h
    extract_lets l top l2 at h
    have h2 : c ∈ l2 := by
      split at h
      · next d hd => cases h; exact List.mem_of_find?_eq_some hd
      · exact List.mem_of_mem_head? h
    exact List.mem_of_mem_filter h2
  obtain ⟨hr, hready⟩ := List.mem_filter.mp hmem
  refine ⟨List.mem_range.mp hr, ?_⟩
  unfold State.dmaReady at hready
  simp only [Bool.and_eq_true, beq_iff_eq] at hready
  exact hready.1

/-- What a granted burst of channel `c` does before it moves a byte: the charge is drawn, the channel is the one last served, and the
burst counts. -/
def burstStart (c : Nat) (s : State) : State :=
  let u := govTake 1 9600000 s
  ({ govTake 2 (u.burstTlps c * tlpCharge) u with dma := { u.dma with last := c } }).bump48 Reg.DMA_BURSTS 1

/-- The counting of a burst writes the two words of DMA_BURSTS. -/
theorem burstStart_eq (c : Nat) (s : State) : ∃ u : State, u.within s [] [.rat, .dma] ∧ u.dma = { s.dma with last := c } ∧
    burstStart c s = u.setQuant Reg.DMA_BURSTS 2 ((u.quant Reg.DMA_BURSTS 2 + 1) % 2 ^ 48) := by
  have key : ∀ (q : Nat) (u : State), u.within s [] [.rat] → ∃ w : State, w.within s [] [.rat, .dma] ∧ w.dma = { s.dma with last := c } ∧
      ({ govTake 2 q u with dma := { u.dma with last := c } } : State).bump48 Reg.DMA_BURSTS 1 =
        w.setQuant Reg.DMA_BURSTS 2 ((w.quant Reg.DMA_BURSTS 2 + 1) % 2 ^ 48) := by
    intro q u hu
    have h2 : (govTake 2 q u).within s [] [.rat, .dma] := (govTake_within 2 q u).after hu.mono
    refine ⟨_, h2.update ?_ ?_, ?_, rfl⟩
    · rfl
    · rfl
    · exact congrArg (fun d : DmaPart => { d with last := c }) (hu.get State.dma (fun _ => rfl))
  exact key _ _ (govTake_within 1 9600000 s)

theorem burstStart_within (c : Nat) (s : State) : (burstStart c s).within s [11, 0x101] [.rat, .dma] := by
  obtain ⟨u, hu, -, heq⟩ := burstStart_eq c s
  rw [heq]
  exact .setQuant hu.mono (by decide)

theorem burstStart_reg (c : Nat) (s : State) {a : Nat} (h : a < Reg.DMA_BURSTS) : (burstStart c s).reg a = s.reg a := by
  have hne : a ≠ Reg.DMA_BURSTS := Nat.ne_of_lt h
  have hne' : a ≠ Reg.DMA_BURSTS + 4 := by omega
  obtain ⟨u, hu, -, heq⟩ := burstStart_eq c s
  rw [heq]
  exact (State.reg_setRv_ne _ _ hne').trans ((State.reg_setRv_ne _ _ hne).trans (hu.reg a List.not_mem_nil))

theorem burstStart_counts (c : Nat) (s : State) :
    (burstStart c s).quant Reg.DMA_BURSTS 2 = (s.quant Reg.DMA_BURSTS 2 + 1) % 2 ^ 48 ∧ (burstStart c s).dma = { s.dma with last := c } := by
  obtain ⟨u, hu, hd, heq⟩ := burstStart_eq c s
  have hq : u.quant Reg.DMA_BURSTS 2 = s.quant Reg.DMA_BURSTS 2 := by
    rw [State.quant_two, State.quant_two, hu.rv (by simp), hu.rv (by simp)]
  rw [heq]
  generalize u.quant Reg.DMA_BURSTS 2 = q at hq
  subst hq
  refine ⟨(State.quant_setQuant_two _ _ _).trans (Nat.mod_eq_of_lt ?_), hd⟩
  omega

theorem State.setDmaCh_last (s : State) (c : Nat) (v : DmaCh) : (s.setDmaCh c v).dma.last = s.dma.last := rfl

/-- More bytes: PROGRESS advances, and the channel keeps its place (R420, R423). -/
theorem dmaProgress_spec (c k : Nat) (s : State) : (dmaProgress c k s).rv (Reg.DMA_PROGRESS c) = (s.rv (Reg.DMA_PROGRESS c) + k) % 2 ^ 32 ∧
    (∃ b, (dmaProgress c k s).dmaCh c = { s.dmaCh c with half := b }) ∧ (dmaProgress c k s).dma.last = s.dma.last ∧
    (∀ a, a ≠ Reg.DMA_PROGRESS c → a ≠ Reg.HALF_EVT c → (dmaProgress c k s).reg a = s.reg a) := by
  have hne : Reg.DMA_PROGRESS c ≠ Reg.HALF_EVT c := by simp only [Reg.DMA_PROGRESS, Reg.HALF_EVT]; omega
  unfold dmaProgress
  extract_lets p v s1
  have hp : s1.rv (Reg.DMA_PROGRESS c) = p % 2 ^ 32 := State.rv_setRv _ _ _
  have hr : ∀ a, a ≠ Reg.DMA_PROGRESS c → s1.reg a = s.reg a := fun a ha => State.reg_setRv_ne _ _ ha
  have hd : s1.dma = s.dma := State.setRv_dma _ _ _
  clear_value s1
  split
  · refine ⟨?_, ⟨true, ?_⟩, ?_, fun a h1 h2 => ?_⟩
    · rw [State.rv_of_reg (State.reg_bump_ne _ hne), State.setDmaCh_rv, hp]
    · exact State.dmaCh_setDmaCh _ _ _
    · rw [State.bump_dma, State.setDmaCh_last, hd]
    · rw [State.reg_bump_ne _ h2, State.setDmaCh_reg, hr a h1]
  · refine ⟨hp, ⟨v.half, ?_⟩, congrArg DmaPart.last hd, fun a h1 _ => hr a h1⟩
    exact congrArg (fun d : DmaPart => Tbl.get (fun _ => DmaCh.reset) d.ch c) hd

theorem dmaProgress_within {c : Nat} (hc : c < 8) (k : Nat) (s : State) : (dmaProgress c k s).within s [11] [.dma] := by
  have h : (s.setRv (Reg.DMA_PROGRESS c) (s.rv (Reg.DMA_PROGRESS c) + k)).within s [11] [.dma] :=
    .setRv .refl (dmaReg_block (o := 0x20) hc (by decide))
  exact .ite (fun _ => .bump (h.update rfl rfl) (dmaReg_block (o := 0x24) hc (by decide))) (fun _ => h)

theorem dmaMoveOn_within {c : Nat} (hc : c < 8) (n : Nat) (s : State) : (dmaMoveOn c n s).within s [11] [.dma] := by
  unfold dmaMoveOn
  extract_lets v len v1 s1
  have h : s1.within s [11] [.dma] := (setDmaCh_within s c v1).mono
  exact .ite (fun _ => (dmaEnd_within hc dDone s1).after h) (fun _ => h.setFld (dmaReg_block (o := 0x1c) hc (by decide)))

theorem dmaEnd_dma (c result : Nat) (s : State) : (dmaEnd c result s).dma = s.dma := by
  unfold dmaEnd
  extract_lets s1
  have h1 : s1.dma = s.dma := (State.setFld_dma ..).trans (State.setFld_dma ..)
  clear_value s1
  split
  · rw [State.bump_dma, h1]
  · exact h1

/-- The channel's place after a whole burst: the entry goes on, the next entry begins, or the transfer is done. -/
theorem dmaMoveOn_spec {c n host len : Nat} {s : State} (he : (s.dmaCh c).entries[(s.dmaCh c).ent]? = some (host, len)) (h2 : s.dmaState c = 2) :
    (∀ a, a ≠ Reg.DMA_STATUS c → a ≠ Reg.DONE_EVT c → (dmaMoveOn c n s).reg a = s.reg a) ∧ (dmaMoveOn c n s).dma.last = s.dma.last ∧
    ((s.dmaCh c).off + n = len → (s.dmaCh c).entries.length ≤ (s.dmaCh c).ent + 1 →
      (dmaMoveOn c n s).dmaState c = 0 ∧ (dmaMoveOn c n s).fld (F.DMA_STATUS_RESULT c) = dDone) ∧
    ((s.dmaCh c).off + n = len → (s.dmaCh c).ent + 1 < (s.dmaCh c).entries.length → (dmaMoveOn c n s).dmaState c = 2 ∧
      ((dmaMoveOn c n s).dmaCh c).ent = (s.dmaCh c).ent + 1 ∧ ((dmaMoveOn c n s).dmaCh c).off = 0) ∧
    ((s.dmaCh c).off + n ≠ len → (dmaMoveOn c n s).dmaState c = 2 ∧
      ((dmaMoveOn c n s).dmaCh c).ent = (s.dmaCh c).ent ∧ ((dmaMoveOn c n s).dmaCh c).off = (s.dmaCh c).off + n) := by
  have hlt : (s.dmaCh c).ent < (s.dmaCh c).entries.length := (List.getElem?_eq_some_iff.mp he).1
  have hstay : ∀ (v : DmaCh) (k : Nat), ((s.setDmaCh c v).setFld (F.DMA_STATUS_ENTRY c) k).dmaState c = 2 := fun v k =>
    (State.fld_setFld_apart _ _ (.inr ⟨show 8 + 6 ≤ 32 by decide, .inr (show 0 + 2 ≤ 8 by decide)⟩)).trans h2
  have hch : ∀ (v : DmaCh) (k : Nat), ((s.setDmaCh c v).setFld (F.DMA_STATUS_ENTRY c) k).dmaCh c = v := fun v k => State.dmaCh_setDmaCh s c v
  unfold dmaMoveOn
  extract_lets v l v1 s1
  have hl : l = len := by simp only [l, v, he, Option.map_some, Option.getD_some]
  clear_value l
  subst hl
  refine ⟨fun a h1 h2 => ?_, ?_, fun hf hd => ?_, fun hf hd => ?_, fun hf => ?_⟩
  · split
    · exact dmaEnd_reg _ _ _ h1 h2
    · exact State.reg_setFld_ne _ _ _ h1
  · split
    · rw [dmaEnd_dma]
      rfl
    · rfl
  · have hv : v1 = { v with ent := v.ent + 1, off := 0 } := if_pos hf
    rw [if_pos (by rw [hv]; exact hd)]
    obtain ⟨h0, hres, -⟩ := dmaEnd_shows c dDone s1
    exact ⟨h0, hres.trans rfl⟩
  · have hv : v1 = { v with ent := v.ent + 1, off := 0 } := if_pos hf
    rw [if_neg (by rw [hv]; exact Nat.not_le.mpr hd)]
    refine ⟨hstay _ _, ?_, ?_⟩
    · rw [hch, hv]
    · rw [hch, hv]
  · have hv : v1 = { v with off := v.off + n } := if_neg hf
    rw [if_neg (by rw [hv]; exact Nat.not_le.mpr hlt)]
    refine ⟨hstay _ _, ?_, ?_⟩
    · rw [hch, hv]
    · rw [hch, hv]

theorem length_bytes (m : Memory) (a n : Nat) : (m.bytes a n).length = n := by
  induction n generalizing a with
  | zero => rfl
  | succ n ih => exact congrArg (· + 1) (ih (a + 1))

theorem dmaPut_hamper {c : Nat} {s : State} (h : s.dmaSpace c = 0) (a : Nat) (l : List Byte) :
    dmaPut c a l s = (l.length, { s with fab := { s.fab with mem := s.fab.mem.setBytes a l } }) := by
  unfold dmaPut
  rw [h]
  rfl

theorem dmaGet_hamper {c : Nat} {s : State} (h : s.dmaSpace c = 0) (a n : Nat) : dmaGet c a n s = s.fab.mem.bytes a n := by
  unfold dmaGet
  rw [h]
  rfl

/-- The bytes of the next burst: up to the entry's end or the 256-byte boundary (R421). -/
def State.burstLen (s : State) (c host len : Nat) : Nat := min (len - (s.dmaCh c).off) (256 - (host + (s.dmaCh c).off) % 256)

/-- Where the next burst stands in the device's space. -/
def State.burstAt (s : State) (c : Nat) : Nat := s.rv (Reg.DMA_DEV_ADDR c) + s.rv (Reg.DMA_PROGRESS c)

section
variable {c host len : Nat} {s : State} (data : List Byte) (he : (s.dmaCh c).entries[(s.dmaCh c).ent]? = some (host, len))
include he

theorem dmaBurst_unreachable (hr : s.dmaReach (s.dmaSpace c) = false) : dmaBurst c data s = dmaEnd c dDevError s := by
  unfold dmaBurst
  dsimp only
  rw [he]
  dsimp only
  rw [if_pos (by simp [hr])]

theorem dmaBurst_noTlp (hr : s.dmaReach (s.dmaSpace c) = true) (h2 : s.govGrants 2 (s.burstTlps c * tlpCharge) = false) :
    dmaBurst c data s = govStall 2 s := by
  unfold dmaBurst
  dsimp only
  rw [he]
  dsimp only
  rw [if_neg (by simp [hr]), if_pos (by simp [h2])]

theorem dmaBurst_noGrant (hr : s.dmaReach (s.dmaSpace c) = true) (h2 : s.govGrants 2 (s.burstTlps c * tlpCharge) = true)
    (h1 : s.govGrants 1 9600000 = false) : dmaBurst c data s = govStall 1 s := by
  unfold dmaBurst metered
  dsimp only
  rw [he]
  dsimp only
  rw [if_neg (by simp [hr]), if_neg (by simp [h2]), if_neg (by simp [h1])]

variable (hc : c < 8) (hr : s.dmaReach (s.dmaSpace c) = true) (h2 : s.govGrants 2 (s.burstTlps c * tlpCharge) = true)
  (h1 : s.govGrants 1 9600000 = true) (hsp : s.dmaSpace c = 0)
include hc hr h2 h1 hsp

/-- A burst from host memory writes the hamper. -/
theorem dmaBurst_toHamper (hw : s.dmaWrites c = true) : ∃ u : State, u.within (burstStart c s) [] [.fab] ∧
    u.fab.mem = s.fab.mem.setBytes (s.burstAt c) (data.take (s.burstLen c host len) ++ List.replicate (s.burstLen c host len - data.length) 0) ∧
    dmaBurst c data s = dmaMoveOn c (s.burstLen c host len) (dmaProgress c (s.burstLen c host len) u) := by
  have hcfg : (burstStart c s).reg (Reg.DMA_CFG c) = s.reg (Reg.DMA_CFG c) := burstStart_reg c s (by simp only [Reg.DMA_CFG, Reg.DMA_BURSTS]; omega)
  have hsp0 : (burstStart c s).dmaSpace c = 0 := (State.fld_of_reg (f := F.DMA_CFG_SPACE c) hcfg).trans hsp
  have hw1 : (govTake 1 9600000 s).dmaWrites c = true :=
    (congrArg (· == 0) ((govTake_within 1 9600000 s).fld (f := F.DMA_CFG_DIR c) (by simp))).trans hw
  have hdev : (govTake 1 9600000 s).rv (Reg.DMA_DEV_ADDR c) = s.rv (Reg.DMA_DEV_ADDR c) := (govTake_within 1 9600000 s).rv (by simp)
  have hfab : (burstStart c s).fab = s.fab := (burstStart_within c s).get State.fab (fun _ => rfl)
  have hlen : (data.take (s.burstLen c host len) ++ List.replicate (s.burstLen c host len - data.length) (0 : Byte)).length =
      s.burstLen c host len := by
    rw [List.length_append, List.length_take, List.length_replicate]
    omega
  have hgo : dmaBurst c data s = (let r := dmaPut c (s.burstAt c) (data.take (s.burstLen c host len) ++
      List.replicate (s.burstLen c host len - data.length) 0) (burstStart c s)
    let s1 := dmaProgress c r.1 r.2
    if r.1 = s.burstLen c host len then dmaMoveOn c (s.burstLen c host len) s1 else dmaEnd c dDevError (dmaNvsEnd c (s.burstAt c + r.1) s1)) := by
    unfold dmaBurst metered
    dsimp only
    rw [he]
    dsimp only
    rw [if_neg (by simp [hr]), if_neg (by simp [h2]), if_pos h1, if_pos hw1]
    rfl
  rw [hgo, dmaPut_hamper hsp0]
  dsimp only
  rw [if_pos hlen, hlen]
  refine ⟨_, ?_, ?_, rfl⟩
  · exact .update .refl rfl rfl
  · exact congrArg (fun f : FabPart => f.mem.setBytes _ _) hfab

/-- A burst to host memory sends what the hamper holds. -/
theorem dmaBurst_fromHamper (hw : s.dmaWrites c = false) :
    dmaBurst c data s = dmaMoveOn c (s.burstLen c host len) (dmaProgress c (s.burstLen c host len) ((burstStart c s).emit
      (.hostWrite (host + (s.dmaCh c).off) (s.fab.mem.bytes (s.burstAt c) (s.burstLen c host len)) (s.flag (F.DMA_CFG_NOSNOOP c))))) := by
  have hcfg : (burstStart c s).reg (Reg.DMA_CFG c) = s.reg (Reg.DMA_CFG c) := burstStart_reg c s (by simp only [Reg.DMA_CFG, Reg.DMA_BURSTS]; omega)
  have hsp0 : (burstStart c s).dmaSpace c = 0 := (State.fld_of_reg (f := F.DMA_CFG_SPACE c) hcfg).trans hsp
  have hw1 : (govTake 1 9600000 s).dmaWrites c = false :=
    (congrArg (· == 0) ((govTake_within 1 9600000 s).fld (f := F.DMA_CFG_DIR c) (by simp))).trans hw
  have hns : (govTake 1 9600000 s).flag (F.DMA_CFG_NOSNOOP c) = s.flag (F.DMA_CFG_NOSNOOP c) := (govTake_within 1 9600000 s).flag (by simp)
  have hfab : (burstStart c s).fab = s.fab := (burstStart_within c s).get State.fab (fun _ => rfl)
  have hgo : dmaBurst c data s = (let l := dmaGet c (s.burstAt c) (s.burstLen c host len) (burstStart c s)
    if l.length = s.burstLen c host len then dmaMoveOn c (s.burstLen c host len) (dmaProgress c (s.burstLen c host len)
      ((burstStart c s).emit (.hostWrite (host + (s.dmaCh c).off) l ((govTake 1 9600000 s).flag (F.DMA_CFG_NOSNOOP c)))))
    else dmaEnd c dDevError (dmaNvsEnd c (s.burstAt c + l.length) (burstStart c s))) := by
    unfold dmaBurst metered
    dsimp only
    rw [he]
    dsimp only
    rw [if_neg (by simp [hr]), if_neg (by simp [h2]), if_pos h1, if_neg (by simp [hw1])]
    rfl
  rw [hgo, dmaGet_hamper hsp0]
  dsimp only
  rw [if_pos (length_bytes _ _ _), hfab, hns]

end

/-! ### The commands -/

theorem raiseAll_out_mem {o : Out} (l : List Nat) {s : State} (h : o ∈ s.out) : o ∈ (s.raiseAll l).out := by
  induction l generalizing s with
  | nil => exact h
  | cons v l ih =>
    refine ih ?_
    unfold State.raise
    split
    · exact List.mem_append_left _ h
    · exact h

/-- What has left the device stays so when the vectors see their conditions. -/
theorem settle_out_mem {o : Out} {s : State} (h : o ∈ s.out) : o ∈ (settle s).out := by
  unfold settle
  extract_lets c rose
  split
  · exact h
  · exact raiseAll_out_mem _ h

theorem State.dmaState_settle (s : State) (c : Nat) : (settle s).dmaState c = s.dmaState c := settle_fld s _

theorem State.dmaCh_settle (s : State) (c : Nat) : (settle s).dmaCh c = s.dmaCh c := by
  unfold State.dmaCh
  rw [settle_dma]

theorem landDmaOwner_other {m c : Nat} (h : m ≠ 4) (v : Word) (s : State) : landDmaOwner m c v s = s := by
  unfold landDmaOwner
  rw [if_pos (by simp [h])]

theorem landDmaOwner_idle {c : Nat} {s : State} (h : s.dmaState c = 0) (v : Word) :
    landDmaOwner 4 c v s = s.setReg (Reg.DMA_OWNER c) (v &&& 0xff) := by
  unfold landDmaOwner
  rw [if_neg (by decide), if_neg (by simp [h])]

theorem landDmaOwner_busy {c : Nat} {s : State} (h : s.dmaState c ≠ 0) (v : Word) : landDmaOwner 4 c v s = s.bump16 Reg.DMA_CMD_REF := by
  unfold landDmaOwner
  rw [if_neg (by decide), if_pos (by simp [h])]
  rfl

section
variable {m : Master} {c : Fin 8} {s : State} (hs : s.sends m)
include hs

theorem exec_dmaStart : exec (.dmaStart m c) s = .next (settle (dmaOwned m.id c.val (dmaStart c.val) (s.tlp m 1))) :=
  congrArg fin (reach_of_sends hs _)

theorem exec_dmaAbort : exec (.dmaAbort m c) s = .next (settle (dmaOwned m.id c.val (dmaAbort c.val) (s.tlp m 1))) :=
  congrArg fin (reach_of_sends hs _)

theorem exec_dmaOwnerWrite (v : Word) : exec (.dmaOwnerWrite m c v) s = .next (settle (landDmaOwner m.id c.val v (s.tlp m 1))) :=
  congrArg fin (reach_of_sends hs _)

end

/-- The doorbells of a channel (R415, R418–R420, R425). -/
theorem dmaDoorbells (m : Master) (c : Fin 8) (s : State) (hs : s.sends m) :
    (s.rv (Reg.DMA_OWNER c.val) ≠ m.id → (∃ t, exec (.dmaStart m c) s = .next t ∧ t.sameBut ((s.tlp m 1).bump16 Reg.DMA_FOREIGN)) ∧
      (∃ t, exec (.dmaAbort m c) s = .next t ∧ t.sameBut ((s.tlp m 1).bump16 Reg.DMA_FOREIGN))) ∧
    (s.rv (Reg.DMA_OWNER c.val) = m.id →
      (s.dmaState c.val = 0 → s.flag F.DMA_HALT_HALTED = false → s.wHeld 5 c.val = false →
        (s.irq.linkL0 = true → ∃ t, exec (.dmaStart m c) s = .next t ∧ t.dmaState c.val = 1 ∧ t.rv (Reg.DMA_PROGRESS c.val) = 0 ∧
          t.fld (F.DMA_STATUS_RESULT c.val) = 0 ∧ t.dmaCh c.val = .reset ∧
          t.onlyRegs { s.tlp m 1 with dma := t.dma } [Reg.DMA_STATUS c.val, Reg.DMA_PROGRESS c.val]) ∧
        (s.irq.linkL0 = false → ∃ t, exec (.dmaStart m c) s = .next t ∧ t.dmaState c.val = 0 ∧ t.fld (F.DMA_STATUS_RESULT c.val) = dNoLink ∧
          t.reg (Reg.DONE_EVT c.val) = s.reg (Reg.DONE_EVT c.val) + 1 ∧
          t.fld ⟨Reg.DMA_CMD_REF, 0, 16⟩ = min (s.fld ⟨Reg.DMA_CMD_REF, 0, 16⟩ + 1) 65535 ∧
          t.onlyRegs (s.tlp m 1) [Reg.DMA_STATUS c.val, Reg.DONE_EVT c.val, Reg.DMA_CMD_REF])) ∧
      (s.dmaState c.val ≠ 0 ∨ s.flag F.DMA_HALT_HALTED = true ∨ s.wHeld 5 c.val = true →
        ∃ t, exec (.dmaStart m c) s = .next t ∧ t.sameBut ((s.tlp m 1).bump16 Reg.DMA_CMD_REF)) ∧
      (s.dmaState c.val ≠ 0 → ∃ t, exec (.dmaAbort m c) s = .next t ∧ t.dmaState c.val = 0 ∧ t.fld (F.DMA_STATUS_RESULT c.val) = dAborted ∧
        t.reg (Reg.DONE_EVT c.val) = s.reg (Reg.DONE_EVT c.val) + 1 ∧ t.onlyRegs (s.tlp m 1) [Reg.DMA_STATUS c.val, Reg.DONE_EVT c.val]) ∧
      (s.dmaState c.val = 0 → ∃ t, exec (.dmaAbort m c) s = .next t ∧ t.sameBut (s.tlp m 1))) := by
  have hstart := exec_dmaStart (c := c) hs
  have habort := exec_dmaAbort (c := c) hs
  have hwi : (s.tlp m 1).within s [] [.rat] := tlp_within s m 1
  generalize s.tlp m 1 = u at hstart habort hwi
  have hreg : ∀ a, u.reg a = s.reg a := fun a => hwi.reg a List.not_mem_nil
  have hlink : u.irq = s.irq := hwi.get State.irq (fun _ => rfl)
  have howner : u.rv (Reg.DMA_OWNER c.val) = s.rv (Reg.DMA_OWNER c.val) := State.rv_of_reg (hreg _)
  have hstate : u.dmaState c.val = s.dmaState c.val := State.dmaState_of_reg (hreg _)
  have hhalt : u.flag F.DMA_HALT_HALTED = s.flag F.DMA_HALT_HALTED := State.flag_of_reg (hreg _)
  have hheld : u.wHeld 5 c.val = s.wHeld 5 c.val := congrArg (fun n => n.testBit c.val) (State.rv_of_reg (hreg _))
  refine ⟨fun hne => ?_, fun ho => ⟨fun h0 hh hw => ⟨fun hl => ?_, fun hl => ?_⟩, fun hn => ?_, fun hn => ?_, fun h0 => ?_⟩⟩
  · rw [dmaOwned_foreign (by rwa [howner])] at hstart habort
    exact ⟨⟨_, hstart, settle_sameBut _⟩, ⟨_, habort, settle_sameBut _⟩⟩
  · rw [dmaOwned_owner (by rwa [howner])] at hstart
    obtain ⟨h1, h2, h3, h4, h5⟩ := dmaStart_taken (hstate.trans h0) (hhalt.trans hh) (hheld.trans hw) ((congrArg IrqPart.linkL0 hlink).trans hl)
    refine ⟨_, hstart, ?_, ?_, ?_, ?_, (dmaStart_within c.isLt u).onlyRegs_dma h5⟩
    · rw [State.dmaState_settle, h1]
    · rw [settle_rv, h2]
    · rw [settle_fld, h3]
    · rw [State.dmaCh_settle, h4]
  · rw [dmaOwned_owner (by rwa [howner])] at hstart
    obtain ⟨h1, h2, h3, h4, h5, h6⟩ := dmaStart_noLink (hstate.trans h0) (hhalt.trans hh) (hheld.trans hw)
      ((congrArg IrqPart.linkL0 hlink).trans hl) c.isLt
    refine ⟨_, hstart, ?_, ?_, ?_, ?_, ?_⟩
    · rw [State.dmaState_settle, h1]
    · rw [settle_fld, h2]
    · rw [settle_reg, h3, hreg]
    · rw [settle_fld, h4, State.fld_of_reg (f := ⟨Reg.DMA_CMD_REF, 0, 16⟩) (hreg _)]
    · have h := (dmaStart_within c.isLt u).onlyRegs_dma h5
      rwa [settle_dma, h6] at h
  · rw [dmaOwned_owner (by rwa [howner]), dmaStart_refused (by rwa [hstate, hhalt, hheld])] at hstart
    exact ⟨_, hstart, settle_sameBut _⟩
  · have he : dmaAbort c.val u = dmaEnd c.val dAborted u := if_neg (by rwa [hstate])
    rw [dmaOwned_owner (by rwa [howner]), he] at habort
    obtain ⟨h1, h2, h3⟩ := dmaEnd_shows c.val dAborted u
    refine ⟨_, habort, ?_, ?_, ?_, ?_⟩
    · rw [State.dmaState_settle, h1]
    · rw [settle_fld, h2]
      rfl
    · rw [settle_reg, h3 (by decide), hreg]
    · have h := State.within.onlyRegs_dma (l := [Reg.DMA_STATUS c.val, Reg.DONE_EVT c.val]) (dmaEnd_within c.isLt dAborted u).mono (fun a ha => by
        simp only [List.mem_cons, List.not_mem_nil, or_false, not_or] at ha
        exact dmaEnd_reg _ _ _ ha.1 ha.2)
      rwa [settle_dma, dmaEnd_dma] at h
  · have he : dmaAbort c.val u = u := if_pos (by rwa [hstate])
    rw [dmaOwned_owner (by rwa [howner]), he] at habort
    exact ⟨_, habort, settle_sameBut _⟩

/-- The registers of channel `c` that the list's check writes. -/
theorem dmaListCheck_spec (c : Nat) (hc : c < 8) (l : List DmaEntry) (b0 b2 b4 : Nat) (s : State) (h1 : s.dmaState c = 1) :
    let bank := if s.dmaWrites c then s.fld F.ITIN_CTRL_LOAD_BANK else s.fld (F.DMA_CFG_BANK c)
    let t := dmaListCheck c l b0 b2 b4 s
    (∀ x ∉ [Reg.DMA_STATUS c, Reg.DONE_EVT c], t.reg x = s.reg x) ∧
      (dmaCheck c bank l b0 b2 b4 s = none → t.dmaState c = 2 ∧ t.dmaCh c = ⟨l.map (fun e => (e.1, e.2.1)), 0, 0, bank, false⟩ ∧ t.flt = s.flt) ∧
      (∀ f, dmaCheck c bank l b0 b2 b4 s = some f → t.dmaState c = 0 ∧ t.fld (F.DMA_STATUS_RESULT c) = f.result % 16 ∧ t.dma = s.dma ∧
        t.reg (Reg.DONE_EVT c) = s.reg (Reg.DONE_EVT c) + 1 ∧ t.flt = (dmaFault c f s).flt) := by
  dsimp only
  cases hf : dmaCheck c (if s.dmaWrites c then s.fld F.ITIN_CTRL_LOAD_BANK else s.fld (F.DMA_CFG_BANK c)) l b0 b2 b4 s with
  | none =>
    rw [dmaListCheck_passed h1 hf]
    refine ⟨fun x hx => ?_, fun _ => ⟨?_, ?_, ?_⟩, fun f h => nomatch h⟩
    · exact (State.reg_setFld_ne _ _ _ (fun h => hx (by simp [h]))).trans rfl
    · exact (State.fld_setFld _ _ _ (show 0 + 2 ≤ 32 by decide)).trans rfl
    · exact State.dmaCh_setDmaCh s c _
    · rfl
  | some f =>
    have hne : Reg.DONE_EVT c ≠ Reg.DMA_STATUS c := by simp only [Reg.DMA_STATUS, Reg.DONE_EVT]; omega
    have hst : regArea (Reg.DMA_STATUS c) ∈ [11] := dmaReg_block (o := 0x1c) hc (by decide)
    have hmark : ∀ a, a ≠ Reg.DMA_STATUS c →
        ((s.setFld (F.DMA_STATUS_ENTRY c) f.entry).setFld (F.DMA_STATUS_CAUSE c) f.cause).reg a = s.reg a := fun a ha =>
      (State.reg_setFld_ne _ _ _ ha).trans (State.reg_setFld_ne _ _ _ ha)
    have hin : ((s.setFld (F.DMA_STATUS_ENTRY c) f.entry).setFld (F.DMA_STATUS_CAUSE c) f.cause).within s [11] [] := (State.within.refl.setFld hst).setFld hst
    rw [dmaListCheck_failed h1 hf]
    generalize (s.setFld (F.DMA_STATUS_ENTRY c) f.entry).setFld (F.DMA_STATUS_CAUSE c) f.cause = u at hmark hin
    have hfw : (dmaFault c f u).within u [] [.flt] := dmaFault_within c f u
    obtain ⟨h0, hres, hevt⟩ := dmaEnd_shows c f.result (dmaFault c f u)
    refine ⟨fun x hx => ?_, fun h => (nomatch h), fun g hg => ?_⟩
    · simp only [List.mem_cons, List.not_mem_nil, or_false, not_or] at hx
      rw [dmaEnd_reg _ _ _ hx.1 hx.2, hfw.reg x List.not_mem_nil, hmark x hx.1]
    · obtain rfl : f = g := Option.some.inj hg
      refine ⟨h0, hres, ?_, ?_, ?_⟩
      · rw [dmaEnd_dma, hfw.get State.dma (fun _ => rfl), hin.get State.dma (fun _ => rfl)]
      · rw [hevt (dmaCheck_result hf), hfw.reg _ List.not_mem_nil, hmark _ hne]
      · rw [(dmaEnd_within hc _ _).get State.flt (fun _ => rfl)]
        refine dmaFault_flt (hin.get State.flt (fun _ => rfl)) (hmark _ ?_) (hmark _ ?_)
        · simp only [Reg.DMA_STATUS, Reg.DMA_CFG]; omega
        · simp only [Reg.DMA_STATUS, Reg.DMA_DEV_ADDR]; omega

/-- What a burst on the hamper does after its start: PROGRESS, the count, the channel's place. -/
theorem burstMoved_spec {c host len : Nat} {s u : State} (hc : c < 8) (he : (s.dmaCh c).entries[(s.dmaCh c).ent]? = some (host, len))
    (hst : s.dmaState c = 2) (hu : u.within (burstStart c s) [] [.fab, .out]) (n : Nat) :
    let t := dmaMoveOn c n (dmaProgress c n u)
    t.rv (Reg.DMA_PROGRESS c) = (s.rv (Reg.DMA_PROGRESS c) + n) % 2 ^ 32 ∧ t.dma.last = c ∧
      t.quant Reg.DMA_BURSTS 2 = (s.quant Reg.DMA_BURSTS 2 + 1) % 2 ^ 48 ∧ t.fab = u.fab ∧ t.out = u.out ∧
      ((s.dmaCh c).off + n = len → (s.dmaCh c).entries.length ≤ (s.dmaCh c).ent + 1 → t.dmaState c = 0 ∧ t.fld (F.DMA_STATUS_RESULT c) = dDone) ∧
      ((s.dmaCh c).off + n = len → (s.dmaCh c).ent + 1 < (s.dmaCh c).entries.length →
        t.dmaState c = 2 ∧ (t.dmaCh c).ent = (s.dmaCh c).ent + 1 ∧ (t.dmaCh c).off = 0) ∧
      ((s.dmaCh c).off + n ≠ len → t.dmaState c = 2 ∧ (t.dmaCh c).ent = (s.dmaCh c).ent ∧ (t.dmaCh c).off = (s.dmaCh c).off + n) := by
  obtain ⟨hcount, hdma⟩ := burstStart_counts c s
  have hudma : u.dma = { s.dma with last := c } := (hu.get State.dma (fun _ => rfl)).trans hdma
  have huch : u.dmaCh c = s.dmaCh c := by
    unfold State.dmaCh
    rw [hudma]
  have hureg : ∀ a, a < Reg.DMA_BURSTS → u.reg a = s.reg a := fun a ha => (hu.reg a List.not_mem_nil).trans (burstStart_reg c s ha)
  have huq : u.quant Reg.DMA_BURSTS 2 = (s.quant Reg.DMA_BURSTS 2 + 1) % 2 ^ 48 := by
    rw [← hcount, State.quant_two, State.quant_two, hu.rv (by simp), hu.rv (by simp)]
  obtain ⟨hp, ⟨b, hch⟩, hlast, hreg⟩ := dmaProgress_spec c n u
  have hpw : (dmaProgress c n u).within u [11] [.dma] := dmaProgress_within hc n u
  generalize dmaProgress c n u = v at hp hch hlast hreg hpw
  have hvch : v.dmaCh c = { s.dmaCh c with half := b } := by rw [hch, huch]
  have hvst : v.dmaState c = 2 := by
    refine (State.dmaState_of_reg ((hreg _ ?_ ?_).trans (hureg _ ?_))).trans hst
    · simp only [Reg.DMA_STATUS, Reg.DMA_PROGRESS]; omega
    · simp only [Reg.DMA_STATUS, Reg.HALF_EVT]; omega
    · simp only [Reg.DMA_STATUS, Reg.DMA_BURSTS]; omega
  obtain ⟨h1, h2, h3, h4, h5⟩ := dmaMoveOn_spec (c := c) (n := n) (host := host) (len := len) (s := v) (by rw [hvch]; exact he) hvst
  rw [hvch] at h3 h4 h5
  have hmw : (dmaMoveOn c n v).within v [11] [.dma] := dmaMoveOn_within hc n v
  have hfar : ∀ a, Reg.DMA_BURSTS ≤ a → (dmaMoveOn c n v).reg a = u.reg a := fun a ha => by
    simp only [Reg.DMA_BURSTS] at ha
    refine (h1 a ?_ ?_).trans (hreg a ?_ ?_)
    · simp only [Reg.DMA_STATUS]; omega
    · simp only [Reg.DONE_EVT]; omega
    · simp only [Reg.DMA_PROGRESS]; omega
    · simp only [Reg.HALF_EVT]; omega
  refine ⟨?_, ?_, ?_, ?_, ?_, h3, h4, h5⟩
  · have hne : Reg.DMA_PROGRESS c ≠ Reg.DMA_STATUS c := by simp only [Reg.DMA_STATUS, Reg.DMA_PROGRESS]; omega
    have hne' : Reg.DMA_PROGRESS c ≠ Reg.DONE_EVT c := by simp only [Reg.DONE_EVT, Reg.DMA_PROGRESS]; omega
    rw [State.rv_of_reg (h1 _ hne hne'), hp, State.rv_of_reg (hureg _ (by simp only [Reg.DMA_PROGRESS, Reg.DMA_BURSTS]; omega))]
  · rw [h2, hlast, hudma]
  · rw [← huq, State.quant_two, State.quant_two, State.rv_of_reg (hfar _ le_rfl), State.rv_of_reg (hfar _ (Nat.le_add_right _ _))]
  · rw [hmw.get State.fab (fun _ => rfl), hpw.get State.fab (fun _ => rfl)]
  · rw [hmw.get State.out (fun _ => rfl), hpw.get State.out (fun _ => rfl)]

theorem exec_dmaBurst {c : Nat} {s : State} (hon : s.hostOn = true) (hp : s.dmaPick = some c) (data : List Byte) :
    exec (.dmaBurst data) s = .next (settle (dmaBurst c data s)) := by
  refine congrArg fin ?_
  rw [if_pos hon, hp]

theorem State.quant_settle (s : State) (a : Nat) : (settle s).quant a 2 = s.quant a 2 := by
  rw [State.quant_two, State.quant_two, settle_rv, settle_rv]

/-- A granted burst on the hamper (R420–R423). -/
theorem dmaBurst_granted (data : List Byte) {s : State} {c host len : Nat} (hon : s.hostOn = true) (hp : s.dmaPick = some c)
    (he : (s.dmaCh c).entries[(s.dmaCh c).ent]? = some (host, len)) (hr : s.dmaReach (s.dmaSpace c) = true)
    (h2 : s.govGrants 2 (s.burstTlps c * tlpCharge) = true) (h1 : s.govGrants 1 9600000 = true) (hsp : s.dmaSpace c = 0) :
    ∃ t, exec (.dmaBurst data) s = .next t ∧ t.rv (Reg.DMA_PROGRESS c) = (s.rv (Reg.DMA_PROGRESS c) + s.burstLen c host len) % 2 ^ 32 ∧
      t.dma.last = c ∧ t.quant Reg.DMA_BURSTS 2 = (s.quant Reg.DMA_BURSTS 2 + 1) % 2 ^ 48 ∧
      (s.dmaWrites c = true → t.fab.mem = s.fab.mem.setBytes (s.burstAt c)
        (data.take (s.burstLen c host len) ++ List.replicate (s.burstLen c host len - data.length) 0)) ∧
      (s.dmaWrites c = false → t.fab.mem = s.fab.mem ∧ .hostWrite (host + (s.dmaCh c).off)
        (s.fab.mem.bytes (s.burstAt c) (s.burstLen c host len)) (s.flag (F.DMA_CFG_NOSNOOP c)) ∈ t.out) ∧
      ((s.dmaCh c).off + s.burstLen c host len = len → (s.dmaCh c).entries.length ≤ (s.dmaCh c).ent + 1 →
        t.dmaState c = 0 ∧ t.fld (F.DMA_STATUS_RESULT c) = dDone) ∧
      ((s.dmaCh c).off + s.burstLen c host len = len → (s.dmaCh c).ent + 1 < (s.dmaCh c).entries.length →
        t.dmaState c = 2 ∧ (t.dmaCh c).ent = (s.dmaCh c).ent + 1 ∧ (t.dmaCh c).off = 0) ∧
      ((s.dmaCh c).off + s.burstLen c host len ≠ len →
        t.dmaState c = 2 ∧ (t.dmaCh c).ent = (s.dmaCh c).ent ∧ (t.dmaCh c).off = (s.dmaCh c).off + s.burstLen c host len) := by
  obtain ⟨hc, hst⟩ := s.dmaPick_ready hp
  have hexec := exec_dmaBurst hon hp data
  cases hw : s.dmaWrites c with
  | true =>
    obtain ⟨u, hu, hmem, hb⟩ := dmaBurst_toHamper data he hc hr h2 h1 hsp hw
    obtain ⟨h3, h4, h5, h6, -, h7, h8, h9⟩ := burstMoved_spec hc he hst hu.mono (s.burstLen c host len)
    rw [← hb] at h3 h4 h5 h6 h7 h8 h9
    refine ⟨_, hexec, ?_⟩
    simp only [settle_rv, settle_dma, State.quant_settle, settle_fab, State.dmaState_settle, settle_fld, State.dmaCh_settle]
    exact ⟨h3, h4, h5, fun _ => by rw [h6, hmem], fun h => (nomatch h), h7, h8, h9⟩
  | false =>
    have hb := dmaBurst_fromHamper data he hc hr h2 h1 hsp hw
    generalize hu : (burstStart c s).emit _ = u at hb
    have hout : .hostWrite (host + (s.dmaCh c).off) (s.fab.mem.bytes (s.burstAt c) (s.burstLen c host len)) (s.flag (F.DMA_CFG_NOSNOOP c)) ∈ u.out := by
      rw [← hu]
      exact List.mem_append_right _ List.mem_cons_self
    have huw : u.within (burstStart c s) [] [.fab, .out] := hu ▸ State.within.refl.emit
    have hfab : u.fab = s.fab := by
      rw [← hu, State.emit_fab, (burstStart_within c s).get State.fab (fun _ => rfl)]
    obtain ⟨h3, h4, h5, h6, ho, h7, h8, h9⟩ := burstMoved_spec hc he hst huw (s.burstLen c host len)
    rw [← hb] at h3 h4 h5 h6 ho h7 h8 h9
    have hsent := settle_out_mem (s := dmaBurst c data s) (ho ▸ hout)
    refine ⟨_, hexec, ?_⟩
    simp only [settle_rv, settle_dma, State.quant_settle, settle_fab, State.dmaState_settle, settle_fld, State.dmaCh_settle]
    exact ⟨h3, h4, h5, fun h => (nomatch h), fun _ => ⟨by rw [h6, hfab], hsent⟩, h7, h8, h9⟩

end Sys2Proof.Machine

namespace Sys2Proof

open Machine

/-- Settles O49: the commands of a channel through the lemmas about its doorbells, its list's check, its bursts and its halts. -/
theorem dmaTransfers : Obligations.DmaTransfers := by
  unfold Obligations.DmaTransfers
  refine ⟨dmaDoorbells, ?_, ?_, ?_, ?_, ?_⟩
  · intro c l b0 b2 b4 s hon h1 bank l'
    obtain ⟨hreg, hpass, hfail⟩ := dmaListCheck_spec c.val c.isLt l' b0 b2 b4 s h1
    refine ⟨settle (dmaListCheck c.val l' b0 b2 b4 s), ?_, fun x hx => (settle_reg _ _).trans (hreg x hx), ?_⟩
    · exact congrArg fin (if_pos hon)
    · cases hf : dmaCheck c.val bank l' b0 b2 b4 s with
      | none =>
        obtain ⟨h2, h3, h4⟩ := hpass hf
        exact ⟨(State.dmaState_settle _ _).trans h2, (State.dmaCh_settle _ _).trans h3, (settle_flt _).trans h4⟩
      | some f =>
        obtain ⟨h2, h3, h4, h5, h6⟩ := hfail f hf
        exact ⟨(State.dmaState_settle _ _).trans h2, (settle_fld _ _).trans h3, (settle_dma _).trans h4, (settle_reg _ _).trans h5, (settle_flt _).trans h6⟩
  · intro data s c host len hon hp he h n dev full
    obtain ⟨hc, -⟩ := s.dmaPick_ready hp
    have hexec := exec_dmaBurst hon hp data
    refine ⟨fun hr => ?_, fun hr h2 => ?_, fun hr h2 h1 => ?_, fun hr h2 h1 hsp => ?_⟩
    · obtain ⟨h0, hres, -⟩ := dmaEnd_shows c dDevError s
      have hne : Reg.DMA_PROGRESS c ≠ Reg.DMA_STATUS c := by simp only [Reg.DMA_STATUS, Reg.DMA_PROGRESS]; omega
      have hne' : Reg.DMA_PROGRESS c ≠ Reg.DONE_EVT c := by simp only [Reg.DONE_EVT, Reg.DMA_PROGRESS]; omega
      rw [dmaBurst_unreachable data he hr] at hexec
      refine ⟨_, hexec, (State.dmaState_settle _ _).trans h0, (settle_fld _ _).trans (hres.trans rfl), ?_,
        (settle_reg _ _).trans (dmaEnd_reg _ _ _ hne hne')⟩
      rw [settle_fab, (dmaEnd_within hc dDevError s).get State.fab (fun _ => rfl)]
    · rw [dmaBurst_noTlp data he hr h2] at hexec
      exact ⟨_, hexec, settle_sameBut _⟩
    · rw [dmaBurst_noGrant data he hr h2 h1] at hexec
      exact ⟨_, hexec, settle_sameBut _⟩
    · exact dmaBurst_granted data hon hp he hr h2 h1 hsp
  · intro cause tag addr tags s hon x hx
    have key : ∀ k, let t := settle (dmaHalt k tag.toNat addr.toNat tags.val s)
        t.flag F.DMA_HALT_HALTED = true ∧ t.fld F.DMA_HALT_TAGS = min 15 tags.val ∧
        t.quant Reg.DMA_HALT_ADDR 2 = addr.toNat ∧ t.reg Reg.HALT_EVT = s.reg Reg.HALT_EVT + 1 ∧
        t.flt = (s.sendFault srcDma kDmaBusError (tag.toNat + k * 256)).flt ∧
        ∀ c, c < 8 → t.dmaState c = 0 ∧ t.reg (Reg.DMA_PROGRESS c) = s.reg (Reg.DMA_PROGRESS c) ∧
          (s.dmaState c ≠ 0 → t.fld (F.DMA_STATUS_RESULT c) = dHalted ∧ t.reg (Reg.DONE_EVT c) = s.reg (Reg.DONE_EVT c) + 1) := by
      intro k
      have hspec := dmaHalt_spec k tag.toNat addr.toNat tags.val s
      rw [Nat.mod_eq_of_lt addr.isLt, Nat.mod_eq_of_lt tag.isLt] at hspec
      simp only [settle_flag, settle_fld, State.quant_settle, settle_reg, settle_flt, State.dmaState_settle]
      exact hspec
    simp only [List.mem_cons, List.not_mem_nil, or_false] at hx
    rcases hx with rfl | rfl
    · exact ⟨_, congrArg fin (if_pos hon), key cause.val⟩
    · exact ⟨_, congrArg fin (if_pos hon), key 5⟩
  · intro s hon
    have hexec : exec .dmaHaltClr s = .next (settle (landHaltClr 1 s)) := congrArg fin (if_pos hon)
    refine ⟨fun h => ?_, fun h => ?_⟩
    · rw [landHaltClr_cleared h] at hexec
      refine ⟨_, hexec, ?_, settle_onlyRegs (fun a ha => ?_) rfl⟩
      · rw [settle_flag, State.flag_setFld_apart _ _ (by decide), State.flag_setFlag _ _ _ (by decide) rfl]
      · have ha' : a ≠ Reg.DMA_HALT := fun e => ha (by simp [e])
        rw [State.reg_setFld_ne _ _ _ ha', State.reg_setFlag_ne _ _ _ ha']
    · rw [landHaltClr_waits h] at hexec
      exact ⟨_, hexec, settle_sameBut _⟩
  · intro m c v s hs
    have hexec := exec_dmaOwnerWrite (c := c) hs v
    have hstate : (s.tlp m 1).dmaState c.val = s.dmaState c.val := State.dmaState_of_reg (tlp_reg ..)
    refine ⟨fun hm => ?_, fun hm h0 => ?_, fun hm hn => ?_⟩
    · rw [landDmaOwner_other hm] at hexec
      exact ⟨_, hexec, settle_sameBut _⟩
    · rw [hm, landDmaOwner_idle (by rwa [hstate])] at hexec
      refine ⟨_, hexec, ?_, settle_onlyRegs (fun a ha => ?_) ?_⟩
      · rw [settle_rv, State.rv_setReg, BitVec.toNat_and]
        exact Nat.and_two_pow_sub_one_eq_mod _ 8
      · exact State.reg_setReg_ne _ _ (fun e => ha (by simp [e]))
      · rfl
    · rw [hm, landDmaOwner_busy (by rwa [hstate])] at hexec
      exact ⟨_, hexec, settle_sameBut _⟩

end Sys2Proof
end

section
/-! The lock of APLL0 (R175, R192): the outputs that lose the APLL they were handed over to count at the APLL of their group. -/

namespace Sys2Proof.Machine

/-- FCLK runs, APLL0 is searched and APLL1 has locked; output 0, of APLL0's group, is handed over to APLL1, and the APLLs that rested are
to be searched again when APLL0 has locked. -/
def lockWithOrphan : State :=
  let s : State := { State.reset with inReset := false, syn := { State.reset.syn with back := true } }
  let s1 := (s.setFlag F.FAB_STATUS_FCLK_RUN true).setFld (F.APLL_STATUS_STATE 0) 2
  let s2 := (s1.setFlag (F.OUT_STATUS_HANDED_OVER 0) true).setFld (F.OUT_HO_HO_APLL 0) 1
  (s2.setFlag (F.APLL_CFG_EN 1) true).setFld (F.APLL_STATUS_STATE 1) 3

theorem lockWithOrphan_searches : lockWithOrphan.apllState 0 = 2 ∧ lockWithOrphan.apllAllowed 0 = true ∧
    pfdUnits (lockWithOrphan.fld (F.APLL_CFG_PFDSEL 0)) = pfdUnits (lockWithOrphan.apll 0).pfd ∧
    lockWithOrphan.flag (F.APLL_STATUS_FREQ_PEND 0) = false := by decide +kernel

/-- The lock counts APLL_EVT twice: once for the lock, once for the hand-over of output 0 that fails when APLL1 is searched again. -/
theorem lockWithOrphan_counts : lockWithOrphan.reg (Reg.APLL_EVT 0) = 0 ∧ (lockStarts 0 0 0 lockWithOrphan).reg (Reg.APLL_EVT 0) = 2 := by
  decide +kernel

theorem exec_lockDeclared {a : Fin 4} {s : State} (h : s.apllState a.val = 2) (ha : s.apllAllowed a.val = true) (band : Fin 64) (t9 : BitVec 8) :
    exec (.lockDeclared a band t9) s = .next (settle (lockStarts a.val band.val t9.toNat s)) :=
  congrArg fin (if_pos (by simp [h, ha]))

/-- What the obligation says of the count of a lock. -/
theorem lockStarts_evt (h : Obligations.LadderRequestsAndWakes) (a : Fin 4) (band : Fin 64) (t9 : BitVec 8) {s : State}
    (hstate : s.apllState a.val = 2) (hallowed : s.apllAllowed a.val = true)
    (hpfd : pfdUnits (s.fld (F.APLL_CFG_PFDSEL a.val)) = pfdUnits (s.apll a.val).pfd) (hpend : s.flag (F.APLL_STATUS_FREQ_PEND a.val) = false) :
    (lockStarts a.val band.val t9.toNat s).reg (Reg.APLL_EVT a.val) = s.reg (Reg.APLL_EVT a.val) + 1 := by
  obtain ⟨-, -, -, hlock⟩ := h
  obtain ⟨t, hexec, -, -, hcount, -⟩ := hlock a band t9 s hstate hallowed
  have ht := Host.Outcome.next.inj ((exec_lockDeclared hstate hallowed band t9).symm.trans hexec)
  obtain ⟨-, hevt⟩ := hcount hpfd hpend
  rw [← hevt, ← ht, settle_reg]

end Sys2Proof.Machine

namespace Sys2Proof

open Machine

/-- Refutes O56: a lock of APLL0 that searches the other APLLs again counts APLL_EVT of APLL0 once more for each output of its group whose
hand-over then fails (R192), so the count does not always advance by one. -/
theorem not_ladderRequestsAndWakes : ¬ Obligations.LadderRequestsAndWakes := by
  intro h
  obtain ⟨hstate, hallowed, hpfd, hpend⟩ := lockWithOrphan_searches
  obtain ⟨hbefore, hafter⟩ := lockWithOrphan_counts
  have hevt : (lockStarts 0 0 0 lockWithOrphan).reg (Reg.APLL_EVT 0) = lockWithOrphan.reg (Reg.APLL_EVT 0) + 1 :=
    lockStarts_evt h 0 0 0 hstate hallowed hpfd hpend
  rw [hbefore, hafter] at hevt
  exact absurd hevt (by decide)

end Sys2Proof
end

section
/-! The frames of the operations that the steps of the power ladder are made of (R484, R487, R489): outputs and APLLs, mailboxes, the daisy
lane, ports and PEs, the TIU, the GNSS receiver, the store, the security block and the timekeeping engines. -/

namespace Sys2Proof.Machine

-- The default arguments of the frame lemmas wait for the proofs before them: a thread each, where proofs are elaborated side by side.
set_option Elab.async false

/-! ### Areas of the registers with an index -/

theorem portReg_area {p a : Nat} {B : List Nat} (hp : p < 4) (h : a / 0x1000 = 0x80 + p ∧ a % 0x40 ≠ 0x28) (hB : 0x200 + p ∈ B := by simp) :
    regArea a ∈ B := by
  have ha : regArea a = 0x200 + p := by
    unfold regArea
    rw [if_neg (by omega), if_neg (by omega), if_neg (by omega), if_neg (by omega), if_pos (by omega)]
    omega
  rwa [ha]

theorem outReg_area {i o : Nat} (ho : o < 16) (hi : i < 0x40 ∧ i ≠ 0x28) : regArea (0x60400 + i + 0x40 * o) ∈ [0x102] := by
  simp only [regArea, List.mem_singleton]
  rw [if_neg (by omega), if_neg (by omega), if_neg (by omega), if_pos (by omega)]

theorem trgReg_area {i o : Nat} (hi : i < 16) (ho : o < 0x80) : regArea (0x51000 + o + 0x80 * i) ∈ [0x103] := by
  simp only [regArea, List.mem_singleton]
  rw [if_neg (by omega), if_pos (by omega)]

/-- The event counter of an APLL, whatever its number. -/
theorem apllEvt_area (a : Nat) : regArea (Reg.APLL_EVT a) ∈ [0x101] := by
  simp only [regArea, Reg.APLL_EVT, List.mem_singleton]
  rw [if_neg (by omega), if_neg (by omega), if_pos (by omega)]

theorem apllStatus_area {a : Nat} (ha : a < 4) : regArea (Reg.APLL_STATUS a) ∈ [6] :=
  regArea_mem (b := 6) (by simp only [inBlock, Reg.APLL_STATUS]; omega)

theorem peReg_area {p o : Nat} (hp : p < 4) (ho : o < 0x100 ∧ o % 0x40 ≠ 0x28) : regArea (0x90100 + o + 0x100 * p) ∈ [9] :=
  regArea_mem (b := 9) (by simp only [inBlock]; omega)

theorem dpllReg_area {d o : Nat} (hd : d < 8) (ho : o < 0x100) : regArea (0x40000 + o + 0x100 * d) ∈ [4] :=
  regArea_mem (b := 4) (by simp only [inBlock]; omega)

theorem chStatus_area {c : Nat} (hc : c < 48) : regArea (Reg.GNSS_CH_STATUS c) ∈ [7, 0x101] :=
  regArea_mem_pair (b := 7) (by simp only [Reg.GNSS_CH_STATUS]; omega)

theorem mbStatus_area {n : Nat} (hn : n < 16) : regArea (Reg.MB_STATUS n) ∈ [16] :=
  regArea_mem (b := 16) (by simp only [inBlock, Reg.MB_STATUS, mbBase]; omega)

theorem mbEmpty_area {n : Nat} (hn : n < 16) (d : Nat) : regArea (Reg.MB_EMPTY n d) ∈ [16] := by
  simp only [Reg.MB_EMPTY, mbBase]
  split
  · exact regArea_mem (b := 16) (by simp only [inBlock]; omega)
  · exact regArea_mem (b := 16) (by simp only [inBlock]; omega)

theorem ctl_area {n d : Nat} (hn : n < 16) (hd : d < 2) : regArea (Reg.CTL n d) ∈ [16] :=
  regArea_mem (b := 16) (by simp only [inBlock, Reg.CTL, mbBase]; omega)

/-! ### Frames of the combinators -/

namespace State.within

variable {s t u : State} {B : List Nat} {P : List Part}

/-- A loop from a state on, each of whose rounds stays within the areas and parts. -/
theorem loop {α : Type} {l : List α} {f : State → α → State} (hf : ∀ a ∈ l, ∀ u, (f u a).within u B P) :
    (Sys2Proof.Machine.forEach l f s).within s B P :=
  State.within.refl.forEach hf

theorem bump48 {a n : Nat} (h : t.within s B P) (ha : ∀ k, k < 2 → regArea (a + 4 * k) ∈ B := by decide) : (t.bump48 a n).within s B P :=
  h.setQuant ha

theorem foldl {α : Type} {l : List α} {f : State → α → State} (hf : ∀ a ∈ l, ∀ u, (f u a).within u B P) : (l.foldl f s).within s B P :=
  loop hf

/-- An operation whose areas are among those of the list, given by a proof of its own. -/
theorem step {B' : List Nat} {P' : List Part} (h : u.within t B' P') (h' : t.within s B P) (hB : ∀ b ∈ B', b ∈ B)
    (hP : ∀ p ∈ P', p ∈ P := by decide) :
    u.within s B P := h.after h' hB hP

end State.within


/-! ### Outputs and APLLs (R181, R192, R201) -/

theorem hoFail_within {o : Nat} (ho : o < 16) (s : State) : (hoFail o s).within s [0x101, 0x102] [.syn] := by
  have hs : regArea (Reg.OUT_STATUS o) ∈ [0x101, 0x102] := List.mem_cons_of_mem _ (outReg_area (i := 0x20) ho (by decide))
  have he : regArea (Reg.APLL_EVT (s.outp o).grp) ∈ [0x101, 0x102] := List.mem_append_left [0x102] (apllEvt_area _)
  unfold hoFail
  extract_lets s1
  have h1 : s1.within s [0x101, 0x102] [.syn] := (State.within.refl.setFlag hs).bump he
  exact (setOut_within ..).after h1

theorem outStop_within (o : Nat) (s : State) : (outStop o s).within s [] [.syn] := setOut_within ..

theorem hoOrphans_within (a : Nat) (s : State) : (hoOrphans a s).within s [0x101, 0x102] [.syn] :=
  .loop (fun _ ho u => .ite (fun _ => hoFail_within (List.mem_range.mp ho) u) (fun _ => .refl))

theorem groupOuts_lt {s : State} {a o : Nat} (h : o ∈ s.groupOuts a) : o < 16 := List.mem_range.mp (List.mem_of_mem_filter h)

/-- What a falling lock does to the outputs of the group (R192). -/
theorem apllWaitLow_loop (a : Nat) (s : State) : ∃ f, apllWaitLow a s =
    hoOrphans a (forEach (((s.setFld (F.APLL_STATUS_STATE a) 1).bump (Reg.APLL_EVT a)).groupOuts a) f
    ((s.setFld (F.APLL_STATUS_STATE a) 1).bump (Reg.APLL_EVT a))) ∧ ∀ o < 16, ∀ u, (f u o).within u [0x101, 0x102] [.syn] := by
  refine ⟨_, rfl, fun o ho u => ?_⟩
  refine .ite (fun _ => .refl) (fun _ => .ite (fun _ => ?_) (fun _ => (outStop_within o u).mono))
  exact .ite (fun _ => hoFail_within ho u) (fun _ => (setOut_within ..).mono)

/-- APLL `a` waits to be searched; the rest is its outputs'. -/
theorem apllWaitLow_outs (a : Nat) (s : State) :
    (apllWaitLow a s).within ((s.setFld (F.APLL_STATUS_STATE a) 1).bump (Reg.APLL_EVT a)) [0x101, 0x102] [.syn] := by
  obtain ⟨f, heq, hf⟩ := apllWaitLow_loop a s
  rw [heq]
  exact (hoOrphans_within a _).trans (.loop (fun o ho u => hf o (groupOuts_lt ho) u))

theorem apllWaitLow_within {a : Nat} (ha : a < 4) (s : State) : (apllWaitLow a s).within s [6, 0x101, 0x102] [.syn] := by
  have hs : regArea (Reg.APLL_STATUS a) ∈ [6, 0x101, 0x102] := List.mem_append_left [0x101, 0x102] (apllStatus_area ha)
  have he : regArea (Reg.APLL_EVT a) ∈ [6, 0x101, 0x102] := List.mem_cons_of_mem _ (List.mem_append_left [0x102] (apllEvt_area a))
  exact (apllWaitLow_outs a s).after ((State.within.refl.setFld hs).bump he)

theorem apllWaitLow_state {a : Nat} (ha : a < 4) (s : State) : (apllWaitLow a s).apllState a = 1 := by
  have h6 : regArea (Reg.APLL_STATUS a) ∉ [0x101, 0x102] := by
    rw [List.mem_singleton.mp (apllStatus_area ha)]
    decide
  have hne : Reg.APLL_STATUS a ≠ Reg.APLL_EVT a := by simp only [Reg.APLL_STATUS, Reg.APLL_EVT]; omega
  unfold State.apllState
  rw [(apllWaitLow_outs a s).fld h6, State.fld_of_reg (f := F.APLL_STATUS_STATE a) (State.reg_bump_ne _ hne)]
  exact (State.fld_setFld _ _ _ (show 0 + 3 ≤ 32 by decide)).trans rfl

theorem apllWake_within {a : Nat} (ha : a < 4) (s : State) : (apllWake a s).within s [0, 6, 0x101, 0x102] [.syn] := by
  have h : (apllWaitLow a s).within s [0, 6, 0x101, 0x102] [.syn] := (apllWaitLow_within ha s).mono
  exact .ite (fun _ => .ite (fun _ => h) (fun _ => h.setFlag)) (fun _ => .refl)

theorem apllOff_within {a : Nat} (ha : a < 4) (s : State) : (apllOff a s).within s [6, 9, 0x101, 0x102] [.syn] := by
  have hs : regArea (Reg.APLL_STATUS a) ∈ [6, 9, 0x101, 0x102] := List.mem_append_left [9, 0x101, 0x102] (apllStatus_area ha)
  unfold apllOff
  refine .ite (fun _ => .refl) (fun _ => ?_)
  extract_lets s1 s2
  have h1 : s1.within s [6, 9, 0x101, 0x102] [.syn] := (State.within.refl.setFld hs).forEach (fun o _ u => (outStop_within o u).mono)
  have h2 : s2.within s [6, 9, 0x101, 0x102] [.syn] := (hoOrphans_within a s1).after h1
  exact .ite (fun _ => h2.setFlag) (fun _ => h2)

theorem outsToL1_within (s : State) : (outsToL1 s).within s [0x101, 0x102] [.syn] := by
  refine .loop (fun o ho u => .ite (fun _ => (outStop_within o u).mono) (fun _ => .ite (fun _ => .ite (fun _ => ?_) (fun _ => (outStop_within o u).mono))
    (fun _ => .refl)))
  exact .ite (fun _ => hoFail_within (List.mem_range.mp ho) u) (fun _ => (setOut_within ..).mono)

/-- FCLK and APLL0 stop; the rest is the outputs'. -/
theorem fclkStop_outs (s : State) : (fclkStop s).within (((s.setFld (F.APLL_STATUS_STATE 0) 0).setFlag F.FAB_STATUS_FCLK_RUN false).setFlag
    F.FAB_STATUS_ITIN_RUN false) [0x101, 0x102] [.syn] := hoOrphans_within 0 _

theorem fclkStop_within (s : State) : (fclkStop s).within s [6, 9, 0x101, 0x102] [.syn] :=
  (fclkStop_outs s).after (((State.within.refl.setFld).setFlag).setFlag)

/-! ### Mailboxes and what a side's reset ends (R399, R431) -/

theorem nvsCloseAll_within (m : Nat) (s : State) : (nvsCloseAll m s).within s [] [.nvs] := .loop (fun _ _ _ => .update .refl rfl rfl)

/-- Closing what a master has open leaves the rest of the store as it is. -/
theorem nvsCloseAll_nvs (m : Nat) (s : State) : ∃ o, (nvsCloseAll m s).nvs = { s.nvs with opened := o } := by
  unfold nvsCloseAll
  induction List.range 4 generalizing s with
  | nil => exact ⟨_, rfl⟩
  | cons k l ih => exact ih _

theorem dzSend_within (dev : Nat) (m : DzMsg) (s : State) : (dzSend dev m s).within s [] [.out] :=
  .ite (fun _ => State.within.refl.emit) (fun _ => .refl)

theorem tunnelSend_within (n d : Nat) (m : State → DzMsg) (s : State) : (tunnelSend n d m s).within s [] [.out] := by
  unfold tunnelSend
  split
  · exact .ite (fun _ => dzSend_within ..) (fun _ => .refl)
  · exact .refl

theorem mbDiscard_within {n d : Nat} (hn : n < 16) (hd : d < 2) (s : State) : (mbDiscard n d s).within s [16] [.mb, .out] := by
  unfold mbDiscard mbUncross
  extract_lets s1 s2
  have h1 : s1.within s [16] [.mb, .out] := (setMbDir_within ..).mono
  have h2 : s2.within s [16] [.mb, .out] := .ite (fun _ => h1.setRv (ctl_area hn hd)) (fun _ => h1)
  have h3 := (h2.setFlag (f := F.MB_PEER_RESET n d) (b := true) (mbStatus_area hn)).bump (mbEmpty_area hn d)
  exact (tunnelSend_within ..).after (.ite (fun _ => h3) (fun _ => h3.setFlag (mbStatus_area hn)))

theorem mbMark_within (n d : Nat) (s : State) : (mbMark n d s).within s [] [.mb, .out] := by
  unfold mbMark
  refine .ite (fun _ => ?_) (fun _ => .ite (fun _ => .refl) (fun _ => (setMbDir_within ..).mono))
  exact (tunnelSend_within ..).after (setMbDir_within ..).mono

theorem mbSideReset_within (m : Nat) (s : State) : (mbSideReset m s).within s [16] [.mb, .out] := by
  refine .loop (fun n hn u => ?_)
  have hn := List.mem_range.mp hn
  split
  · next d _ =>
    have h := mbDiscard_within hn (show 1 - d < 2 by omega) u
    exact .ite (fun _ => h) (fun _ => (mbMark_within n d _).after h)
  · exact .refl

theorem coEnd_within (s : State) : (coEnd s).within s [13] [] :=
  .ite (fun _ => ((State.within.refl.setFlag.setFld).setFld).bump) (fun _ => .refl)

theorem sideReset_within (m : Nat) (s : State) : (sideReset m s).within s [13, 16] [.se, .mb, .nvs, .out] := by
  unfold sideReset
  extract_lets _ s0 s1
  have h0 : s0.within s [13, 16] [.se, .mb, .nvs, .out] := .update .refl rfl rfl
  have h1 : s1.within s [13, 16] [.se, .mb, .nvs, .out] := (nvsCloseAll_within m _).after ((mbSideReset_within m s0).after h0)
  exact .ite (fun _ => (coEnd_within s1).after h1) (fun _ => h1)

/-- A side's reset leaves the store's queue, increments and append as they are. -/
theorem sideReset_nvs (m : Nat) (s : State) : ∃ o, (sideReset m s).nvs = { s.nvs with opened := o } := by
  unfold sideReset
  extract_lets _ s0 s1
  obtain ⟨o, ho⟩ := nvsCloseAll_nvs m (mbSideReset m s0)
  refine ⟨o, ?_⟩
  have h1 : s1.nvs = { s.nvs with opened := o } := by rw [ho, (mbSideReset_within m s0).get State.nvs (fun _ => rfl)]
  split
  · rw [(coEnd_within s1).get State.nvs (fun _ => rfl), h1]
  · exact h1

/-! ### The daisy lane (R529, R539) -/

theorem dzTo_within (st : Nat) (s : State) : (dzTo st s).within s [13, 15, 16] [.se, .mb, .nvs, .out, .dz] := by
  unfold dzTo
  extract_lets old s0 _ s1
  have h0 : s0.within s [13, 15, 16] [.se, .mb, .nvs, .out, .dz] := State.within.refl.setFld.bump
  have h1 : s1.within s [13, 15, 16] [.se, .mb, .nvs, .out, .dz] := (setDz_within ..).after h0
  refine .ite (fun _ => .refl) (fun _ => .ite (fun _ => ?_) (fun _ => h1))
  exact ((setDz_within ..).after h1).forEach (fun k _ u => (sideReset_within _ u).mono)

theorem dzUp_within (s : State) : (dzUp s).within s [13, 15, 16] [.se, .mb, .nvs, .out, .dz] := .ite (fun _ => dzTo_within ..) (fun _ => .refl)

theorem dzBreak_within (lost : Nat) (s : State) : (dzBreak lost s).within s [14, 15] [.dz] := by
  unfold dzBreak
  extract_lets n s1
  have h1 : s1.within s [14, 15] [.dz] := .loop (fun _ _ _ => State.within.refl.bump16.bump16)
  exact (setDz_within ..).after h1.setFlag

theorem dzOff_within (lost : Nat) (s : State) : (dzOff lost s).within s [13, 14, 15, 16] [.se, .mb, .nvs, .out, .dz] :=
  .ite (fun _ => .refl) (fun _ => (dzTo_within ..).after ((dzBreak_within ..).after (setDz_within ..).mono))

/-! ### DMA and the endpoint (R420, R424, R514) -/

theorem dmaOff_within (s : State) : (dmaOff s).within s [11] [] :=
  .loop (fun _ hc u => .ite (fun _ => dmaEnd_within (List.mem_range.mp hc) _ u) (fun _ => .refl))

theorem dmaHalt_within (cause tag addr tags : Nat) (s : State) : (dmaHalt cause tag addr tags s).within s [11] [.dma, .flt] := by
  have h1 : (haltShown tags addr s).within s [11] [.dma, .flt] := (haltShown_within tags addr s).mono
  have hfault : ∀ (w : State) (x y : Nat), ({ w.sendFault srcDma kDmaBusError x with
      dma := { (w.sendFault srcDma kDmaBusError x).dma with haltAt := y } } : State).within w [] [.dma, .flt] := fun w x y =>
    .update (State.within.refl.sendFault (t := w)) rfl rfl
  unfold haltShown at h1
  unfold dmaHalt
  extract_lets s1 s2
  exact (dmaEndAll_within ..).after ((hfault s1 _ _).after h1)

theorem dmaLinkDown_within (s : State) : (dmaLinkDown s).within s [11] [.dma, .flt] := by
  unfold dmaLinkDown
  split
  · exact dmaHalt_within ..
  · exact .refl

theorem endpointDown_within (stays perst : Bool) (s : State) :
    (endpointDown stays perst s).within s [11, 13, 16] [.dma, .flt, .se, .mb, .nvs, .out, .irq] := by
  have h1 : (sideReset 1 (dmaLinkDown s)).within s [11, 13, 16] [.dma, .flt, .se, .mb, .nvs, .out, .irq] :=
    (sideReset_within ..).after (dmaLinkDown_within s).mono
  exact (setIrq_within ..).after ((setIrq_within ..).after h1)

theorem endpointDown_nvs (stays perst : Bool) (s : State) : ∃ o, (endpointDown stays perst s).nvs = { s.nvs with opened := o } := by
  obtain ⟨o, ho⟩ := sideReset_nvs 1 (dmaLinkDown s)
  refine ⟨o, ?_⟩
  rw [← (dmaLinkDown_within s).get State.nvs (fun _ => rfl), ← ho]
  rfl

end Sys2Proof.Machine
end

section
/-! What the step to L1 and the return to L0 do to the ports and the PEs (R223, R334, R484): each round of their loops stays with its own
port. -/

namespace Sys2Proof.Machine

-- The default arguments of the frame lemmas wait for the proofs before them: a thread each, where proofs are elaborated side by side.
set_option Elab.async false

variable {p : Nat} (hp : p < 4)

/-- PE `p` does not run, and none of its programs is live. -/
def State.peOff (s : State) (p : Nat) : Prop := (s.pe_ p).runs = false ∧ (s.pe_ p).insts = []

/-- What leaves the fabric's part as it is leaves every PE. -/
theorem State.within.pe {s t : State} {B : List Nat} {P : List Part} (h : t.within s B P) (q : Nat) (hP : Part.fab ∉ P := by decide) :
    t.pe_ q = s.pe_ q := by
  have hf : t.fab = s.fab := by
    have hg := congrArg State.fab h.parts
    simp only [State.without, Part.hide, if_neg hP] at hg
    exact hg
  unfold State.pe_
  rw [hf]

theorem portErr_within {a : Nat} (ha : regArea a ∈ [0x200 + p]) (s : State) (hp : p < 4) : (portErr p a s).within s [0x200 + p] [] :=
  (State.within.refl.bumpSat ha).bump (portReg_area hp (by simp only [Reg.ERR_EVT]; omega))

include hp

theorem txFrame_within (tp : Nat) (octets : List Byte) (s : State) : (txFrame p tp octets s).within s [0x200 + p] [.out] :=
  (State.within.refl.emit.bump48 (fun k hk => portReg_area hp (by simp only [Reg.TX_FRAMES]; omega))).bump48
    (fun k hk => portReg_area hp (by simp only [Reg.TX_OCTETS]; omega))

theorem showOrig_within (s : State) : (showOrig p s).within s [9] [] :=
  (State.within.refl.setFld (peReg_area (o := 0x50) hp (by decide))).setFld (peReg_area (o := 0x50) hp (by decide))

theorem showLive_within (s : State) : (showLive p s).within s [9] [] := by
  have h : (s.setFld (F.PE_STATUS_LIVE p) (s.pe_ p).insts.length).within s [9] [] := State.within.refl.setFld (peReg_area (o := 0) hp (by decide))
  exact .ite (fun _ => h.setFld (peReg_area (o := 0) hp (by decide))) (fun _ => h)

theorem basketPut_within (b : BasketRec) (s : State) : (basketPut p b s).within s [0x200 + p] [.prt] := by
  refine .ite (fun _ => ?_) (fun _ => ?_)
  · exact (portErr_within (portReg_area hp (by simp only [Reg.BASKET_DROP]; omega)) s hp).mono (by simp)
  · exact (((setPrt_within ..).mono (by simp)).setRv (portReg_area hp (by simp only [Reg.BASKET_STATUS]; omega))).bump
      (portReg_area hp (by simp only [Reg.BASKET_EVT]; omega))

/-- A committed reply leaves: of the PEs only its own changes. -/
theorem replyLeave_frame (s : State) : (replyLeave p s).within s [0x200 + p, 9] [.fab, .out] ∧ ∀ q, q ≠ p → (replyLeave p s).pe_ q = s.pe_ q := by
  have key : ∀ (e : PePart) (t : State), t.within (s.setPe p e) [0x200 + p, 9] [.out] →
      t.within s [0x200 + p, 9] [.fab, .out] ∧ ∀ q, q ≠ p → t.pe_ q = s.pe_ q := fun e t h =>
    ⟨.step h ((setPe_within s p e).mono (by simp)) (by simp), fun q hq => (h.pe q).trans (State.pe__setPe_ne _ _ hq)⟩
  unfold replyLeave
  extract_lets e
  split
  · exact ⟨.refl, fun _ _ => rfl⟩
  · next c _ =>
    refine key { e with commits := e.commits.erase c } _ (.ite (fun _ => ?_) (fun _ => .ite (fun _ => ?_) (fun _ => ?_)))
    · exact State.within.refl.bumpSat (List.mem_cons_of_mem _ (regArea_mem (b := 9) (by simp only [inBlock, Reg.SWAP_REFUSED]; omega)))
    · exact (portErr_within (portReg_area hp (by simp only [Reg.TX_SUPPRESSED]; omega)) _ hp).mono (by simp)
    · have h2 := ((txFrame_within hp c.tp c.octets (s.setPe p { e with commits := e.commits.erase c })).mono
        (B := [0x200 + p, 9]) (P := [.out]) (by simp)).bump48 (a := Reg.TX_REPLIES p) (n := 1)
        (fun k hk => portReg_area hp (by simp only [Reg.TX_REPLIES]; omega))
      refine .ite (fun _ => ?_) (fun _ => h2)
      exact (h2.bumpSat (List.mem_cons_of_mem _ (peReg_area (o := 0x40) hp (by decide)))).bump
        (List.mem_cons_of_mem _ (peReg_area (o := 0x48) hp (by decide)))

/-- A reserved frame leaves: of the PEs only its own changes. -/
theorem origLeave_frame (s : State) :
    (origLeave p s).within s [0x200 + p, 9, 0x101] [.fab, .prt, .out] ∧ ∀ q, q ≠ p → (origLeave p s).pe_ q = s.pe_ q := by
  have key : ∀ (e : PePart) (t : State), t.within (showOrig p (s.setPe p e)) [0x200 + p, 9, 0x101] [.prt, .out] →
      t.within s [0x200 + p, 9, 0x101] [.fab, .prt, .out] ∧ ∀ q, q ≠ p → t.pe_ q = s.pe_ q := fun e t h =>
    ⟨.step h (.step (showOrig_within hp _) ((setPe_within s p e).mono (by simp)) (by simp)) (by simp),
      fun q hq => (h.pe q).trans (((showOrig_within hp _).pe q).trans (State.pe__setPe_ne _ _ hq))⟩
  unfold origLeave
  extract_lets e
  split
  · exact ⟨.refl, fun _ _ => rfl⟩
  · next r t _ =>
    extract_lets s1 rec_ body body'
    have hrec : ∀ b u, (rec_ b u).within u [0x200 + p, 9, 0x101] [.prt, .out] := fun b u =>
      .ite (fun _ => (basketPut_within hp _ u).mono (by simp)) (fun _ => .refl)
    refine key { e with resv := t } _ (.ite (fun _ => ?_) (fun _ => ?_))
    · exact (hrec _ _).trans ((portErr_within (portReg_area hp (by simp only [Reg.TX_SUPPRESSED]; omega)) _ hp).mono (by simp))
    · refine (hrec _ _).trans (State.within.bump48 ((txFrame_within hp _ _ _).mono (by simp)) (fun k hk => ?_))
      have ha : regArea (Reg.TX_ORIGINATED p + 4 * k) ∈ [0x200 + p, 0x101] := by
        obtain rfl | rfl : k = 0 ∨ k = 1 := by omega
        · simp only [regArea, Reg.TX_ORIGINATED]
          rw [if_neg (by omega), if_neg (by omega), if_pos (by omega)]
          simp
        · exact portReg_area hp (by simp only [Reg.TX_ORIGINATED]; omega)
      simp only [List.mem_cons, List.not_mem_nil, or_false] at ha ⊢
      omega

/-- PE `p` has drained: it does not run, and none of its programs is live; the other PEs are as they were. -/
theorem peDrain_frame (s : State) : (peDrain p s).within s [0x200 + p, 9, 0x101] [.fab, .eng, .prt, .out] ∧
    (∀ q, q ≠ p → (peDrain p s).pe_ q = s.pe_ q) ∧ (peDrain p s).peOff p := by
  unfold peDrain
  extract_lets e s1 s2 _ s3
  have hs1 : s1.within s [0x200 + p, 9, 0x101] [.fab, .eng, .prt, .out] := .loop (fun _ _ u => (replyLeave_frame hp u).1.mono (by simp))
  have hs2 : s2.within s [0x200 + p, 9, 0x101] [.fab, .eng, .prt, .out] := hs1.forEach (fun _ _ u => (origLeave_frame hp u).1.mono (by simp))
  have hq1 : ∀ q, q ≠ p → s1.pe_ q = s.pe_ q := fun q hq =>
    forEach_keeps (g := fun v : State => v.pe_ q) (fun u _ => (replyLeave_frame hp u).2 q hq) _ s
  have hq2 : ∀ q, q ≠ p → s2.pe_ q = s.pe_ q := fun q hq =>
    (forEach_keeps (g := fun v : State => v.pe_ q) (fun u _ => (origLeave_frame hp u).2 q hq) _ s1).trans (hq1 q hq)
  clear_value s2
  have hend : ∀ t, t = showLive p ((s3.setEng p { s3.eng_ p with fly := [] }).setFlag (F.PE_STATUS_RUNNING p) false) →
      t.within s3 [9] [.eng] := fun t ht => by
    rw [ht]
    exact (showLive_within hp _).after (((setEng_within ..).mono).setFlag (peReg_area (o := 0) hp (by decide)))
  have h := hend _ rfl
  have h3 : s3.within s2 [] [.fab] := setPe_within ..
  refine ⟨.step h (.step h3 hs2 (by simp)) (by simp), fun q hq => ?_, ?_⟩
  · rw [h.pe q, ← hq2 q hq]
    exact State.pe__setPe_ne _ _ hq
  · have he : s3.pe_ p = { s2.pe_ p with runs := false, insts := [], cur := none } := State.pe__setPe ..
    unfold State.peOff
    rw [h.pe p, he]
    exact ⟨rfl, rfl⟩

theorem portStatus_area : regArea (Reg.PORT_STATUS p) ∈ [0x200 + p] := portReg_area hp (by simp only [Reg.PORT_STATUS]; omega)

theorem portUnlock_within (s : State) : (portUnlock p s).within s [0x200 + p] [] :=
  ((State.within.refl.setFlag (portStatus_area hp)).setFlag (portStatus_area hp)).setFlag (portStatus_area hp)

theorem portTo_within (st : Nat) (s : State) : (portTo p st s).within s [0x200 + p] [] :=
  (State.within.refl.setFld (portStatus_area hp)).bump (portReg_area hp (by simp only [Reg.PORT_EVT]; omega))

theorem localFault_within (on : Bool) (s : State) : (localFault p on s).within s [0x200 + p] [.out] :=
  .ite (fun _ => .refl) (fun _ => (State.within.refl.setFlag (portStatus_area hp)).emit)

/-- Turning a port off cuts what its PE is receiving, and the rest of it is the port's. -/
theorem portDisable_cut (s : State) (h : s.portState p ≠ 0) : (portDisable p s).within (cutFrames p s) [0x200 + p] [.prt, .out] := by
  have hcut : (portUnlock p (portTo p 0 (cutFrames p s))).within (cutFrames p s) [0x200 + p] [.prt, .out] :=
    .step (portUnlock_within hp _) ((portTo_within hp 0 _).mono (by simp)) (by simp)
  unfold portDisable
  rw [if_neg h]
  extract_lets s1 s2
  have h2 : s2.within (cutFrames p s) [0x200 + p] [.prt, .out] :=
    (State.within.step (localFault_within hp false s1) hcut (by simp)).setFlag (portStatus_area hp)
  exact (State.within.step (setPrt_within ..) h2 (by simp)).setRv (portReg_area hp (by simp only [Reg.BASKET_STATUS]; omega))

omit hp in
theorem cutFrames_frame (s : State) : (cutFrames p s).within s [] [.fab] ∧ (∀ q, q ≠ p → (cutFrames p s).pe_ q = s.pe_ q) ∧
    (s.peOff p → (cutFrames p s).peOff p) := by
  unfold cutFrames
  extract_lets e insts
  refine ⟨setPe_within .., fun q hq => State.pe__setPe_ne _ _ hq, fun ⟨hr, hi⟩ => ?_⟩
  have hnil : insts = [] := by
    simp only [insts]
    split
    · rw [show e.insts = [] from hi, List.map_nil]
    · exact hi
  unfold State.peOff
  rw [State.pe__setPe]
  exact ⟨hr, hnil⟩

theorem portDisable_frame (s : State) : (portDisable p s).within s [0x200 + p] [.fab, .prt, .out] ∧
    (∀ q, q ≠ p → (portDisable p s).pe_ q = s.pe_ q) ∧ (s.peOff p → (portDisable p s).peOff p) := by
  by_cases h0 : s.portState p = 0
  · have he : portDisable p s = s := if_pos h0
    rw [he]
    exact ⟨.refl, fun _ _ => rfl, id⟩
  · have h := portDisable_cut hp s h0
    obtain ⟨hc, hq, hoff⟩ := cutFrames_frame (p := p) s
    refine ⟨.step h (hc.mono (by simp)) (by simp), fun q hne => (h.pe q).trans (hq q hne), fun ho => ?_⟩
    unfold State.peOff
    rw [h.pe p]
    exact hoff ho

omit hp in
theorem portDisable_state (s : State) : (portDisable p s).portState p = 0 := by
  by_cases h0 : s.portState p = 0
  · have he : portDisable p s = s := if_pos h0
    rw [he, h0]
  · have hne : Reg.PORT_STATUS p ≠ Reg.PORT_EVT p := by simp only [Reg.PORT_STATUS, Reg.PORT_EVT]; omega
    have hneb : Reg.PORT_STATUS p ≠ Reg.BASKET_STATUS p := by simp only [Reg.PORT_STATUS, Reg.BASKET_STATUS]; omega
    have hap : ∀ lo w, 3 ≤ lo → lo + w ≤ 32 → (Fld.mk (Reg.PORT_STATUS p) lo w).apart (F.PORT_STATUS_STATE p) := fun lo w h3 h32 =>
      .inr ⟨h32, .inr (by simpa using h3)⟩
    unfold portDisable
    rw [if_neg h0]
    extract_lets s1 s2
    have h1 : s1.portState p = 0 := by
      simp only [s1, portUnlock]
      refine (State.fld_setFlag_apart _ _ (hap 11 1 (by decide) (by decide))).trans ?_
      refine (State.fld_setFlag_apart _ _ (hap 8 1 (by decide) (by decide))).trans ?_
      refine (State.fld_setFlag_apart _ _ (hap 7 1 (by decide) (by decide))).trans ?_
      refine (State.fld_of_reg (f := F.PORT_STATUS_STATE p) (State.reg_bump_ne _ hne)).trans ?_
      exact (State.fld_setFld _ _ _ (show 0 + 3 ≤ 32 by decide)).trans rfl
    clear_value s1
    have hl : (localFault p false s1).portState p = 0 := by
      unfold localFault
      split
      · exact h1
      · unfold State.portState
        rw [State.emit_fld]
        exact (State.fld_setFlag_apart s1 false (hap 9 1 (by decide) (by decide))).trans h1
    have h2 : s2.portState p = 0 :=
      (State.fld_setFlag_apart (localFault p false s1) false (hap 10 1 (by decide) (by decide))).trans hl
    clear_value s2
    exact (State.fld_setRv_ne (s2.setPrt p { s2.prt_ p with basket := [] }) 0 (F.PORT_STATUS_STATE p) hneb).trans h2

end Sys2Proof.Machine
end

section
/-! What the steps of the power ladder do to the islands beside the ports: the stamps, the receiver, the store, the security block, the SE,
the itinerary's banks, the DPLLs and the time (R105, R163, R212, R441, R484, R487, R489). -/

namespace Sys2Proof.Machine

-- The default arguments of the frame lemmas wait for the proofs before them: a thread each, where proofs are elaborated side by side.
set_option Elab.async false

/-! ### The itinerary's banks and the fabric (R487) -/

theorem itinLeaveL0_within (s : State) : (itinLeaveL0 s).within s [9] [.itin] := by
  unfold itinLeaveL0
  extract_lets s1
  have h1 : s1.within s [9] [.itin] := .loop (fun b _ u =>
    .ite (fun _ => (State.within.refl.setFld (show regArea Reg.ITIN_STATUS ∈ [9] by decide)).setFlag) (fun _ => .refl))
  exact .ite (fun _ => (swapCancel_within 5 s1).after h1) (fun _ => h1)

theorem bankClear_within {b : Nat} (hb : b < 2) (s : State) : (bankClear b s).within s [9, 0x101] [] :=
  .loop (fun _ hk _ => .setRv .refl (regArea_mem_pair (b := 9) (by
    have := List.mem_range.mp hk
    simp only [Reg.BANK_SECVER]
    omega)))

/-- The banks' words stand above the state of the banks. -/
theorem bankClear_status (b : Nat) (s : State) : (bankClear b s).reg Reg.ITIN_STATUS = s.reg Reg.ITIN_STATUS :=
  forEach_keeps (g := fun u : State => u.reg Reg.ITIN_STATUS) (fun u k => u.reg_setRv_ne _ (by simp only [Reg.ITIN_STATUS, Reg.BANK_SECVER]; omega)) _ s

theorem itinLost_within (s : State) : (itinLost s).within s [1, 3, 4, 9, 0x101] [.itin] := by
  unfold itinLost
  extract_lets _ s1 s2
  have h1 : (s1.setRv Reg.ITIN_STATUS 0).within s [1, 3, 4, 9, 0x101] [.itin] := .setRv (.update .refl rfl rfl)
  have h2 : s2.within s [1, 3, 4, 9, 0x101] [.itin] := (bankClear_within (by decide) _).after ((bankClear_within (by decide) _).after h1)
  exact (((h2.setRv).setRv).setRv).setFlag

/-- Both banks are EMPTY and the store is gone. -/
theorem itinLost_empty (s : State) : (itinLost s).itin.store = [] ∧ (itinLost s).reg Reg.ITIN_STATUS = 0 := by
  unfold itinLost
  extract_lets _ s1 s2
  have h2 : s2.reg Reg.ITIN_STATUS = 0 := by
    rw [bankClear_status, bankClear_status, State.reg_setRv]
    rfl
  have hst : s2.itin.store = [] := by
    have h := (bankClear_within (b := 1) (by decide) _).trans (bankClear_within (b := 0) (by decide) (s1.setRv Reg.ITIN_STATUS 0))
    rw [h.get State.itin (fun _ => rfl)]
    rfl
  clear_value s2
  refine ⟨hst, ?_⟩
  rw [State.reg_setFlag_ne _ _ _ (by decide), State.reg_setRv_ne _ _ (by decide), State.reg_setRv_ne _ _ (by decide),
    State.reg_setRv_ne _ _ (by decide), h2]

theorem fabricLost_loop (s : State) :
    (forEach (List.range 4) (fun s p => showOrig p (showLive p ((s.setEng p .reset).setPe p .reset))) s).within s [9] [.eng, .fab] :=
  .loop (fun _ hp u => (showOrig_within (List.mem_range.mp hp) _).after ((showLive_within (List.mem_range.mp hp) _).after
    ((setPe_within ..).after (setEng_within ..).mono)))

/-- The hamper, the queues at the gates and the services go with the fabric's power (R487). -/
def fabricEmptied (s : State) : State :=
  { s with
    fab := { s.fab with mem := [], gateQ := [], smpWay := [], keep := false }, svc := []
    tm := { s.tm with evGate := s.tm.evGate.filter (fun e => decide (4 ≤ e.1)), evq := s.tm.evq.filter (fun e => decide (64 ≤ e.1)) } }

theorem fabricEmptied_within (s : State) : (fabricEmptied s).within s [] [.fab, .svc, .tm] := .update .refl rfl rfl

/-- What the fabric island loses with its power (R487). -/
theorem fabricLost_eq (s : State) : ∃ u : State, u.within s [9] [.eng, .fab] ∧ (∀ p, p < 4 → u.eng_ p = .reset) ∧
    fabricLost s = (((fabricEmptied u).setFlag F.HAMPER_STATUS_READY false).setFlag F.HAMPER_STATUS_INIT false).setFlag F.HAMPER_STATUS_RETAINED false := by
  refine ⟨_, fabricLost_loop s, ?_, rfl⟩
  refine forEach_range_each (Q := fun p u => u.eng_ p = .reset) (fun u p hp => ?_) (fun u p q hq hp hu => ?_) s
  · have h := (showOrig_within hp (showLive p ((u.setEng p .reset).setPe p .reset))).trans (showLive_within hp _)
    rw [h.get (fun v => v.eng_ p) (fun _ => rfl)]
    exact State.eng__setEng u p .reset
  · have h := (showOrig_within hp (showLive p ((u.setEng p .reset).setPe p .reset))).trans (showLive_within hp _)
    rw [h.get (fun v => v.eng_ q) (fun _ => rfl)]
    exact (State.eng__setEng_ne u .reset hq).trans hu

theorem fabricLost_within (s : State) : (fabricLost s).within s [9] [.eng, .fab, .svc, .tm] := by
  obtain ⟨u, hu, -, heq⟩ := fabricLost_eq s
  rw [heq]
  have h : (fabricEmptied u).within s [9] [.eng, .fab, .svc, .tm] := (fabricEmptied_within u).after hu.mono
  exact ((h.setFlag).setFlag).setFlag

theorem fabricLost_gone (s : State) : (fabricLost s).fab.mem = [] ∧ ∀ p, p < 4 → (fabricLost s).eng_ p = .reset := by
  obtain ⟨u, -, heng, heq⟩ := fabricLost_eq s
  rw [heq]
  exact ⟨rfl, heng⟩

/-! ### Stamps (R98, R103, R105) -/

theorem grpRestart_within (g : Nat) (s : State) : (grpRestart g s).within s [] [.tiu] := .update .refl rfl rfl

theorem statDiscard_within {k : Nat} (hk : k < 8) (s : State) : (statDiscard k s).within s [2] [.tiu] :=
  ((setStat_within ..).mono).setFlag (regArea_mem (b := 2) (by simp only [inBlock, Reg.STAT_FLAGS]; omega))

theorem chDiscard_within (n : Nat) (s : State) : (chDiscard n s).within s [2] [.tiu] := by
  unfold chDiscard
  extract_lets c s1 s2 s3
  have h2 : s2.within s [2] [.tiu] := (setTiu_within s1 _).after ((setChan_within s n _).mono)
  have h3 : s3.within s [2] [.tiu] := h2.forEach (fun g _ u => .ite (fun _ => (grpRestart_within g u).mono) (fun _ => .refl))
  exact h3.forEach (fun k hk u => .ite (fun _ => statDiscard_within (List.mem_range.mp hk) u) (fun _ => .refl))

theorem tclkRestart_within (s : State) : (tclkRestart s).within s [2] [.tiu] := by
  unfold tclkRestart
  extract_lets era _ s1 s2
  have h1 : s1.within s [2] [.tiu] := (setTiu_within s _).mono
  have h2 : s2.within s [2] [.tiu] := h1.forEach (fun n _ u => (setChan_within ..).after (chDiscard_within n u))
  exact h2.forEach (fun k hk u => statDiscard_within (List.mem_range.mp hk) u)

/-! ### The GNSS receiver (R212, R218) -/

theorem showTracking_within (s : State) : (showTracking s).within s [7] [] := State.within.refl.setFld

theorem gnssRest_within (s : State) : (gnssRest s).within s [7, 0x101] [] := by
  unfold gnssRest
  extract_lets on keep
  refine (showTracking_within _).after (.loop (fun c hc u => ?_))
  have ha := chStatus_area (List.mem_range.mp (List.mem_of_mem_filter hc))
  exact .ite (fun _ => .setFld .refl ha) (fun _ => .setRv .refl ha)

theorem gnssWork_within (s : State) : (gnssWork s).within s [7, 0x101] [.gnss] := by
  unfold gnssWork
  extract_lets s1
  have h1 : s1.within s [7, 0x101] [.gnss] :=
    .loop (fun c hc u => .ite (fun _ => .setFld .refl (chStatus_area (List.mem_range.mp hc))) (fun _ => .refl))
  exact (setGnss_within ..).after h1.setFlag

theorem rxOff_within (s : State) : (rxOff s).within s [7, 0x101] [.gnss] := by
  unfold rxOff rxTo gchIdleAll
  extract_lets s1
  have h0 : (showTracking (forEach (List.range 48) (fun s c => s.setRv (Reg.GNSS_CH_STATUS c) 0) s)).within s [7, 0x101] [.gnss] :=
    (showTracking_within _).after (.loop (fun c hc u => .setRv .refl (chStatus_area (List.mem_range.mp hc))))
  have h1 : s1.within s [7, 0x101] [.gnss] := .ite (fun _ => h0) (fun _ => h0.setFld.bump)
  exact (setGnss_within ..).after h1.setFlag

/-! ### The security block and the supervisor (R464, R487) -/

theorem chalGone_within (s : State) : (chalGone s).within s [13] [.sec] := by
  refine .forEach (.update .refl rfl rfl) (fun j hj u => .setRv .refl (regArea_mem (b := 13) ?_))
  have := List.mem_range.mp hj
  simp only [inBlock, Reg.SEC_CHAL]
  omega

theorem supvParts_within (s : State) (v : SePart) (w : SecPart) : ({ s with se := v, sec := w } : State).within s [] [.se, .sec] :=
  .update .refl rfl rfl

theorem supvLost_within (s : State) : (supvLost s).within s [13, 16] [.sec, .se, .eng, .mb, .nvs, .out] := by
  unfold supvLost
  extract_lets s1
  have h1 : s1.within s [13, 16] [.sec, .se, .eng, .mb, .nvs, .out] :=
    (chalGone_within _).after ((coEnd_within _).after (sideReset_within 4 s).mono)
  exact (supvParts_within ..).after ((setEng_within s1 6 .reset).after h1)

theorem supvLost_eng (s : State) : (supvLost s).eng_ 6 = .reset :=
  State.eng__setEng (chalGone (coEnd (sideReset 4 s))) 6 .reset

theorem supvLost_nvs (s : State) : ∃ o, (supvLost s).nvs = { s.nvs with opened := o } := by
  obtain ⟨o, ho⟩ := sideReset_nvs 4 s
  refine ⟨o, ?_⟩
  rw [← ho, ← (coEnd_within (sideReset 4 s)).get State.nvs (fun _ => rfl), ← (chalGone_within (coEnd (sideReset 4 s))).get State.nvs (fun _ => rfl)]
  rfl

theorem showApproved_within (s : State) : (showApproved s).within s [13] [] := State.within.refl.setFlag

theorem seTo_within (st : Nat) (s : State) : (seTo st s).within s [10] [] := .ite (fun _ => .refl) (fun _ => State.within.refl.setFld.bump)

theorem seTo_state {st : Nat} (h : st < 8) (s : State) : (seTo st s).seState = st := by
  unfold seTo
  split
  · next he => exact he
  · unfold State.seState
    rw [State.fld_of_reg (f := F.SE_STATUS_STATE) (State.reg_bump_ne _ (by decide)), State.fld_setFld _ _ _ (by decide)]
    exact Nat.mod_eq_of_lt h

theorem seHalt_within (s : State) : (seHalt s).within s [10, 0x101] [] :=
  (seTo_within 5 _).after ((State.within.refl.setRv).setQuant (by decide))

/-! ### The store (R439, R440, R441, R484) -/

theorem nvsRefuse_within (s : State) : (nvsRefuse s).within s [12] [.nvs] := .ite (fun _ => .update .refl rfl rfl) (fun _ => .bump16 .refl)

/-- A refusal leaves the queue, the increments and the append. -/
theorem nvsRefuse_nvs (s : State) : (nvsRefuse s).nvs.buf = s.nvs.buf ∧ (nvsRefuse s).nvs.jobs = s.nvs.jobs ∧ (nvsRefuse s).nvs.log = s.nvs.log := by
  unfold nvsRefuse
  split
  · exact ⟨rfl, rfl, rfl⟩
  · rw [State.bump16_nvs]
    exact ⟨rfl, rfl, rfl⟩

theorem nvsWriteWord_within (w : NvsWrite) (s : State) : (nvsWriteWord w s).within s [12] [.nvs, .flt] := by
  unfold nvsWriteWord
  extract_lets b e l s1
  have h1 : s1.within s [12] [.nvs, .flt] := .loop (fun _ _ _ => .update .refl rfl rfl)
  refine .ite (fun _ => (nvsRefuse_within s).mono) (fun _ => .ite (fun _ => ?_) (fun _ => h1))
  exact (setNvsBank_within ..).after (State.within.bump (h1.sendFault))

theorem nvsWriteWord_nvs (w : NvsWrite) (s : State) : (nvsWriteWord w s).nvs.buf = s.nvs.buf ∧ (nvsWriteWord w s).nvs.jobs = s.nvs.jobs := by
  unfold nvsWriteWord
  extract_lets b e l s1
  have h1 : (fun v : State => (v.nvs.buf, v.nvs.jobs)) s1 = (s.nvs.buf, s.nvs.jobs) :=
    forEach_keeps (g := fun v : State => (v.nvs.buf, v.nvs.jobs))
      (f := fun u (x : Nat × Byte) => { u with nvs := { u.nvs with mem := u.nvs.mem.setByte x.1 x.2 } }) (fun _ _ => rfl) _ s
  obtain ⟨hb, hj⟩ := Prod.mk.inj h1
  clear_value s1
  split
  · obtain ⟨hb', hj', -⟩ := nvsRefuse_nvs s
    exact ⟨hb', hj'⟩
  · split
    · exact ⟨hb, hj⟩
    · exact ⟨hb, hj⟩

theorem nvsDrain_within (s : State) : (nvsDrain s).within s [12] [.nvs, .flt] := by
  unfold nvsDrain
  split
  · exact .refl
  · exact (nvsWriteWord_within ..).after (.update .refl rfl rfl)

theorem nvsDrain_buf (s : State) : (nvsDrain s).nvs.buf = s.nvs.buf.tail := by
  unfold nvsDrain
  split
  · next h => rw [h]; rfl
  · next w l h =>
    rw [h]
    exact (nvsWriteWord_nvs ..).1

theorem ctrStart_within (l : List Nat) (s : State) : (ctrStart l s).within s [12] [.nvs] := by
  induction l generalizing s with
  | nil => exact .update .refl rfl rfl
  | cons n l ih =>
    unfold ctrStart
    refine .ite (fun _ => ?_) (fun _ => .update .refl rfl rfl)
    exact (ih _).trans ((nvsRefuse_within _).after (.update .refl rfl rfl))

theorem ctrStart_nvs (l : List Nat) (s : State) :
    (ctrStart l s).nvs.jobs.length ≤ l.length ∧ (ctrStart l s).nvs.buf = s.nvs.buf ∧ (ctrStart l s).nvs.log = s.nvs.log := by
  induction l generalizing s with
  | nil => exact ⟨le_rfl, rfl, rfl⟩
  | cons n l ih =>
    unfold ctrStart
    split
    · obtain ⟨hj, hb, hl⟩ := ih (nvsRefuse { s with nvs := { s.nvs with sat := Tbl.set (fun _ => false) s.nvs.sat n true } })
      obtain ⟨hb', -, hl'⟩ := nvsRefuse_nvs { s with nvs := { s.nvs with sat := Tbl.set (fun _ => false) s.nvs.sat n true } }
      exact ⟨hj.trans (Nat.le_succ _), hb.trans hb', hl.trans hl'⟩
    · exact ⟨le_rfl, rfl, rfl⟩

theorem ctrDone_within (s : State) : (ctrDone s).within s [12] [.nvs] := by
  unfold ctrDone
  split
  · exact .refl
  · exact (ctrStart_within ..).after (.update .refl rfl rfl)

/-- An increment ends: at least one fewer waits, and the queue and the append are as they were. -/
theorem ctrDone_nvs (s : State) :
    (ctrDone s).nvs.jobs.length ≤ s.nvs.jobs.length - 1 ∧ (ctrDone s).nvs.buf = s.nvs.buf ∧ (ctrDone s).nvs.log = s.nvs.log := by
  unfold ctrDone
  split
  · next h => exact ⟨by rw [h]; exact Nat.zero_le _, rfl, rfl⟩
  · next n l h =>
    rw [h]
    exact ctrStart_nvs ..

theorem logDone_within (s : State) : (logDone s).within s [12] [.nvs] := by
  unfold logDone
  split
  · exact .refl
  · extract_lets q _ s1
    have h1 : s1.within s [12] [.nvs] := .update .refl rfl rfl
    exact ((h1.setQuant (by decide)).setQuant (by decide)).bump

theorem logDone_nvs (s : State) : (logDone s).nvs.log = none ∧ (logDone s).nvs.buf = s.nvs.buf ∧ (logDone s).nvs.jobs = s.nvs.jobs := by
  unfold logDone
  split
  · next h => exact ⟨h, rfl, rfl⟩
  · exact ⟨rfl, rfl, rfl⟩

theorem forEach_succ {α : Type} (f : State → α → State) (a : α) (l : List α) (s : State) : forEach (a :: l) f s = forEach l f (f s a) := rfl

theorem nvsDrains_buf (l : List Nat) (s : State) (h : s.nvs.buf.length ≤ l.length) : (forEach l (fun s _ => nvsDrain s) s).nvs.buf = [] := by
  induction l generalizing s with
  | nil => exact List.length_eq_zero_iff.mp (Nat.le_zero.mp h)
  | cons a l ih =>
    rw [forEach_succ]
    refine ih (nvsDrain s) ?_
    rw [nvsDrain_buf, List.length_tail]
    simp only [List.length_cons] at h
    omega

theorem ctrDones_nvs (l : List Nat) (s : State) (h : s.nvs.jobs.length ≤ l.length) : let t := forEach l (fun s _ => ctrDone s) s
    t.nvs.jobs = [] ∧ t.nvs.buf = s.nvs.buf ∧ t.nvs.log = s.nvs.log := by
  induction l generalizing s with
  | nil => exact ⟨List.length_eq_zero_iff.mp (Nat.le_zero.mp h), rfl, rfl⟩
  | cons a l ih =>
    obtain ⟨hj, hb, hl⟩ := ctrDone_nvs s
    obtain ⟨h1, h2, h3⟩ := ih (ctrDone s) (by simp only [List.length_cons] at h; omega)
    exact ⟨h1, h2.trans hb, h3.trans hl⟩

theorem nvsSettle_within (s : State) : (nvsSettle s).within s [12] [.nvs, .flt] := by
  unfold nvsSettle
  extract_lets s0 s1
  have h0 : s0.within s [12] [.nvs, .flt] := .loop (fun _ _ u => nvsDrain_within u)
  have h1 : s1.within s [12] [.nvs, .flt] := ((logDone_within s0).after h0).forEach (fun _ _ u => (ctrDone_within u).mono)
  exact h1.setFlag

/-- The store has drained: nothing waits and nothing is in progress (R484). -/
theorem nvsSettle_drained (s : State) : (nvsSettle s).nvs.buf = [] ∧ (nvsSettle s).nvs.jobs = [] ∧ (nvsSettle s).nvs.log = none := by
  unfold nvsSettle
  extract_lets s0 s1
  have hb0 : s0.nvs.buf = [] := nvsDrains_buf _ s (by rw [List.length_range])
  obtain ⟨hlog, hbuf, hjobs⟩ := logDone_nvs s0
  obtain ⟨h1, h2, h3⟩ := ctrDones_nvs (List.range s0.nvs.jobs.length) (logDone s0) (by rw [List.length_range, hjobs])
  exact ⟨h2.trans (hbuf.trans hb0), h1, h3.trans hlog⟩

/-- The store begins its recall: the words of its state are set anew. -/
theorem nvsPowerUp_within (s : State) : (nvsPowerUp s).within s [12] [.nvs] := by
  unfold nvsPowerUp
  extract_lets fails lock _ s1 s2
  have h1 : s1.within s [12] [.nvs] := .update .refl rfl rfl
  have h2 : s2.within s [12] [.nvs] := h1.forEach (fun m _ u => (setNvsBank_within ..).mono)
  exact (h2.setRv).setRv

theorem nvsPowerUp_recall (s : State) : (nvsPowerUp s).flag F.NVS_STATUS_RECALL = true := by
  unfold nvsPowerUp
  extract_lets fails lock _ s1 s2
  have hl : ∀ r, lock r = 0 ∨ lock r = 2 ^ (8 + r) := fun r => by
    simp only [lock]
    split
    · exact .inr rfl
    · exact .inl rfl
  rw [State.flag_setRv_ne _ _ _ (show F.NVS_STATUS_RECALL.addr ≠ Reg.NVS_PW_FAIL by decide)]
  have h0 := hl 0
  have h1 := hl 1
  clear_value lock s2
  unfold State.flag State.fld
  rw [State.rv_setRv]
  simp only [Fld.of]
  rcases h0 with h0 | h0 <;> rcases h1 with h1 | h1 <;> rw [h0, h1] <;> rfl

/-! ### The DPLLs and the timekeeping engines (R137, R487) -/

theorem showEst_within {d : Nat} (hd : d < 8) (s : State) : (showEst d s).within s [4] [] :=
  (State.within.refl.setRv (dpllReg_area (o := 0x34) hd (by decide))).setRv (dpllReg_area (o := 0x38) hd (by decide))

theorem stepPend_within {d : Nat} (hd : d < 8) (v : Option Int) (s : State) : (stepPend d v s).within s [4] [] := by
  refine (State.within.refl.setQuant (fun k hk => regArea_mem (b := 4) ?_)).setFlag (dpllReg_area (o := 0x24) hd (by decide))
  simp only [inBlock, Reg.DPLL_STEP_PEND]
  omega

theorem dpllTo_within {d : Nat} (hd : d < 8) (st : Nat) (s : State) : (dpllTo d st s).within s [4] [] :=
  .ite (fun _ => .refl) (fun _ => (State.within.refl.setFld (dpllReg_area (o := 0x24) hd (by decide))).bump (dpllReg_area (o := 0x44) hd (by decide)))

theorem freerun_within {d : Nat} (hd : d < 8) (s : State) : (freerun d false s).within s [4] [.dpll] := by
  unfold freerun
  extract_lets v _ s1 s2 s3 keep
  have h1 : s1.within s [4] [.dpll] := (showEst_within hd _).after (setDpll_within ..).mono
  have h2 : s2.within s [4] [.dpll] := .ite (fun h => absurd h (by decide)) (fun _ => h1)
  have h3 : s3.within s [4] [.dpll] := State.within.setRv ((stepPend_within hd none s2).after h2) (dpllReg_area (o := 0x28) hd (by decide))
  exact (dpllTo_within hd 0 _).after (h3.setRv (dpllReg_area (o := 0x24) hd (by decide)))

theorem setPort_within (s : State) (k : Nat) (v : Steer) : (s.setPort k v).within s [] [.steer] := .update .refl rfl rfl

/-- The steps, events and resumptions that wait for an engine go with it. -/
theorem queuesLost_within (s : State) : ({ s with
    tm := { s.tm with stepReq := [], evGate := [], evq := [] }, flt := { s.flt with resume := 0 } } : State).within s [] [.tm, .flt] :=
  .update .refl rfl rfl

/-- What the loss of the engines leaves after the banks are gone (R487). -/
theorem teLost_after (s : State) : (teLost s).within (itinLost ((s.setEng 4 .reset).setEng 5 .reset)) [4] [.steer, .dpll, .tm, .flt] := by
  unfold teLost
  extract_lets s1 s2 s3
  have h2 : s2.within s1 [4] [.steer, .dpll, .tm, .flt] := .loop (fun k _ u => .ite (fun _ => (setPort_within ..).mono) (fun _ => .refl))
  have h3 : s3.within s1 [4] [.steer, .dpll, .tm, .flt] := h2.forEach (fun d hd u => (freerun_within (List.mem_range.mp hd) u).mono)
  clear_value s3
  exact (queuesLost_within s3).after h3

theorem teLost_within (s : State) : (teLost s).within s [1, 3, 4, 9, 0x101] [.itin, .eng, .steer, .dpll, .tm, .flt] :=
  (teLost_after s).after ((itinLost_within _).after ((setEng_within ..).after (setEng_within ..).mono))

/-- The engines' registers, the store and the banks are gone. -/
theorem teLost_gone (s : State) : (teLost s).eng_ 4 = .reset ∧ (teLost s).eng_ 5 = .reset ∧ (teLost s).eng_ 6 = s.eng_ 6 ∧
    (teLost s).itin.store = [] ∧ (teLost s).reg Reg.ITIN_STATUS = 0 := by
  have heng : ∀ e, (teLost s).eng_ e = ((s.setEng 4 .reset).setEng 5 .reset).eng_ e := fun e => by
    rw [(teLost_after s).get (fun v => v.eng_ e) (fun _ => rfl), (itinLost_within _).get (fun v => v.eng_ e) (fun _ => rfl)]
  obtain ⟨hstore, hstat⟩ := itinLost_empty ((s.setEng 4 .reset).setEng 5 .reset)
  refine ⟨?_, ?_, ?_, ?_, ?_⟩
  · rw [heng, State.eng__setEng_ne _ _ (by decide), State.eng__setEng]
  · rw [heng, State.eng__setEng]
  · rw [heng, State.eng__setEng_ne _ _ (by decide), State.eng__setEng_ne _ _ (by decide)]
  · rw [(teLost_after s).get State.itin (fun _ => rfl), hstore]
  · rw [(teLost_after s).reg _ (by decide), hstat]

theorem discardAll_within (s : State) : (discardAll s).within s [] [.bus] :=
  .loop (fun _ _ _ => .ite (fun _ => .update .refl rfl rfl) (fun _ => .refl))

/-! ### Mailboxes without the host island (R487) -/

/-- One direction of a block channel without the host island: its block is cleared. -/
theorem mbBlock_within {n d : Nat} (hn : n < 16) (hd : d < 2) (s : State) :
    (forEach (List.range 17) (fun s j => s.setRv (Reg.BLK n d j) 0) s).within s [16, 0x101] [] :=
  .loop (fun _ hj _ => .setRv .refl (regArea_mem_pair (b := 16) (by
    have := List.mem_range.mp hj
    simp only [Reg.BLK, mbBase]
    omega)))

theorem mbWords_within {n : Nat} (hn : n < 16) (s : State) :
    (forEach [0, 1] (fun s d => forEach (List.range 17) (fun s j => s.setRv (Reg.BLK n d j) 0) s) s).within s [16, 0x101] [] := by
  refine .loop (fun d hd u => ?_)
  simp only [List.mem_cons, List.not_mem_nil, or_false] at hd
  exact mbBlock_within hn (by omega) u

theorem mbLost_within (s : State) : (mbLost s).within s [16, 0x101] [.mb] := by
  have h0 : ({ s with mb := [] } : State).within s [16, 0x101] [.mb] := .update .refl rfl rfl
  refine h0.forEach (fun n hn u => ?_)
  have hn := List.mem_range.mp hn
  extract_lets s1
  have h1 : s1.within u [16, 0x101] [.mb] := .setRv .refl (List.mem_append_left [0x101] (mbStatus_area hn))
  clear_value s1
  exact .ite (fun _ => (mbWords_within hn s1).after h1) (fun _ => h1)

theorem mbLost_mb (s : State) : (mbLost s).mb = [] := by
  unfold mbLost
  refine forEach_keeps_of_mem (g := State.mb) (fun u n hn => ?_) { s with mb := [] }
  extract_lets s1
  have h1 : s1.mb = u.mb := rfl
  clear_value s1
  split
  · rw [(mbWords_within (List.mem_range.mp hn) s1).get State.mb (fun _ => rfl), h1]
  · exact h1

/-! ### The oven and the time (R42, R163, R486) -/

theorem tbFlag_within {f : Fld} (hf : regArea f.addr ∈ [2]) (b : Bool) (s : State) : (s.tbFlag f b).within s [2] [] :=
  .ite (fun _ => .refl) (fun _ => (State.within.refl.setFlag hf).bump)

theorem tbFlag_warm (b : Bool) (s : State) : (s.tbFlag F.TB_STATUS_TB_WARM b).flag F.TB_STATUS_TB_WARM = b := by
  unfold State.tbFlag
  split
  · next h => exact h
  · rw [State.flag_of_reg (f := F.TB_STATUS_TB_WARM) (State.reg_bump_ne _ (by decide)), State.flag_setFlag _ _ _ (by decide) rfl]

/-- The heater is turned off: no demand, and an oven no longer warm but on an external timebase (R484). -/
theorem ovenOff_within (s : State) : (ovenOff s).within s [2] [.tb] := by
  unfold ovenOff
  extract_lets _ s1
  have h1 : s1.within s [2] [.tb] := .update .refl rfl rfl
  exact .ite (fun _ => h1) (fun _ => (tbFlag_within (by decide) false s1).after h1)

theorem ovenOff_shows (s : State) : (ovenOff s).tb.demandMw = 0 ∧ (s.tbExt = false → (ovenOff s).flag F.TB_STATUS_TB_WARM = false) := by
  unfold ovenOff
  extract_lets _ s1
  have h1 : s1.tb.demandMw = 0 := rfl
  clear_value s1
  split
  · next h => exact ⟨h1, fun he => absurd h (by simp [he])⟩
  · exact ⟨((tbFlag_within (by decide) false s1).get (fun v => v.tb.demandMw) (fun _ => rfl)).trans h1, fun _ => tbFlag_warm false s1⟩

theorem showNext_within {i : Nat} (hi : i < 16) (s : State) : (showNext i s).within s [0x103] [] := by
  refine State.within.refl.setQuant (fun k hk => ?_)
  have h := trgReg_area (i := i) (o := 0x28 + 4 * k) hi (by omega)
  rwa [show 0x51000 + (0x28 + 4 * k) + 0x80 * i = Reg.TRG_NEXT i + 4 * k by simp only [Reg.TRG_NEXT]; omega] at h

theorem trgAfter_within {i : Nat} (hi : i < 16) (s : State) : (trgAfter i s).within s [0x103] [.tm] :=
  .ite (fun _ => (showNext_within hi _).after (setTrg_within ..).mono) (fun _ => .setFlag .refl (trgReg_area (o := 0x38) hi (by decide)))

theorem outFire_within (i : Nat) (x : Int) (y : Nat) (s : State) : (outFire i x y s).within s [0x102] [.syn] := by
  refine .loop (fun o ho u => ?_)
  have ho := List.mem_range.mp ho
  have hs : regArea (Reg.OUT_STATUS o) ∈ [0x102] := outReg_area (i := 0x20) ho (by decide)
  refine .ite (fun _ => ?_) (fun _ => .refl)
  extract_lets st q _ v
  refine .ite (fun _ => .bumpFld .refl hs) (fun _ => .ite (fun _ => ?_) (fun _ => .refl))
  exact State.within.setFlag (State.within.setReg ((setOut_within ..).mono) (outReg_area (i := 0x10) ho (by decide))) hs

theorem pinFire_within (k : Nat) (x : Int) (y : Nat) (s : State) : (pinFire k x y s).within s [] [.tm] :=
  (setTm_within (setPin k true s) _).trans (setTm_within s _)

theorem trgFire_within {i : Nat} (hi : i < 16) (s : State) : (trgFire i s).within s [0x102, 0x103] [.tm, .syn, .out] := by
  unfold trgFire
  extract_lets v x y s1 s2 pes tes
  have h0 : (s.bump (Reg.TRG_EVT i)).within s [0x102, 0x103] [.tm, .syn, .out] :=
    .bump .refl (List.mem_cons_of_mem _ (trgReg_area (o := 0x3c) hi (by decide)))
  have h1 : s1.within s [0x102, 0x103] [.tm, .syn, .out] := (tmuxEvent_within ..).after h0
  have h2 : s2.within s [0x102, 0x103] [.tm, .syn, .out] :=
    (outFire_within ..).after (h1.forEach (fun k _ u => .ite (fun _ => (pinFire_within k x y u).mono) (fun _ => .refl)))
  exact (setTm_within s2 _).after h2

theorem trgCatch_within {i : Nat} (hi : i < 16) (s : State) : (trgCatch s i).within s [0x102, 0x103] [.tm, .syn, .out] := by
  have hs : regArea (Reg.TRG_STATUS i) ∈ [0x102, 0x103] := List.mem_cons_of_mem _ (trgReg_area (o := 0x38) hi (by decide))
  unfold trgCatch
  extract_lets v need k s1
  refine .ite (fun _ => .refl) (fun _ => .ite (fun _ => .ite (fun _ => .refl) (fun _ => ?_)) (fun _ => .ite (fun _ => ?_) (fun _ => .refl)))
  · have h1 : s1.within s [0x102, 0x103] [.tm, .syn, .out] := (State.within.refl.setFlag hs).setFld hs
    exact (showNext_within hi _).after ((setTrg_within ..).after h1)
  · exact (trgAfter_within hi _).after ((trgFire_within hi s).setFlag hs)

theorem setMtc_within (s : State) (v : Nat) : (s.setMtc v).within s [] [.tm] := .update .refl rfl rfl
theorem setTs_within (s : State) (k : Nat) (v : TsPart) : (s.setTs k v).within s [] [.tm] := .update .refl rfl rfl

/-- The time is rebuilt: it shows as restored, and the triggers catch up (R163, R165). -/
theorem timeRebuild_eq (s : State) : ∃ u : State, u.within s [] [.tm, .dpll] ∧
    timeRebuild s = (List.range 16).foldl trgCatch (u.setFlag F.MTC_STATUS_RESTORED true) := by
  unfold timeRebuild
  extract_lets ticks el s1 s2 ps s3
  have h1 : s1.within s [] [.tm, .dpll] := (setMtc_within s _).mono
  clear_value el ps s1
  have h2 : s2.within s [] [.tm, .dpll] := h1.forEach (fun t _ u => .ite (fun _ => (setTs_within ..).mono) (fun _ => .refl))
  clear_value s2
  have h3 : s3.within s [] [.tm, .dpll] := h2.forEach (fun d _ u => (setDpll_within ..).mono)
  exact ⟨s3, h3, rfl⟩

theorem timeRebuild_within (s : State) : (timeRebuild s).within s [5, 0x102, 0x103] [.tm, .dpll, .syn, .out] := by
  obtain ⟨u, hu, heq⟩ := timeRebuild_eq s
  rw [heq]
  have h : (u.setFlag F.MTC_STATUS_RESTORED true).within s [5, 0x102, 0x103] [.tm, .dpll, .syn, .out] := .setFlag hu.mono
  exact h.forEach (fun i hi v => (trgCatch_within (List.mem_range.mp hi) v).mono)

theorem timeRebuild_restored (s : State) : (timeRebuild s).flag F.MTC_STATUS_RESTORED = true := by
  obtain ⟨u, -, heq⟩ := timeRebuild_eq s
  have h : ((List.range 16).foldl trgCatch (u.setFlag F.MTC_STATUS_RESTORED true)).within (u.setFlag F.MTC_STATUS_RESTORED true)
      [0x102, 0x103] [.tm, .syn, .out] := .foldl (fun i hi v => trgCatch_within (List.mem_range.mp hi) v)
  rw [heq, h.flag, State.flag_setFlag _ _ _ (by decide) rfl]

/-! ### Rations (R32, R43) -/

theorem govRefill_within (s : State) (g : Nat) : (govRefill s g).within s [] [.rat] := .update .refl rfl rfl

theorem rationResume_within (s : State) : (rationResume s).within s [1] [.rat] := by
  unfold rationResume
  extract_lets s1
  have h1 : s1.within s [1] [.rat] := (State.within.refl.setFlag).setFlag
  have h2 : ({ s1 with rat := { s1.rat with prevMean := none, steps := [] } } : State).within s [1] [.rat] := h1.update rfl rfl
  exact h2.forEach (f := govRefill) (fun g _ u => (govRefill_within u g).mono)

theorem rationResume_suspended (s : State) : (rationResume s).flag F.RATION_STATUS_SUSPENDED = false := by
  unfold rationResume
  extract_lets s1
  have h1 : s1.flag F.RATION_STATUS_SUSPENDED = false := by
    rw [State.flag_setFlag_apart _ _ (by decide), State.flag_setFlag _ _ _ (by decide) rfl]
  have h : ((List.range 4).foldl govRefill { s1 with rat := { s1.rat with prevMean := none, steps := [] } }).within s1 [] [.rat] :=
    State.within.forEach (f := govRefill) (.update .refl rfl rfl) (fun g _ u => govRefill_within u g)
  rw [h.flag, h1]

theorem rampTo_target (target backfill gov : Nat) (s : State) :
    (s.rampTo target backfill gov).fld F.RATION_LEVEL_TARGET_MA = target % 8192 := by
  unfold State.rampTo
  extract_lets _ s1 s2
  rw [State.fld_of_reg (f := F.RATION_LEVEL_TARGET_MA) (State.reg_setFlag_ne _ _ _ (by decide)), State.fld_setFld _ _ _ (by decide)]
  rfl

theorem rampDown_within (s : State) : (rampDown s).within s [1] [.rat] := by
  unfold rampDown
  extract_lets fall fill _ s1
  have h1 : s1.within s [1] [.rat] := .update .refl rfl rfl
  exact (rampTo_within ..).trans h1.setFlag

theorem rampDown_target (s : State) : (rampDown s).fld F.RATION_LEVEL_TARGET_MA = s.l1Level := by
  unfold rampDown
  extract_lets fall fill _ s1
  rw [rampTo_target]
  refine Nat.mod_eq_of_lt ?_
  unfold State.l1Level
  omega

end Sys2Proof.Machine
end

section
/-! The steps of the power ladder (R482–R491): what an arrival shows, and what each step leaves. -/

namespace Sys2Proof.Machine

-- The default arguments of the frame lemmas wait for the proofs before them: a thread each, where proofs are elaborated side by side.
set_option Elab.async false

/-! ### Moves, arrivals and wakes -/

/-- The registers of the power ladder are as they were. -/
def State.sameRungRegs (t s : State) : Prop := ∀ a, 0x100 ≤ a → a < 0x200 → t.reg a = s.reg a

theorem State.within.rungRegs {s t : State} {B : List Nat} {P : List Part} (h : t.within s B P) (hB : 0x100 ∉ B := by decide) : t.sameRungRegs s :=
  fun a h1 h2 => h.reg a (by
    unfold regArea
    rwa [if_pos (by omega), if_pos ⟨h1, h2⟩])

theorem State.sameRungRegs.trans {s t u : State} (h : u.sameRungRegs t) (h' : t.sameRungRegs s) : u.sameRungRegs s :=
  fun a h1 h2 => (h a h1 h2).trans (h' a h1 h2)

section
variable {s t : State} (h : t.sameRungRegs s)
include h

theorem State.sameRungRegs.status : t.reg Reg.RUNG_STATUS = s.reg Reg.RUNG_STATUS := h _ (by decide) (by decide)
theorem State.sameRungRegs.rung : t.rung = s.rung := State.fld_of_reg (f := F.RUNG_STATUS_RUNG) h.status
theorem State.sameRungRegs.target : t.target = s.target := State.fld_of_reg (f := F.RUNG_STATUS_TARGET) h.status
theorem State.sameRungRegs.moving : t.moving = s.moving := State.flag_of_reg (f := F.RUNG_STATUS_MOVING) h.status
theorem State.sameRungRegs.evt : t.reg Reg.RUNG_EVT = s.reg Reg.RUNG_EVT := h _ (by decide) (by decide)

theorem State.sameRungRegs.wakeRung : t.wakeRung = s.wakeRung := by
  unfold State.wakeRung
  rw [State.fld_of_reg (f := F.WAKE_CFG_WAKE_RUNG) (h _ (by decide) (by decide))]

theorem State.sameRungRegs.timerDue (hn : t.now = s.now) : t.timerDue = s.timerDue := by
  unfold State.timerDue
  rw [State.flag_of_reg (f := F.WAKE_CFG_TIMER_EN) (h _ (by decide) (by decide)), State.rv_of_reg (h Reg.WAKE_AT (by decide) (by decide)), hn]

end

theorem setStep_within (o : Option Nat) (s : State) : (setStep o s).within s [] [.lad] := .update .refl rfl rfl

theorem arrive_within (b : Nat) (s : State) : (arrive b s).within s [0x100] [.lad] := by
  have h : (setStep none (s.setFld F.RUNG_STATUS_RUNG b)).within s [0x100] [.lad] := (setStep_within ..).after (.setFld .refl)
  exact .ite (fun _ => ((h.setFlag).bump).setRv) (fun _ => h)

/-- What an arrival in rung `b` shows; at the target the move ends, and counts (R482, R491). -/
theorem arrive_spec {b : Nat} (hb : b < 8) (s : State) : (arrive b s).rung = b ∧ (arrive b s).lad.step = none ∧
    (arrive b s).target = s.target ∧ (arrive b s).moving = (if s.target = b then false else s.moving) ∧
    (arrive b s).reg Reg.RUNG_EVT = s.reg Reg.RUNG_EVT + (if s.target = b then 1 else 0) := by
  unfold arrive
  extract_lets s1
  have h1 : s1.within (s.setFld F.RUNG_STATUS_RUNG b) [] [.lad] := setStep_within ..
  have hr : s1.rung = b := (h1.fld (f := F.RUNG_STATUS_RUNG)).trans ((State.fld_setFld _ _ _ (by decide)).trans (Nat.mod_eq_of_lt hb))
  have ht : s1.target = s.target := (h1.fld (f := F.RUNG_STATUS_TARGET)).trans (State.fld_setFld_apart s b (by decide))
  have hm : s1.moving = s.moving := (h1.flag (f := F.RUNG_STATUS_MOVING)).trans (State.flag_setFld_apart s b (by decide))
  have he : s1.reg Reg.RUNG_EVT = s.reg Reg.RUNG_EVT := (h1.reg Reg.RUNG_EVT (by decide)).trans (State.reg_setFld_ne s F.RUNG_STATUS_RUNG b (by decide))
  have hl : s1.lad.step = none := rfl
  clear_value s1
  rw [← ht]
  split
  · next h =>
    generalize min (2 ^ 32 - 1) ((s.now - s.lad.moveAt) / 10 ^ 6) = x
    have hst : (((s1.setFlag F.RUNG_STATUS_MOVING false).bump Reg.RUNG_EVT).setRv Reg.RUNG_TIME x).reg Reg.RUNG_STATUS =
        (s1.setFlag F.RUNG_STATUS_MOVING false).reg Reg.RUNG_STATUS :=
      (State.reg_setRv_ne _ _ (by decide)).trans (State.reg_bump_ne _ (by decide))
    refine ⟨?_, ?_, ?_, ?_, ?_⟩
    · exact (State.fld_of_reg (f := F.RUNG_STATUS_RUNG) hst).trans ((State.fld_setFlag_apart s1 false (by decide)).trans hr)
    · rw [State.setRv_lad, State.bump_lad, State.setFlag_lad, hl]
    · exact (State.fld_of_reg (f := F.RUNG_STATUS_TARGET) hst).trans (State.fld_setFlag_apart s1 false (by decide))
    · exact (State.flag_of_reg (f := F.RUNG_STATUS_MOVING) hst).trans (State.flag_setFlag _ _ _ (by decide) rfl)
    · rw [State.reg_setRv_ne _ _ (by decide), State.reg_bump, State.reg_setFlag_ne _ _ _ (by decide), he]
  · exact ⟨hr, hl, rfl, hm, by rw [he]; exact (BitVec.add_zero _).symm⟩

/-- A step has ended in rung `b`. -/
def State.arrived (t s : State) (b : Nat) : Prop := t.rung = b ∧ t.lad.step = none ∧ t.moving = decide (s.target ≠ b) ∧
  t.reg Reg.RUNG_EVT = s.reg Reg.RUNG_EVT + (if s.target = b then 1 else 0)

/-- An arrival at the end of a step whose other effects leave the ladder's registers. -/
theorem State.arrived_of {s t u : State} {b : Nat} (hb : b < 8) (hm : s.moving = true) (hu : u.sameRungRegs s)
    (ht : t.sameRungRegs (arrive b u)) (hl : t.lad = (arrive b u).lad) : t.arrived s b := by
  obtain ⟨hr, hs, -, hmv, he⟩ := arrive_spec hb u
  rw [hu.target] at hmv he
  refine ⟨ht.rung.trans hr, (congrArg LadderPart.step hl).trans hs, ?_, ?_⟩
  · rw [ht.moving, hmv, hu.moving, hm]
    by_cases h : s.target = b
    · simp [h]
    · simp [h]
  · rw [ht.evt, he, hu.evt]

/-- A move sets its target and its cause, and is in progress where a step is or where the target is another rung (R482). -/
theorem moveTo_spec {r cause : Nat} (hr : r < 8) (hc : cause < 8) (s : State) : (moveTo r cause s).target = r ∧
    (moveTo r cause s).fld F.RUNG_STATUS_CAUSE = cause ∧ (moveTo r cause s).rung = s.rung ∧ (moveTo r cause s).lad.step = s.lad.step ∧
    (moveTo r cause s).moving = (s.lad.step.isSome || r != s.rung) ∧ (moveTo r cause s).reg Reg.RUNG_EVT = s.reg Reg.RUNG_EVT := by
  unfold moveTo
  extract_lets _ s1 s2
  have hl1 : s1.lad.step = s.lad.step := by
    simp only [s1]
    split
    · rfl
    · rfl
  have hr1 : s1.regs = s.regs := by
    simp only [s1]
    split
    · rfl
    · rfl
  have hrung : s1.rung = s.rung := State.fld_of_reg (f := F.RUNG_STATUS_RUNG) (State.reg_congr hr1 _)
  have hevt : s1.reg Reg.RUNG_EVT = s.reg Reg.RUNG_EVT := by rw [State.reg_congr hr1]
  clear_value s1
  refine ⟨?_, ?_, ?_, ?_, ?_, ?_⟩
  · refine (State.fld_setFlag_apart s2 _ (by decide)).trans ((State.fld_setFlag_apart _ false (by decide)).trans ?_)
    rw [State.fld_setFld_apart _ _ (by decide), State.fld_setFld _ _ _ (by decide)]
    exact Nat.mod_eq_of_lt hr
  · refine (State.fld_setFlag_apart s2 _ (by decide)).trans ((State.fld_setFlag_apart _ false (by decide)).trans ?_)
    rw [State.fld_setFld _ _ _ (by decide)]
    exact Nat.mod_eq_of_lt hc
  · refine (State.fld_setFlag_apart s2 _ (by decide)).trans ((State.fld_setFlag_apart _ false (by decide)).trans ?_)
    rw [State.fld_setFld_apart _ _ (by decide), State.fld_setFld_apart _ _ (by decide)]
    exact hrung
  · rw [State.setFlag_lad]
    exact hl1
  · exact State.flag_setFlag _ _ _ (by decide) rfl
  · rw [State.reg_setFlag_ne _ _ _ (by decide), State.reg_setFlag_ne _ _ _ (by decide), State.reg_setFld_ne _ _ _ (by decide),
      State.reg_setFld_ne _ _ _ (by decide), hevt]

theorem moveTo_within (r cause : Nat) (s : State) : (moveTo r cause s).within s [0x100] [.lad] := by
  unfold moveTo
  extract_lets _ s1 s2
  have h1 : s1.within s [0x100] [.lad] := .ite (fun _ => .refl) (fun _ => .update .refl rfl rfl)
  exact (((h1.setFld).setFld).setFlag).setFlag

theorem wakeAtOnce_within (s : State) : (wakeAtOnce s).within s [0x100] [.lad] :=
  .ite (fun _ => .ite (fun _ => .refl) (fun _ => moveTo_within ..)) (fun _ => .refl)

theorem State.wakeRung_lt (s : State) : s.wakeRung < 4 := by
  unfold State.wakeRung
  extract_lets r
  split
  · decide
  · omega

/-- A step has ended in rung `b`, where a wake timer that is due moves the device up (R488). -/
def State.landed (t s : State) (b : Nat) : Prop := t.rung = b ∧ t.lad.step = none ∧
  t.reg Reg.RUNG_EVT = s.reg Reg.RUNG_EVT + (if s.target = b then 1 else 0) ∧
  (s.timerDue = false → t.moving = decide (s.target ≠ b)) ∧
  (s.timerDue = true → s.wakeRung < b → t.moving = true ∧ t.target = s.wakeRung ∧ t.fld F.RUNG_STATUS_CAUSE = 1)

theorem wakeAtOnce_landed {s u : State} {b : Nat} (hb : b < 8) (hm : s.moving = true) (hu : u.sameRungRegs s) (hn : u.now = s.now) :
    (wakeAtOnce (arrive b u)).landed s b := by
  have ha : (arrive b u).arrived s b := State.arrived_of hb hm hu (fun _ _ _ => rfl) rfl
  obtain ⟨hr, hs, hmv, he⟩ := ha
  have hcfg : ∀ a, a = Reg.WAKE_CFG ∨ a = Reg.WAKE_AT → (arrive b u).reg a = u.reg a := fun a h => by
    have h1 : a ≠ Reg.RUNG_STATUS := by rcases h with rfl | rfl <;> decide
    have h2 : a ≠ Reg.RUNG_EVT := by rcases h with rfl | rfl <;> decide
    have h3 : a ≠ Reg.RUNG_TIME := by rcases h with rfl | rfl <;> decide
    unfold arrive
    extract_lets s1
    have hs1 : s1.reg a = u.reg a := State.reg_setFld_ne u F.RUNG_STATUS_RUNG b h1
    split
    · rw [State.reg_setRv_ne _ _ h3, State.reg_bump_ne _ h2, State.reg_setFlag_ne _ _ _ h1, hs1]
    · exact hs1
  have hw : (arrive b u).wakeRung = s.wakeRung := by
    rw [← hu.wakeRung]
    unfold State.wakeRung
    rw [State.fld_of_reg (f := F.WAKE_CFG_WAKE_RUNG) (hcfg _ (.inl rfl))]
  have hdue : (arrive b u).timerDue = s.timerDue := by
    rw [← hu.timerDue hn]
    unfold State.timerDue
    rw [State.flag_of_reg (f := F.WAKE_CFG_TIMER_EN) (hcfg _ (.inl rfl)), State.rv_of_reg (hcfg _ (.inr rfl)),
      (arrive_within b u).get State.now (fun _ => rfl)]
  generalize arrive b u = v at hr hs hmv he hw hdue
  unfold wakeAtOnce
  rw [hw, hdue]
  cases hd : s.timerDue with
  | false => exact ⟨hr, hs, he, fun _ => hmv, fun h => absurd (hd.symm.trans h) (by decide)⟩
  | true =>
    obtain ⟨h1, h2, h3, h4, h5, h6⟩ := moveTo_spec (r := s.wakeRung) (cause := 1) (by have := s.wakeRung_lt; omega) (by decide) v
    unfold wake
    rw [if_pos rfl]
    split
    · next hno =>
      refine ⟨hr, hs, he, fun h => absurd (hd.symm.trans h) (by decide), fun _ hlt => ?_⟩
      rw [hr] at hno
      simp only [Bool.or_eq_true, decide_eq_true_eq, Bool.and_eq_true, beq_iff_eq] at hno
      omega
    · refine ⟨h3.trans hr, h4.trans hs, h6.trans he, fun h => absurd (hd.symm.trans h) (by decide), fun _ hlt => ⟨?_, h1, h2⟩⟩
      rw [h5, hs, hr]
      simp only [Option.isSome_none, Bool.false_or, bne_iff_ne, ne_eq]
      omega

/-- What a step that may start says of the state (R482). -/
theorem State.mayStep_spec {s : State} {a b : Nat} (h : s.mayStep a b = true) : s.inReset = false ∧ s.lad.step = none ∧ s.rung = a := by
  unfold State.mayStep at h
  simp only [Bool.and_eq_true, Bool.not_eq_true', Option.isNone_iff_eq_none, beq_iff_eq] at h
  obtain ⟨⟨⟨⟨hres, hstep⟩, -⟩, hr⟩, -⟩ := h
  exact ⟨hres, hstep, hr⟩

theorem State.mayStep_of_step {s : State} {k : Nat} (h : s.lad.step = some k) (a b : Nat) : s.mayStep a b = false := by
  unfold State.mayStep
  rw [h]
  simp

theorem State.rung_settle (s : State) : (settle s).rung = s.rung := settle_fld s _

/-- What a command's end leaves of an arrival. -/
theorem State.arrived.settle {t s : State} {b : Nat} (h : t.arrived s b) : (settle t).arrived s b := by
  obtain ⟨h1, h2, h3, h4⟩ := h
  refine ⟨(State.rung_settle t).trans h1, ?_, (settle_flag t _).trans h3, (settle_reg t _).trans h4⟩
  rw [settle_lad, h2]

theorem State.landed.settle {t s : State} {b : Nat} (h : t.landed s b) : (settle t).landed s b := by
  obtain ⟨h1, h2, h3, h4, h5⟩ := h
  refine ⟨(State.rung_settle t).trans h1, ?_, (settle_reg t _).trans h3, fun hd => (settle_flag t _).trans (h4 hd), fun hd hw => ?_⟩
  · rw [settle_lad, h2]
  · obtain ⟨hm, ht, hc⟩ := h5 hd hw
    exact ⟨(settle_flag t _).trans hm, (settle_fld t _).trans ht, (settle_fld t _).trans hc⟩

end Sys2Proof.Machine
end

section
/-! The steps down the power ladder (R484, R487): what each leaves, from the frames of what it consists of. -/

namespace Sys2Proof.Machine

-- The default arguments of the frame lemmas wait for the proofs before them: a thread each, where proofs are elaborated side by side.
set_option Elab.async false

/-- The end of a command changes its interrupts and what leaves, and no register. -/
theorem settle_within (s : State) : (settle s).within s [] [.out, .irq] :=
  ⟨fun a _ => settle_reg s a, settle_quiet (g := State.without [.out, .irq]) (fun _ _ _ => rfl) s⟩

theorem State.within.levelled {s t : State} {B : List Nat} {P : List Part} (h : t.within s B P)
    (hB : regArea F.RATION_LEVEL_LEVEL_MA.addr ∉ B := by decide) : t.levelled = s.levelled := by
  unfold State.levelled
  rw [h.fld (f := F.RATION_LEVEL_LEVEL_MA) hB, h.fld (f := F.RATION_LEVEL_TARGET_MA) hB]

theorem State.within.fclkOn {s t : State} {B : List Nat} {P : List Part} (h : t.within s B P)
    (hB : regArea F.FAB_STATUS_FCLK_RUN.addr ∉ B := by decide) : t.fclkOn = s.fclkOn := by
  unfold State.fclkOn
  rw [h.flag hB, h.get State.inReset (fun _ => rfl)]

/-! ### L0 to L1 -/

/-- The four ports are off and their PEs have drained. -/
def portsStopped (s : State) : State := forEach (List.range 4) (fun s p => portDisable p (peDrain p s)) (itinLeaveL0 s)

theorem portStop_frame {p : Nat} (hp : p < 4) (s : State) :
    (portDisable p (peDrain p s)).within s [0x200 + p, 9, 0x101] [.fab, .eng, .prt, .out] ∧
      ∀ q, q ≠ p → (portDisable p (peDrain p s)).pe_ q = s.pe_ q := by
  obtain ⟨hd, hdq, -⟩ := portDisable_frame hp (peDrain p s)
  obtain ⟨hr, hrq, -⟩ := peDrain_frame hp s
  exact ⟨.step hd hr (by simp), fun q hq => (hdq q hq).trans (hrq q hq)⟩

theorem portsStopped_within (s : State) : (portsStopped s).within s [0x200, 0x201, 0x202, 0x203, 9, 0x101] [.fab, .eng, .prt, .out, .itin] := by
  have h : (itinLeaveL0 s).within s [0x200, 0x201, 0x202, 0x203, 9, 0x101] [.fab, .eng, .prt, .out, .itin] := (itinLeaveL0_within s).mono
  refine h.forEach (fun p hp u => ?_)
  have hp4 : p < 4 := List.mem_range.mp hp
  refine (portStop_frame hp4 u).1.mono (fun b hb => ?_)
  simp only [List.mem_cons, List.not_mem_nil, or_false] at hb ⊢
  omega

theorem portState_of_within {p : Nat} (hp : p < 4) {s t : State} {B : List Nat} {P : List Part} (h : t.within s B P) (hB : 0x200 + p ∉ B) :
    t.portState p = s.portState p := by
  refine h.fld (f := F.PORT_STATUS_STATE p) ?_
  rwa [List.mem_singleton.mp (portStatus_area hp)]

theorem portsStopped_off (s : State) {p : Nat} (hp : p < 4) : (portsStopped s).portState p = 0 ∧ (portsStopped s).peOff p := by
  refine forEach_range_each (Q := fun p u => p < 4 → u.portState p = 0 ∧ u.peOff p) (fun u p hp _ => ?_) (fun u p q hq hp h hq4 => ?_)
    (itinLeaveL0 s) p hp hp
  · exact ⟨portDisable_state _, (portDisable_frame hp _).2.2 (peDrain_frame hp u).2.2⟩
  · obtain ⟨hw, hpe⟩ := portStop_frame hp u
    obtain ⟨hst, hoff⟩ := h hq4
    refine ⟨(portState_of_within hq4 hw ?_).trans hst, ?_⟩
    · simp only [List.mem_cons, List.not_mem_nil, or_false]
      omega
    · unfold State.peOff
      rwa [hpe q hq]

/-- What stops FCLK: after the ports, the sides of the PEs and of the daisy devices, the daisy link and the outputs. -/
theorem down01_eq (s : State) : ∃ u : State, u.within (portsStopped s) [9, 13, 14, 15, 16, 0x101, 0x102] [.se, .mb, .nvs, .out, .dz, .syn] ∧
    ∃ v : State, v.within (fclkStop u) [11] [] ∧ down01 s = rampDown { v with fab := { v.fab with keep := true, gateQ := [] } } := by
  unfold down01
  extract_lets s1 s2 s3 s4 _ s5
  have h2 : s2.within s1 [9, 13, 14, 15, 16, 0x101, 0x102] [.se, .mb, .nvs, .out, .dz, .syn] :=
    (State.within.refl.setFlag).forEach (fun p _ u => (sideReset_within (7 + p) u).mono)
  have h3 : s3.within s1 [9, 13, 14, 15, 16, 0x101, 0x102] [.se, .mb, .nvs, .out, .dz, .syn] := by
    have hz : (dzOff 0 s2).within s1 [9, 13, 14, 15, 16, 0x101, 0x102] [.se, .mb, .nvs, .out, .dz, .syn] := (dzOff_within 0 s2).after h2
    exact .ite (fun _ => hz) (fun _ => hz.forEach (fun k _ u => (sideReset_within (16 + k) u).mono))
  exact ⟨outsToL1 s3, (outsToL1_within s3).after h3, s4, dmaOff_within _, rfl⟩

/-- What the start of the step to L1 leaves (R484). -/
theorem down01_spec (s : State) : (down01 s).sameRungRegs s ∧ (down01 s).fclkOn = false ∧ (down01 s).apllState 0 = 0 ∧
    (down01 s).fab.keep = true ∧ (∀ p, p < 4 → (down01 s).portState p = 0 ∧ (down01 s).peOff p) ∧
    (down01 s).fld F.RATION_LEVEL_TARGET_MA = s.l1Level := by
  obtain ⟨u, hu, v, hv, heq⟩ := down01_eq s
  rw [heq]
  clear heq
  have hst : v.within (portsStopped s) [6, 9, 11, 13, 14, 15, 16, 0x101, 0x102] [.se, .mb, .nvs, .out, .dz, .syn] :=
    hv.after ((fclkStop_within u).after hu.mono)
  have hrun : v.flag F.FAB_STATUS_FCLK_RUN = false := by
    rw [hv.flag, (fclkStop_outs u).flag, State.flag_setFlag_apart _ _ (by decide), State.flag_setFlag _ _ _ (by decide) rfl]
  have hapll : v.apllState 0 = 0 := by
    unfold State.apllState
    rw [hv.fld, (fclkStop_outs u).fld, State.fld_setFlag_apart _ _ (by decide), State.fld_setFlag_apart _ _ (by decide),
      State.fld_setFld _ _ _ (by decide)]
    rfl
  generalize hw : ({ v with fab := { v.fab with keep := true, gateQ := [] } } : State) = w
  have hwv : w.within v [] [.fab] := hw ▸ .update .refl rfl rfl
  have hpe : ∀ p, w.pe_ p = v.pe_ p := fun p => by rw [← hw]; rfl
  have hkeep : w.fab.keep = true := by rw [← hw]
  have hr := rampDown_within w
  have hall : (rampDown w).within s [1, 6, 9, 11, 13, 14, 15, 16, 0x101, 0x102, 0x200, 0x201, 0x202, 0x203]
      [.fab, .eng, .prt, .out, .itin, .se, .mb, .nvs, .dz, .syn, .rat] :=
    hr.after (hwv.after (hst.after (portsStopped_within s).mono))
  refine ⟨hall.rungRegs, ?_, ?_, ?_, fun p hp => ?_, ?_⟩
  · unfold State.fclkOn
    rw [hr.flag, hwv.flag, hrun, Bool.and_false]
  · unfold State.apllState
    rw [hr.fld, hwv.fld]
    exact hapll
  · rw [hr.get State.fab (fun _ => rfl), hkeep]
  · obtain ⟨hport, hoff⟩ := portsStopped_off s hp
    refine ⟨?_, ?_⟩
    · have hps : (rampDown w).portState p = (portsStopped s).portState p := by
        refine portState_of_within hp (B := [1, 6, 9, 11, 13, 14, 15, 16, 0x101, 0x102])
          (P := [.fab, .se, .mb, .nvs, .out, .dz, .syn, .rat]) (hr.after (hwv.after hst.mono)) ?_
        simp only [List.mem_cons, List.not_mem_nil, or_false]
        omega
      rw [hps, hport]
    · unfold State.peOff
      rw [hr.pe, hpe, hst.pe]
      exact hoff
  · have hl : w.l1Level = s.l1Level := by
      unfold State.l1Level
      rw [hwv.rv, hst.rv, (portsStopped_within s).rv]
    rw [rampDown_target, hl]

/-- The step to L1 ends once the level stands (R43). -/
def rampEnd (s : State) : State := if s.lad.step = some 1 ∧ s.rung = 0 ∧ s.levelled = true then arrive 1 s else s

theorem rampEnd_within (s : State) : (rampEnd s).within s [0x100] [.lad] := .ite (fun _ => arrive_within 1 s) (fun _ => .refl)

theorem exec_stepL0ToL1 (s : State) : exec .stepL0ToL1 s = .next (settle (rampEnd (if s.mayStep 0 1 then setStep (some 1) (down01 s) else s))) := rfl

theorem stepL0ToL1_started {s : State} (hm : s.moving = true) (h : s.mayStep 0 1 = true) : ∃ t, exec .stepL0ToL1 s = .next t ∧ t.fclkOn = false ∧
    t.apllState 0 = 0 ∧ t.fab.keep = true ∧ (∀ p, p < 4 → t.portState p = 0 ∧ (t.pe_ p).runs = false ∧ (t.pe_ p).insts = []) ∧
    t.fld F.RATION_LEVEL_TARGET_MA = s.l1Level ∧ (t.levelled = false → t.rung = 0 ∧ t.lad.step = some 1) ∧ (t.levelled = true → t.arrived s 1) := by
  obtain ⟨hrung, hf, ha, hk, hp, ht⟩ := down01_spec s
  obtain ⟨-, -, hr⟩ := State.mayStep_spec h
  refine ⟨_, exec_stepL0ToL1 s, ?_⟩
  rw [if_pos h]
  have hu : (setStep (some 1) (down01 s)).within (down01 s) [] [.lad] := setStep_within ..
  have hs : (setStep (some 1) (down01 s)).lad.step = some 1 := rfl
  generalize setStep (some 1) (down01 s) = u at hu hs
  have hur : u.sameRungRegs s := hu.rungRegs.trans hrung
  have hw : (settle (rampEnd u)).within (down01 s) [0x100] [.lad, .out, .irq] :=
    (settle_within _).after ((rampEnd_within u).after hu.mono)
  have hl : (settle (rampEnd u)).levelled = u.levelled :=
    ((settle_within _).after (rampEnd_within u).mono : State.within _ u [0x100] [.lad, .out, .irq]).levelled
  refine ⟨hw.fclkOn.trans hf, ?_, ?_, fun p hp4 => ?_, hw.fld.trans ht, fun hlv => ?_, fun hlv => ?_⟩
  · exact (hw.fld (f := F.APLL_STATUS_STATE 0)).trans ha
  · rw [hw.get State.fab (fun _ => rfl), hk]
  · obtain ⟨hport, hoff⟩ := hp p hp4
    refine ⟨(portState_of_within hp4 hw ?_).trans hport, ?_⟩
    · simp only [List.mem_cons, List.not_mem_nil, or_false]
      omega
    · rw [hw.pe]
      exact hoff
  · have hstay : rampEnd u = u := if_neg (fun ⟨_, _, hc⟩ => by rw [hl, hc] at hlv; exact Bool.noConfusion hlv)
    rw [hstay]
    exact ⟨(State.rung_settle u).trans (hur.rung.trans hr), by rw [settle_lad, hs]⟩
  · have hend : rampEnd u = arrive 1 u := if_pos ⟨hs, hur.rung.trans hr, hl.symm.trans hlv⟩
    rw [hend]
    exact (State.arrived_of (by decide) hm hur (fun _ _ _ => rfl) rfl).settle

theorem stepL0ToL1_ended {s : State} (hm : s.moving = true) (hs : s.lad.step = some 1) (hr : s.rung = 0) (hl : s.levelled = true) :
    ∃ t, exec .stepL0ToL1 s = .next t ∧ t.arrived s 1 := by
  refine ⟨_, exec_stepL0ToL1 s, ?_⟩
  have hend : rampEnd s = arrive 1 s := if_pos ⟨hs, hr, hl⟩
  rw [State.mayStep_of_step hs, if_neg (by decide), hend]
  exact (State.arrived_of (by decide) hm (fun _ _ _ => rfl) (fun _ _ _ => rfl) rfl).settle

/-! ### L1 to L2 -/

/-- The fabric island is lost, and SCLK and the ration contract are those of L2. -/
def fabricOff (s : State) : State :=
  ((sideReset 6 (fabricLost (apllOff 3 (apllOff 2 (apllOff 1 s))))).setFld F.SE_CLK_SE 25).setFlag F.RATION_STATUS_SUSPENDED true

theorem fabricOff_within_lost (s : State) :
    (fabricOff s).within (fabricLost (apllOff 3 (apllOff 2 (apllOff 1 s)))) [1, 10, 13, 16] [.se, .mb, .nvs, .out] :=
  (((sideReset_within 6 _).mono).setFld).setFlag

theorem fabricOff_within (s : State) :
    (fabricOff s).within s [1, 6, 9, 10, 13, 16, 0x101, 0x102] [.syn, .eng, .fab, .svc, .tm, .se, .mb, .nvs, .out] := by
  have h : (apllOff 3 (apllOff 2 (apllOff 1 s))).within s [6, 9, 0x101, 0x102] [.syn] :=
    (apllOff_within (by decide) _).after ((apllOff_within (by decide) _).after (apllOff_within (by decide) s))
  exact (fabricOff_within_lost s).after ((fabricLost_within _).after h.mono)

theorem fabricOff_shows (s : State) : (fabricOff s).fld F.SE_CLK_SE = 25 ∧ (fabricOff s).flag F.RATION_STATUS_SUSPENDED = true ∧
    (fabricOff s).fab.mem = [] ∧ ∀ p, p < 4 → (fabricOff s).eng_ p = .reset := by
  obtain ⟨hmem, heng⟩ := fabricLost_gone (apllOff 3 (apllOff 2 (apllOff 1 s)))
  have h := fabricOff_within_lost s
  refine ⟨?_, State.flag_setFlag _ _ _ (by decide) rfl, (h.get (fun s => s.fab.mem) (fun _ => rfl)).trans hmem,
    fun p hp => (h.get (fun s => s.eng_ p) (fun _ => rfl)).trans (heng p hp)⟩
  unfold fabricOff
  rw [State.fld_setFlag_apart _ _ (by decide), State.fld_setFld _ _ _ (by decide)]
  rfl

theorem down12_within (s : State) : (down12 s).within (arrive 2 (fabricOff s)) [2, 7, 11, 0x101] [.tiu] := by
  have h : (gnssRest (arrive 2 (fabricOff s))).within (arrive 2 (fabricOff s)) [2, 7, 11, 0x101] [.tiu] := (gnssRest_within _).mono
  exact (dmaOff_within _).after (h.forEach (fun n _ u => .ite (fun _ => .refl) (fun _ => (chDiscard_within n u).mono)))

/-- What the step to L2 leaves (R484, R487). -/
theorem down12_spec {s : State} (hm : s.moving = true) : (down12 s).arrived s 2 ∧ (down12 s).fab.mem = [] ∧
    (∀ p, p < 4 → (down12 s).eng_ p = .reset) ∧ (down12 s).fld F.SE_CLK_SE = 25 ∧ (down12 s).flag F.RATION_STATUS_SUSPENDED = true ∧
    (down12 s).itin.store = s.itin.store := by
  obtain ⟨hclk, hsus, hmem, heng⟩ := fabricOff_shows s
  have h := down12_within s
  have ho : (down12 s).within (fabricOff s) [2, 7, 11, 0x100, 0x101] [.tiu, .lad] := h.after ((arrive_within 2 _).mono)
  refine ⟨State.arrived_of (by decide) hm (fabricOff_within s).rungRegs h.rungRegs (h.get State.lad (fun _ => rfl)),
    (ho.get (fun s => s.fab.mem) (fun _ => rfl)).trans hmem, fun p hp => (ho.get (fun s => s.eng_ p) (fun _ => rfl)).trans (heng p hp),
    ho.fld.trans hclk, ho.flag.trans hsus, ?_⟩
  rw [ho.get State.itin (fun _ => rfl), (fabricOff_within s).get State.itin (fun _ => rfl)]

theorem exec_stepL1ToL2 {s : State} (h : s.mayStep 1 2 = true) : exec .stepL1ToL2 s = .next (settle (down12 s)) := by
  have hx : exec .stepL1ToL2 s = fin (if s.mayStep 1 2 then down12 s else s) := rfl
  rw [hx, if_pos h]
  rfl

theorem stepL1ToL2_made {s : State} (hm : s.moving = true) (h : s.mayStep 1 2 = true) : ∃ t, exec .stepL1ToL2 s = .next t ∧ t.arrived s 2 ∧
    t.fab.mem = [] ∧ (∀ p, p < 4 → t.eng_ p = .reset) ∧ t.fld F.SE_CLK_SE = 25 ∧ t.flag F.RATION_STATUS_SUSPENDED = true ∧
    t.itin.store = s.itin.store := by
  obtain ⟨ha, hmem, heng, hclk, hsus, hst⟩ := down12_spec hm
  refine ⟨_, exec_stepL1ToL2 h, ha.settle, ?_, fun p hp => ?_, (settle_fld _ _).trans hclk, (settle_flag _ _).trans hsus, ?_⟩
  · rw [settle_fab, hmem]
  · rw [← heng p hp]
    exact (settle_within _).get (fun s => s.eng_ p) (fun _ => rfl)
  · rw [settle_itin, hst]

/-! ### L2 to L3 -/

/-- The store has drained, and the supervisor island, the receiver and the engines are off. -/
def enginesOff (s : State) : State := teLost (discardAll (rxOff (supvLost (nvsSettle s))))

theorem supvOff_within (s : State) : (discardAll (rxOff (supvLost (nvsSettle s)))).within (supvLost (nvsSettle s)) [7, 0x101] [.gnss, .bus] :=
  (discardAll_within _).after ((rxOff_within _).mono)

theorem enginesOff_within (s : State) : (enginesOff s).within s [1, 3, 4, 7, 9, 12, 13, 16, 0x101]
    [.itin, .eng, .steer, .dpll, .tm, .flt, .gnss, .bus, .sec, .se, .mb, .nvs, .out] :=
  (teLost_within _).after ((supvOff_within s).after ((supvLost_within _).after ((nvsSettle_within s).mono)))

/-- Nothing waits in the store. -/
def State.nvsDrained (s : State) : Prop := s.nvs.buf = [] ∧ s.nvs.jobs = [] ∧ s.nvs.log = none

theorem State.nvsDrained.opened {s t : State} (h : s.nvsDrained) (ht : ∃ o, t.nvs = { s.nvs with opened := o }) : t.nvsDrained := by
  obtain ⟨o, ho⟩ := ht
  unfold State.nvsDrained
  rw [ho]
  exact h

theorem State.nvsDrained.of_eq {s t : State} (h : s.nvsDrained) (ht : t.nvs = s.nvs) : t.nvsDrained := h.opened ⟨s.nvs.opened, ht⟩

theorem enginesOff_spec (s : State) : (enginesOff s).nvsDrained ∧ (∀ e, 4 ≤ e → e ≤ 6 → (enginesOff s).eng_ e = .reset) ∧
    (enginesOff s).itin.store = [] ∧ (enginesOff s).reg Reg.ITIN_STATUS = 0 := by
  have hs := supvOff_within s
  obtain ⟨h4, h5, h6, hst, hit⟩ := teLost_gone (discardAll (rxOff (supvLost (nvsSettle s))))
  have hd : (supvLost (nvsSettle s)).nvsDrained := State.nvsDrained.opened (s := nvsSettle s) (nvsSettle_drained s) (supvLost_nvs _)
  refine ⟨(hd.of_eq (hs.get State.nvs (fun _ => rfl))).of_eq ((teLost_within _).get State.nvs (fun _ => rfl)), fun e he he' => ?_, hst, hit⟩
  obtain rfl | rfl | rfl : e = 4 ∨ e = 5 ∨ e = 6 := by omega
  · exact h4
  · exact h5
  · exact h6.trans ((hs.get (fun s => s.eng_ 6) (fun _ => rfl)).trans (supvLost_eng _))

/-- The host island goes to TBCLK. -/
def hostToTbclk (s : State) : State := ({ s with irq := { s.irq with refClk := false } } : State).setFlag F.MTC_STATUS_SLOW true

theorem hostToTbclk_within (s : State) : (hostToTbclk s).within s [5] [.irq] :=
  State.within.setFlag (State.within.update (t := s) .refl rfl rfl)

theorem hostToTbclk_slow (s : State) : (hostToTbclk s).flag F.MTC_STATUS_SLOW = true := State.flag_setFlag _ _ _ (by decide) rfl

/-- All that the step to L3 turns off, with the host island on TBCLK. -/
def hostSlow (s : State) : State :=
  hostToTbclk (endpointDown false (rxOff (supvLost (nvsSettle s))).irq.perstLow (sideReset 5 (enginesOff s)))

theorem down23_eq (s : State) : down23 s = wakeAtOnce (arrive 3 (hostSlow s)) := rfl

theorem endpointDown_linkL0 (perst : Bool) (s : State) : (hostToTbclk (endpointDown false perst s)).irq.linkL0 = false := rfl

theorem hostSlow_within_off (s : State) : (hostSlow s).within (enginesOff s) [5, 11, 13, 16] [.dma, .flt, .se, .mb, .nvs, .out, .irq] :=
  (hostToTbclk_within _).after ((endpointDown_within ..).after ((sideReset_within 5 _).mono))

theorem hostSlow_spec (s : State) : (hostSlow s).nvsDrained ∧ (hostSlow s).irq.linkL0 = false ∧ (hostSlow s).flag F.MTC_STATUS_SLOW = true := by
  obtain ⟨hd, -, -, -⟩ := enginesOff_spec s
  have h2 := (hd.opened (sideReset_nvs 5 _)).opened (endpointDown_nvs false (rxOff (supvLost (nvsSettle s))).irq.perstLow _)
  exact ⟨h2.of_eq ((hostToTbclk_within _).get State.nvs (fun _ => rfl)), endpointDown_linkL0 .., hostToTbclk_slow _⟩

theorem down23_within (s : State) : (down23 s).within (hostSlow s) [0x100] [.lad] := by
  rw [down23_eq]
  exact (wakeAtOnce_within _).trans (arrive_within 3 _)

theorem exec_stepL2ToL3 (s : State) : exec .stepL2ToL3 s = .next (settle (if s.mayStep 2 3 && !s.supvNeeded then down23 s else s)) := rfl

theorem stepL2ToL3_refused {s : State} (hn : s.supvNeeded = true) : ∃ t, exec .stepL2ToL3 s = .next t ∧ t.sameBut s := by
  refine ⟨_, exec_stepL2ToL3 s, ?_⟩
  rw [hn, if_neg (by simp)]
  exact settle_sameBut s

theorem stepL2ToL3_made {s : State} (hm : s.moving = true) (h : s.mayStep 2 3 = true) (hn : s.supvNeeded = false) :
    ∃ t, exec .stepL2ToL3 s = .next t ∧ t.landed s 3 ∧ t.nvs.buf = [] ∧ t.nvs.jobs = [] ∧ t.nvs.log = none ∧
      (∀ e, 4 ≤ e → e ≤ 6 → t.eng_ e = .reset) ∧ t.itin.store = [] ∧ t.bank 0 = 0 ∧ t.bank 1 = 0 ∧ t.irq.linkL0 = false ∧
      t.flag F.MTC_STATUS_SLOW = true := by
  refine ⟨_, exec_stepL2ToL3 s, ?_⟩
  rw [h, hn, if_pos (by rfl)]
  obtain ⟨-, heng, hst, hit⟩ := enginesOff_spec s
  obtain ⟨hd, hl, hslow⟩ := hostSlow_spec s
  have hall : (hostSlow s).within s [1, 3, 4, 5, 7, 9, 11, 12, 13, 16, 0x101]
      [.itin, .eng, .steer, .dpll, .tm, .flt, .gnss, .bus, .sec, .se, .mb, .nvs, .out, .dma, .irq] :=
    (hostSlow_within_off s).after ((enginesOff_within s).mono)
  have hs : (settle (down23 s)).within (hostSlow s) [0x100] [.lad, .out, .irq] := (settle_within _).after ((down23_within s).mono)
  have hoff := hs.after (B := [0x100, 5, 11, 13, 16]) (P := [.lad, .dma, .flt, .se, .mb, .nvs, .out, .irq]) ((hostSlow_within_off s).mono)
  have hbank : ∀ b, (settle (down23 s)).bank b = 0 := fun b => by
    unfold State.bank State.fld State.rv
    rw [hoff.reg Reg.ITIN_STATUS (by decide), hit]
    simp [Fld.of]
  obtain ⟨hbuf, hjobs, hlog⟩ := hd.of_eq (hs.get State.nvs (fun _ => rfl))
  refine ⟨?_, hbuf, hjobs, hlog, fun e he he' => ?_, ?_, hbank 0, hbank 1, ?_, hs.flag.trans hslow⟩
  · rw [down23_eq]
    exact (wakeAtOnce_landed (by decide) hm hall.rungRegs (hall.get State.now (fun _ => rfl))).settle
  · exact (hoff.get (fun s => s.eng_ e) (fun _ => rfl)).trans (heng e he he')
  · rw [hoff.get State.itin (fun _ => rfl), hst]
  · rw [settle_irq_linkL0, (down23_within s).get State.irq (fun _ => rfl), hl]

/-! ### L3 to L4 -/

theorem hostParts_within (s : State) (l : LadderPart) (m : TimePart) (b : BusPart) :
    ({ s with lad := l, tm := m, bus := b } : State).within s [] [.lad, .tm, .bus] := .update .refl rfl rfl

/-- What the step to L4 turns off, with AO_TIME latched (R163, R484). -/
def hostOff (s : State) : State :=
  let s1 := mbLost s
  { s1 with
    lad := { s1.lad with aoTicks := s1.aoTicks }
    tm := { s1.tm with pin := [] }
    bus := { s1.bus with guard := [], snap := [], stage := [], posted := [] } }

theorem down34_eq (s : State) : down34 s = wakeAtOnce (arrive 4 (hostOff s)) := rfl

theorem hostOff_within (s : State) : (hostOff s).within s [16, 0x101] [.mb, .lad, .tm, .bus] :=
  (hostParts_within ..).after ((mbLost_within s).mono)

theorem hostOff_eq (s : State) : ∃ l : LadderPart, l.aoTicks = (mbLost s).aoTicks ∧ ∃ m g p,
    hostOff s = { mbLost s with lad := l, tm := m, bus := { (mbLost s).bus with guard := [], snap := g, stage := p, posted := [] } } :=
  ⟨_, rfl, _, _, _, rfl⟩

theorem hostOff_spec (s : State) : (hostOff s).mb = [] ∧ (hostOff s).lad.aoTicks = s.aoTicks ∧ (hostOff s).bus.guard = [] ∧
    (hostOff s).bus.posted = [] := by
  have h := mbLost_within s
  have hmb := mbLost_mb s
  have hao : (mbLost s).aoTicks = s.aoTicks := by
    unfold State.aoTicks
    rw [h.get State.now (fun _ => rfl)]
  obtain ⟨l, hl, m, g, p, heq⟩ := hostOff_eq s
  generalize mbLost s = u at hmb hao hl heq
  rw [heq]
  exact ⟨hmb, hl.trans hao, rfl, rfl⟩

theorem setStep_aoTicks (o : Option Nat) (s : State) : (setStep o s).lad.aoTicks = s.lad.aoTicks := rfl

theorem arrive_aoTicks (b : Nat) (s : State) : (arrive b s).lad.aoTicks = s.lad.aoTicks := by
  unfold arrive
  extract_lets s1
  have h1 : s1.lad.aoTicks = s.lad.aoTicks := setStep_aoTicks ..
  clear_value s1
  split
  · rw [State.setRv_lad, State.bump_lad, State.setFlag_lad, h1]
  · exact h1

theorem moveTo_aoTicks (r cause : Nat) (s : State) : (moveTo r cause s).lad.aoTicks = s.lad.aoTicks := by
  unfold moveTo
  extract_lets _ s1 s2
  have h1 : s1.lad.aoTicks = s.lad.aoTicks := by
    simp only [s1]
    split
    · rfl
    · rfl
  clear_value s1
  rw [State.setFlag_lad, State.setFlag_lad, State.setFld_lad, State.setFld_lad, h1]

theorem wakeAtOnce_aoTicks (s : State) : (wakeAtOnce s).lad.aoTicks = s.lad.aoTicks := by
  unfold wakeAtOnce wake
  split
  · split
    · rfl
    · exact moveTo_aoTicks ..
  · rfl

/-- The step to L4 ends once no heater current is left (R486). -/
def heaterEnd (s : State) : State := if s.lad.step = some 4 ∧ s.rung = 3 ∧ s.rat.htrPa = 0 then down34 s else s

theorem exec_stepL3ToL4 (s : State) :
    exec .stepL3ToL4 s = .next (settle (heaterEnd (if s.mayStep 3 4 then ovenOff (setStep (some 4) s) else s))) := rfl

theorem ovenOff_started (s : State) : (ovenOff (setStep (some 4) s)).within s [2] [.tb, .lad] ∧
    (ovenOff (setStep (some 4) s)).lad = { s.lad with step := some 4 } :=
  ⟨(ovenOff_within _).after ((setStep_within ..).mono), (ovenOff_within _).get State.lad (fun _ => rfl)⟩

theorem stepL3ToL4_started {s : State} (h : s.mayStep 3 4 = true) (hh : s.rat.htrPa ≠ 0) : ∃ t, exec .stepL3ToL4 s = .next t ∧ t.rung = 3 ∧
    t.lad = { s.lad with step := some 4 } ∧ t.tb.demandMw = 0 ∧ (s.tbExt = false → t.flag F.TB_STATUS_TB_WARM = false) ∧ t.rat = s.rat := by
  obtain ⟨-, -, hr⟩ := State.mayStep_spec h
  obtain ⟨hw, hl⟩ := ovenOff_started s
  obtain ⟨hd, hwarm⟩ := ovenOff_shows (setStep (some 4) s)
  have hrat : (ovenOff (setStep (some 4) s)).rat = s.rat := hw.get State.rat (fun _ => rfl)
  refine ⟨_, exec_stepL3ToL4 s, ?_⟩
  rw [if_pos h]
  have hstay : heaterEnd (ovenOff (setStep (some 4) s)) = ovenOff (setStep (some 4) s) := if_neg (fun ⟨_, _, h0⟩ => hh (hrat ▸ h0))
  rw [hstay]
  refine ⟨(State.rung_settle _).trans (hw.rungRegs.rung.trans hr), by rw [settle_lad, hl], by rw [settle_tb, hd], fun he => ?_,
    by rw [settle_rat, hrat]⟩
  exact (settle_flag _ _).trans (hwarm he)

theorem down34_within (s : State) : (down34 s).within (hostOff s) [0x100] [.lad] := by
  rw [down34_eq]
  exact (wakeAtOnce_within _).trans (arrive_within 4 _)

theorem stepL3ToL4_ended {s : State} (hm : s.moving = true) (h : s.mayStep 3 4 = true ∨ (s.lad.step = some 4 ∧ s.rung = 3))
    (hh : s.rat.htrPa = 0) : ∃ t, exec .stepL3ToL4 s = .next t ∧ t.landed s 4 ∧ t.mb = [] ∧ t.lad.aoTicks = s.aoTicks ∧ t.bus.guard = [] ∧
      t.bus.posted = [] := by
  have key : ∃ u : State, (if s.mayStep 3 4 then ovenOff (setStep (some 4) s) else s) = u ∧ u.within s [2] [.tb, .lad] ∧
      u.lad.step = some 4 ∧ u.rung = 3 := by
    refine ⟨_, rfl, ?_⟩
    rcases h with h | ⟨h4, h3⟩
    · obtain ⟨-, -, hr⟩ := State.mayStep_spec h
      obtain ⟨hw, hl⟩ := ovenOff_started s
      rw [if_pos h]
      exact ⟨hw, by rw [hl], hw.rungRegs.rung.trans hr⟩
    · rw [State.mayStep_of_step h4, if_neg (by decide)]
      exact ⟨.refl, h4, h3⟩
  obtain ⟨u, hu, hw, h4, h3⟩ := key
  refine ⟨_, exec_stepL3ToL4 s, ?_⟩
  have hend : heaterEnd u = down34 u := if_pos ⟨h4, h3, (congrArg RationPart.htrPa (hw.get State.rat (fun _ => rfl))).trans hh⟩
  rw [hu, hend]
  have hall : (hostOff u).within s [2, 16, 0x101] [.tb, .lad, .mb, .tm, .bus] := (hostOff_within u).after (hw.mono)
  have hs : (settle (down34 u)).within (hostOff u) [0x100] [.lad, .out, .irq] := (settle_within _).after ((down34_within u).mono)
  obtain ⟨hmb, hao, hg, hp⟩ := hostOff_spec u
  have haou : u.aoTicks = s.aoTicks := by
    unfold State.aoTicks
    rw [hw.get State.now (fun _ => rfl)]
  refine ⟨?_, ?_, ?_, ?_, ?_⟩
  · rw [down34_eq]
    exact (wakeAtOnce_landed (by decide) hm hall.rungRegs (hall.get State.now (fun _ => rfl))).settle
  · rw [hs.get State.mb (fun _ => rfl), hmb]
  · rw [settle_lad, down34_eq, wakeAtOnce_aoTicks, arrive_aoTicks, hao, haou]
  · rw [hs.get State.bus (fun _ => rfl), hg]
  · rw [hs.get State.bus (fun _ => rfl), hp]

end Sys2Proof.Machine
end

section
/-! The steps up the power ladder (R486, R489), and the obligation that states the eight steps. -/

namespace Sys2Proof.Machine

-- The default arguments of the frame lemmas wait for the proofs before them: a thread each, where proofs are elaborated side by side.
set_option Elab.async false

/-- An arrival whose registers of the ladder are those of another state of the same target and count. -/
theorem State.arrived.of_start {s u t : State} {b : Nat} (h : t.arrived u b) (ht : u.target = s.target)
    (he : u.reg Reg.RUNG_EVT = s.reg Reg.RUNG_EVT) : t.arrived s b := by
  unfold State.arrived
  rw [← ht, ← he]
  exact h

/-! ### L4 to L3 -/

/-- The oven shows cold. -/
def ovenCold (s : State) : State := (s.tbFlag F.TB_STATUS_TB_WARM false).setFlag F.TB_STATUS_AT_SETPOINT false

theorem ovenCold_within (s : State) : (ovenCold s).within s [2] [] := (tbFlag_within (by decide) false s).setFlag

theorem ovenCold_warm (s : State) : (ovenCold s).flag F.TB_STATUS_TB_WARM = false :=
  (State.flag_setFlag_apart _ _ (by decide)).trans (tbFlag_warm false s)

theorem exec_stepL4ToL3 {s : State} (h : s.mayStep 4 3 = true) : exec .stepL4ToL3 s = .next (settle (timeRebuild (arrive 3 (ovenCold s)))) := by
  have hx : exec .stepL4ToL3 s = fin (if s.mayStep 4 3 then up43 s else s) := rfl
  rw [hx, if_pos h]
  rfl

theorem stepL4ToL3_made {s : State} (hm : s.moving = true) (h : s.mayStep 4 3 = true) : ∃ t, exec .stepL4ToL3 s = .next t ∧ t.arrived s 3 ∧
    t.flag F.TB_STATUS_TB_WARM = false ∧ t.flag F.MTC_STATUS_RESTORED = true := by
  refine ⟨_, exec_stepL4ToL3 h, ?_⟩
  have ht := timeRebuild_within (arrive 3 (ovenCold s))
  have ha := arrive_within 3 (ovenCold s)
  refine ⟨?_, ?_, (settle_flag _ _).trans (timeRebuild_restored _)⟩
  · exact (State.arrived_of (by decide) hm (ovenCold_within s).rungRegs ht.rungRegs (ht.get State.lad (fun _ => rfl))).settle
  · rw [settle_flag, ht.flag, ha.flag, ovenCold_warm]

/-! ### L3 to L2 -/

/-- The supervisor island as it powers up, before a whistle halts its engine. -/
def romTest (s : State) : State :=
  let s0 := (((nvsPowerUp s).setFlag F.SE_STATUS_TRAP_ACTIVE false).setFlag F.SE_STATUS_DOUBLE_TRAP false).setFld F.SE_STATUS_HALT_CAUSE 0
  let s2 := (((seTo 1 s0).setFlag F.SEC_STATUS_ST_RUNNING true).setFlag F.SELFTEST_DONE false).setFlag F.SELFTEST_PASS false
  showApproved { s2 with sec := { s2.sec with stOk := false, dead := false } }

theorem supvUp_eq (s : State) : supvUp s = if (romTest s).wHeld 6 0 then seHalt (romTest s) else romTest s := rfl

theorem setSec_within (s : State) (v : SecPart) : ({ s with sec := v } : State).within s [] [.sec] := .update .refl rfl rfl

theorem romTest_within (s : State) : (romTest s).within s [10, 12, 13] [.nvs, .sec] := by
  unfold romTest
  extract_lets s0 s2
  have h0 : s0.within s [10, 12, 13] [.nvs, .sec] := (((nvsPowerUp_within s).mono.setFlag).setFlag).setFld
  have h2 : s2.within s [10, 12, 13] [.nvs, .sec] := ((((seTo_within 1 s0).after h0).setFlag).setFlag).setFlag
  exact (showApproved_within _).after ((setSec_within s2 _).after h2)

/-- ROM_TEST runs, with the recall and the self-tests (R382, R441, R464). -/
theorem romTest_spec (s : State) : (romTest s).seState = 1 ∧ (romTest s).flag F.NVS_STATUS_RECALL = true ∧
    (romTest s).flag F.SEC_STATUS_ST_RUNNING = true ∧ (romTest s).flag F.SELFTEST_DONE = false := by
  unfold romTest
  extract_lets s0 s2
  have h0 : s0.within (nvsPowerUp s) [10] [] := ((State.within.refl.setFlag).setFlag).setFld
  have hs : (seTo 1 s0).within s0 [10] [] := seTo_within 1 s0
  have h2 : s2.within (seTo 1 s0) [13] [] := ((State.within.refl.setFlag).setFlag).setFlag
  have hrun : s2.flag F.SEC_STATUS_ST_RUNNING = true := by
    refine (State.flag_setFlag_apart _ _ (by decide)).trans ((State.flag_setFlag_apart _ _ (by decide)).trans ?_)
    exact State.flag_setFlag _ _ _ (by decide) rfl
  have hdone : s2.flag F.SELFTEST_DONE = false := by
    refine (State.flag_setFlag_apart _ _ (by decide)).trans ?_
    exact State.flag_setFlag _ _ _ (by decide) rfl
  have hst : s2.seState = 1 := (h2.fld (f := F.SE_STATUS_STATE)).trans (seTo_state (by decide) s0)
  have hrec : s2.flag F.NVS_STATUS_RECALL = true := by rw [h2.flag, hs.flag, h0.flag, nvsPowerUp_recall]
  have hsec := setSec_within s2 { s2.sec with stOk := false, dead := false }
  clear_value s2
  generalize ({ s2 with sec := { s2.sec with stOk := false, dead := false } } : State) = s3 at hsec
  have ha := showApproved_within s3
  refine ⟨?_, ?_, ?_, ?_⟩
  · exact (ha.fld (f := F.SE_STATUS_STATE)).trans ((hsec.fld (f := F.SE_STATUS_STATE)).trans hst)
  · rw [ha.flag, hsec.flag, hrec]
  · exact (State.flag_setFlag_apart _ _ (by decide)).trans (hsec.flag.trans hrun)
  · exact (State.flag_of_reg (f := F.SELFTEST_DONE) (State.reg_setFlag_ne _ _ _ (by decide))).trans (hsec.flag.trans hdone)

theorem supvUp_within_romTest (s : State) : (supvUp s).within (romTest s) [10, 0x101] [] := by
  rw [supvUp_eq]
  exact .ite (fun _ => seHalt_within _) (fun _ => .refl)

theorem seHalt_state (s : State) : (seHalt s).seState = 5 := seTo_state (by decide) _

theorem supvUp_state (s : State) : (supvUp s).seState = if s.wHeld 6 0 then 5 else 1 := by
  obtain ⟨hst, -, -, -⟩ := romTest_spec s
  rw [supvUp_eq, (romTest_within s).wHeld]
  split
  · exact seHalt_state _
  · exact hst

/-- The islands of L2 run at SCLK, with TCLK restarted. -/
def islandsOn (s : State) : State :=
  tclkRestart (((setStep (some 2) (s.setFld F.RUNG_STATUS_RUNG 2)).setFlag F.MTC_STATUS_SLOW false).setFld F.SE_CLK_SE 25)

theorem up32_eq (s : State) : up32 s = supvUp (islandsOn s) := rfl

theorem islandsOn_within (s : State) : (islandsOn s).within s [2, 5, 10, 0x100] [.tiu, .lad] := by
  have h : (setStep (some 2) (s.setFld F.RUNG_STATUS_RUNG 2)).within s [2, 5, 10, 0x100] [.tiu, .lad] :=
    (setStep_within ..).after (.setFld .refl)
  exact (tclkRestart_within _).after ((h.setFlag).setFld)

theorem islandsOn_spec (s : State) : (islandsOn s).rung = 2 ∧ (islandsOn s).lad.step = some 2 ∧ (islandsOn s).flag F.MTC_STATUS_SLOW = false := by
  have hr : (setStep (some 2) (s.setFld F.RUNG_STATUS_RUNG 2)).rung = 2 :=
    ((setStep_within (some 2) _).fld (f := F.RUNG_STATUS_RUNG)).trans (State.fld_setFld _ _ _ (by decide))
  have hs : (setStep (some 2) (s.setFld F.RUNG_STATUS_RUNG 2)).lad.step = some 2 := rfl
  unfold islandsOn
  generalize setStep (some 2) (s.setFld F.RUNG_STATUS_RUNG 2) = u at hr hs
  have ht := tclkRestart_within ((u.setFlag F.MTC_STATUS_SLOW false).setFld F.SE_CLK_SE 25)
  have h1 : ((u.setFlag F.MTC_STATUS_SLOW false).setFld F.SE_CLK_SE 25).within u [5, 10] [] := (State.within.refl.setFlag).setFld
  refine ⟨(ht.rungRegs.rung).trans (h1.rungRegs.rung.trans hr), ?_, ?_⟩
  · rw [ht.get State.lad (fun _ => rfl), State.setFld_lad, State.setFlag_lad, hs]
  · rw [ht.flag, State.flag_setFld_apart _ _ (by decide), State.flag_setFlag _ _ _ (by decide) rfl]

/-- The step to L2 ends once ROM_TEST and the self-tests have (R489). -/
def testsEnd (s : State) : State :=
  if s.lad.step = some 2 ∧ s.rung = 2 ∧ s.seState ≠ 1 ∧ s.flag F.SELFTEST_DONE = true then arrive 2 s else s

theorem exec_stepL3ToL2 (s : State) : exec .stepL3ToL2 s = .next (settle (testsEnd (if s.mayStep 3 2 then up32 s else s))) := rfl

theorem stepL3ToL2_started {s : State} (h : s.mayStep 3 2 = true) : ∃ t, exec .stepL3ToL2 s = .next t ∧ t.rung = 2 ∧ t.lad.step = some 2 ∧
    t.seState = (if s.wHeld 6 0 then 5 else 1) ∧ t.flag F.NVS_STATUS_RECALL = true ∧ t.flag F.SEC_STATUS_ST_RUNNING = true ∧
    t.flag F.MTC_STATUS_SLOW = false := by
  refine ⟨_, exec_stepL3ToL2 s, ?_⟩
  rw [if_pos h, up32_eq]
  obtain ⟨hr, hl, hslow⟩ := islandsOn_spec s
  obtain ⟨-, hrec, hrun, hdone⟩ := romTest_spec (islandsOn s)
  have hs := supvUp_within_romTest (islandsOn s)
  have hu : (supvUp (islandsOn s)).within (islandsOn s) [10, 12, 13, 0x101] [.nvs, .sec] := hs.after ((romTest_within _).mono)
  have hd : (supvUp (islandsOn s)).flag F.SELFTEST_DONE = false := hs.flag.trans hdone
  have hstay : testsEnd (supvUp (islandsOn s)) = supvUp (islandsOn s) := if_neg (fun ⟨_, _, _, hc⟩ => by
    rw [hd] at hc
    exact Bool.noConfusion hc)
  rw [hstay]
  refine ⟨(State.rung_settle _).trans (hu.rungRegs.rung.trans hr), ?_, (settle_fld _ F.SE_STATUS_STATE).trans ?_, ?_, ?_, ?_⟩
  · rw [settle_lad, hu.get State.lad (fun _ => rfl), hl]
  · rw [← (islandsOn_within s).wHeld]
    exact supvUp_state _
  · rw [settle_flag, hs.flag, hrec]
  · rw [settle_flag, hs.flag, hrun]
  · rw [settle_flag, hu.flag, hslow]

theorem stepL3ToL2_ended {s : State} (hm : s.moving = true) (hl : s.lad.step = some 2) (hr : s.rung = 2) (hs : s.seState ≠ 1)
    (hd : s.flag F.SELFTEST_DONE = true) : ∃ t, exec .stepL3ToL2 s = .next t ∧ t.arrived s 2 := by
  refine ⟨_, exec_stepL3ToL2 s, ?_⟩
  have hend : testsEnd s = arrive 2 s := if_pos ⟨hl, hr, hs, hd⟩
  rw [State.mayStep_of_step hl, if_neg (by decide), hend]
  exact (State.arrived_of (by decide) hm (fun _ _ _ => rfl) (fun _ _ _ => rfl) rfl).settle

/-! ### L2 to L1 -/

theorem exec_stepL2ToL1 {s : State} (h : s.mayStep 2 1 = true) :
    exec .stepL2ToL1 s = .next (settle (if s.flag F.TB_STATUS_TB_WARM then up21 s else s.setFlag F.RUNG_STATUS_WARM_WAIT true)) := by
  have hx : exec .stepL2ToL1 s =
      fin (if s.mayStep 2 1 then (if s.flag F.TB_STATUS_TB_WARM then up21 s else s.setFlag F.RUNG_STATUS_WARM_WAIT true) else s) := rfl
  rw [hx, if_pos h]
  rfl

theorem stepL2ToL1_waits {s : State} (h : s.mayStep 2 1 = true) (hw : s.flag F.TB_STATUS_TB_WARM = false) : ∃ t, exec .stepL2ToL1 s = .next t ∧
    t.rung = 2 ∧ t.flag F.RUNG_STATUS_WARM_WAIT = true ∧ t.onlyRegs s [Reg.RUNG_STATUS] := by
  obtain ⟨-, -, hr⟩ := State.mayStep_spec h
  refine ⟨_, exec_stepL2ToL1 h, ?_⟩
  rw [hw, if_neg (by decide)]
  refine ⟨(State.rung_settle _).trans ((State.fld_setFlag_apart _ _ (by decide)).trans hr),
    (settle_flag _ _).trans (State.flag_setFlag _ _ _ (by decide) rfl), settle_onlyRegs (fun a ha => ?_) rfl⟩
  exact State.reg_setFlag_ne _ _ _ (by simpa using ha)

/-- The SE's clock is that of L1, and the ration contract and the receiver work again. -/
def contractOn (s : State) : State := gnssWork (rationResume (s.setFld F.SE_CLK_SE 400))

theorem up21_eq (s : State) :
    up21 s = apllWake 3 (apllWake 2 (apllWake 1 (arrive 1 (contractOn (s.setFlag F.RUNG_STATUS_WARM_WAIT false))))) := rfl

theorem contractOn_within (s : State) : (contractOn s).within s [1, 7, 10, 0x101] [.rat, .gnss] :=
  (gnssWork_within _).after ((rationResume_within _).after (.setFld .refl))

theorem contractOn_spec (s : State) : (contractOn s).fld F.SE_CLK_SE = 400 ∧ (contractOn s).flag F.RATION_STATUS_SUSPENDED = false := by
  have hg := gnssWork_within (rationResume (s.setFld F.SE_CLK_SE 400))
  have hr := rationResume_within (s.setFld F.SE_CLK_SE 400)
  unfold contractOn
  refine ⟨?_, hg.flag.trans (rationResume_suspended _)⟩
  rw [hg.fld, hr.fld, State.fld_setFld _ _ _ (by decide)]
  rfl

theorem apllsWake_within (s : State) : (apllWake 3 (apllWake 2 (apllWake 1 s))).within s [0, 6, 0x101, 0x102] [.syn] :=
  (apllWake_within (by decide) _).trans ((apllWake_within (by decide) _).trans (apllWake_within (by decide) s))

theorem stepL2ToL1_made {s : State} (hm : s.moving = true) (h : s.mayStep 2 1 = true) (hw : s.flag F.TB_STATUS_TB_WARM = true) :
    ∃ t, exec .stepL2ToL1 s = .next t ∧ t.arrived s 1 ∧ t.fld F.SE_CLK_SE = 400 ∧ t.flag F.RATION_STATUS_SUSPENDED = false := by
  refine ⟨_, exec_stepL2ToL1 h, ?_⟩
  rw [hw, if_pos rfl, up21_eq]
  have htgt : (s.setFlag F.RUNG_STATUS_WARM_WAIT false).target = s.target := State.fld_setFlag_apart _ _ (by decide)
  have hmov : (s.setFlag F.RUNG_STATUS_WARM_WAIT false).moving = true := (State.flag_setFlag_apart _ _ (by decide)).trans hm
  have hevt : (s.setFlag F.RUNG_STATUS_WARM_WAIT false).reg Reg.RUNG_EVT = s.reg Reg.RUNG_EVT := State.reg_setFlag_ne _ _ _ (by decide)
  generalize s.setFlag F.RUNG_STATUS_WARM_WAIT false = u at htgt hmov hevt
  have ha := apllsWake_within (arrive 1 (contractOn u))
  have hall : (settle (apllWake 3 (apllWake 2 (apllWake 1 (arrive 1 (contractOn u)))))).within (contractOn u)
      [0, 6, 0x100, 0x101, 0x102] [.syn, .lad, .out, .irq] :=
    (settle_within _).after (ha.after ((arrive_within 1 _).mono))
  obtain ⟨hclk, hsus⟩ := contractOn_spec u
  refine ⟨State.arrived.of_start ?_ htgt hevt, hall.fld.trans hclk, hall.flag.trans hsus⟩
  exact (State.arrived_of (by decide) hmov (contractOn_within u).rungRegs ha.rungRegs (ha.get State.lad (fun _ => rfl))).settle

/-! ### L1 to L0 -/

section
variable {p : Nat} (hp : p < 4)
include hp

theorem showCal_within (s : State) : (showCal p s).within s [0x200 + p] [] := State.within.refl.setFlag (portStatus_area hp)

theorem portLatch_within (s : State) : (portLatch p s).within s [0x200 + p] [.prt] := by
  unfold portLatch
  extract_lets c _ s1 m fec
  have h1 : s1.within s [0x200 + p] [.prt] := (setPrt_within ..).mono (by simp)
  exact .ite (fun _ => h1) (fun _ => .step (showCal_within hp _) ((h1.setFld (portStatus_area hp)).setFld (portStatus_area hp)) (by simp))

theorem portStart_within (s : State) : (portStart p s).within s [0x200 + p] [.prt] :=
  .step (portTo_within hp _ _) (.step (portUnlock_within hp _) (portLatch_within hp s) (by simp)) (by simp)

theorem portEnable_within (s : State) : (portEnable p s).within s [0x200 + p] [.fab, .prt, .out] :=
  .ite (fun _ => (portDisable_frame hp s).1) (fun _ => .ite (fun _ => (portStart_within hp s).mono (by simp)) (fun _ => .refl))

omit hp in
theorem trainStored_within (s : State) : (trainStored p s).within s [] [.prt] := .ite (fun _ => setPrt_within ..) (fun _ => .refl)

theorem portReturn_within (s : State) : (portReturn p s).within s [0x200 + p] [.fab, .prt, .out] :=
  (portEnable_within hp _).trans (.ite (fun _ => .refl) (fun _ => (trainStored_within s).mono (by simp)))

end

theorem portsReturn_within (s : State) : (dzUp (forEach (List.range 4) (fun s p => portReturn p s) s)).within s
    [13, 15, 16, 0x200, 0x201, 0x202, 0x203] [.fab, .prt, .out, .se, .mb, .nvs, .dz] := by
  have h : (forEach (List.range 4) (fun s p => portReturn p s) s).within s
      [13, 15, 16, 0x200, 0x201, 0x202, 0x203] [.fab, .prt, .out, .se, .mb, .nvs, .dz] := .loop (fun p hp u => by
    have hp4 : p < 4 := List.mem_range.mp hp
    refine (portReturn_within hp4 u).mono (fun b hb => ?_)
    simp only [List.mem_cons, List.not_mem_nil, or_false] at hb ⊢
    omega)
  exact (dzUp_within _).after h

theorem setStep_step (o : Option Nat) (s : State) : (setStep o s).lad.step = o := rfl

theorem rampTo_backfill (target backfill gov : Nat) (s : State) :
    (s.rampTo target backfill gov).flag F.RATION_STATUS_FABRIC_BACKFILL = s.flag F.RATION_STATUS_FABRIC_BACKFILL := by
  unfold State.rampTo
  extract_lets _ s1 s2
  have h2 : s2.flag F.RATION_STATUS_FABRIC_BACKFILL = s1.flag F.RATION_STATUS_FABRIC_BACKFILL := State.flag_setFld_apart _ _ (by decide)
  have h1 : s1.flag F.RATION_STATUS_FABRIC_BACKFILL = s.flag F.RATION_STATUS_FABRIC_BACKFILL := rfl
  clear_value s2 s1
  exact (State.flag_setFlag_apart _ _ (by decide)).trans (h2.trans h1)

theorem up10_within (s : State) : (up10 s).within s [1] [.rat, .lad] :=
  (rampTo_within ..).after (State.within.setFlag ((setStep_within ..).mono))

theorem up10_spec (s : State) : (up10 s).lad.step = some 0 ∧ (up10 s).fld F.RATION_LEVEL_TARGET_MA = s.l0Level % 8192 ∧
    (up10 s).flag F.RATION_STATUS_FABRIC_BACKFILL = true := by
  have hw : (up10 s).within ((setStep (some 0) s).setFlag F.RATION_STATUS_FABRIC_BACKFILL true) [1] [.rat] := rampTo_within ..
  refine ⟨?_, rampTo_target .., (rampTo_backfill ..).trans (State.flag_setFlag _ _ _ (by decide) rfl)⟩
  rw [hw.get State.lad (fun _ => rfl), State.setFlag_lad]
  exact setStep_step ..

/-- APLL0 is searched for the return to L0. -/
def apllBack (s : State) : State := apllWake 0 { s with syn := { s.syn with back := s.syn.back || s.apllState 0 == 0 } }

theorem setBack_within (s : State) (v : SynPart) : ({ s with syn := v } : State).within s [] [.syn] := .update .refl rfl rfl

theorem apllBack_within (s : State) : (apllBack s).within s [0, 6, 0x101, 0x102] [.syn] :=
  (apllWake_within (by decide) _).trans ((setBack_within ..).mono)

theorem up10Go_ready {s : State} (h : s.hikeReady = true) : up10Go s = dzUp (forEach (List.range 4) (fun s p => portReturn p s) (arrive 0 s)) :=
  if_pos h

theorem up10Go_notReady {s : State} (h : s.hikeReady = false) : up10Go s = if s.levelled then apllBack s else s := by
  unfold up10Go
  rw [h, if_neg (by decide)]
  rfl

/-- The return to L0 goes on while its step is in progress (R483). -/
def returnOn (s : State) : State := if s.lad.step = some 0 ∧ s.rung = 1 then up10Go s else s

theorem exec_stepL1ToL0 (s : State) : exec .stepL1ToL0 s = .next (settle (returnOn (if s.mayStep 1 0 then up10 s else s))) := rfl

theorem stepL1ToL0_started {s : State} (h : s.mayStep 1 0 = true) (hn : (up10 s).hikeReady = false) : ∃ t, exec .stepL1ToL0 s = .next t ∧
    t.rung = 1 ∧ t.lad.step = some 0 ∧ t.fld F.RATION_LEVEL_TARGET_MA = s.l0Level % 8192 ∧
    t.flag F.RATION_STATUS_FABRIC_BACKFILL = true := by
  obtain ⟨-, -, hr⟩ := State.mayStep_spec h
  obtain ⟨hl, ht, hf⟩ := up10_spec s
  have hr1 : (up10 s).rung = 1 := (up10_within s).rungRegs.rung.trans hr
  refine ⟨_, exec_stepL1ToL0 s, ?_⟩
  rw [if_pos h]
  have hgo : returnOn (up10 s) = if (up10 s).levelled then apllBack (up10 s) else up10 s := (if_pos ⟨hl, hr1⟩).trans (up10Go_notReady hn)
  rw [hgo]
  generalize up10 s = u at hl ht hf hr1
  have hw : (settle (if u.levelled then apllBack u else u)).within u [0, 6, 0x101, 0x102] [.syn, .out, .irq] :=
    (settle_within _).after (.ite (fun _ => (apllBack_within u).mono) (fun _ => .refl))
  refine ⟨hw.rungRegs.rung.trans hr1, ?_, hw.fld.trans ht, hw.flag.trans hf⟩
  rw [hw.get State.lad (fun _ => rfl), hl]

theorem stepL1ToL0_ended {s : State} (hm : s.moving = true) (hl : s.lad.step = some 0) (hr : s.rung = 1) (hh : s.hikeReady = true) :
    ∃ t, exec .stepL1ToL0 s = .next t ∧ t.arrived s 0 := by
  refine ⟨_, exec_stepL1ToL0 s, ?_⟩
  have hgo : returnOn s = dzUp (forEach (List.range 4) (fun s p => portReturn p s) (arrive 0 s)) := (if_pos ⟨hl, hr⟩).trans (up10Go_ready hh)
  rw [State.mayStep_of_step hl, if_neg (by decide), hgo]
  have hw := portsReturn_within (arrive 0 s)
  exact (State.arrived_of (by decide) hm (fun _ _ _ => rfl) hw.rungRegs (hw.get State.lad (fun _ => rfl))).settle

theorem apllWake_state {a : Nat} (ha : a < 4) {s : State} (he : s.flag (F.APLL_CFG_EN a) = true) (hal : s.apllAllowed a = true)
    (h0 : s.apllState a = 0) : (apllWake a s).apllState a = 1 := by
  have h1 := apllWaitLow_state ha s
  unfold apllWake
  rw [he, hal, h0, if_pos (by rfl)]
  extract_lets s1
  split
  · exact h1
  · exact (State.fld_of_reg (f := F.APLL_STATUS_STATE a) (State.reg_setFlag_ne _ _ _ (by
      simp only [Reg.APLL_STATUS, Reg.BOOT_STATUS]
      omega))).trans h1

theorem stepL1ToL0_searches {s : State} (hl : s.lad.step = some 0) (hr : s.rung = 1) (hres : s.inReset = false) (hlv : s.levelled = true)
    (h0 : s.apllState 0 = 0) (he : s.flag (F.APLL_CFG_EN 0) = true) : ∃ t, exec .stepL1ToL0 s = .next t ∧ t.rung = 1 ∧ t.lad.step = some 0 ∧
    t.apllState 0 = 1 := by
  have hn : s.hikeReady = false := by
    unfold State.hikeReady
    rw [h0]
    simp
  have hal : s.apllAllowed 0 = true := by
    unfold State.apllAllowed
    rw [hres, hl]
    rfl
  refine ⟨_, exec_stepL1ToL0 s, ?_⟩
  have hgo : returnOn s = apllBack s := by
    refine (if_pos ⟨hl, hr⟩).trans ((up10Go_notReady hn).trans ?_)
    rw [hlv, if_pos rfl]
  rw [State.mayStep_of_step hl, if_neg (by decide), hgo]
  have hw : (settle (apllBack s)).within s [0, 6, 0x101, 0x102] [.syn, .out, .irq] := (settle_within _).after ((apllBack_within s).mono)
  refine ⟨hw.rungRegs.rung.trans hr, ?_, (settle_fld _ (F.APLL_STATUS_STATE 0)).trans ?_⟩
  · rw [hw.get State.lad (fun _ => rfl), hl]
  · exact apllWake_state (by decide) (s := { s with syn := { s.syn with back := s.syn.back || s.apllState 0 == 0 } }) he hal h0

end Sys2Proof.Machine

namespace Sys2Proof
open Machine

/-- Settles O57: each step by the frames of what it turns off and on, with one arrival among them. -/
theorem ladderSteps : Obligations.LadderSteps := by
  unfold Obligations.LadderSteps
  intro _ _ s hm
  exact ⟨stepL0ToL1_started hm, stepL0ToL1_ended hm, stepL1ToL2_made hm, fun _ => stepL2ToL3_refused, stepL2ToL3_made hm, stepL3ToL4_started,
    stepL3ToL4_ended hm, stepL4ToL3_made hm, stepL3ToL2_started, stepL3ToL2_ended hm, stepL2ToL1_waits, stepL2ToL1_made hm,
    stepL1ToL0_started, stepL1ToL0_ended hm, stepL1ToL0_searches⟩

end Sys2Proof
end

section
/-! The conditions that the interrupt vectors have seen (R68, R71): none at reset, and every step ends by bringing them up to date, but for a
clock edge with every counter stopped, which changes no register. -/

namespace Sys2Proof.Machine

/-- Every command's meaning ends in `fin`. -/
theorem exec_eq_fin (c : Instr) (s : State) : ∃ u, exec c s = fin u := by
  cases c <;> exact ⟨_, rfl⟩

theorem exec_irqSeen {c : Instr} {s t : State} (h : exec c s = .next t) : t.irqSeen := by
  obtain ⟨u, hu⟩ := exec_eq_fin c s
  cases hu.symm.trans h
  exact settle_irqSeen u

theorem clockEdge_irqSeen {s : State} (h : s.irqSeen) : (clockEdge s).irqSeen := by
  unfold clockEdge
  split
  · exact h
  · split <;> exact settle_irqSeen _

/-- No enable is set at reset, so no condition is 1 (R68, R514). -/
theorem reset_conds : State.reset.conds 0 = 0 := by decide +kernel

theorem reset_hostConds : State.reset.hostConds = 0 := by
  unfold State.hostConds
  rw [reset_conds]
  rfl

end Sys2Proof.Machine

namespace Sys2Proof

open Machine

/-- Settles O5: the vectors have seen none, and there are none. -/
theorem resetSeesNoCondition : Obligations.ResetSeesNoCondition :=
  ⟨reset_hostConds.symm, reset_hostConds⟩

/-- Settles O6: a command ends in `fin`, which brings the conditions up to date, and so does a clock edge that moves a counter. -/
theorem everyStepKeepsConditionsSeen : Obligations.EveryStepKeepsConditionsSeen := by
  unfold Obligations.EveryStepKeepsConditionsSeen
  intro s t hs hstep
  unfold step at hstep
  split at hstep
  case h_1 =>
    cases hstep
    exact clockEdge_irqSeen hs
  case h_2 => exact exec_irqSeen hstep

end Sys2Proof
end

section
/-! Accesses of a master that reaches the registers (R50, R61–R66): what a write that no guard precedes and a read of the host island come to,
and the words that are staged, latched and armed. -/

namespace Sys2Proof.Machine

/-! ### Addresses of the host island (R12, R58) -/

theorem block_of_nearReg {a : Nat} (h : nearReg a = true) : a / 0x10000 ∈ [0, 1, 7, 11, 14] ∨ 16 ≤ a / 0x10000 ∨ 0xfff0 ≤ a % 0x10000 := by
  unfold nearReg at h
  split at h
  case h_1 e | h_2 e | h_3 e | h_4 e | h_5 e => exact .inl (by rw [e]; decide)
  case h_6 => exact .inr (by simpa using h)

theorem div_mul_four {a : Nat} (h : a % 4 = 0) : a / 4 * 4 = a := by omega

/-! ### What reaches the register decode (R50, R61) -/

theorem reads_of_reaches {m : Master} {s : State} (h : s.reaches m 2) (f : State → State) : reads m f s = f (s.tlp m 2) := by
  obtain ⟨hbus, hon, htlp⟩ := h
  unfold reads reach
  rw [if_pos hbus, if_neg (by simp [hon]), if_pos htlp]

theorem oneWrite_eq {m : Master} {s : State} {a : Nat} {v : Word} (h : s.hears m) (ha : a < 0x100000) :
    oneWrite m a v s = wordWrite m a v (s.decoded m) := by
  obtain ⟨hr, hg⟩ := h
  unfold oneWrite
  rw [access_of_reaches hr, busWrite_eq hr.1 (by rw [tlp_masterOn]; exact hr.2.1) (by rw [tlp_guardOf]; exact hg) ha]
  rfl

theorem busRead_near {m : Master} {s : State} {a : Nat} (hbus : onBus m = true) (hon : s.masterOn m = true) (ha : a < 0x100000)
    (hn : nearReg a = true) : busRead m a s = wordRead m a s := by
  unfold busRead
  rw [if_neg (by simp [hbus, hon]), if_neg (by omega), if_pos hn]

theorem reads_near {m : Master} {s : State} {a : Nat} (h : s.reaches m 2) (ha : a < 0x100000) (hn : nearReg a = true) :
    reads m (busRead m a) s = wordRead m a (s.tlp m 2) := by
  rw [reads_of_reaches h, busRead_near h.1 (by rw [tlp_masterOn]; exact h.2.1) ha hn]

/-! ### Reads of the host island (R65) -/

theorem ne_nvsRdata_of_nearReg {a : Nat} (hn : nearReg a = true) : a ≠ Reg.NVS_RDATA := by
  rintro rfl
  exact absurd hn (by decide)

theorem wordRead_plain {m : Master} {s : State} {a : Nat} (hn : nearReg a = true) (hq : quantAt a = none) (hh : a ≠ Reg.HWIN_DATA) :
    wordRead m a s = answerWord (s.live m.id a) s := by
  unfold wordRead
  rw [if_neg hh, if_neg (ne_nvsRdata_of_nearReg hn), hq]

/-- The lowest word of a quantity of the host island is no FIFO's: it latches the words (R65). -/
theorem wordRead_quantity {m : Master} {s : State} {a n : Nat} (ha : a < 0x100000) (hn : nearReg a = true) (hq : quantAt a = some (a, n))
    (hh : a ≠ Reg.HWIN_DATA) : wordRead m a s = latch m a (s.liveWords m.id a n) s := by
  have hb := block_of_nearReg hn
  simp only [List.mem_cons, List.not_mem_nil, or_false] at hb
  unfold wordRead
  rw [if_neg hh, if_neg (ne_nvsRdata_of_nearReg hn), hq]
  dsimp only
  rw [if_pos rfl, if_neg (by simp only [Reg.GRP_RES]; omega), if_neg (by rintro rfl; simp [Reg.HCAP_REC] at hb),
    if_neg (by simp only [Reg.BASKET_REC]; omega)]

theorem State.liveWords_congr {s t : State} {m : Nat} (h : ∀ a, t.live m a = s.live m a) (a n : Nat) :
    t.liveWords m a n = s.liveWords m a n := by
  induction n generalizing a with
  | zero => rfl
  | succ n ih => simp [State.liveWords, h, ih]

theorem tlp_live (s : State) (m : Master) (n k a : Nat) : (s.tlp m n).live k a = s.live k a :=
  tlp_get (g := fun u => u.live k a) (fun _ _ => rfl) s m n

theorem tlp_liveWords (s : State) (m : Master) (n k a l : Nat) : (s.tlp m n).liveWords k a l = s.liveWords k a l :=
  State.liveWords_congr (tlp_live s m n k) a l

/-! ### Writes that change no register (R62, R66) -/

theorem nvsShut_of_block_ne {a : Nat} {s : State} (h : a / 0x10000 ≠ 12) : s.nvsShut a = false := by
  simp [State.nvsShut, h]

/-- A write of a mapped word outside the NVS block goes to its row. -/
theorem wordWrite_row {m : Master} {a i w : Nat} {v : Word} {r : Row} {s : State} (hr : rowAt a = some (r, i, w)) (hc : a % 0x10000 < 0xfff0)
    (h12 : a / 0x10000 ≠ 12) (hon : (nearReg a || s.blockOn (a / 0x10000)) = true) :
    wordWrite m a v s = if r.acc = .gd then s.setGuard m (some ⟨a, v, s.now⟩) else rowWrite m r w a v s := by
  unfold wordWrite
  rw [if_neg (by rw [← Bool.not_or, hon]; decide), if_neg (by rintro rfl; exact h12 (by decide)), if_neg (by simp [nvsShut_of_block_ne h12]),
    if_neg (by omega), hr]

theorem rowWrite_staged {m : Master} {r : Row} {w a : Nat} {v : Word} {s : State} (hq : r.quantity = true) (hw : w + 1 < r.words)
    (h1 : r.acc ≠ .w1) : rowWrite m r w a v s = stageWord m a v s := by
  unfold rowWrite
  rw [if_neg (by simp [h1]), if_pos hq, if_pos hw]

theorem isGd_of_rowAt {a i w : Nat} {r : Row} (hr : rowAt a = some (r, i, w)) (hg : r.acc = .gd) : isGd a = true := by
  simp [isGd, hr, hg]

theorem guardEnd_armed {m : Master} {s : State} {g : Guard} (h : s.guardOf m = some g) :
    guardEnd m s = (s.setGuard m none).sendFault srcHostDecode kGuardMismatch g.addr := by
  unfold guardEnd
  rw [h]
  rfl

theorem latch_snapOf (m : Master) (a : Nat) (ws : List Word) (s : State) : (latch m a ws s).snapOf m (a / 0x10000) = some ⟨a, ws⟩ :=
  Tbl.get_set_same (fun _ => none) s.bus.snap (m.id * 32 + a / 0x10000) (some ⟨a, ws⟩)

theorem stageWord_stagedWord (m : Master) (a : Nat) (v : Word) (s : State) : (stageWord m a v s).stagedWord m a = v :=
  Tbl.get_set_same (fun _ => (0 : Word)) ..

@[simp] theorem settle_guardOf (s : State) (m : Master) : (settle s).guardOf m = s.guardOf m := by
  unfold State.guardOf
  rw [settle_bus]

theorem setGuard_answer_sameBut (st : LinkStatus) (l : List Word) (m : Master) (g : Option Guard) (s : State) :
    ((answer st l s).setGuard m g).sameBut { s with bus := ((answer st l s).setGuard m g).bus } := rfl

theorem stageWord_answer_sameBut (st : LinkStatus) (l : List Word) (m : Master) (a : Nat) (v : Word) (s : State) :
    (stageWord m a v (answer st l s)).sameBut { s with bus := (stageWord m a v (answer st l s)).bus } := rfl

theorem latch_sameBut (m : Master) (a : Nat) (ws : List Word) (s : State) : (latch m a ws s).sameBut { s with bus := (latch m a ws s).bus } := rfl

theorem answerWord_sameBut (w : Word) (s : State) : (answerWord w s).sameBut { s with bus := (answerWord w s).bus } := rfl

/-- After a command whose update concerns the accesses' own state alone, only that differs. -/
theorem settle_sameBut_bus {t u : State} (h : t.sameBut { u with bus := t.bus }) : (settle t).sameBut { u with bus := (settle t).bus } := by
  rw [settle_bus]
  exact settle_sameBut_of h

/-! ### The commands -/

theorem exec_stagedWordWrite {m : Master} {a : BitVec 20} {v : Word} {s : State} {r : Row} {i w : Nat} (h : s.hears m) (h4 : a.toNat % 4 = 0)
    (hr : rowAt a.toNat = some (r, i, w)) (hq : r.quantity = true) :
    exec (.stagedWordWrite m a v) s = .next (settle (wordWrite m a.toNat v (s.decoded m))) := by
  change execStagedWordWrite m a v s = _
  unfold execStagedWordWrite
  rw [fin_next, div_mul_four h4, hr]
  dsimp only
  rw [if_pos hq, oneWrite_eq h a.isLt]

theorem exec_snapshotRead {m : Master} {a : BitVec 20} {s : State} {n : Nat} (h : s.reaches m 2) (h4 : a.toNat % 4 = 0)
    (hn : nearReg a.toNat = true) (hq : quantAt a.toNat = some (a.toNat, n)) (hh : a.toNat ≠ Reg.HWIN_DATA) :
    exec (.snapshotRead m a) s = .next (settle (latch m a.toNat (s.liveWords m.id a.toNat n) (s.tlp m 2))) := by
  change execSnapshotRead m a s = _
  unfold execSnapshotRead oneRead
  rw [fin_next, div_mul_four h4, hq]
  dsimp only
  rw [reads_near h a.isLt hn, wordRead_quantity a.isLt hn hq hh, tlp_liveWords]

theorem exec_registerRead {m : Master} {a : BitVec 21} {s : State} (h : s.reaches m 2) (h4 : a.toNat % 4 = 0) (ha : a.toNat < 0x100000)
    (hn : nearReg a.toNat = true) (hq : quantAt a.toNat = none) (hh : a.toNat ≠ Reg.HWIN_DATA) :
    exec (.registerRead m a true) s = .next (settle (answerWord (s.live m.id a.toNat) (s.tlp m 2))) := by
  change execRegisterRead m a true s = _
  unfold execRegisterRead
  rw [fin_next, if_pos (by simp [h4]), reads_near h ha hn, wordRead_plain hn hq hh, tlp_live]

theorem exec_guardValueWrite {m : Master} {a : BitVec 20} {v : Word} {s : State} (h : s.hears m) (h4 : a.toNat % 4 = 0)
    (hg : isGd a.toNat = true) :
    exec (.guardValueWrite m a v) s = .next (settle (wordWrite m a.toNat v (s.decoded m))) := by
  change execGuardValueWrite m a v s = _
  unfold execGuardValueWrite
  rw [fin_next, div_mul_four h4, if_pos hg, oneWrite_eq h a.isLt]

theorem exec_guardWindowExpiry {m : Master} {s : State} {g : Guard} (hon : s.hostOn = true) (hg : s.guardOf m = some g)
    (ht : g.time + s.guardWindow ≤ s.now) :
    exec (.guardWindowExpiry m) s = .next (settle ((s.setGuard m none).sendFault srcHostDecode kGuardMismatch g.addr)) := by
  change execGuardWindowExpiry m s = _
  unfold execGuardWindowExpiry
  rw [fin_next, hg]
  dsimp only
  rw [if_pos (by simp [hon, ht]), guardEnd_armed hg]

end Sys2Proof.Machine

namespace Sys2Proof

open Machine

/-- Settles O12: a word below the highest is staged, a read answers the words there are, and a guarded value waits for its complement. -/
theorem quantitiesAreStagedLatchedAndGuarded : Obligations.QuantitiesAreStagedLatchedAndGuarded := by
  unfold Obligations.QuantitiesAreStagedLatchedAndGuarded
  refine ⟨fun m a v s r i w h h4 hc h12 hr hq hw h1 hgd hon => ?staged, fun m a n s h h4 hn hq hh => ?latched,
    fun m a s h h4 ha hn hq hh => ?read, fun m a v s r i w h h4 hc h12 hr hgd hon => ?armed, fun m s g hon hg ht => ?expired⟩
  case staged =>
    refine ⟨_, exec_stagedWordWrite h h4 hr hq, ?_⟩
    rw [wordWrite_row hr hc h12 (by rwa [State.decoded_blockOn]), if_neg hgd, rowWrite_staged hq hw h1]
    refine ⟨?_, settle_sameBut_bus (stageWord_answer_sameBut ..)⟩
    unfold State.stagedWord
    rw [settle_bus]
    exact stageWord_stagedWord ..
  case latched =>
    refine ⟨_, exec_snapshotRead h h4 hn hq hh, ?_, ?_, settle_sameBut_bus (latch_sameBut ..)⟩
    · unfold State.snapOf
      rw [settle_bus]
      exact latch_snapOf ..
    · rw [settle_bus]
      rfl
  case read =>
    refine ⟨_, exec_registerRead h h4 ha hn hq hh, ?_, settle_sameBut_bus (answerWord_sameBut ..)⟩
    rw [settle_bus]
    rfl
  case armed =>
    refine ⟨_, exec_guardValueWrite h h4 (isGd_of_rowAt hr hgd), ?_⟩
    rw [wordWrite_row hr hc h12 (by rwa [State.decoded_blockOn]), if_pos hgd]
    have hnow : (s.decoded m).now = s.now := tlp_get (g := State.now) (fun _ _ => rfl) s m 1
    rw [hnow, settle_guardOf]
    exact ⟨State.guardOf_setGuard .., settle_sameBut_bus (setGuard_answer_sameBut ..)⟩
  case expired =>
    refine ⟨_, exec_guardWindowExpiry hon hg ht, ?_, settle_sameBut _⟩
    rw [settle_guardOf]
    exact State.guardOf_setGuard ..

end Sys2Proof
end

section
/-! The interrupt vectors (R68, R71): what becomes of the pending bits and the messages when a vector can send, and an acknowledge copy's write. -/

namespace Sys2Proof.Machine

/-- Where the conditions seen are the conditions there are, nothing is left to do. -/
theorem settle_of_irqSeen {s : State} (h : s.irqSeen) : settle s = s := by
  unfold settle
  exact if_pos h.symm

/-! ### The vectors that wait, one at a time (R71) -/

/-- A vector that waits and can send clears its pending bit, and sends where its condition is 1. -/
def State.flushOne (s : State) (v : Nat) : State :=
  if (s.irq.pend.getLsbD v || s.irq.fresh.getLsbD v) && s.vecSends v then
    let b := ~~~(BitVec.ofNat 32 (2 ^ v))
    let s0 := { s with irq := { s.irq with pend := s.irq.pend &&& b, fresh := s.irq.fresh &&& b } }
    if s.hostConds.getLsbD v then s0.emit (s0.msixOut v) else s0
  else s

theorem State.flushPend_cons (s : State) (v : Nat) (l : List Nat) : s.flushPend (v :: l) = (s.flushOne v).flushPend l := rfl

theorem State.flushOne_sendBlind {β : Type} {g : State → β} (hg : SendBlind g) (s : State) (v : Nat) : g (s.flushOne v) = g s :=
  s.flushPend_sendBlind hg [v]

theorem State.vecSends_sendBlind (v : Nat) : SendBlind (fun s => s.vecSends v) := fun _ _ _ _ _ => rfl
theorem State.hostConds_sendBlind : SendBlind State.hostConds := fun _ _ _ _ _ => State.hostConds_congr rfl

theorem getLsbD_and_not_bit (p : Word) {v w : Nat} (hw : w < 32) :
    (p &&& ~~~(BitVec.ofNat 32 (2 ^ v))).getLsbD w = (p.getLsbD w && !decide (v = w)) := by
  rw [BitVec.getLsbD_and, BitVec.getLsbD_not, BitVec.getLsbD_ofNat, Nat.testBit_two_pow]
  simp [hw]

theorem State.flushOne_pend (s : State) (v : Nat) {w : Nat} (hw : w < 32) :
    (s.flushOne v).irq.pend.getLsbD w = (s.irq.pend.getLsbD w && !(decide (v = w) && s.vecSends w)) := by
  have hb := getLsbD_and_not_bit s.irq.pend (v := v) hw
  unfold State.flushOne
  split
  case isTrue h =>
    have hv : s.vecSends v = true := (Bool.and_eq_true_iff.mp h).2
    have hp : (s.irq.pend.getLsbD w && !decide (v = w)) = (s.irq.pend.getLsbD w && !(decide (v = w) && s.vecSends w)) := by
      by_cases hvw : v = w
      · simp [← hvw, hv]
      · simp [hvw]
    simp only
    split <;> exact hb.trans hp
  case isFalse h =>
    by_cases hvw : v = w
    · subst hvw
      cases hp : s.irq.pend.getLsbD v <;> simp_all
    · simp [hvw]

theorem State.flushPend_pend (s : State) (l : List Nat) {w : Nat} (hw : w < 32) :
    (s.flushPend l).irq.pend.getLsbD w = (s.irq.pend.getLsbD w && !(decide (w ∈ l) && s.vecSends w)) := by
  induction l generalizing s with
  | nil => simp [State.flushPend]
  | cons v t ih =>
    rw [State.flushPend_cons, ih, s.flushOne_pend v hw, s.flushOne_sendBlind (State.vecSends_sendBlind w)]
    by_cases hvw : v = w
    · cases s.vecSends w <;> simp [hvw]
    · simp [hvw, Ne.symm hvw]

theorem State.mem_out_flushOne {s : State} {o : Out} (v : Nat) (h : o ∈ s.out) : o ∈ (s.flushOne v).out := by
  unfold State.flushOne
  split
  · simp only
    split
    · exact List.mem_append_left _ h
    · exact h
  · exact h

theorem State.mem_out_flushPend {s : State} {o : Out} (l : List Nat) (h : o ∈ s.out) : o ∈ (s.flushPend l).out := by
  induction l generalizing s with
  | nil => exact h
  | cons v t ih => exact ih (s.mem_out_flushOne v h)

theorem State.flushOne_sends {s : State} {v : Nat} (hp : s.irq.pend.getLsbD v = true) (hs : s.vecSends v = true)
    (hc : s.hostConds.getLsbD v = true) : s.msixOut v ∈ (s.flushOne v).out := by
  unfold State.flushOne
  rw [if_pos (by simp [hp, hs])]
  simp only
  rw [if_pos hc]
  exact List.mem_append_right _ (List.mem_singleton.mpr rfl)

/-- A pending vector of the list that can send does, where its condition is 1. -/
theorem State.flushPend_sends {s : State} {l : List Nat} {v : Nat} (hv : v < 32) (hl : v ∈ l) (hp : s.irq.pend.getLsbD v = true)
    (hs : s.vecSends v = true) (hc : s.hostConds.getLsbD v = true) : s.msixOut v ∈ (s.flushPend l).out := by
  induction l generalizing s with
  | nil => cases hl
  | cons w t ih =>
    rw [State.flushPend_cons]
    by_cases hvw : w = v
    · subst hvw
      exact State.mem_out_flushPend t (State.flushOne_sends hp hs hc)
    · have hout : (s.flushOne w).msixOut v = s.msixOut v := s.flushOne_sendBlind (g := fun s => s.msixOut v) (fun _ _ _ _ _ => rfl) w
      rw [← hout]
      refine ih ((List.mem_cons.mp hl).resolve_left (Ne.symm hvw)) ?_ ?_ ?_
      · rw [s.flushOne_pend w hv]
        simp [hp, hvw]
      · exact (s.flushOne_sendBlind (State.vecSends_sendBlind v) w).trans hs
      · rw [s.flushOne_sendBlind State.hostConds_sendBlind w]
        exact hc

/-- The sending of messages concerns what has left the device and the vectors alone. -/
theorem State.flushPend_sameBut (s : State) (l : List Nat) : (s.flushPend l).sameBut s := by
  have h := s.flushPend_sendBlind (g := fun u => { u with out := [], irq := { u.irq with hc := 0, pend := 0, fresh := 0 } }) (fun _ _ _ _ _ => rfl) l
  exact congrArg (fun u : State => { u with out := s.out, irq := s.irq }) h

theorem State.flushPend_irqSeen {s : State} (h : s.irqSeen) (l : List Nat) : (s.flushPend l).irqSeen := by
  have hc : ∀ (u : State) (v : Nat), (u.flushOne v).irq.hc = u.irq.hc := by
    intro u v
    unfold State.flushOne
    split
    · simp only
      split <;> rfl
    · rfl
  have hl : ∀ u : State, (u.flushPend l).irq.hc = u.irq.hc := by
    induction l with
    | nil => exact fun _ => rfl
    | cons v t ih => exact fun u => (ih (u.flushOne v)).trans (hc u v)
  unfold State.irqSeen
  rw [hl, s.flushPend_sendBlind State.hostConds_sendBlind]
  exact h

end Sys2Proof.Machine
end

section
/-! The commands of the interrupt vectors (R68, R71, R408). -/

namespace Sys2Proof.Machine

/-! ### A plain register of the host island -/

/-- A plain register of the host island takes the writable bits of the value at once (R51, R58). -/
theorem wordWrite_plain_near {m : Master} {a i k : Nat} {v : Word} {r : Row} {s : State} (hr : rowAt a = some (r, i, 0))
    (hp : plainRow r = true) (hm : r.mask = [k]) (hc : a % 0x10000 < 0xfff0) (hn : nearReg a = true) :
    wordWrite m a v s = ackDone a (s.setReg a (v &&& BitVec.ofNat 32 k)) := by
  have hb := block_of_nearReg hn
  simp only [List.mem_cons, List.not_mem_nil, or_false] at hb
  rw [wordWrite_plain hr hp hc (by omega) (.inl hn), putWords_near hn, land_plain hr hp hm (by simp; omega)]

@[simp] theorem ackDone_reg (a : Nat) (s : State) (x : Nat) : (ackDone a s).reg x = s.reg x :=
  State.reg_congr (ackDone_quiet (g := State.regs) (fun _ _ _ => rfl) a s) x

@[simp] theorem ackDone_bus (a : Nat) (s : State) : (ackDone a s).bus = s.bus := ackDone_quiet (fun _ _ _ => rfl) a s

theorem and_ofNat_ones (v : Word) : v &&& BitVec.ofNat 32 0xffffffff = v := BitVec.and_allOnes

/-- What reads neither the governors nor the accesses' own state is after a register's write the same whether or not the access was charged
and answered. -/
theorem decoded_setReg_get {β : Type} {g : State → β} (hr : ∀ (u : State) (r : RationPart), g { u with rat := r } = g u)
    (hb : ∀ (u : State) (b : BusPart), g { u with bus := b } = g u) (s : State) (m : Master) (a : Nat) (v : Word) :
    g ((s.decoded m).setReg a v) = g (s.setReg a v) :=
  (hb ((s.tlp m 1).setReg a v) _).trans (tlp_get (g := fun u => g (u.setReg a v)) (fun u r => hr (u.setReg a v) r) s m 1)

/-! ### Acknowledge copies (R68, R71) -/

theorem ackDone_sends {a w : Nat} {s : State} (hw : s.ackVector a = some w) (hc : s.irq.hc.getLsbD w = true)
    (hh : s.hostConds.getLsbD w = true) (hs : s.vecSends w = true) : s.msixOut w ∈ (ackDone a s).out := by
  unfold ackDone
  rw [hw]
  dsimp only
  rw [if_pos (by simp [hc, hh])]
  unfold State.raise
  rw [if_pos hs]
  exact List.mem_append_right _ (List.mem_singleton.mpr rfl)

theorem exec_acknowledgeWrite {m : Master} {a : BitVec 21} {v : Word} {s : State} (h : s.hears m) (h4 : a.toNat % 4 = 0)
    (ha : a.toNat < 0x100000) (hack : (blockSrcs (a.toNat / 0x10000)).any (fun x => x.ctrs.any (fun c => c + 4 == a.toNat)) = true) :
    exec (.acknowledgeWrite m a v) s = .next (settle (wordWrite m a.toNat v (s.decoded m))) := by
  change execAcknowledgeWrite m a v s = _
  unfold execAcknowledgeWrite
  rw [fin_next, div_mul_four h4]
  dsimp only
  rw [if_pos ha, if_pos hack, oneWrite_eq h ha]

theorem exec_intRouteWrite {m : Master} (hi : Bool) {v : Word} {s : State} (h : s.hears m) :
    exec (.intRouteWrite m hi v) s =
      .next (settle (wordWrite m (if hi then Reg.INT_ROUTE_HI else Reg.INT_ROUTE_LO) v (s.decoded m))) := by
  change execIntRouteWrite m hi v s = _
  unfold execIntRouteWrite
  rw [fin_next, oneWrite_eq h (by cases hi <;> decide)]

/-- INT_ROUTE_LO and INT_ROUTE_HI are plain registers (R71, R73). -/
theorem rowAt_intRoute (hi : Bool) : ∃ r, rowAt (if hi then Reg.INT_ROUTE_HI else Reg.INT_ROUTE_LO) = some (r, 0, 0) ∧ plainRow r = true ∧
    r.mask = [0xffffffff] := by
  cases hi <;> exact ⟨_, rfl, by decide, rfl⟩

/-! ### Masks and the endpoint's ability to send (R71, R408) -/

theorem exec_msixMask {s : State} (hon : s.hostOn = true) (v : Option (Fin 32)) :
    exec (.msixMask v) s = .next (settle { s with irq := match v with
      | some v => { s.irq with mask := s.irq.mask ||| BitVec.ofNat 32 (2 ^ v.val) }
      | none => { s.irq with enabled := false } }) := by
  change execMsixMask v s = _
  unfold execMsixMask
  rw [if_pos hon]
  rfl

theorem exec_msixUnmask {s : State} (hon : s.hostOn = true) (v : Fin 32) : exec (.msixUnmask v) s = .next (settle (msixUnmask v.val s)) := by
  change execMsixUnmask v s = _
  rw [execMsixUnmask, if_pos hon, fin_next]

theorem exec_d3hotEntry {s : State} (hon : s.hostOn = true) :
    exec .d3hotEntry s = .next (settle { s with irq := { s.irq with d3hot := true } }) := by
  change execD3hotEntry s = _
  rw [execD3hotEntry, if_pos hon, fin_next]

/-- The state in which the endpoint's pending vectors send: the conditions that have fallen pend no more (R71). -/
def State.resumed (s : State) : State :=
  { s with irq := { s.irq with linkL0 := true, d3hot := false, enabled := true, pend := s.irq.pend &&& s.hostConds } }

theorem State.canSend_resumed {s : State} (hon : s.hostOn = true) (hr : s.rung ≤ 2) (hp : s.irq.perstLow = false) : s.resumed.canSend = true := by
  have hc : s.resumed.canSend = (true && !s.irq.perstLow && !false && true && s.hostOn && decide (s.rung ≤ 2)) := rfl
  rw [hc, hon, hp, decide_eq_true hr]
  rfl

theorem exec_msixSendResume {s : State} (hon : s.hostOn = true) (hr : s.rung ≤ 2) (hp : s.irq.perstLow = false) :
    exec .msixSendResume s = .next (settle (s.resumed.flushPend (List.range 32))) := by
  change execMsixSendResume s = _
  rw [execMsixSendResume, fin_next, sendResume, if_neg (by simp [hon, hr, hp])]
  exact congrArg (fun u => Host.Outcome.next (settle u)) (if_pos (State.canSend_resumed hon hr hp))

theorem msixUnmask_sameBut (v : Nat) (s : State) : (msixUnmask v s).sameBut s := (State.flushPend_sameBut _ _).trans rfl

theorem resumed_flushPend_sameBut (s : State) (l : List Nat) : (s.resumed.flushPend l).sameBut s := (State.flushPend_sameBut _ _).trans rfl

/-- A pending vector that is unmasked while the endpoint can send pends no more, and its message leaves where its condition is 1 (R71). -/
theorem msixUnmask_pending {s : State} {v : Nat} (hv : v < 32) (hs : s.irqSeen) (hc : s.canSend = true) (hp : s.irq.pend.getLsbD v = true) :
    (settle (msixUnmask v s)).irq.pend.getLsbD v = false ∧
      (s.hostConds.getLsbD v = true → s.msixOut v ∈ (settle (msixUnmask v s)).out) := by
  obtain ⟨u, hu⟩ : ∃ u : State, u = { s with irq := { s.irq with mask := s.irq.mask &&& ~~~(BitVec.ofNat 32 (2 ^ v)) } } := ⟨_, rfl⟩
  have hun : msixUnmask v s = u.flushPend [v] := by rw [hu]; rfl
  have hsend : u.vecSends v = true := by
    have hm : u.vecSends v = (s.canSend && !(s.irq.mask &&& ~~~(BitVec.ofNat 32 (2 ^ v))).getLsbD v) := by rw [hu]; rfl
    rw [hm, getLsbD_and_not_bit _ hv, hc]
    simp
  have hseen : u.irqSeen := by
    rw [hu]
    exact hs.trans (State.hostConds_congr rfl)
  have hpu : u.irq.pend.getLsbD v = true := by rw [hu]; exact hp
  rw [hun, settle_of_irqSeen (State.flushPend_irqSeen hseen _), u.flushPend_pend _ hv, hsend]
  refine ⟨by simp, fun hcv => ?_⟩
  have := State.flushPend_sends hv (List.mem_singleton.mpr rfl) hpu hsend
    (by rw [hu]; exact (congrArg (BitVec.getLsbD · v) (State.hostConds_congr rfl)).trans hcv)
  rwa [hu] at this ⊢

/-- When the endpoint can send again, a pending vector that is not masked sends where its condition is 1, and a masked one pends on only where
its condition is 1 (R71). -/
theorem resumed_pend {s : State} (hs : s.irqSeen) {v : Nat} (hv : v < 32) :
    (settle (s.resumed.flushPend (List.range 32))).irq.pend.getLsbD v =
      (s.irq.pend.getLsbD v && s.hostConds.getLsbD v && !s.resumed.vecSends v) := by
  have hseen : s.resumed.irqSeen := hs.trans (State.hostConds_congr rfl)
  have hp : s.resumed.irq.pend = s.irq.pend &&& s.hostConds := rfl
  rw [settle_of_irqSeen (State.flushPend_irqSeen hseen _), State.flushPend_pend _ _ hv, hp]
  simp [hv]

theorem resumed_vecSends {s : State} (hon : s.hostOn = true) (hr : s.rung ≤ 2) (hp : s.irq.perstLow = false) (v : Nat) :
    s.resumed.vecSends v = !s.irq.mask.getLsbD v := by
  have h : s.resumed.vecSends v = (s.resumed.canSend && !s.irq.mask.getLsbD v) := rfl
  rw [h, State.canSend_resumed hon hr hp, Bool.true_and]

theorem resumed_sends {s : State} {v : Nat} (hv : v < 32) (hp : s.irq.pend.getLsbD v = true)
    (hm : s.resumed.vecSends v = true) (hc : s.hostConds.getLsbD v = true) :
    s.msixOut v ∈ (settle (s.resumed.flushPend (List.range 32))).out := by
  have hh : s.resumed.hostConds = s.hostConds := State.hostConds_congr rfl
  have hpend : s.resumed.irq.pend.getLsbD v = true := by
    have : s.resumed.irq.pend = s.irq.pend &&& s.hostConds := rfl
    simp [this, hp, hc]
  exact settle_out_mem (State.flushPend_sends hv (List.mem_range.mpr hv) hpend hm (by rw [hh]; exact hc))

end Sys2Proof.Machine

namespace Sys2Proof

open Machine

/-- Settles O13: an acknowledge copy and a route are plain registers, and the other commands update the vectors' own state, of which the sending
of what waits changes the pending bits alone. -/
theorem interruptCommands : Obligations.InterruptCommands := by
  unfold Obligations.InterruptCommands
  refine ⟨fun m a v s r i h h4 ha hc h12 hr hp hm hack => ⟨fun hn => ?ack, fun hn hon hnone => ?posted⟩,
    fun m hi v s h => ?route, fun s hon => ?vectors⟩
  case ack =>
    refine ⟨_, exec_acknowledgeWrite h h4 ha hack, ?_⟩
    rw [wordWrite_plain_near hr hp hm hc hn, and_ofNat_ones]
    refine ⟨?_, fun x hx => ?_, fun w hw hhc hh hs => settle_out_mem ?_⟩
    · rw [settle_reg, ackDone_reg, State.reg_setReg]
    · rw [settle_reg, ackDone_reg, State.reg_setReg_ne _ _ hx, State.decoded_reg]
    · have hregs : ((s.decoded m).setReg a.toNat v).regs = (s.setReg a.toNat v).regs :=
        decoded_setReg_get (fun _ _ => rfl) (fun _ _ => rfl) s m a.toNat v
      have hirq : ((s.decoded m).setReg a.toNat v).irq = (s.setReg a.toNat v).irq :=
        decoded_setReg_get (fun _ _ => rfl) (fun _ _ => rfl) s m a.toNat v
      have hvec : ((s.decoded m).setReg a.toNat v).ackVector a.toNat = (s.setReg a.toNat v).ackVector a.toNat :=
        decoded_setReg_get (g := fun u => u.ackVector a.toNat) (fun _ _ => rfl) (fun _ _ => rfl) s m a.toNat v
      have hsend : ((s.decoded m).setReg a.toNat v).vecSends w = (s.setReg a.toNat v).vecSends w :=
        decoded_setReg_get (g := fun u => u.vecSends w) (fun _ _ => rfl) (fun _ _ => rfl) s m a.toNat v
      have hout : ((s.decoded m).setReg a.toNat v).msixOut w = s.msixOut w :=
        decoded_setReg_get (g := fun u => u.msixOut w) (fun _ _ => rfl) (fun _ _ => rfl) s m a.toNat v
      rw [← hout]
      exact ackDone_sends (hvec.trans hw) (by rw [hirq]; exact hhc) (by rw [State.hostConds_congr hregs]; exact hh) (hsend.trans hs)
  case posted =>
    refine ⟨_, exec_acknowledgeWrite h h4 ha hack, ?_⟩
    rw [wordWrite_plain hr hp hc h12 (.inr (by rwa [State.decoded_blockOn]))]
    obtain ⟨hpost, -, hbus⟩ := putWords_posted (m := m) (base := a.toNat) (ws := [v]) hn ((s.decoded_postedAt m _).trans hnone)
    refine ⟨?_, settle_sameBut_bus ?_⟩
    · unfold State.postedAt at hpost ⊢
      rw [settle_bus, hpost]
    · rw [hbus]
      exact State.sameBut_refl _
  case route =>
    obtain ⟨r, hr, hp, hm⟩ := rowAt_intRoute hi
    refine ⟨_, exec_intRouteWrite hi h, ?_⟩
    rw [wordWrite_plain_near hr hp hm (by cases hi <;> decide) (by cases hi <;> decide), and_ofNat_ones]
    refine ⟨?_, fun x hx => ?_⟩
    · rw [settle_reg, ackDone_reg, State.reg_setReg]
    · rw [settle_reg, ackDone_reg, State.reg_setReg_ne _ _ hx, State.decoded_reg]
  case vectors =>
    refine ⟨⟨_, exec_msixMask hon none, ?_, ?_, settle_sameBut_of rfl⟩, fun v => ⟨_, exec_msixMask hon (some v), ?_, settle_sameBut_of rfl⟩,
      fun v => ⟨_, exec_msixUnmask hon v, ?_, settle_sameBut_of (msixUnmask_sameBut ..), fun hs hc hp => msixUnmask_pending v.isLt hs hc hp⟩,
      ⟨_, exec_d3hotEntry hon, ?_, settle_sameBut_of rfl, fun v => ?_⟩,
      fun hr hperst => ⟨_, exec_msixSendResume hon hr hperst, ?_, ?_, ?_, settle_sameBut_of (resumed_flushPend_sameBut ..), ?_, ?_⟩⟩
    · rw [settle_irq_enabled]
    · rw [settle_irq_mask]
    · rw [settle_irq_mask]
    · rw [settle_irq_mask]
      exact State.flushPend_sendBlind (g := fun u => u.irq.mask) (fun _ _ _ _ _ => rfl) _ _
    · rw [settle_irq_d3hot]
    · unfold State.vecSends State.canSend
      rw [settle_irq_d3hot]
      simp
    · rw [settle_irq_linkL0]
      exact State.flushPend_sendBlind (g := fun u => u.irq.linkL0) (fun _ _ _ _ _ => rfl) _ _
    · rw [settle_irq_enabled]
      exact State.flushPend_sendBlind (g := fun u => u.irq.enabled) (fun _ _ _ _ _ => rfl) _ _
    · rw [settle_irq_d3hot]
      exact State.flushPend_sendBlind (g := fun u => u.irq.d3hot) (fun _ _ _ _ _ => rfl) _ _
    · intro hs v hv hp hm
      have hsend := (resumed_vecSends hon hr hperst v).trans (congrArg _ hm)
      refine ⟨by rw [resumed_pend hs hv, hsend, Bool.not_not, Bool.and_false], fun hc => resumed_sends hv hp hsend hc⟩
    · intro hs v hv hm
      rw [resumed_pend hs hv, resumed_vecSends hon hr hperst, hm]
      simp

end Sys2Proof
end

section
/-! The window into the hamper (R57): its address, the prefetch that a write of the address or a read of the data starts, and the data. -/

namespace Sys2Proof.Machine

/-! ### What the accesses come to -/

theorem wordWrite_hwinAddr (m : Master) (v : Word) (s : State) : wordWrite m Reg.HWIN_ADDR v s = hwinAddr v s := by
  rw [wordWrite_row (r := ⟨0x20, 0x0, 1, 0x0, 1, 1, .rw, [0xfffffc], [], 0, []⟩) (i := 0) (w := 0) rfl (by decide) (by decide) rfl]
  rfl

theorem wordWrite_hwinData (m : Master) (v : Word) (s : State) : wordWrite m Reg.HWIN_DATA v s = hwinWrite m.id v s := by
  rw [wordWrite_row (r := ⟨0x24, 0x0, 1, 0x0, 1, 1, .rw, [0xffffffff], [], 0, []⟩) (i := 0) (w := 0) rfl (by decide) (by decide) rfl]
  rfl

theorem exec_hwinAddrWrite {m : Master} {v : Word} {s : State} (h : s.hears m) :
    exec (.hwinAddrWrite m v) s = .next (settle (hwinAddr v (s.decoded m))) := by
  change execHwinAddrWrite m v s = _
  rw [execHwinAddrWrite, fin_next, oneWrite_eq h (by decide), wordWrite_hwinAddr]

theorem exec_hwinDataWrite {m : Master} {v : Word} {s : State} (h : s.hears m) :
    exec (.hwinDataWrite m v) s = .next (settle (hwinWrite m.id v (s.decoded m))) := by
  change execHwinDataWrite m v s = _
  rw [execHwinDataWrite, fin_next, oneWrite_eq h (by decide), wordWrite_hwinData]

theorem exec_hwinDataRead {m : Master} {s : State} (h : s.reaches m 2) :
    exec (.hwinDataRead m) s = .next (settle (hwinRead (s.tlp m 2))) := by
  change execHwinDataRead m s = _
  unfold execHwinDataRead oneRead
  rw [fin_next, reads_near h (by decide) (by decide)]
  rfl

theorem exec_hwinPrefetchDone (ecc : Ecc) (s : State) : exec (.hwinPrefetchDone ecc) s = .next (settle (hwinDone ecc s)) := rfl

@[simp] theorem State.decoded_fclkOn (s : State) (m : Master) : (s.decoded m).fclkOn = s.fclkOn :=
  tlp_get (g := State.fclkOn) (fun _ _ => rfl) s m 1

@[simp] theorem State.decoded_fab (s : State) (m : Master) : (s.decoded m).fab = s.fab := tlp_get (g := State.fab) (fun _ _ => rfl) s m 1

@[simp] theorem State.decoded_rv (s : State) (m : Master) (a : Nat) : (s.decoded m).rv a = s.rv a := State.rv_of_reg (s.decoded_reg m a)

@[simp] theorem tlp_flag (s : State) (m : Master) (n : Nat) (f : Fld) : (s.tlp m n).flag f = s.flag f := State.flag_of_reg (tlp_reg s m n _)

@[simp] theorem tlp_rv (s : State) (m : Master) (n a : Nat) : (s.tlp m n).rv a = s.rv a := State.rv_of_reg (tlp_reg s m n a)

/-! ### The prefetch -/

theorem hwinFetch_reg (s : State) {a : Nat} (h : a ≠ Reg.HWIN_STATUS) : (hwinFetch s).reg a = s.reg a := by
  change ((s.setFlag F.HWIN_STATUS_VALID false).setFlag F.HWIN_STATUS_ECC false).reg a = _
  rw [State.reg_setFlag_ne _ _ _ h, State.reg_setFlag_ne _ _ _ h]

theorem hwinFetch_rv (s : State) {a : Nat} (h : a ≠ Reg.HWIN_STATUS) : (hwinFetch s).rv a = s.rv a := State.rv_of_reg (hwinFetch_reg s h)

theorem hwinFetch_valid (s : State) : (hwinFetch s).flag F.HWIN_STATUS_VALID = false := by
  change ((s.setFlag F.HWIN_STATUS_VALID false).setFlag F.HWIN_STATUS_ECC false).flag F.HWIN_STATUS_VALID = _
  rw [State.flag_setFlag_apart _ _ (by decide), State.flag_setFlag _ _ _ (by decide) rfl]

/-- One prefetch waits, behind the requests of others (R57). -/
theorem hwinFetch_gateQ {s : State} (hf : s.fclkOn = true) :
    (hwinFetch s).fab.gateQ = s.fab.gateQ.filter (fun r => !r.hwin) ++ [⟨s.rv Reg.HWIN_ADDR, none, .good, false, true⟩] := by
  have hflag : ∀ (u : State) (f : Fld) (b : Bool), f.addr ≠ Reg.FAB_STATUS → (u.setFlag f b).fclkOn = u.fclkOn := by
    intro u f b h
    unfold State.fclkOn
    rw [State.flag_setFlag_ne _ _ _ _ h.symm]
    rfl
  unfold hwinFetch
  dsimp only
  rw [if_pos (by rw [hflag _ _ _ (by decide), hflag _ _ _ (by decide), hf]), State.rv_setFlag_ne _ _ _ (by decide),
    State.rv_setFlag_ne _ _ _ (by decide)]
  rfl

theorem hamWord_fab (a : Nat) (ecc : Ecc) (s : State) : (hamWord a ecc s).2.fab = s.fab := by
  cases ecc with
  | good => rfl
  | corrected | bad => simp [hamWord]

theorem hamWord_fst (a : Nat) (ecc : Ecc) (s : State) : (hamWord a ecc s).1 = if ecc = .bad then 0 else s.fab.mem.le a 4 := by
  cases ecc <;> rfl

/-- The prefetch at the head of the queue completes: the word it gives, and the state it leaves before the flags are set. -/
theorem hwinDone_head {ecc e : Ecc} {s : State} {a : Nat} {w : Bool} {q : List HamReq} (hd : s.hamDark = false)
    (hq : s.fab.gateQ = ⟨a, none, e, w, true⟩ :: q) :
    ∃ u : State, hwinDone ecc s = (u.setFlag F.HWIN_STATUS_VALID true).setFlag F.HWIN_STATUS_ECC (ecc == .bad) ∧
      u.fab = { s.fab with gateQ := q } ∧ u.bus.hwinData = BitVec.ofNat 32 (if ecc = .bad then 0 else s.fab.mem.le a 4) := by
  have htake : hwinTake s.fab.gateQ 0 = some (⟨a, none, e, w, true⟩, q) := by
    rw [hq]
    unfold hwinTake
    simp
  unfold hwinDone
  rw [if_neg (by simp [hd]), htake]
  exact ⟨_, rfl, hamWord_fab .., congrArg (BitVec.ofNat 32) (hamWord_fst ..)⟩

/-! ### The data -/

theorem hwinRead_valid {s : State} (h : s.flag F.HWIN_STATUS_VALID = true) :
    hwinRead s = answerWord s.bus.hwinData (hwinFetch (hwinNext s)) := if_pos h

theorem hwinRead_notReady {s : State} (h : s.flag F.HWIN_STATUS_VALID = false) : hwinRead s = answer .notReady [0] s :=
  if_neg (by simp [h])

theorem answerWord_reply (w : Word) (s : State) : (answerWord w s).bus.reply = ⟨.ok, [w]⟩ := rfl
theorem answerWord_rv (w : Word) (s : State) (a : Nat) : (answerWord w s).rv a = s.rv a := rfl
theorem answerWord_flag (w : Word) (s : State) (f : Fld) : (answerWord w s).flag f = s.flag f := rfl

theorem hwinNext_rv (s : State) : (hwinNext s).rv Reg.HWIN_ADDR = (s.rv Reg.HWIN_ADDR + 4) % 2 ^ 24 := by
  unfold hwinNext
  rw [State.rv_setRv]
  omega

theorem hwinWrite_clocked {m : Nat} {v : Word} {s : State} (h : s.fclkOn = true) :
    hwinWrite m v s = hwinNext { s with fab := { s.fab with gateQ := s.fab.gateQ ++ [⟨s.rv Reg.HWIN_ADDR, some v, .good, false, false⟩] } } :=
  if_pos h

theorem id_eq_hostPcie_iff (m : Master) : m.id = 1 ↔ m = .hostPcie := by
  cases m <;> simp [Master.id] <;> omega

theorem State.bump16_answer (s : State) (st : LinkStatus) (l : List Word) (a : Nat) : (answer st l s).bump16 a = answer st l (s.bump16 a) :=
  (apply_ite (answer st l) (s.fld ⟨a, 0, 16⟩ < 2 ^ 16 - 1) (s.setFld ⟨a, 0, 16⟩ (s.fld ⟨a, 0, 16⟩ + 1)) s).symm

/-- While the fabric is not clocked a write of the data is an access to a block that is off (R57, R61). -/
theorem hwinWrite_unclocked {m : Master} {v : Word} {s : State} (h : s.fclkOn = false) :
    hwinWrite m.id v (s.decoded m) = answer (if m = .hostPcie then .ok else .domainOff) [] ((s.tlp m 1).bump16 Reg.OFF_ACCESS) := by
  unfold hwinWrite offAccess State.decoded
  rw [if_neg (by rw [← State.decoded, State.decoded_fclkOn, h]; decide), State.bump16_answer]
  by_cases hm : m = .hostPcie
  · rw [if_pos ((id_eq_hostPcie_iff m).mpr hm), if_pos hm]
  · rw [if_neg (fun e => hm ((id_eq_hostPcie_iff m).mp e)), if_neg hm]
    rfl

end Sys2Proof.Machine

namespace Sys2Proof

open Machine

/-- Settles O14: the accesses come to the window's own operations, each of which says what it leaves in the queue and the registers. -/
theorem hamperWindowCommands : Obligations.HamperWindowCommands := by
  unfold Obligations.HamperWindowCommands
  refine ⟨fun m v s h => ⟨_, exec_hwinAddrWrite h, ?_, ?_, fun hf => ?_, fun x ha hx => ?_⟩,
    fun ecc s a e w q hd hq => ?prefetch, fun m s h => ⟨fun hv => ?read, fun hv => ?notReady⟩, fun m v s h => ⟨fun hf => ?write, fun hf => ?unclocked⟩⟩
  · rw [settle_reg, hwinAddr, hwinFetch_reg _ (by decide), State.reg_setReg]
  · rw [settle_flag, hwinAddr, hwinFetch_valid]
  · have hf' : ((s.decoded m).setReg Reg.HWIN_ADDR (v &&& 0xfffffc)).fclkOn = true := by
      unfold State.fclkOn State.flag
      rw [State.fld_setReg_ne _ _ _ (by decide)]
      exact (s.decoded_fclkOn m).trans hf
    rw [settle_fab, hwinAddr, hwinFetch_gateQ hf', State.rv_setReg]
    exact ⟨_, rfl, fun x hx => by simpa using (List.mem_filter.mp hx).2⟩
  · rw [settle_reg, hwinAddr, hwinFetch_reg _ hx, State.reg_setReg_ne _ _ ha, State.decoded_reg]
  case prefetch =>
    obtain ⟨u, hu, hfab, hdata⟩ := hwinDone_head (ecc := ecc) hd hq
    refine ⟨_, exec_hwinPrefetchDone ecc s, ?_⟩
    rw [hu, settle_flag, settle_flag, settle_fab, settle_bus]
    refine ⟨?_, ?_, (congrArg FabPart.gateQ hfab :), (congrArg FabPart.mem hfab :), hdata⟩
    · rw [State.flag_setFlag_apart _ _ (by decide), State.flag_setFlag _ _ _ (by decide) rfl]
    · rw [State.flag_setFlag _ _ _ (by decide) rfl]
      cases ecc <;> rfl
  case read =>
    refine ⟨_, exec_hwinDataRead h, ?_⟩
    rw [hwinRead_valid (by rw [tlp_flag, hv]), settle_bus, settle_rv, settle_flag]
    rw [answerWord_reply, answerWord_rv, answerWord_flag, tlp_bus, hwinFetch_rv _ (by decide), hwinNext_rv, tlp_rv]
    exact ⟨rfl, rfl, hwinFetch_valid _⟩
  case notReady =>
    refine ⟨_, exec_hwinDataRead h, ?_⟩
    rw [hwinRead_notReady (by rw [tlp_flag, hv])]
    exact settle_sameBut _
  case write =>
    refine ⟨_, exec_hwinDataWrite h, ?_⟩
    rw [hwinWrite_clocked (by rw [State.decoded_fclkOn, hf]), settle_fab, settle_rv, hwinNext_rv, State.decoded_fab, State.decoded_rv]
    refine ⟨rfl, congrArg (fun x => (x + 4) % 2 ^ 24) (s.decoded_rv m Reg.HWIN_ADDR), fun x hx => ?_⟩
    rw [settle_reg, hwinNext, State.reg_setRv_ne _ _ hx]
    exact s.decoded_reg m x
  case unclocked =>
    refine ⟨_, exec_hwinDataWrite h, ?_⟩
    rw [hwinWrite_unclocked hf]
    exact settle_sameBut _

end Sys2Proof
end

section
/-! The timebase's source and its oven (R76–R80): what a write of TB_CTRL or TB_OVEN and a millisecond of the oven loop leave. -/

namespace Sys2Proof.Machine

theorem whenOn_of_blockOn {b : Nat} {s : State} (h : s.blockOn b = true) (f : State → State) : whenOn b f s = f s := if_pos h

theorem unsigned_lt (w : Nat) (i : Int) : unsigned w i < 2 ^ w := by
  unfold unsigned
  have := Int.emod_lt_of_pos i (show (0 : Int) < (2 ^ w : Nat) by positivity)
  have := Int.emod_nonneg i (show ((2 ^ w : Nat) : Int) ≠ 0 by positivity)
  omega

/-! ### Flags of TB_STATUS and milestones -/

theorem State.tbFlag_reg (s : State) (f : Fld) (b : Bool) {a : Nat} (h : a ≠ f.addr) (he : a ≠ Reg.TB_EVT) : (s.tbFlag f b).reg a = s.reg a := by
  unfold State.tbFlag
  split
  · rfl
  · rw [State.reg_bump_ne _ he, State.reg_setFlag_ne _ _ _ h]

theorem State.tbFlag_rv (s : State) (f : Fld) (b : Bool) {a : Nat} (h : a ≠ f.addr) (he : a ≠ Reg.TB_EVT) : (s.tbFlag f b).rv a = s.rv a :=
  State.rv_of_reg (s.tbFlag_reg f b h he)

theorem State.flag_bump_ne (s : State) {a : Nat} (f : Fld) (h : f.addr ≠ a) : (s.bump a).flag f = s.flag f := s.flag_setRv_ne _ f h

theorem State.flag_tbFlag (s : State) (f : Fld) (b : Bool) (h : f.lo + f.w ≤ 32) (hw : f.w = 1) (he : f.addr ≠ Reg.TB_EVT) :
    (s.tbFlag f b).flag f = b := by
  unfold State.tbFlag
  split
  · assumption
  · rw [State.flag_bump_ne _ _ he, State.flag_setFlag _ _ _ h hw]

theorem State.flag_tbFlag_apart (s : State) {f g : Fld} (b : Bool) (h : f.apart g) (he : g.addr ≠ Reg.TB_EVT) :
    (s.tbFlag f b).flag g = s.flag g := by
  unfold State.tbFlag
  split
  · rfl
  · rw [State.flag_bump_ne _ _ he, State.flag_setFlag_apart _ _ h]

theorem State.milestone_reg (s : State) (k : Nat) {a : Nat} (hs : a ≠ Reg.BOOT_STATUS) (ht : a ≠ Reg.BOOT_TIME k) (he : a ≠ Reg.BOOT_EVT) :
    (s.milestone k).reg a = s.reg a := by
  unfold State.milestone
  split
  · rfl
  · rw [State.reg_bump_ne _ he, State.reg_setRv_ne _ _ ht, State.reg_setFlag_ne _ _ _ hs]

theorem State.milestone_fld (s : State) (k : Nat) (f : Fld) (hs : f.addr ≠ Reg.BOOT_STATUS) (ht : f.addr ≠ Reg.BOOT_TIME k)
    (he : f.addr ≠ Reg.BOOT_EVT) : (s.milestone k).fld f = s.fld f := State.fld_of_reg (s.milestone_reg k hs ht he)

theorem State.milestone_flag (s : State) (k : Nat) (f : Fld) (hs : f.addr ≠ Reg.BOOT_STATUS) (ht : f.addr ≠ Reg.BOOT_TIME k)
    (he : f.addr ≠ Reg.BOOT_EVT) : (s.milestone k).flag f = s.flag f := State.flag_of_reg (s.milestone_reg k hs ht he)

/-- The milestone is then reached. -/
theorem State.milestone_reached (s : State) {k : Nat} (hk : k < 32) : (s.milestone k).flag ⟨Reg.BOOT_STATUS, k, 1⟩ = true := by
  unfold State.milestone
  split
  · assumption
  · rw [State.flag_bump_ne _ _ (by decide : Reg.BOOT_STATUS ≠ Reg.BOOT_EVT),
      State.flag_setRv_ne _ _ _ (by change Reg.BOOT_STATUS ≠ Reg.BOOT_TIME k; simp [Reg.BOOT_STATUS, Reg.BOOT_TIME]; omega),
      State.flag_setFlag _ _ _ (by change k + 1 ≤ 32; omega) rfl]

/-! ### TB_CTRL (R64, R79, R80) -/

theorem landTbCtrl_locked {v : Word} {s : State} (h : s.tbLocked = true) :
    landTbCtrl v s = s.sendFault srcHostDecode kLockedWrite Reg.TB_CTRL := if_pos h

theorem landTbCtrl_refused {v : Word} {s : State} (hl : s.tbLocked = false) (ha : s.anyApllLocked = true) :
    landTbCtrl v s = s.setFlag F.TB_STATUS_SRC_REFUSED true := by
  unfold landTbCtrl
  rw [if_neg (by simp [hl]), if_pos ha]

/-- The state in which the timebase runs from an external source, its oven's demand at zero. -/
def State.runsExternal (u : State) (src : Nat) : Prop :=
  u.fld F.TB_STATUS_SRC_IN_USE = src ∧ u.flag F.TB_STATUS_EXT_ACTIVE = true ∧ u.flag F.TB_STATUS_SLEWING = true ∧
    u.flag F.TB_OVEN_HTR_EN = false ∧ u.tb.demandMw = 0

/-- The registers of a timebase that an external source is put in use for (R80). -/
def externalRegs (src : Nat) (u : State) : State :=
  (((((u.setFld F.TB_STATUS_SRC_IN_USE src).setFlag F.TB_STATUS_EXT_ACTIVE true).setFlag F.TB_STATUS_SLEWING true).setFlag
    F.TB_STATUS_AT_SETPOINT false).setRv Reg.TB_PRED_DEV 0).setFlag F.TB_OVEN_HTR_EN false

/-- The state with other words of the timebase's part. -/
def State.withTb (s : State) (t : TbPart) : State := { s with tb := t }

@[simp] theorem State.withTb_reg (s : State) (t : TbPart) (a : Nat) : (s.withTb t).reg a = s.reg a := rfl
@[simp] theorem State.withTb_fld (s : State) (t : TbPart) (f : Fld) : (s.withTb t).fld f = s.fld f := rfl
@[simp] theorem State.withTb_flag (s : State) (t : TbPart) (f : Fld) : (s.withTb t).flag f = s.flag f := rfl

theorem externalRegs_runs (src : Nat) (u : State) (t : TbPart) (ht : t.demandMw = 0) :
    ((externalRegs src u).withTb t).runsExternal (src % 2 ^ 2) := by
  unfold State.runsExternal
  simp only [State.withTb_fld, State.withTb_flag]
  refine ⟨?_, ?_, ?_, ?_, ht⟩ <;> unfold externalRegs <;>
    simp (disch := decide) only [State.fld_setFlag_apart, State.fld_setRv_ne, State.fld_setFld, State.flag_setFlag_apart, State.flag_setRv_ne,
      State.flag_setFlag]

theorem externalRegs_reg (src : Nat) (u : State) {a : Nat} (hs : a ≠ Reg.TB_STATUS) (hp : a ≠ Reg.TB_PRED_DEV) (ho : a ≠ Reg.TB_OVEN) :
    (externalRegs src u).reg a = u.reg a := by
  unfold externalRegs
  simp (disch := assumption) only [State.reg_setFlag_ne, State.reg_setRv_ne, State.reg_setFld_ne]

theorem externalRegs_refused (src : Nat) (u : State) :
    (externalRegs src u).flag F.TB_STATUS_SRC_REFUSED = u.flag F.TB_STATUS_SRC_REFUSED := by
  unfold externalRegs
  simp (disch := decide) only [State.flag_setFlag_apart, State.flag_setRv_ne, State.flag_setFld_apart]

theorem externalRegs_tbLocked (src : Nat) (u : State) (t : TbPart) : ((externalRegs src u).withTb t).tbLocked = u.tbLocked := by
  unfold State.tbLocked
  rfl

/-- The source is stored and locked, and an external one is put in use, before milestone 3 is reached. -/
theorem landTbCtrl_stored {v : Word} {s : State} (hl : s.tbLocked = false) (ha : s.anyApllLocked = false) :
    ∃ u : State, landTbCtrl v s = u.milestone 3 ∧ u.tbLocked = true ∧ u.reg Reg.TB_CTRL = v &&& 0xf ∧
      u.flag F.TB_STATUS_SRC_REFUSED = false ∧ (v.toNat % 4 = 1 ∨ v.toNat % 4 = 2 → u.runsExternal (v.toNat % 4)) := by
  obtain ⟨w, hw⟩ : ∃ w, w = ((s.setReg Reg.TB_CTRL (v &&& 0xf)).lock Reg.TB_CTRL).setFlag F.TB_STATUS_SRC_REFUSED false := ⟨_, rfl⟩
  have hland : landTbCtrl v s = (if v.toNat % 4 = 1 ∨ v.toNat % 4 = 2 then
      (externalRegs (v.toNat % 4) w).withTb { w.tb with demandMw := 0, atMs := none } else w).milestone 3 := by
    unfold landTbCtrl
    rw [if_neg (by simp [hl]), if_neg (by simp [ha]), hw]
    rfl
  have hlock : w.tbLocked = true := by
    rw [hw]
    exact Tbl.get_set_same (fun _ => false) s.bus.locks Reg.TB_CTRL true
  have hreg : w.reg Reg.TB_CTRL = v &&& 0xf := by
    rw [hw]
    exact (State.reg_setFlag_ne _ _ _ (by decide)).trans (State.reg_setReg _ _ _)
  have href : w.flag F.TB_STATUS_SRC_REFUSED = false := by
    rw [hw]
    exact State.flag_setFlag _ _ _ (by decide) rfl
  by_cases hsrc : v.toNat % 4 = 1 ∨ v.toNat % 4 = 2
  · rw [if_pos hsrc] at hland
    refine ⟨_, hland, (externalRegs_tbLocked ..).trans hlock, ?_, ?_, fun _ => ?_⟩
    · rw [State.withTb_reg, externalRegs_reg _ _ (by decide) (by decide) (by decide), hreg]
    · rw [State.withTb_flag, externalRegs_refused, href]
    · have := externalRegs_runs (v.toNat % 4) w { w.tb with demandMw := 0, atMs := none } rfl
      rwa [show v.toNat % 4 % 2 ^ 2 = v.toNat % 4 by omega] at this
  · rw [if_neg hsrc] at hland
    exact ⟨w, hland, hlock, hreg, href, fun h => absurd h hsrc⟩

/-! ### TB_OVEN (R76, R77, R80) -/

theorem landTbOven_external {v : Word} {s : State} (h : s.tbExt = true) : landTbOven v s = s := if_pos h

theorem landTbOven_on {v : Word} {s : State} (h : s.tbExt = false) (hv : v.getLsbD 0 = true) :
    landTbOven v s = (s.setFlag F.TB_OVEN_HTR_EN true).withTb { s.tb with atMs := none } := by
  unfold landTbOven
  rw [if_neg (by simp [h]), if_pos hv]
  rfl

theorem landTbOven_off {v : Word} {s : State} (h : s.tbExt = false) (hv : v.getLsbD 0 = false) :
    landTbOven v s = ((s.tbFlag F.TB_STATUS_TB_WARM false).setFlag F.TB_OVEN_HTR_EN false).withTb { s.tb with demandMw := 0 } := by
  unfold landTbOven
  rw [if_neg (by simp [h]), if_neg (Bool.eq_false_iff.mp hv)]
  rfl

/-! ### The oven loop (R76–R78) -/

/-- The flags that end a millisecond of the oven loop at `dev` mK from the set point: OVERTEMP is `hot`, HTR_LIMIT falls from the set point up,
and TB_WARM falls where `cool`. -/
def ovenFlags (dev : Int) (hot cool : Bool) (u : State) : State :=
  let s4 := u.tbFlag F.TB_STATUS_OVERTEMP hot
  let s5 := if 0 ≤ dev then s4.tbFlag F.TB_STATUS_HTR_LIMIT false else s4
  if cool then s5.tbFlag F.TB_STATUS_TB_WARM false else s5

section

variable (dev : Int) (hot cool : Bool) (u : State)

theorem ovenFlags_rv {a : Nat} (hs : a ≠ Reg.TB_STATUS) (he : a ≠ Reg.TB_EVT) : (ovenFlags dev hot cool u).rv a = u.rv a := by
  unfold ovenFlags
  dsimp only
  split <;> split <;> simp (disch := assumption) only [State.tbFlag_rv]

theorem ovenFlags_atSetpoint : (ovenFlags dev hot cool u).flag F.TB_STATUS_AT_SETPOINT = u.flag F.TB_STATUS_AT_SETPOINT := by
  unfold ovenFlags
  dsimp only
  split <;> split <;> simp (disch := decide) only [State.flag_tbFlag_apart]

theorem ovenFlags_overtemp : (ovenFlags dev hot cool u).flag F.TB_STATUS_OVERTEMP = hot := by
  have h : (u.tbFlag F.TB_STATUS_OVERTEMP hot).flag F.TB_STATUS_OVERTEMP = hot := State.flag_tbFlag _ _ _ (by decide) rfl (by decide)
  unfold ovenFlags
  dsimp only
  split <;> split <;> simp (disch := decide) only [State.flag_tbFlag_apart, h]

theorem ovenFlags_warm : (ovenFlags dev hot true u).flag F.TB_STATUS_TB_WARM = false :=
  State.flag_tbFlag _ _ _ (by decide) rfl (by decide)

theorem ovenFlags_tb : (ovenFlags dev hot cool u).tb = u.tb := by
  unfold ovenFlags
  dsimp only
  split <;> split <;> simp only [State.tbFlag_tb]

end

/-- A millisecond of the oven loop with the oven's source: what stands before the flags of its end. -/
theorem ovenLoop_eq_ovenFlags {tc d0 d1 d2 d3 : Int} {s : State} (h : s.tbExt = false) :
    ∃ (u : State) (hot cool : Bool), ovenLoop tc d0 d1 d2 d3 s = ovenFlags (tc - s.rv Reg.TB_SETPOINT) hot cool u ∧
      u.rv Reg.TB_TEMP = unsigned 18 tc ∧ u.flag F.TB_STATUS_AT_SETPOINT = decide ((tc - s.rv Reg.TB_SETPOINT).natAbs ≤ 50) ∧
      (3000 < tc - s.rv Reg.TB_SETPOINT → hot = true ∧ u.tb.demandMw = 0) ∧
      (200 < (tc - s.rv Reg.TB_SETPOINT).natAbs → cool = true) := by
  unfold ovenLoop
  extract_lets s1 sp dev at_ hot on atMs pred demand s2 part s3 s4 s5
  have htemp : s1.rv Reg.TB_TEMP = unsigned 18 tc := by
    have := unsigned_lt 18 tc
    simp (disch := decide) only [s1, State.rv_setRv_ne, State.rv_setRv]
    omega
  refine ⟨s3, hot, decide (200 < dev.natAbs) || !withinPpb pred 20 || hot, ?_, ?_, ?_, fun h3 => ?_, fun h2 => ?_⟩
  · rw [if_neg (by simp [h])]
    rfl
  · rw [← htemp]
    change (State.setRv _ _ _).rv _ = _
    simp (disch := decide) only [State.rv_setRv_ne, State.rv_setFlag_ne]
  · change (State.setRv _ _ _).flag _ = _
    simp (disch := decide) only [State.flag_setRv_ne, State.flag_setFlag]
    rfl
  · have hhot : hot = true := if_pos h3
    refine ⟨hhot, ?_⟩
    change demand = 0
    simp only [demand, hhot, Bool.not_true, Bool.and_false, Bool.false_eq_true, if_false]
  · have : dev.natAbs > 200 := h2
    simp [this]

theorem ovenLoop_temp (tc d0 d1 d2 d3 : Int) (s : State) : (ovenLoop tc d0 d1 d2 d3 s).rv Reg.TB_TEMP = unsigned 18 tc := by
  by_cases h : s.tbExt = true
  · have := unsigned_lt 18 tc
    unfold ovenLoop
    dsimp only
    rw [if_pos h]
    simp (disch := decide) only [State.rv_setRv_ne, State.rv_setRv]
    omega
  · obtain ⟨u, hot, cool, he, ht, -⟩ := ovenLoop_eq_ovenFlags (tc := tc) (d0 := d0) (d1 := d1) (d2 := d2) (d3 := d3) (Bool.eq_false_iff.mpr h)
    rw [he, ovenFlags_rv _ _ _ _ (by decide) (by decide), ht]

/-! ### The commands -/

theorem exec_tbCtrlWrite {v : Word} {s : State} (h : s.blockOn 2 = true) : exec (.tbCtrlWrite v) s = .next (settle (landTbCtrl v s)) := by
  change execTbCtrlWrite v s = _
  rw [execTbCtrlWrite, whenOn_of_blockOn h, fin_next]

theorem exec_tbOvenWrite {v : Word} {s : State} (h : s.blockOn 2 = true) : exec (.tbOvenWrite v) s = .next (settle (landTbOven v s)) := by
  change execTbOvenWrite v s = _
  rw [execTbOvenWrite, whenOn_of_blockOn h, fin_next]

theorem exec_ovenLoopUpdate {tc d0 d1 d2 d3 : Int} {s : State} (h : s.tbmOn = true) :
    exec (.ovenLoopUpdate tc d0 d1 d2 d3) s = .next (settle (ovenLoop tc d0 d1 d2 d3 s)) := by
  change execOvenLoopUpdate tc d0 d1 d2 d3 s = _
  rw [execOvenLoopUpdate, if_pos h, fin_next]

end Sys2Proof.Machine

namespace Sys2Proof

open Machine

/-- Settles O16: the writes by the cases of their landing, and the loop by the flags that end it. -/
theorem timebaseSourceAndOven : Obligations.TimebaseSourceAndOven := by
  unfold Obligations.TimebaseSourceAndOven
  refine ⟨fun v s hb => ⟨fun hl => ⟨_, exec_tbCtrlWrite hb, ?_⟩, fun hl ha => ⟨_, exec_tbCtrlWrite hb, ?_⟩, fun hl ha => ?stored⟩,
    fun v s hb => ⟨fun he => ⟨_, exec_tbOvenWrite hb, ?_⟩, fun he hv => ⟨_, exec_tbOvenWrite hb, ?_⟩,
      fun he hv => ⟨_, exec_tbOvenWrite hb, ?_⟩⟩,
    fun tc d0 d1 d2 d3 s hon => ⟨_, exec_ovenLoopUpdate hon, ?_, fun he => ?oven⟩⟩
  · rw [landTbCtrl_locked hl]
    exact settle_sameBut _
  · rw [landTbCtrl_refused hl ha]
    exact settle_sameBut _
  case stored =>
    obtain ⟨u, hu, hlock, hreg, href, hext⟩ := landTbCtrl_stored (v := v) hl ha
    have hfld : ∀ f : Fld, f.addr = Reg.TB_CTRL → (u.milestone 3).fld f = f.of ((v &&& 0xf).toNat) := by
      intro f hf
      rw [State.milestone_fld _ _ _ (by rw [hf]; decide) (by rw [hf]; decide) (by rw [hf]; decide), State.fld, State.rv, hf, hreg]
    have hand : (v &&& 0xf).toNat = v.toNat % 16 := by
      rw [BitVec.toNat_and]
      exact Nat.and_two_pow_sub_one_eq_mod v.toNat 4
    refine ⟨_, exec_tbCtrlWrite hb, ?_⟩
    simp only [hu, settle_fld, settle_flag, settle_tb, State.milestone_tb]
    refine ⟨?_, ?_, ?_, ?_, State.milestone_reached u (by decide), fun hs => ?_⟩
    · unfold State.tbLocked at hlock ⊢
      rw [settle_bus, State.milestone_bus, hlock]
    · rw [hfld _ rfl, hand]
      simp only [Fld.of]
      omega
    · rw [hfld _ rfl, hand]
      simp only [Fld.of]
      omega
    · rw [State.milestone_flag _ _ _ (by decide) (by decide) (by decide), href]
    · unfold State.runsExternal at hext
      simpa (disch := decide) only [State.milestone_fld, State.milestone_flag] using hext hs
  · rw [landTbOven_external he]
    exact settle_sameBut _
  · rw [landTbOven_on he hv, settle_flag, State.withTb_flag, State.flag_setFlag _ _ _ (by decide) rfl]
    refine ⟨rfl, fun x hx => ?_⟩
    rw [settle_reg, State.withTb_reg, State.reg_setFlag_ne _ _ _ hx]
  · rw [landTbOven_off he hv, settle_flag, settle_flag, settle_tb, State.withTb_flag, State.withTb_flag,
      State.flag_setFlag _ _ _ (by decide) rfl, State.flag_setFlag_apart _ _ (by decide), State.flag_tbFlag _ _ _ (by decide) rfl (by decide)]
    refine ⟨rfl, rfl, rfl, fun x ho hs hx => ?_⟩
    rw [settle_reg, State.withTb_reg, State.reg_setFlag_ne _ _ _ ho, State.tbFlag_reg _ _ _ hs hx]
  · rw [settle_rv, ovenLoop_temp]
  case oven =>
    obtain ⟨u, hot, cool, hu, -, hat, hover, hcool⟩ := ovenLoop_eq_ovenFlags (tc := tc) (d0 := d0) (d1 := d1) (d2 := d2) (d3 := d3) he
    rw [hu, settle_flag, settle_flag, settle_flag, settle_tb, ovenFlags_atSetpoint, ovenFlags_overtemp, ovenFlags_tb]
    refine ⟨hat, hover, fun h2 => ?_⟩
    rw [hcool h2, ovenFlags_warm]

end Sys2Proof
end

section
/-! Frames of one word on the QSPI slave and transactions of one word on the I2C slave (R53–R57, R411), with no posted write pending and no
guard armed. -/

namespace Sys2Proof.Machine

/-! ### One word over a link -/

theorem answer_reg (st : LinkStatus) (l : List Word) (s : State) (a : Nat) : (answer st l s).reg a = s.reg a := rfl
theorem answerWord_reg (w : Word) (s : State) (a : Nat) : (answerWord w s).reg a = s.reg a := rfl

theorem forEach_fixed {α : Type} {f : State → α → State} {s : State} (h : ∀ a, f s a = s) (l : List α) : forEach l f s = s := by
  induction l with
  | nil => rfl
  | cons a t ih => exact (congrArg (forEach t f) (h a)).trans ih

theorem linkGap_idle (gnss : Bool) {s : State} (h : ∀ b, s.postedAt b = none) : linkGap gnss s = s := by
  refine forEach_fixed (fun b => ?_) _
  split
  · unfold postedLand
    rw [h b]
  · rfl

theorem linkAddr_bar0 {a : Nat} (ha : a < 0x100000) (h4 : a % 4 = 0) : linkAddr a = some a := by
  have hx : a % 2 ^ 24 / 4 * 4 = a := by omega
  unfold linkAddr
  dsimp only
  rw [hx, if_pos (by omega)]

theorem linkWords_one {m : Master} {gnss stop : Bool} {a : Nat} {v : Word} {s : State} (h : ∀ b, s.postedAt b = none) :
    linkWords m gnss stop a [v] .ok s = ((linkWrite m a v s).bus.reply.status, linkWrite m a v s) := by
  unfold linkWords
  rw [linkGap_idle gnss h]
  exact ite_self _

/-- A word written over a link to a plain register of the host island. -/
theorem linkWrite_plain {m : Master} {a i k : Nat} {v : Word} {r : Row} {s : State} (hbus : onBus m = true) (hon : s.masterOn m = true)
    (hg : s.guardOf m = none) (ha : a < 0x100000) (h4 : a % 4 = 0) (hc : a % 0x10000 < 0xfff0) (hn : nearReg a = true)
    (hr : rowAt a = some (r, i, 0)) (hp : plainRow r = true) (hm : r.mask = [k]) :
    linkWrite m a v s = ackDone a ((answer .ok [] s).setReg a (v &&& BitVec.ofNat 32 k)) := by
  unfold linkWrite
  rw [linkAddr_bar0 ha h4]
  dsimp only
  rw [busWrite_eq hbus hon hg ha, wordWrite_plain_near hr hp hm hc hn]

theorem linkWrite_badSpace {m : Master} {a : Nat} {v : Word} {s : State} (h : linkAddr a = none) : linkWrite m a v s = badSpace s := by
  unfold linkWrite
  rw [h]

theorem linkRead_plain {m : Master} {a : Nat} {s : State} (hbus : onBus m = true) (hon : s.masterOn m = true) (ha : a < 0x100000)
    (h4 : a % 4 = 0) (hn : nearReg a = true) (hq : quantAt a = none) (hh : a ≠ Reg.HWIN_DATA) :
    linkRead m a s = answerWord (s.live m.id a) s := by
  unfold linkRead
  rw [linkAddr_bar0 ha h4]
  dsimp only
  rw [busRead_near hbus hon ha hn, wordRead_plain hn hq hh]

theorem linkReads_one {m : Master} {gnss : Bool} {a : Nat} {w : Word} {s : State} (h : ∀ b, s.postedAt b = none)
    (hr : linkRead m a s = answerWord w s) : linkReads m gnss 1 a [] s = (.ok, [w], answerWord w s) := by
  unfold linkReads
  rw [linkGap_idle gnss h, hr]
  rfl

/-! ### QSPI frames (R54, R56) -/

/-- The end of a write frame of status `st`: LINK_STATUS and the next status frame show it. -/
def qspiDone (st : LinkStatus) (u : State) : State :=
  let s1 := answer st [] (u.setFld F.LINK_STATUS_QSPI st.code)
  { s1 with bus := { s1.bus with spiStatus := st } }

theorem qspiDone_spiStatus (st : LinkStatus) (u : State) : (qspiDone st u).bus.spiStatus = st := rfl

theorem qspiDone_reg (st : LinkStatus) (u : State) {a : Nat} (h : a ≠ Reg.LINK_STATUS) : (qspiDone st u).reg a = u.reg a :=
  u.reg_setFld_ne F.LINK_STATUS_QSPI st.code h

theorem qspiDone_linkStatus (st : LinkStatus) (u : State) : (qspiDone st u).fld F.LINK_STATUS_QSPI = st.code := by
  have h := u.fld_setFld F.LINK_STATUS_QSPI st.code (by decide)
  have hc : st.code % 2 ^ F.LINK_STATUS_QSPI.w = st.code := by cases st <;> rfl
  exact h.trans hc

theorem qspiWrite_one {quad gnss : Bool} {a : Nat} {v : Word} {s : State} (h : s.hears .hostSpi) (hp : ∀ b, s.postedAt b = none) :
    qspiWrite quad a [v] gnss false s = qspiDone (linkWrite .hostSpi a v s).bus.reply.status (linkWrite .hostSpi a v s) := by
  obtain ⟨⟨-, hon, -⟩, hg⟩ := h
  unfold qspiWrite linkCut
  rw [if_neg (by simp [hon]), guardEnd_of_none hg, linkWords_one hp]
  rfl

/-- The end of a read of one word: LINK_STATUS shows no error. -/
theorem qspiRead_one {quad gnss : Bool} {a : Nat} {w : Word} {s : State} (h : s.hears .hostSpi) (hp : ∀ b, s.postedAt b = none)
    (hr : linkRead .hostSpi a s = answerWord w s) :
    qspiRead quad a 1 [] gnss false s = answer .ok [w] ((answerWord w s).setFld F.LINK_STATUS_QSPI 0) := by
  obtain ⟨⟨-, hon, -⟩, hg⟩ := h
  unfold qspiRead linkCut
  rw [if_neg (by simp [hon]), guardEnd_of_none hg, Nat.min_self, linkReads_one hp hr]
  rfl

/-- What a write frame to a plain register of the host island leaves. -/
theorem qspiWrite_plain {quad gnss : Bool} {a i k : Nat} {v : Word} {r : Row} {s : State} (h : s.hears .hostSpi) (hp : ∀ b, s.postedAt b = none)
    (ha : a < 0x100000) (h4 : a % 4 = 0) (hc : a % 0x10000 < 0xfff0) (hn : nearReg a = true) (hl : a ≠ Reg.LINK_STATUS)
    (hr : rowAt a = some (r, i, 0)) (hpl : plainRow r = true) (hm : r.mask = [k]) :
    let t := settle (qspiWrite quad a [v] gnss false s)
    t.reg a = v &&& BitVec.ofNat 32 k ∧ t.bus.spiStatus = .ok ∧ t.fld F.LINK_STATUS_QSPI = 0 ∧
      ∀ x, x ≠ a → x ≠ Reg.LINK_STATUS → t.reg x = s.reg x := by
  have hw := linkWrite_plain (v := v) (m := .hostSpi) rfl h.1.2.1 h.2 ha h4 hc hn hr hpl hm
  have hst : (linkWrite .hostSpi a v s).bus.reply.status = .ok := by rw [hw, ackDone_bus]; rfl
  dsimp only
  rw [qspiWrite_one h hp, hst, settle_reg, settle_bus, settle_fld, qspiDone_reg _ _ hl, qspiDone_spiStatus, qspiDone_linkStatus, hw, ackDone_reg,
    State.reg_setReg]
  refine ⟨rfl, rfl, rfl, fun x hx hxl => ?_⟩
  rw [settle_reg, qspiDone_reg _ _ hxl, ackDone_reg, State.reg_setReg_ne _ _ hx]
  rfl

/-- What a write frame to a refused space leaves. -/
theorem qspiWrite_refused {quad gnss : Bool} {a : Nat} {v : Word} {s : State} (h : s.hears .hostSpi) (hp : ∀ b, s.postedAt b = none)
    (ha : linkAddr a = none) :
    let t := settle (qspiWrite quad a [v] gnss false s)
    t.bus.spiStatus = .badSpace ∧ t.fld F.LINK_STATUS_QSPI = 3 ∧
      t.fld ⟨Reg.BAD_ACCESS, 0, 16⟩ = min (s.fld ⟨Reg.BAD_ACCESS, 0, 16⟩ + 1) 65535 ∧
      ∀ x, x ≠ Reg.LINK_STATUS → x ≠ Reg.BAD_ACCESS → t.reg x = s.reg x := by
  have hst : (badSpace s).bus.reply.status = .badSpace := rfl
  have hreg : ∀ x, (badSpace s).reg x = (s.bump16 Reg.BAD_ACCESS).reg x := fun _ => rfl
  dsimp only
  rw [qspiWrite_one h hp, linkWrite_badSpace ha, hst, settle_bus, settle_fld, settle_fld, qspiDone_spiStatus, qspiDone_linkStatus,
    State.fld_of_reg (qspiDone_reg _ _ (by decide)), State.fld_of_reg (hreg _)]
  refine ⟨rfl, rfl, s.fld_bumpFld ⟨Reg.BAD_ACCESS, 0, 16⟩ (by decide), fun x hxl hxb => ?_⟩
  rw [settle_reg, qspiDone_reg _ _ hxl, hreg, State.reg_bump16_ne _ hxb]

/-- What a read frame of a word that is not part of a quantity leaves. -/
theorem qspiRead_plain {quad gnss : Bool} {a : Nat} {s : State} (h : s.hears .hostSpi) (hp : ∀ b, s.postedAt b = none) (ha : a < 0x100000)
    (h4 : a % 4 = 0) (hn : nearReg a = true) (hq : quantAt a = none) (hh : a ≠ Reg.HWIN_DATA) :
    let t := settle (qspiRead quad a 1 [] gnss false s)
    t.bus.reply = ⟨.ok, [s.live 2 a]⟩ ∧ ∀ x, x ≠ Reg.LINK_STATUS → t.reg x = s.reg x := by
  dsimp only
  rw [qspiRead_one h hp (linkRead_plain rfl h.1.2.1 ha h4 hn hq hh), settle_bus]
  refine ⟨rfl, fun x hx => ?_⟩
  rw [settle_reg, answer_reg, State.reg_setFld_ne _ _ _ hx, answerWord_reg]

/-! ### I2C transactions (R55) -/

/-- The state with the I2C pointer at `p`. -/
def State.withPtr (s : State) (p : Nat) : State := { s with bus := { s.bus with i2cPtr := p } }

theorem State.withPtr_live (s : State) (p m a : Nat) : (s.withPtr p).live m a = s.live m a := rfl

theorem ptrRefused_near {a : Nat} {s : State} (ha : a < 0x100000) (h4 : a % 4 = 0) (hn : nearReg a = true) : ptrRefused a s = none := by
  unfold ptrRefused
  rw [linkAddr_bar0 ha h4]
  exact if_pos (.inr hn)

theorem i2cDo_other {dev a : Nat} {f : State → LinkStatus × List Word × State} {s : State} (hd : dev ≠ 0x58 + s.casc) :
    i2cDo dev a f s = s := by
  unfold i2cDo
  rw [if_pos (by simp [hd])]

/-- A transaction at the device's own address, with its pointer in the host island, has its data phase. -/
theorem i2cDo_own {dev a : Nat} {f : State → LinkStatus × List Word × State} {s : State} (h : s.hears .hostI2c) (hp : ∀ b, s.postedAt b = none)
    (hd : dev = 0x58 + s.casc) (ha : a < 0x100000) (h4 : a % 4 = 0) (hn : nearReg a = true) :
    i2cDo dev a f s = let r := f (s.withPtr a); answer r.1 r.2.1 (r.2.2.setFld F.LINK_STATUS_I2C r.1.code) := by
  obtain ⟨⟨-, hon, -⟩, hg⟩ := h
  have hx : a % 2 ^ 24 / 4 * 4 = a := by omega
  unfold i2cDo
  rw [if_neg (by simp [hon, hd]), guardEnd_of_none hg, linkGap_idle _ hp, hx]
  dsimp only
  rw [ptrRefused_near ha h4 hn]
  rfl

theorem execI2cWrite_one {dev : BitVec 7} {a : BitVec 24} {v : Word} {s : State} (h : s.hears .hostI2c) (hp : ∀ b, s.postedAt b = none)
    (hd : dev.toNat = 0x58 + s.casc) (ha : a.toNat < 0x100000) (h4 : a.toNat % 4 = 0) (hn : nearReg a.toNat = true)
    (hst : (linkWrite .hostI2c a.toNat v (s.withPtr a.toNat)).bus.reply.status = .ok) :
    exec (.i2cWrite dev a [v] false) s = .next (settle (answer .ok []
      ((movePtr a.toNat 1 (linkWrite .hostI2c a.toNat v (s.withPtr a.toNat))).setFld F.LINK_STATUS_I2C 0))) := by
  change execI2cWrite dev a [v] false s = _
  unfold execI2cWrite linkCut
  have hp' : ∀ b, (s.withPtr a.toNat).postedAt b = none := hp
  rw [fin_next, i2cDo_own h hp hd ha h4 hn]
  dsimp only
  rw [linkWords_one hp', hst]
  rfl

theorem execI2cRead_one {dev : BitVec 7} {a : BitVec 24} {w : Word} {s : State} (h : s.hears .hostI2c) (hp : ∀ b, s.postedAt b = none)
    (hd : dev.toNat = 0x58 + s.casc) (ha : a.toNat < 0x100000) (h4 : a.toNat % 4 = 0) (hn : nearReg a.toNat = true)
    (hr : linkRead .hostI2c a.toNat (s.withPtr a.toNat) = answerWord w (s.withPtr a.toNat)) :
    exec (.i2cRead dev a 1 [] false) s = .next (settle (answer .ok [w]
      ((movePtr a.toNat 1 (answerWord w (s.withPtr a.toNat))).setFld F.LINK_STATUS_I2C 0))) := by
  change execI2cRead dev a 1 [] false s = _
  unfold execI2cRead linkCut
  have hp' : ∀ b, (s.withPtr a.toNat).postedAt b = none := hp
  rw [fin_next, i2cDo_own h hp hd ha h4 hn]
  dsimp only
  rw [linkReads_one hp' hr]
  rfl

/-- The status that ends a transaction, and its pointer, concern no register but LINK_STATUS. -/
theorem i2cEnd_reg (st : LinkStatus) (l : List Word) (a n c : Nat) (u : State) {x : Nat} (h : x ≠ Reg.LINK_STATUS) :
    (answer st l ((movePtr a n u).setFld F.LINK_STATUS_I2C c)).reg x = u.reg x :=
  (movePtr a n u).reg_setFld_ne F.LINK_STATUS_I2C c h

end Sys2Proof.Machine

namespace Sys2Proof

open Machine

/-- Settles O15: a frame of one word is one access, followed by the status that ends the frame. -/
theorem linkFrames : Obligations.LinkFrames := by
  unfold Obligations.LinkFrames
  refine ⟨fun s hon => ⟨⟨_, congrArg fin (if_pos hon), settle_sameBut _⟩, ⟨_, congrArg fin (if_pos hon), settle_sameBut _⟩⟩,
    fun a v gnss s r i k h hp ha h4 hc hn hl hr hpl hm => ⟨⟨_, rfl, ?_⟩, ⟨_, rfl, ?_⟩⟩,
    fun a v gnss s h hp ha => ⟨⟨_, rfl, ?_⟩, ⟨_, rfl, ?_⟩⟩,
    fun a gnss s h hp ha h4 hn hq hh => ⟨⟨_, rfl, ?_⟩, ⟨_, rfl, ?_⟩⟩,
    fun dev a v s r i k h hp ha h4 hc hn hl hr hpl hm => ⟨fun hd => ?i2cWrite, fun hd => ?i2cOther⟩,
    fun dev a s h hp ha h4 hn hq hh hd => ?i2cRead⟩
  · exact qspiWrite_plain h hp ha h4 hc hn hl hr hpl hm
  · exact qspiWrite_plain h hp ha h4 hc hn hl hr hpl hm
  · exact qspiWrite_refused h hp ha
  · exact qspiWrite_refused h hp ha
  · exact qspiRead_plain h hp ha h4 hn hq hh
  · exact qspiRead_plain h hp ha h4 hn hq hh
  case i2cWrite =>
    have hw := linkWrite_plain (v := v) (m := .hostI2c) (s := s.withPtr a.toNat) rfl h.1.2.1 h.2 ha h4 hc hn hr hpl hm
    have hst : (linkWrite .hostI2c a.toNat v (s.withPtr a.toNat)).bus.reply.status = .ok := by rw [hw, ackDone_bus]; rfl
    refine ⟨_, execI2cWrite_one h hp hd ha h4 hn hst, ?_, ?_, fun x hx hxl => ?_⟩
    · rw [settle_reg, i2cEnd_reg _ _ _ _ _ _ hl, hw, ackDone_reg, State.reg_setReg]
    · rw [settle_bus]
      rfl
    · rw [settle_reg, i2cEnd_reg _ _ _ _ _ _ hxl, hw, ackDone_reg, State.reg_setReg_ne _ _ hx]
      rfl
  case i2cOther => exact ⟨_, congrArg fin (i2cDo_other hd), settle_sameBut s⟩
  case i2cRead =>
    have hr := linkRead_plain (m := .hostI2c) (s := s.withPtr a.toNat) rfl h.1.2.1 ha h4 hn hq hh
    refine ⟨_, execI2cRead_one h hp hd ha h4 hn hr, ?_, fun x hx => ?_⟩
    · rw [settle_bus, State.withPtr_live]
      rfl
    · rw [settle_reg, i2cEnd_reg _ _ _ _ _ _ hx]
      rfl

end Sys2Proof
end

section
/-! A power-on reset that finds a programming of OTP cut short (R457, R514): the record names the slot as a number that nothing bounds, and the
words of the slots from 8 on are other registers' words. -/

namespace Sys2Proof.Machine

/-- The slot number whose word, by the address of `Reg.OTP_SLOT`, is that of WHISTLE_PIN. -/
def pinSlot : Nat := 17420

theorem pinSlot_addr : Reg.OTP_SLOT pinSlot = Reg.WHISTLE_PIN := by decide

/-- WHISTLE_N shows low, and the last programming of OTP is recorded for a slot that there is not. -/
def cutBesideOtp : State :=
  let s := State.reset.setFlag F.WHISTLE_PIN_LEVEL false
  { s with sec := { s.sec with otpAt := some (pinSlot, 0) } }

theorem cutBesideOtp_level : cutBesideOtp.flag F.WHISTLE_PIN_LEVEL = false :=
  State.flag_setFlag State.reset F.WHISTLE_PIN_LEVEL false (by decide) rfl

/-- The mark of the damaged slot falls on the pin's level. -/
theorem otpCut_cutBesideOtp_level : (otpCut cutBesideOtp).flag F.WHISTLE_PIN_LEVEL = true := by
  decide +kernel

theorem exec_powerOnReset_cut (s : State) : exec (.powerOnReset true) s = .next (settle (resetTo true (otpCut s))) := rfl

/-- A power-on reset shows the pin's level of the state it is given. -/
theorem resetTo_true_level (s : State) : (resetTo true s).flag F.WHISTLE_PIN_LEVEL = s.flag F.WHISTLE_PIN_LEVEL := by
  unfold resetTo
  rw [if_pos rfl, State.flag_setFlag_ne _ _ _ _ (by decide), State.flag_setFlag _ _ _ (by decide) rfl]

/-- What the obligation says of the pin's level at a power-on reset. -/
theorem otpCut_level (h : Obligations.ResetsAndRelease) (s : State) :
    (otpCut s).flag F.WHISTLE_PIN_LEVEL = s.flag F.WHISTLE_PIN_LEVEL := by
  obtain ⟨hpor, -⟩ := h
  obtain ⟨t, hexec, -, ⟨-, -, -, -, -, -, -, hlevel, -⟩, -⟩ := hpor true s
  have ht := Host.Outcome.next.inj ((exec_powerOnReset_cut s).symm.trans hexec)
  rw [← hlevel, ← ht, settle_flag, resetTo_true_level]

end Sys2Proof.Machine

namespace Sys2Proof

open Machine

/-- Refutes O58: no register bounds the slot that the record of the last OTP programming names, so a power-on reset that cuts a programming
recorded for slot 17420, whose word by `Reg.OTP_SLOT` is that of WHISTLE_PIN, marks the pin's level, which the statement says it keeps. -/
theorem not_resetsAndRelease : ¬ Obligations.ResetsAndRelease := by
  intro h
  have hlevel := otpCut_level h cutBesideOtp
  rw [otpCut_cutBesideOtp_level, cutBesideOtp_level] at hlevel
  exact absurd hlevel (by decide)

end Sys2Proof
end

section
/-! The events of the timebase (R77–R81): TB_WARM, the heater's limit, the end of a slew, and the loss and return of an external source. -/

namespace Sys2Proof.Machine

/-! ### A flag that TB_EVT counts (R78) -/

theorem State.tbFlag_changed {s : State} {f : Fld} {b : Bool} (h : s.flag f = !b) : s.tbFlag f b = (s.setFlag f b).bump Reg.TB_EVT :=
  if_neg (by rw [h]; cases b <;> decide)

/-- TB_EVT counts a flag that changes, and no other. -/
theorem State.tbFlag_evt (s : State) {f : Fld} (b : Bool) (he : f.addr ≠ Reg.TB_EVT) :
    (s.tbFlag f b).reg Reg.TB_EVT = s.reg Reg.TB_EVT + if s.flag f = b then 0 else 1 := by
  unfold State.tbFlag
  split
  · exact (BitVec.add_zero _).symm
  · rw [State.reg_bump, State.reg_setFlag_ne _ _ _ (Ne.symm he)]

/-! ### What the loss and the return of the source leave (R81) -/

/-- The registers of a timebase whose external source is lost: it freewheels. -/
def extLostRegs (s : State) : State :=
  (((s.tbFlag F.TB_STATUS_EXT_LOST true).setFlag F.TB_STATUS_EXT_ACTIVE false).setFlag F.TB_STATUS_SLEWING false).tbFlag F.TB_STATUS_TB_WARM false

/-- The registers of a timebase whose external source is back: it slews to it. -/
def extBackRegs (s : State) : State :=
  ((s.tbFlag F.TB_STATUS_EXT_LOST false).setFlag F.TB_STATUS_EXT_ACTIVE true).setFlag F.TB_STATUS_SLEWING true

theorem extLostRegs_flags (s : State) : (extLostRegs s).flag F.TB_STATUS_EXT_LOST = true ∧ (extLostRegs s).flag F.TB_STATUS_EXT_ACTIVE = false ∧
    (extLostRegs s).flag F.TB_STATUS_SLEWING = false ∧ (extLostRegs s).flag F.TB_STATUS_TB_WARM = false := by
  unfold extLostRegs
  refine ⟨?_, ?_, ?_, ?_⟩ <;>
    simp (disch := decide) only [State.flag_tbFlag_apart, State.flag_setFlag_apart, State.flag_tbFlag, State.flag_setFlag]

theorem extBackRegs_flags (s : State) : (extBackRegs s).flag F.TB_STATUS_EXT_LOST = false ∧ (extBackRegs s).flag F.TB_STATUS_EXT_ACTIVE = true ∧
    (extBackRegs s).flag F.TB_STATUS_SLEWING = true := by
  unfold extBackRegs
  refine ⟨?_, ?_, ?_⟩ <;> simp (disch := decide) only [State.flag_setFlag_apart, State.flag_tbFlag, State.flag_setFlag]

theorem extLostRegs_reg (s : State) {a : Nat} (hs : a ≠ Reg.TB_STATUS) (he : a ≠ Reg.TB_EVT) : (extLostRegs s).reg a = s.reg a := by
  unfold extLostRegs
  simp (disch := assumption) only [State.tbFlag_reg, State.reg_setFlag_ne]

theorem extBackRegs_reg (s : State) {a : Nat} (hs : a ≠ Reg.TB_STATUS) (he : a ≠ Reg.TB_EVT) : (extBackRegs s).reg a = s.reg a := by
  unfold extBackRegs
  simp (disch := assumption) only [State.tbFlag_reg, State.reg_setFlag_ne]

/-- The loss counts, and so does the fall of TB_WARM that it brings. -/
theorem extLostRegs_evt {s : State} (h : s.flag F.TB_STATUS_EXT_LOST = false) :
    (extLostRegs s).reg Reg.TB_EVT = s.reg Reg.TB_EVT + if s.flag F.TB_STATUS_TB_WARM then 2 else 1 := by
  unfold extLostRegs
  rw [State.tbFlag_evt _ _ (by decide), State.reg_setFlag_ne _ _ _ (by decide), State.reg_setFlag_ne _ _ _ (by decide),
    State.tbFlag_evt _ _ (by decide), State.flag_setFlag_apart _ _ (by decide), State.flag_setFlag_apart _ _ (by decide),
    State.flag_tbFlag_apart _ _ (by decide) (by decide), h]
  cases s.flag F.TB_STATUS_TB_WARM
  · exact BitVec.add_zero _
  · exact BitVec.add_assoc ..

theorem extBackRegs_evt {s : State} (h : s.flag F.TB_STATUS_EXT_LOST = true) : (extBackRegs s).reg Reg.TB_EVT = s.reg Reg.TB_EVT + 1 := by
  unfold extBackRegs
  rw [State.reg_setFlag_ne _ _ _ (by decide), State.reg_setFlag_ne _ _ _ (by decide), State.tbFlag_evt _ _ (by decide), h]
  rfl

/-! ### The commands -/

section

variable {s : State} (hon : s.tbmOn = true)

include hon

theorem exec_tbWarmRise (hw : s.warmNow = true) :
    exec .tbWarmRise s = .next (settle ((s.tbFlag F.TB_STATUS_TB_WARM true).milestone 4)) := by
  change execTbWarmRise s = _
  rw [execTbWarmRise, if_pos (by rw [hon, hw]; rfl), fin_next]

theorem exec_htrLimit (hc : s.tb.capLow = true) : exec .htrLimit s = .next (settle (s.tbFlag F.TB_STATUS_HTR_LIMIT true)) := by
  change execHtrLimit s = _
  rw [execHtrLimit, if_pos (by rw [hon, hc]; rfl), fin_next]

theorem exec_tbmSlewDone (hs : s.flag F.TB_STATUS_SLEWING = true) (hl : s.flag F.TB_STATUS_EXT_LOST = false) :
    exec .tbmSlewDone s = .next (settle (s.setFlag F.TB_STATUS_SLEWING false)) := by
  change execTbmSlewDone s = _
  rw [execTbmSlewDone, if_pos (by rw [hon, hs, hl]; rfl), fin_next]

theorem exec_extLost (he : s.tbExt = true) : exec .extLost s = .next (settle (extLostRegs s)) := by
  change execExtLost s = _
  rw [execExtLost, if_pos (by rw [hon, he]; rfl), fin_next, extLostRegs]

theorem exec_extReturn (he : s.tbExt = true) (hl : s.flag F.TB_STATUS_EXT_LOST = true) :
    exec .extReturn s = .next (settle (extBackRegs s)) := by
  change execExtReturn s = _
  rw [execExtReturn, if_pos (by rw [hon, he, hl]; rfl), fin_next, extBackRegs]

end

end Sys2Proof.Machine

namespace Sys2Proof

open Machine

/-- Settles O17: each event is an update of TB_STATUS, whose flags that change count TB_EVT. -/
theorem timebaseEvents : Obligations.TimebaseEvents := by
  unfold Obligations.TimebaseEvents
  refine fun s hon => ⟨fun hw hcold => ⟨_, exec_tbWarmRise hon hw, ?_, ?_, ?_⟩, fun hc hl => ⟨_, exec_htrLimit hon hc, ?_⟩,
    fun hs hl => ⟨_, exec_tbmSlewDone hon hs hl, settle_sameBut _⟩, fun he hl => ⟨_, exec_extLost hon he, ?lost⟩,
    fun he hl => ⟨_, exec_extReturn hon he hl, ?back⟩⟩
  · rw [settle_flag, State.milestone_flag _ _ _ (by decide) (by decide) (by decide), State.flag_tbFlag _ _ _ (by decide) rfl (by decide)]
  · rw [settle_flag]
    exact State.milestone_reached _ (by decide)
  · rw [settle_reg, State.milestone_reg _ _ (by decide) (by decide) (by decide), State.tbFlag_evt _ _ (by decide), hcold]
    rfl
  · rw [State.tbFlag_changed hl]
    exact settle_sameBut _
  case lost =>
    simp only [settle_flag, settle_reg]
    obtain ⟨hlost, hact, hslew, hwarm⟩ := extLostRegs_flags s
    exact ⟨hlost, hact, hslew, hwarm, extLostRegs_evt hl, fun _ => extLostRegs_reg s⟩
  case back =>
    simp only [settle_flag, settle_reg]
    obtain ⟨hlost, hact, hslew⟩ := extBackRegs_flags s
    exact ⟨hlost, hact, hslew, extBackRegs_evt hl, fun _ => extBackRegs_reg s⟩

end Sys2Proof
end

section
/-! The calibration of the interpolators, the gates of the regression, and a NEAREST start that no stop decides (R92–R94, R97, R100–R102). -/

namespace Sys2Proof.Machine

/-! ### The TIU's part after a command -/

@[simp] theorem settle_chan (u : State) (n : Nat) : (settle u).chan n = u.chan n := by unfold State.chan; rw [settle_tiu]
@[simp] theorem settle_interp (u : State) (n : Nat) : (settle u).interp n = u.interp n := by unfold State.interp; rw [settle_tiu]
@[simp] theorem settle_group (u : State) (g : Nat) : (settle u).group g = u.group g := by unfold State.group; rw [settle_tiu]
@[simp] theorem settle_regr (u : State) (n : Nat) : (settle u).regr n = u.regr n := by unfold State.regr; rw [settle_tiu]
@[simp] theorem settle_serving (u : State) (n : Nat) : (settle u).serving n = u.serving n := by
  unfold State.serving State.spare
  rw [settle_chan, settle_fld]

/-! ### The schedule (R92) -/

theorem State.calMoment_of {s : State} {k n : Nat} (hk : 10000 * k ≤ s.tiu.count % 5000000) (h : s.tiu.count % 5000000 - 10000 * k = n) :
    s.calMoment k n = true := by
  unfold State.calMoment
  rw [beq_iff_eq]
  omega

theorem exec_calStepStart {s : State} (hr : s.calRuns = true) (h : s.tiu.count % 5000000 = 0) :
    ∃ v : TiuPart, exec .calStepStart s = .next (settle { s with tiu := v }) ∧ v.calOn = true ∧ v.calSub = 0 ∧ v.calPhase = 0 := by
  have hm : s.calMoment 0 0 = true := State.calMoment_of (by omega) h
  exact ⟨_, congrArg fin (if_pos (by rw [hr, hm]; rfl)), rfl, rfl, rfl⟩

theorem exec_calSubstepStart {s : State} {k : Fin 25} (hr : s.calRuns = true) (h : s.tiu.count % 5000000 = 10000 * k.val)
    (hon : s.tiu.calOn = true) (hk : s.tiu.calSub ≤ k.val) :
    exec (.calSubstepStart k) s = .next (settle { s with tiu := { s.tiu with calSub := k.val, calPhase := 1, calDue := 0 } }) := by
  have hm : s.calMoment k.val 0 = true := State.calMoment_of (by omega) (by omega)
  exact congrArg fin (if_pos (by rw [State.calNext, hr, hm, hon, decide_eq_true hk]; rfl))

/-! ### Takeover and takeover back (R93) -/

/-- Channel `k` is served by the spare, or by its own interpolator again; its next record carries SWAP. Sub-step 24 is no channel's. -/
def serveBy (k : Nat) (spare : Bool) (s : State) : State :=
  if k < 24 then s.setChan k { s.chan k with onSpare := spare, swap := true } else s

section

variable (k : Nat) (b : Bool) (s : State)

theorem serveBy_regs : (serveBy k b s).regs = s.regs := by
  unfold serveBy
  split <;> rfl

theorem serveBy_calPhase : (serveBy k b s).tiu.calPhase = s.tiu.calPhase := by
  unfold serveBy
  split <;> rfl

end

theorem serveBy_chan {k : Nat} (hk : k < 24) (b : Bool) (s : State) :
    ((serveBy k b s).chan k).onSpare = b ∧ ((serveBy k b s).chan k).swap = true := by
  unfold serveBy
  rw [if_pos hk, State.chan_setChan]
  exact ⟨rfl, rfl⟩

theorem State.serving_onSpare {s : State} {n : Nat} (h : (s.chan n).onSpare = true) : s.serving n = s.spare := if_pos h

theorem State.spare_of_regs {s t : State} (h : t.regs = s.regs) : t.spare = s.spare := State.fld_of_reg (State.reg_congr h _)

theorem exec_calTakeover {s : State} {k : Fin 25} (hc : s.calChan k.val = true) (hm : s.calMoment k.val 500 = true) (hp : s.tiu.calPhase = 1) :
    exec (.calTakeover k) s = .next (settle (serveBy k.val true { s with tiu := { s.tiu with calPhase := 2, calDue := calEdges } })) :=
  congrArg fin (if_pos (by rw [hc, hm, hp]; rfl))

theorem exec_calTakeoverBack {s : State} {k : Fin 25} (hc : s.calChan k.val = true) (hm : s.calMoment k.val 9500 = true)
    (hp : s.tiu.calPhase = 3) :
    exec (.calTakeoverBack k) s =
      .next (settle (serveBy k.val false { s with tiu := { s.tiu with calPhase := 0, calOn := s.tiu.calOn && k.val != 24 } })) :=
  congrArg fin (if_pos (by rw [hc, hm, hp]; rfl))

/-! ### STALE (R94, R107) -/

theorem calStaleBit_fld (s : State) {f : Fld} (h : F.CAL_STATUS_STALE.apart f) : (calStaleBit s).fld f = s.fld f := s.fld_setFlag_apart _ h

theorem calStaleBit_interp (s : State) (n : Nat) : (calStaleBit s).interp n = s.interp n := rfl

/-- A powered channel whose interpolator is stale shows in STALE. -/
theorem calStaleBit_stale {s : State} {n : Nat} (hn : n < 24) (hp : s.chPowered n = true) (hs : (s.interp (s.serving n)).stale = true) :
    (calStaleBit s).flag F.CAL_STATUS_STALE = true := by
  unfold calStaleBit
  rw [State.flag_setFlag _ _ _ (by decide) rfl, List.any_eq_true]
  exact ⟨n, List.mem_range.mpr hn, by rw [hp, hs]; rfl⟩

theorem exec_calStale {s : State} (n : Fin 24) (ht : s.tclkOn = true) : exec (.calStale n) s =
    .next (settle (calStaleBit (s.setInterp (s.serving n.val) { s.interp (s.serving n.val) with stale := true }))) :=
  congrArg fin (if_pos ht)

/-! ### A calibration's result (R94) -/

theorem retire_tiu_calPhase (k : Nat) (s : State) : (retire k s).tiu.calPhase = s.tiu.calPhase := by
  unfold retire
  dsimp only
  split <;> rfl

theorem retire_interp (k : Nat) (s : State) (i : Nat) : (retire k s).interp i = s.interp i := by
  unfold retire
  dsimp only
  split <;> rfl

/-- The registers of a retirement, whatever becomes of the channel. -/
theorem retire_reg (k : Nat) (s : State) (a : Nat) : (retire k s).reg a =
    ((s.setRv Reg.CAL_RETIRED (s.rv Reg.CAL_RETIRED ||| 2 ^ s.calTarget k)).setFlag F.CAL_STATUS_NO_SPARE true).reg a := by
  unfold retire
  dsimp only
  split <;> rfl

theorem retire_noSpare (k : Nat) (s : State) : (retire k s).flag F.CAL_STATUS_NO_SPARE = true := by
  rw [State.flag_of_reg (retire_reg k s _), State.flag_setFlag _ _ _ (by decide) rfl]

theorem retire_retired {k : Nat} {s : State} (h : s.calTarget k < 32) : ((retire k s).rv Reg.CAL_RETIRED).testBit (s.calTarget k) = true := by
  rw [State.rv_of_reg (retire_reg k s _), State.rv_setFlag_ne _ _ _ (by decide), State.rv_setRv, Nat.testBit_mod_two_pow, Nat.testBit_or,
    Nat.testBit_two_pow_self, decide_eq_true h]
  simp

/-- The spare takes the channel for good. -/
theorem retire_serving {k : Nat} (hk : k ≠ 24) (s : State) : (retire k s).serving k = s.spare := by
  unfold retire
  dsimp only
  rw [if_neg hk]
  unfold State.serving
  rw [State.chan_setChan]
  rfl

/-- The times in a row that the calibration of sub-step `k` has moved its interpolator. -/
def State.movedRow (s : State) (k : Nat) (moved : Bool) : Nat := if moved then (s.interp (s.calTarget k)).fails + 1 else 0

/-- A new calibration is in, before a retirement: the interpolator is fresh, and CAL_EVT counts one that moved it. -/
def calTaken (k : Nat) (moved : Bool) (s : State) : State :=
  let s1 := calStaleBit (s.setInterp (s.calTarget k) ⟨s.movedRow k moved, false⟩)
  if moved then s1.bump Reg.CAL_EVT else s1

theorem calResult_kept {k : Nat} {moved : Bool} {s : State} (h : s.movedRow k moved < 3) : calResult k moved s = calTaken k moved s :=
  if_neg (Nat.not_le.mpr h)

theorem calResult_retired {k : Nat} {moved : Bool} {s : State} (h : 3 ≤ s.movedRow k moved) :
    calResult k moved s = retire k (calTaken k moved s) := if_pos h

section

variable (k : Nat) (moved : Bool) (s : State)

theorem calTaken_tiu : (calTaken k moved s).tiu = (s.setInterp (s.calTarget k) ⟨s.movedRow k moved, false⟩).tiu := by
  unfold calTaken
  dsimp only
  split <;> rfl

theorem calTaken_interp : (calTaken k moved s).interp (s.calTarget k) = ⟨s.movedRow k moved, false⟩ := by
  rw [State.interp, calTaken_tiu]
  exact State.interp_setInterp ..

theorem calTaken_spare : (calTaken k moved s).spare = s.spare := by
  have h : (calStaleBit (s.setInterp (s.calTarget k) ⟨s.movedRow k moved, false⟩)).spare = s.spare := calStaleBit_fld _ (by decide)
  unfold calTaken
  dsimp only
  split
  · exact (State.fld_of_reg (State.reg_bump_ne _ (by decide))).trans h
  · exact h

theorem calTaken_calTarget : (calTaken k moved s).calTarget k = s.calTarget k := by
  unfold State.calTarget State.chan
  rw [calTaken_spare, calTaken_tiu]
  rfl

theorem calResult_calPhase : (calResult k moved s).tiu.calPhase = s.tiu.calPhase := by
  rcases Nat.lt_or_ge (s.movedRow k moved) 3 with h | h
  · rw [calResult_kept h, calTaken_tiu]
    rfl
  · rw [calResult_retired h, retire_tiu_calPhase, calTaken_tiu]
    rfl

theorem calResult_interp : (calResult k moved s).interp (s.calTarget k) = ⟨s.movedRow k moved, false⟩ := by
  rcases Nat.lt_or_ge (s.movedRow k moved) 3 with h | h
  · rw [calResult_kept h, calTaken_interp]
  · rw [calResult_retired h, retire_interp, calTaken_interp]

end

theorem exec_calReconnect {s : State} {k : Fin 25} (moved : Bool) (hc : s.calChan k.val = true) (hm : s.calMoment k.val 9000 = true)
    (hp : s.tiu.calPhase = 2) :
    exec (.calReconnect k moved) s = .next (settle (calResult k.val moved { s with tiu := { s.tiu with calPhase := 3 } })) :=
  congrArg fin (if_pos (by rw [hc, hm, hp]; rfl))

/-! ### The gates of the regression (R100–R102) -/

/-- A gate that ends with no stamp kept for the gate after it. -/
theorem regGateEnd_of_ahead {n : Nat} {s : State} (e : Nat) (h : (s.regr n).ahead = []) : regGateEnd n e s =
    s.setRegr n ⟨some (Gate.new false), some (gateNext (s.gateLen n) e), [],
      some ({ (s.regr n).cur.getD (Gate.new true) with part := ((s.regr n).cur.getD (Gate.new true)).part || e == 0 }, e)⟩ := by
  unfold regGateEnd
  dsimp only
  rw [h]
  rfl

theorem exec_regGateEnd {s : State} {n : Fin 24} {e : Nat} (hr : s.chRuns n.val = true) (hen : s.flag (F.REG_CFG_EN n.val) = true)
    (he : e < 2 ^ 56) (hd : s.gateDue n.val e = true) : exec (.regGateEnd n e) s = .next (settle (regGateEnd n.val e s)) := by
  change execRegGateEnd n e s = _
  rw [execRegGateEnd, Nat.mod_eq_of_lt he, if_pos (by rw [hr, hen, hd]; rfl), fin_next]

theorem exec_regPublish {s : State} {n : Fin 24} (hr : s.chRuns n.val = true) :
    exec (.regPublish n) s = .next (settle (regPublish n.val s)) := congrArg fin (if_pos hr)

theorem Gate.resid_lt (g : Gate) : g.resid < 2 ^ 32 := by
  unfold Gate.resid
  dsimp only
  split
  · decide
  · exact Nat.lt_of_le_of_lt (Nat.min_le_right _ _) (by decide)

theorem State.reg_setQuant_ne (s : State) {a x n : Nat} (v : Nat) (h : ∀ k, k < n → x ≠ a + 4 * k) : (s.setQuant a n v).reg x = s.reg x := by
  induction n generalizing s a v with
  | zero => rfl
  | succ n ih =>
    refine (ih (s.setRv a v) _ fun k hk => ?_).trans (State.reg_setRv_ne _ _ (h 0 (by omega)))
    have := h (k + 1) (by omega)
    omega

theorem State.quant_congr {s t : State} (h : t.regs = s.regs) (a n : Nat) : t.quant a n = s.quant a n := by
  induction n generalizing a with
  | zero => rfl
  | succ n ih => rw [State.quant, State.quant, ih, State.rv_of_reg (State.reg_congr h a)]

/-- The registers of channel `n`'s regression with the fit of gate `g`, which ended at the count `e`, against the nominal period `p`. -/
def showFit (n : Nat) (g : Gate) (e p : Nat) (s : State) : State :=
  let y := g.y p
  let yc := clampS 48 y
  let b := fun (x : Bool) (k : Nat) => if x then 2 ^ k else 0
  let flags := b g.gap 0 + b (g.n < 3) 1 + b g.cold 2 + b g.swap 3 + b g.part 4 + b g.sat 5 + b (p == 0) 6 + b (yc != y) 7
  let s1 := (s.setQuant (Reg.REG_Y n) 2 (unsigned 64 yc)).setRv (Reg.REG_RESID n) g.resid
  let s2 := (s1.setRv (Reg.REG_COUNT n) (min g.n (2 ^ 32 - 1))).setRv (Reg.REG_FLAGS n) flags
  (s2.setQuant (Reg.REG_END n) 3 (e * 65536 % 2 ^ 72)).bump (Reg.REG_SEQ n)

section

variable (n : Nat) (g : Gate) (e p : Nat) (s : State)

theorem showFit_seq : (showFit n g e p s).reg (Reg.REG_SEQ n) = s.reg (Reg.REG_SEQ n) + 1 := by
  unfold showFit
  dsimp only
  rw [State.reg_bump, State.reg_setQuant_ne _ _ (fun k _ => by simp only [Reg.REG_SEQ, Reg.REG_END]; omega),
    State.reg_setRv_ne _ _ (by simp only [Reg.REG_SEQ, Reg.REG_FLAGS]; omega),
    State.reg_setRv_ne _ _ (by simp only [Reg.REG_SEQ, Reg.REG_COUNT]; omega),
    State.reg_setRv_ne _ _ (by simp only [Reg.REG_SEQ, Reg.REG_RESID]; omega),
    State.reg_setQuant_ne _ _ (fun k _ => by simp only [Reg.REG_SEQ, Reg.REG_Y]; omega)]

/-- The words from REG_COUNT on leave those before them. -/
theorem showFit_rv {a : Nat} (h : a < Reg.REG_COUNT n) : (showFit n g e p s).rv a =
    ((s.setQuant (Reg.REG_Y n) 2 (unsigned 64 (clampS 48 (g.y p)))).setRv (Reg.REG_RESID n) g.resid).rv a := by
  simp only [Reg.REG_COUNT] at h
  refine State.rv_of_reg ?_
  unfold showFit
  dsimp only
  rw [State.reg_bump_ne _ (by simp only [Reg.REG_SEQ]; omega), State.reg_setQuant_ne _ _ (fun k _ => by simp only [Reg.REG_END]; omega),
    State.reg_setRv_ne _ _ (by simp only [Reg.REG_FLAGS]; omega), State.reg_setRv_ne _ _ (by simp only [Reg.REG_COUNT]; omega)]

theorem showFit_resid : (showFit n g e p s).rv (Reg.REG_RESID n) = g.resid := by
  rw [showFit_rv _ _ _ _ _ (by simp only [Reg.REG_RESID, Reg.REG_COUNT]; omega), State.rv_setRv, Nat.mod_eq_of_lt g.resid_lt]

theorem showFit_y : (showFit n g e p s).quant (Reg.REG_Y n) 2 = unsigned 64 (clampS 48 (g.y p)) := by
  rw [State.quant_two, showFit_rv _ _ _ _ _ (by simp only [Reg.REG_Y, Reg.REG_COUNT]; omega),
    showFit_rv _ _ _ _ _ (by simp only [Reg.REG_Y, Reg.REG_COUNT]; omega),
    State.rv_setRv_ne _ _ (by simp only [Reg.REG_Y, Reg.REG_RESID]; omega),
    State.rv_setRv_ne _ _ (by simp only [Reg.REG_Y, Reg.REG_RESID]; omega), ← State.quant_two, State.quant_setQuant_two,
    Nat.mod_eq_of_lt (unsigned_lt 64 _)]

end

theorem holdXtal_regs (n : Nat) (g : Gate) (p : Nat) (y : Int) (s : State) : (holdXtal n g p y s).regs = s.regs := by
  unfold holdXtal
  split <;> rfl

/-- The time of a publication is noted with the reference that channel `n` measures, if there is one. -/
def notePub (n count : Nat) (s : State) : State := if n < 16 then s.setRefp n { s.refp n with pub := count } else s

theorem notePub_regs (n count : Nat) (s : State) : (notePub n count s).regs = s.regs := by
  unfold notePub
  split <;> rfl

theorem notePub_tiu (n count : Nat) (s : State) : (notePub n count s).tiu = s.tiu := by
  unfold notePub
  split <;> rfl

section

variable {n : Nat} {s : State} {g : Gate} {e : Nat} (h : (s.regr n).closing = some (g, e))

include h

theorem regPublish_of_closing : let p := s.quant (Reg.NOM_PERIOD n) 2
    regPublish n s = notePub n s.tiu.count
      ((holdXtal n g p (clampS 48 (g.y p)) (showFit n g e p s)).setRegr n { s.regr n with closing := none }) := by
  unfold regPublish
  dsimp only
  rw [h]
  rfl

/-- A publication shows the fit in the registers. -/
theorem regPublish_regs : (regPublish n s).regs = (showFit n g e (s.quant (Reg.NOM_PERIOD n) 2) s).regs := by
  rw [regPublish_of_closing h, notePub_regs, State.setRegr_regs, holdXtal_regs]

/-- No gate then waits. -/
theorem regPublish_closed : ((regPublish n s).regr n).closing = none := by
  rw [regPublish_of_closing h, State.regr, notePub_tiu]
  exact congrArg Regr.closing (State.regr_setRegr ..)

end

/-! ### A NEAREST start that no later stamp decides (R97) -/

theorem forEach_fixed_of_mem {α : Type} {f : State → α → State} {s : State} {l : List α} (h : ∀ a ∈ l, f s a = s) : forEach l f s = s := by
  induction l with
  | nil => rfl
  | cons a t ih =>
    rw [forEach_succ, h a (by simp)]
    exact ih (fun b hb => h b (by simp [hb]))

theorem statGroup_off {s : State} (h : ∀ k, k < 8 → s.statOn k = false) (g : Nat) (r : GRes) : statGroup g r s = s :=
  forEach_fixed_of_mem (fun k hk => if_neg (by simp [h k (List.mem_range.mp hk)]))

theorem State.statOn_of_reg {s t : State} {k : Nat} (h : t.reg (Reg.STAT_CFG k) = s.reg (Reg.STAT_CFG k)) : t.statOn k = s.statOn k := by
  unfold State.statOn
  rw [State.flag_of_reg (f := F.STAT_CFG_EN k) h, State.fld_of_reg (f := F.STAT_CFG_KIND k) h]

theorem State.group_bump (s : State) (a g : Nat) : (s.bump a).group g = s.group g := rfl

/-- A result enters a FIFO with room, and counts; no statistics engine takes it. -/
theorem grpEmit_room {g : Nat} {r : GRes} {s : State} (hg : g < 8) (hroom : (s.group g).fifo.length < 64)
    (hoff : ∀ k, k < 8 → s.statOn k = false) :
    grpEmit g r s = (s.setGroup g { s.group g with fifo := (s.group g).fifo ++ [r] }).bump (Reg.GRP_CNT g) := by
  unfold grpEmit
  dsimp only
  rw [if_pos hroom]
  refine statGroup_off (fun k hk => (State.statOn_of_reg ?_).trans (hoff k hk)) _ _
  exact State.reg_bump_ne _ (by simp only [Reg.STAT_CFG, Reg.GRP_CNT]; omega)

/-- The group with other starts waiting on the pair of channel `ch`. -/
def Group.withStarts (v : Group) (ch : Nat) (l : List GStamp) : Group :=
  { v with pair := GPairs.set v.pair ch { GPairs.get v.pair ch with starts := l } }

theorem Group.withStarts_starts (v : Group) (ch : Nat) (l : List GStamp) : (GPairs.get (v.withStarts ch l).pair ch).starts = l :=
  congrArg GPair.starts (Tbl.get_set_same _ _ _ _)

theorem exec_groupWindowTimeout {s : State} {g : Fin 8} {ch : Fin 24} {a : GStamp} {rest : List GStamp} (ht : s.tclkOn = true)
    (hen : s.flag (F.GRP_CFG_EN g.val) = true) (hmode : s.flag (F.GRP_CFG_MODE g.val) = true)
    (hs : (GPairs.get (s.group g.val).pair ch.val).starts = a :: rest) : exec (.groupWindowTimeout g ch) s =
      .next (settle (grpEmit g.val (nearestResult (s.grpWin g.val) ch.val a (GPairs.get (s.group g.val).pair ch.val).stops)
        (s.setGroup g.val ((s.group g.val).withStarts ch.val rest)))) := by
  change execGroupWindowTimeout g ch s = _
  unfold execGroupWindowTimeout
  dsimp only
  rw [hs]
  exact congrArg fin (if_pos (by rw [ht, hen, hmode]; rfl))

end Sys2Proof.Machine

namespace Sys2Proof

open Machine

/-- Settles O20: the schedule's events by their updates of the TIU's part, a result by what retires an interpolator, and a publication by the
registers of the fit. -/
theorem tiuCalibrationAndRegression : Obligations.TiuCalibrationAndRegression := by
  unfold Obligations.TiuCalibrationAndRegression
  refine ⟨fun s hr => ⟨fun h => ?step, fun k h hon hk => ⟨_, exec_calSubstepStart hr h hon hk, settle_sameBut _⟩⟩,
    fun k moved s hc => ?schedule, fun n s ht => ⟨_, exec_calStale n ht, ?_, fun hp => ?_⟩,
    fun n e s hr hen he hd ha => ⟨_, exec_regGateEnd hr hen he hd, ?_⟩, fun n s g e hr hcl => ⟨_, exec_regPublish hr, ?publish⟩,
    fun g ch s a rest ht hen hmode hs hroom hoff => ⟨_, exec_groupWindowTimeout ht hen hmode hs, ?timeout⟩⟩
  case step =>
    obtain ⟨v, hv, hon, hsub, hph⟩ := exec_calStepStart hr h
    exact ⟨_, hv, by rw [settle_tiu]; exact ⟨hon, hsub, hph⟩⟩
  case schedule =>
    intro at_ hk
    refine ⟨fun h hp => ⟨_, exec_calTakeover hc (State.calMoment_of hk h) hp, ?_, ?_, fun hch => ?_⟩,
      fun h hp => ⟨_, exec_calReconnect moved hc (State.calMoment_of hk h) hp, ?_, ?_, ?_, fun hm hf => ?retired⟩,
      fun h hp => ⟨_, exec_calTakeoverBack hc (State.calMoment_of hk h) hp, ?_, ?_, fun hch => ?_⟩⟩
    · rw [settle_tiu, serveBy_calPhase]
    · rw [settle_regs, serveBy_regs]
    · obtain ⟨hon, hswap⟩ := serveBy_chan hch true { s with tiu := { s.tiu with calPhase := 2, calDue := calEdges } }
      rw [settle_serving, settle_chan, State.serving_onSpare hon]
      exact ⟨State.spare_of_regs (serveBy_regs ..), hswap⟩
    · rw [settle_tiu, calResult_calPhase]
    · rw [settle_interp]
      exact congrArg Interp.stale (calResult_interp k.val moved { s with tiu := { s.tiu with calPhase := 3 } })
    · rw [settle_interp]
      exact congrArg Interp.fails (calResult_interp k.val moved { s with tiu := { s.tiu with calPhase := 3 } })
    case retired =>
      obtain ⟨u, hu⟩ : ∃ u, u = ({ s with tiu := { s.tiu with calPhase := 3 } } : State) := ⟨_, rfl⟩
      have htarget : u.calTarget k.val = s.calTarget k.val := by rw [hu]; rfl
      have hspare : u.spare = s.spare := by rw [hu]; rfl
      have hrow : 3 ≤ u.movedRow k.val moved := by
        rw [hu, hm]
        exact Nat.succ_le_succ hf
      rw [← hu, calResult_retired hrow, settle_flag, settle_rv, settle_serving, ← htarget, ← calTaken_calTarget k.val moved u,
        ← hspare, ← calTaken_spare k.val moved u]
      exact ⟨retire_noSpare .., retire_retired, fun hch => retire_serving (by omega) _⟩
    · rw [settle_tiu, serveBy_calPhase]
    · rw [settle_regs, serveBy_regs]
    · rw [settle_chan]
      exact serveBy_chan hch ..
  · rw [settle_interp, calStaleBit_interp, State.interp_setInterp]
  · rw [settle_flag]
    refine calStaleBit_stale n.isLt hp ?_
    exact congrArg Interp.stale (State.interp_setInterp ..)
  · rw [regGateEnd_of_ahead e ha]
    exact settle_sameBut _
  case publish =>
    have hregs := regPublish_regs hcl
    rw [settle_regr, settle_reg, settle_rv, State.quant_settle]
    exact ⟨regPublish_closed hcl, (State.reg_congr hregs _).trans (showFit_seq ..), (State.quant_congr hregs _ _).trans (showFit_y ..),
      (State.rv_of_reg (State.reg_congr hregs _)).trans (showFit_resid ..)⟩
  case timeout =>
    have hgroup := State.group_setGroup s g.val ((s.group g.val).withStarts ch.val rest)
    rw [grpEmit_room (s := s.setGroup g.val ((s.group g.val).withStarts ch.val rest)) g.isLt (by rw [hgroup]; exact hroom) hoff, hgroup,
      settle_group, settle_reg, State.reg_bump, State.group_bump,
      State.group_setGroup, State.setGroup_reg, State.setGroup_reg]
    exact ⟨Group.withStarts_starts .., rfl, rfl⟩

end Sys2Proof
end

section
/-! A clock edge (R91, R151, R163): the counters of time, of the fabric and of the oscillators that it moves leave the device's time and the
TIU's count to the edge itself. -/

namespace Sys2Proof.Machine

theorem timeTick_within (k : Nat) (s : State) : (timeTick k s).within s [] [.tm] := by
  unfold timeTick phaseTick
  exact (State.within.foldl (fun _ _ _ => .ite (fun _ => setTm_within ..) (fun _ => .refl))).trans
    ((State.within.foldl (fun _ _ u => setTm_within u _)).trans (setTm_within ..))

theorem pcTick_within (k : Nat) (s : State) : (pcTick k s).within s [] [.tm] :=
  .foldl (fun _ _ _ => .ite (fun _ => setTm_within ..) (fun _ => .refl))

theorem dcoStep_within (a ps : Nat) (s : State) : (dcoStep a ps s).within s [] [.syn] :=
  .ite (fun _ => .refl) (fun _ => .update .refl rfl rfl)

theorem creditTick_within (p k : Nat) (s : State) : (creditTick p k s).within s [] [.fab] :=
  .ite (fun _ => .refl) (fun _ => setPe_within ..)

theorem pruneInsts_within {p : Nat} (hp : p < 4) (c : Nat) (s : State) : (pruneInsts p c s).within s [9] [.fab] :=
  .ite (fun _ => .refl) (fun _ => (showLive_within hp _).after ((setPe_within ..).mono))

theorem fabTick_within (k : Nat) (s : State) : (fabTick k s).within s [9] [.fab] := by
  refine .ite (fun _ => .refl) (fun _ => ?_)
  exact (State.within.refl.setQuant (by decide)).forEach
    (fun p hp u => (pruneInsts_within (List.mem_range.mp hp) _ _).trans ((creditTick_within p k u).mono))

theorem fabEdge_within (s : State) : (fabEdge s).within s [9] [.fab, .tm] := by
  refine .ite (fun _ => ?_) (fun _ => .refl)
  exact (pcTick_within ..).after (((fabTick_within ..).mono).trans (.update .refl rfl rfl))

theorem rungEdge_within (s : State) : (rungEdge s).within s [] [.dpll] := .loop (fun _ _ _ => setDpll_within ..)

/-! ### The edges of each rung -/

theorem clockEdge_stopped {s : State} (h : s.inReset = true ∨ 4 ≤ s.rung) : clockEdge s = { s with now := s.now + 20000 } := if_pos h

theorem clockEdge_tbclk {s : State} (hr : s.inReset = false) (h : s.rung = 3) :
    (clockEdge s).now = s.now + 20000 ∧ (clockEdge s).tiu = s.tiu := by
  unfold clockEdge
  rw [if_neg (by simp [hr, h]), if_pos h, settle_now, settle_tiu]
  have hw : (rungEdge (timeTick 10 { s with now := s.now + 20000 })).within { s with now := s.now + 20000 } [] [.dpll, .tm] :=
    (rungEdge_within _).after ((timeTick_within 10 _).mono)
  exact ⟨hw.get State.now (fun _ => rfl), hw.get State.tiu (fun _ => rfl)⟩

theorem clockEdge_tclk {s : State} (hr : s.inReset = false) (h : s.rung ≤ 2) :
    (clockEdge s).now = s.now + 2000 ∧ (clockEdge s).tiu.count = (s.tiu.count + 1) % 2 ^ 56 := by
  unfold clockEdge
  rw [if_neg (by simp [hr]; omega), if_neg (by omega), settle_now, settle_tiu]
  obtain ⟨u, hu⟩ : ∃ u, timeTick 1 { s with now := s.now + 2000 } = u := ⟨_, rfl⟩
  have ht : u.within { s with now := s.now + 2000 } [] [.tm] := hu ▸ timeTick_within 1 _
  rw [hu]
  have hw : (fabEdge (forEach (List.range 4) (fun s a => dcoStep a 2000 s) (tiuTick u))).within (tiuTick u) [9] [.fab, .tm, .syn] :=
    (fabEdge_within _).after (.loop (fun a _ v => (dcoStep_within a 2000 v).mono))
  have htiu : u.tiu = s.tiu := ht.get State.tiu (fun _ => rfl)
  constructor
  · exact (hw.get State.now (fun _ => rfl)).trans (ht.get State.now (fun _ => rfl))
  · rw [hw.get State.tiu (fun _ => rfl), ← htiu]
    rfl

theorem step_idle {s : State} (h : s.pending = []) : step s = .next (clockEdge s) := by
  unfold step
  rw [h]

end Sys2Proof.Machine

namespace Sys2Proof

open Machine

/-- Settles O2: an empty queue gives a clock edge, by the rung that it falls in. -/
theorem idleStepIsAClockEdge : Obligations.IdleStepIsAClockEdge := by
  unfold Obligations.IdleStepIsAClockEdge
  intro s hq
  refine ⟨_, step_idle hq, clockEdge_tclk, fun hr h => ?_, clockEdge_stopped⟩
  obtain ⟨hnow, htiu⟩ := clockEdge_tbclk hr h
  exact ⟨hnow, by rw [htiu]⟩

end Sys2Proof
end

section
/-! The rows of the reference state machine (R118, R120): what entering a state and its timers leave, one equation of `refRow` per state of
an enabled reference, and the two ways in which a wait-to-restore goes on. -/

namespace Sys2Proof.Machine

/-! ### Registers and fields with an index -/

/-- Two registers of one index at different offsets. -/
theorem Reg.indexed_ne {a b k i : Nat} (h : a ≠ b := by decide) : a + k * i ≠ b + k * i := fun e => h (Nat.add_right_cancel e)

/-- Two fields of one register that share no bit. -/
theorem Fld.apart_within {a l w l' w' : Nat} (h : l + w ≤ 32 ∧ (l + w ≤ l' ∨ l' + w' ≤ l) := by decide) :
    Fld.apart ⟨a, l, w⟩ ⟨a, l', w'⟩ := .inr h

/-! ### Entering a state -/

theorem State.refState_setFld (s : State) (i : Nat) {st : Nat} (h : st < 8) : (s.setFld (F.REF_STATUS_STATE i) st).refState i = st :=
  (s.fld_setFld _ _ (show 0 + 3 ≤ 32 by decide)).trans (Nat.mod_eq_of_lt h)

theorem State.refState_refTo (s : State) (i : Nat) {st : Nat} (h : st < 8) : (s.refTo i st).refState i = st :=
  (State.fld_setRv_ne _ _ _ Reg.indexed_ne).trans (s.refState_setFld i h)

theorem State.refState_refTimer (s : State) (i t : Nat) : (s.refTimer i t).refState i = s.refState i := by
  unfold State.refState State.refTimer
  exact State.fld_setRv_ne _ _ _ Reg.indexed_ne

theorem State.reg_refTo_evt (s : State) (i st : Nat) : (s.refTo i st).reg (Reg.REF_EVT i) = s.reg (Reg.REF_EVT i) := by
  rw [State.refTo, State.reg_setRv_ne _ _ Reg.indexed_ne, State.setRefp_reg, State.reg_setFld_ne _ _ _ Reg.indexed_ne]

/-- A field that STATE and REF_TIMER leave alone is as it was when a reference enters a state. -/
theorem State.fld_refTo (s : State) {i st : Nat} {f : Fld} (ht : f.addr ≠ Reg.REF_TIMER i) (hs : (F.REF_STATUS_STATE i).apart f) :
    (s.refTo i st).fld f = s.fld f :=
  (State.fld_setRv_ne _ _ _ ht).trans (s.fld_setFld_apart _ hs)

/-- The wait-to-restore time does not depend on the state that it is waited for in. -/
theorem State.wtrTime_refTo (s : State) (i st : Nat) : (s.refTo i st).wtrTime i = s.wtrTime i := by
  have hjumped : (s.refTo i st).fld (F.REF_STATUS_JUMPED i) = s.fld (F.REF_STATUS_JUMPED i) := s.fld_refTo Reg.indexed_ne Fld.apart_within
  have hwtr : (s.refTo i st).fld (F.REF_WTR_WTR_S i) = s.fld (F.REF_WTR_WTR_S i) :=
    s.fld_refTo Reg.indexed_ne (.inl Reg.indexed_ne)
  have hjump : (s.refTo i st).fld (F.REF_WTR_WTR_JUMP_S i) = s.fld (F.REF_WTR_WTR_JUMP_S i) :=
    s.fld_refTo Reg.indexed_ne (.inl Reg.indexed_ne)
  simp only [State.wtrTime, State.flag, hjumped, hwtr, hjump]
  rfl

/-! ### The moves that count REF_EVT -/

theorem refQualify_row (i : Nat) (s : State) :
    (refQualify i s).refState i = 3 ∧ (refQualify i s).reg (Reg.REF_EVT i) = s.reg (Reg.REF_EVT i) + 1 := by
  constructor
  · have hjumped : ((s.refTo i 3).setFlag (F.REF_STATUS_JUMPED i) false).refState i = (s.refTo i 3).refState i :=
      State.fld_setFld_apart _ _ Fld.apart_within
    exact (State.fld_setRv_ne _ _ _ Reg.indexed_ne).trans (hjumped.trans (s.refState_refTo i (by decide)))
  · rw [refQualify, State.reg_bump, State.reg_setFlag_ne _ _ _ Reg.indexed_ne, s.reg_refTo_evt]

theorem refFail_row (i : Nat) (s : State) :
    (refFail i s).refState i = 1 ∧ (refFail i s).reg (Reg.REF_EVT i) = s.reg (Reg.REF_EVT i) + 1 := by
  constructor
  · exact (State.fld_setRv_ne _ _ _ Reg.indexed_ne).trans (s.refState_refTo i (by decide))
  · rw [refFail, State.reg_bump, s.reg_refTo_evt]

/-! ### Wait-to-restore -/

theorem wtrCheck_expired {i : Nat} {s : State} (h : s.wtrTime i ≤ s.since (s.refp i).start) : wtrCheck i s = refQualify i s :=
  if_pos (decide_eq_true h)

theorem wtrCheck_running {i : Nat} {s : State} (h : s.since (s.refp i).start < s.wtrTime i) : wtrCheck i s = s.refTimer i (s.wtrTime i) :=
  if_neg (by simpa [State.refExpired] using h)

theorem State.refPasses_false {s : State} {i : Nat} (h : s.flag (F.REF_STATUS_ACT_FAIL i) = true ∨ s.otherFail i = true) :
    s.refPasses i = false := by
  rcases h with h | h <;> simp [State.refPasses, h]

/-! ### The rows -/

theorem refRow_disabled {s : State} {i : Nat} (hen : s.flag (F.REF_CFG_EN i) = false) : (refRow s i).refState i = 0 := by
  simp only [refRow, hen, Bool.not_false, ↓reduceIte]
  rw [State.refState, State.setRefp_fld, State.fld_setRv_ne _ _ _ Reg.indexed_ne,
    State.fld_setFld_apart _ _ Fld.apart_within]
  exact s.refState_setFld i (by decide)

theorem refRow_timebase {s : State} {i : Nat} (hen : s.flag (F.REF_CFG_EN i) = true) (htb : s.refIsTimebase i = true) :
    (refRow s i).refState i = 5 := by
  simp only [refRow, hen, htb, Bool.not_true, Bool.false_eq_true, ↓reduceIte]
  split
  case isTrue h => exact h
  case isFalse => exact s.refState_refTo i (by decide)

section
variable {s : State} {i : Nat} (hen : s.flag (F.REF_CFG_EN i) = true) (htb : s.refIsTimebase i = false)
include hen htb

theorem refRow_off (h : s.refState i = 0) : refRow s i = s.refTo i 1 := by
  simp [refRow, hen, htb, h]

theorem refRow_failed (h : s.refState i = 1) : refRow s i = if s.refPasses i then wtrCheck i (s.refTo i 2) else s := by
  simp [refRow, hen, htb, h, State.refPasses]

theorem refRow_wtr (h : s.refState i = 2) : refRow s i = if s.refPasses i then wtrCheck i s else s.refTo i 1 := by
  cases hpass : s.refPasses i <;> simp_all [refRow, State.refPasses]

theorem refRow_qualified (h : s.refState i = 3) : refRow s i =
    if s.otherFail i then refFail i s
    else if s.flag (F.REF_STATUS_ACT_FAIL i) then
      if s.fld (F.REF_HOLDOFF_HOLDOFF_MS i) = 0 then refFail i s else (s.refTo i 4).refTimer i ((s.refTo i 4).holdTime i)
    else s := by
  simp [refRow, hen, htb, h]

theorem refRow_holdoff (h : s.refState i = 4) : refRow s i = holdCheck i (s.refExpired i (s.holdTime i)) s := by
  simp [refRow, hen, htb, h]

/-- Where no wait-to-restore time has to run, a reference whose tests pass is qualified from FAILED and from wait-to-restore alike. -/
theorem refRow_no_wait (h : s.refState i = 1 ∨ s.refState i = 2) (hpass : s.refPasses i = true) (hw : s.wtrTime i = 0) :
    (refRow s i).refState i = 3 ∧ (refRow s i).reg (Reg.REF_EVT i) = s.reg (Reg.REF_EVT i) + 1 := by
  rcases h with h | h
  · have hdue : (s.refTo i 2).wtrTime i ≤ (s.refTo i 2).since ((s.refTo i 2).refp i).start := by
      rw [s.wtrTime_refTo, hw]
      exact Nat.zero_le _
    obtain ⟨hstate, hevt⟩ := refQualify_row i (s.refTo i 2)
    rw [refRow_failed hen htb h, if_pos hpass, wtrCheck_expired hdue]
    exact ⟨hstate, by rw [hevt, s.reg_refTo_evt]⟩
  · rw [refRow_wtr hen htb h, if_pos hpass, wtrCheck_expired (by omega)]
    exact refQualify_row i s

/-- HOLDOFF with activity lost (R120): another failing test or the end of its time fails the reference. -/
theorem refRow_holdoff_lost (h : s.refState i = 4) (hact : s.flag (F.REF_STATUS_ACT_FAIL i) = true) : (refRow s i).refState i =
    if s.otherFail i = true ∨ s.holdTime i ≤ s.since (s.refp i).start then 1 else 4 := by
  rw [refRow_holdoff hen htb h, holdCheck, if_neg (by simp [hact])]
  simp only [State.refExpired, Bool.or_eq_true, decide_eq_true_eq]
  split
  · exact (refFail_row i s).1
  · exact (s.refState_refTimer i _).trans h

end

end Sys2Proof.Machine

namespace Sys2Proof

open Machine

/-- Settles O22: each state's row by its equation, with the moves that count REF_EVT said once. -/
theorem referenceStateRows : Obligations.ReferenceStateRows := by
  unfold Obligations.ReferenceStateRows
  intro s i
  refine ⟨refRow_disabled, refRow_timebase, fun hen htb => ⟨?off, ?failed, ?wtrFails, ?otherFails, ?actFails, ?qualified, ?restored,
    refRow_holdoff_lost hen htb, refRow_no_wait hen htb, ?wtrRuns⟩⟩
  case off =>
    intro h
    rw [refRow_off hen htb h]
    exact s.refState_refTo _ (by decide)
  case failed =>
    intro h hfail
    rw [refRow_failed hen htb h, if_neg (by simp [State.refPasses_false hfail])]
  case wtrFails =>
    intro h hfail
    rw [refRow_wtr hen htb h, if_neg (by simp [State.refPasses_false hfail])]
    exact s.refState_refTo _ (by decide)
  case otherFails =>
    intro h hother
    rw [refRow_qualified hen htb h, if_pos hother]
    exact refFail_row _ s
  case actFails =>
    intro h hother hact
    rw [refRow_qualified hen htb h, if_neg (by simp [hother]), if_pos hact]
    split
    · exact (refFail_row _ s).1
    · exact (State.refState_refTimer _ _ _).trans (s.refState_refTo _ (by decide))
  case qualified =>
    intro h hother hact
    rw [refRow_qualified hen htb h, if_neg (by simp [hother]), if_neg (by simp [hact])]
  case restored =>
    intro h hact
    rw [refRow_holdoff hen htb h, holdCheck, if_pos (by simp [hact])]
    exact s.refState_refTo _ (by decide)
  case wtrRuns =>
    intro h hpass hruns
    rw [refRow_wtr hen htb h, if_pos hpass, wtrCheck_running hruns]
    exact (s.refState_refTimer _ _).trans h

end Sys2Proof
end

section
/-! The loop of a DPLL (R125, R126, R130, R137, R193): the pull range and the steering word, the remaining slew and the limit of the filter,
offsets folded into a period, changes of state and the entry to HOLDOVER. -/

namespace Sys2Proof.Machine

/-! ### Values held to a range -/

theorem natAbs_clamp_le {lim : Int} (hl : 0 ≤ lim) (x : Int) : ((max (-lim) (min lim x)).natAbs : Int) ≤ lim := by omega

theorem clamp_of_natAbs_le {lim x : Int} (h : (x.natAbs : Int) ≤ lim) : max (-lim) (min lim x) = x := by omega

/-! ### The steering word (R130) -/

/-- The pull range of a DPLL in units of 2⁻⁴⁸. -/
def pullRange (d : Nat) : Int := (if d = 0 then 50 else 200) * 2 ^ 48 / 10 ^ 6

theorem pullClamp_eq (d : Nat) (y : Int) : pullClamp d y = max (-pullRange d) (min (pullRange d) y) := rfl

theorem pullRange_nonneg (d : Nat) : 0 ≤ pullRange d := by
  unfold pullRange
  split <;> decide

theorem le_pullRange_iff (d n : Nat) : (n : Int) ≤ pullRange d ↔ n * 10 ^ 6 ≤ (if d = 0 then 50 else 200) * 2 ^ 48 := by
  unfold pullRange
  split <;> omega

theorem pullClamp_range (d : Nat) (y : Int) : (pullClamp d y).natAbs * 10 ^ 6 ≤ (if d = 0 then 50 else 200) * 2 ^ 48 := by
  rw [← le_pullRange_iff, pullClamp_eq]
  exact natAbs_clamp_le (pullRange_nonneg d) y

theorem pullClamp_of_range {d : Nat} {y : Int} (h : y.natAbs * 10 ^ 6 ≤ (if d = 0 then 50 else 200) * 2 ^ 48) : pullClamp d y = y :=
  clamp_of_natAbs_le ((le_pullRange_iff d _).mpr h)

/-- The steering word `w` shown in DPLL `d`'s registers, PULL_LIM as `lim`. -/
def showSteer (d : Nat) (w : Int) (lim : Bool) (s : State) : State :=
  ((s.setDpll d { s.dpll_ d with y := w, wrote := true }).setFlag (F.DPLL_STATUS_PULL_LIM d) lim).setQuant (Reg.DPLL_FREQ d) 2
    (unsigned 64 w)

theorem steerWrite_within (k te : Nat) (w : Int) (s : State) : (steerWrite k te w s).within s [] [.steer] := by
  unfold steerWrite
  extract_lets p
  split
  · exact .ite (fun _ => setPort_within ..) (fun _ => .refl)
  · exact setPort_within ..

/-- Beside the word it shows, a tick writes steering ports alone. -/
theorem steerTick_within_shown (d : Nat) (y : Int) (s : State) :
    (steerTick d y s).within (showSteer d (pullClamp d y) (pullClamp d y != y) s) [] [.steer] := by
  unfold steerTick
  extract_lets w v s1 te s2
  have hs2 : s2.within s1 [] [.steer] := by
    unfold s2
    split
    · exact .ite (fun _ => .refl) (fun _ => steerWrite_within ..)
    · exact .refl
  exact .ite (fun _ => (steerWrite_within ..).trans hs2) (fun _ => hs2)

theorem steerTick_y (d : Nat) (y : Int) (s : State) : ((steerTick d y s).dpll_ d).y = pullClamp d y := by
  rw [(steerTick_within_shown d y s).get (fun u => u.dpll_ d) (fun _ => rfl)]
  unfold showSteer State.dpll_
  rw [State.setQuant_dpll]
  exact congrArg DpllPart.y (State.dpll__setDpll ..)

theorem steerTick_pullLim (d : Nat) (y : Int) (s : State) :
    (steerTick d y s).flag (F.DPLL_STATUS_PULL_LIM d) = (pullClamp d y != y) := by
  have hfreq : ∀ k, k < 2 → Reg.DPLL_STATUS d ≠ Reg.DPLL_FREQ d + 4 * k := fun k hk => by
    simp only [Reg.DPLL_STATUS, Reg.DPLL_FREQ]
    omega
  rw [(steerTick_within_shown d y s).flag (by simp)]
  exact (State.flag_of_reg (State.reg_setQuant_ne _ _ hfreq)).trans (State.flag_setFlag _ _ _ (show 8 + 1 ≤ 32 by decide) rfl)

/-! ### The slew and the filter (R125, R126) -/

/-- `v` moved toward zero by at most `p`. -/
def towardZero (v p : Int) : Int := if 0 ≤ v then max 0 (v - p) else min 0 (v + p)

theorem slewTick_slew (d n : Nat) (s : State) :
    ((slewTick d n s).dpll_ d).slew = towardZero (s.dpll_ d).slew ((max 1 (s.fld (F.SEL_CFG_PSL d)) : Nat) * n) :=
  congrArg DpllPart.slew (State.dpll__setDpll s d _)

theorem natAbs_towardZero (v p : Int) : ((towardZero v p).natAbs : Int) = max 0 (v.natAbs - p) := by
  unfold towardZero
  split <;> omega

theorem towardZero_mul_nonneg (v p : Int) : 0 ≤ towardZero v p * v := by
  unfold towardZero
  split
  case isTrue h => exact Int.mul_nonneg (by omega) h
  case isFalse h => exact Int.mul_nonneg_of_nonpos_of_nonpos (by omega) (by omega)

theorem loopTick_near_integ (d n : Nat) (new : Bool) (moved : Int) (s : State) :
    ((loopTick d n new moved s).1 - roundDiv ((loopTick d n new moved s).2.dpll_ d).integ (2 ^ 64)).natAbs * 10 ^ 9 ≤
      max 1 (s.fld (F.SEL_CFG_PSL d)) * 2 ^ 48 := by
  unfold loopTick
  extract_lets v pe damp integ lim corr
  rw [State.dpll__setDpll]
  have hlim : 0 ≤ lim := by unfold lim; omega
  have hcorr := natAbs_clamp_le hlim corr
  have hl : lim * 10 ^ 9 ≤ (max 1 (s.fld (F.SEL_CFG_PSL d)) * 2 ^ 48 : Nat) := by unfold lim; omega
  dsimp only
  omega

/-! ### Offsets within a period -/

theorem foldInto_range (x : Int) {p : Nat} (hp : 0 < p) : -(p : Int) < 2 * foldInto x p ∧ 2 * foldInto x p ≤ p := by
  have h0 := Int.emod_nonneg x (b := p) (by omega)
  have h1 := Int.emod_lt_of_pos x (b := p) (by omega)
  unfold foldInto
  dsimp only
  split <;> omega

theorem dvd_sub_foldInto (x : Int) (p : Nat) : (p : Int) ∣ x - foldInto x p := by
  have h : (p : Int) ∣ x - x % p := Int.dvd_self_sub_emod
  unfold foldInto
  dsimp only
  split
  · rw [sub_sub_eq_add_sub, add_sub_right_comm]
    exact Int.dvd_add h (dvd_refl _)
  · exact h

/-! ### Changes of state (R137) -/

theorem dpllTo_state (d : Nat) {k : Nat} (hk : k < 8) (s : State) : (dpllTo d k s).dpllState d = k := by
  unfold dpllTo
  split
  case isTrue h => exact h
  case isFalse =>
    exact (State.fld_setRv_ne _ _ _ Reg.indexed_ne).trans
      ((State.fld_setFld _ _ _ (show 0 + 3 ≤ 32 by decide)).trans (Nat.mod_eq_of_lt hk))

/-- DPLL_EVT counts a change of state, and no other. -/
theorem dpllTo_evt (d k : Nat) (s : State) : (dpllTo d k s).reg (Reg.DPLL_EVT d) =
    s.reg (Reg.DPLL_EVT d) + (if s.dpllState d = k then 0 else 1) := by
  unfold dpllTo
  split
  · exact (BitVec.add_zero _).symm
  · rw [State.reg_bump, State.reg_setFld_ne _ _ _ Reg.indexed_ne]

theorem dpllTo_fld (d k : Nat) (s : State) {f : Fld} (he : f.addr ≠ Reg.DPLL_EVT d) (hs : (F.DPLL_STATUS_STATE d).apart f) :
    (dpllTo d k s).fld f = s.fld f := by
  unfold dpllTo
  split
  · rfl
  · exact (State.fld_setRv_ne _ _ _ he).trans (State.fld_setFld_apart _ _ hs)

theorem dpllTo_dpll (d k : Nat) (s : State) : (dpllTo d k s).dpll = s.dpll := by
  unfold dpllTo
  split <;> rfl

/-! ### Entry to HOLDOVER (R137) -/

theorem showEst_fld (d : Nat) (s : State) {f : Fld} (hte : f.addr ≠ Reg.DPLL_TE_EST d) (hdur : f.addr ≠ Reg.DPLL_HO_DUR d) :
    (showEst d s).fld f = s.fld f :=
  (State.fld_setRv_ne _ _ _ hdur).trans (State.fld_setRv_ne _ _ _ hte)

theorem showEst_dpll (d : Nat) (s : State) : (showEst d s).dpll = s.dpll := rfl

theorem stepPend_wait (d : Nat) (v : Option Int) (s : State) : (stepPend d v s).flag (F.DPLL_STATUS_STEP_WAIT d) = v.isSome :=
  State.flag_setFlag _ _ _ (show 7 + 1 ≤ 32 by decide) rfl

theorem stepPend_dpll (d : Nat) (v : Option Int) (s : State) : (stepPend d v s).dpll = s.dpll := State.setQuant_dpll ..

/-- What an entry to HOLDOVER shows last, once the model is latched: no step waits, no reference is followed, and the state is HOLDOVER. -/
def hoShow (d : Nat) (s : State) : State := dpllTo d 3 (showEst d ((stepPend d none s).setFld (F.DPLL_STATUS_REF d) 0x1f))

theorem hoShow_ref (d : Nat) (s : State) : (hoShow d s).fld (F.DPLL_STATUS_REF d) = 0x1f := by
  rw [hoShow, dpllTo_fld _ _ _ Reg.indexed_ne Fld.apart_within,
    showEst_fld _ _ Reg.indexed_ne Reg.indexed_ne, State.fld_setFld _ _ _ (show 16 + 5 ≤ 32 by decide)]
  rfl

theorem hoShow_stepWait (d : Nat) (s : State) : (hoShow d s).flag (F.DPLL_STATUS_STEP_WAIT d) = false := by
  have hfld : (hoShow d s).fld (F.DPLL_STATUS_STEP_WAIT d) = (stepPend d none s).fld (F.DPLL_STATUS_STEP_WAIT d) := by
    rw [hoShow, dpllTo_fld _ _ _ Reg.indexed_ne Fld.apart_within,
      showEst_fld _ _ Reg.indexed_ne Reg.indexed_ne, State.fld_setFld_apart _ _ Fld.apart_within]
  rw [State.flag, hfld]
  exact stepPend_wait d none s

theorem hoShow_dpll (d : Nat) (s : State) : (hoShow d s).dpll = s.dpll := by
  rw [hoShow, dpllTo_dpll, showEst_dpll, State.setFld_dpll, stepPend_dpll]

/-- The entry latches the model with no slew left, and then shows HOLDOVER. -/
theorem hoEnter_shown (d : Nat) (short : Bool) (s : State) : ∃ t, hoEnter d short s = hoShow d t ∧ (t.dpll_ d).slew = 0 := by
  unfold hoEnter
  extract_lets v w mean sh k m pe v' s1 s2
  refine ⟨s1.setFlag (F.DPLL_STATUS_MODEL_VALID d) (!sh), rfl, ?_⟩
  have hdpll : s1.dpll = (s.setDpll d v').dpll := State.setQuant_dpll ..
  calc (s1.dpll_ d).slew
    _ = ((s.setDpll d v').dpll_ d).slew := by rw [State.dpll_, hdpll]; rfl
    _ = 0 := congrArg DpllPart.slew (State.dpll__setDpll ..)

end Sys2Proof.Machine

namespace Sys2Proof

open Machine

/-- Settles O24: the clamps by the range they keep, the slew by its move toward zero, and the entry to HOLDOVER by what it shows last. -/
theorem dpllLoopLaws : Obligations.DpllLoopLaws := by
  unfold Obligations.DpllLoopLaws
  refine ⟨fun d y => ⟨pullClamp_range _ y, pullClamp_of_range⟩, fun d y s => ⟨steerTick_y _ y s, steerTick_pullLim _ y s⟩, fun d s => ?slew,
    fun d n new moved s => loopTick_near_integ _ n new moved s,
    fun x p hp => ⟨(foldInto_range x hp).1, (foldInto_range x hp).2, dvd_sub_foldInto x p⟩, fun d short s => ?holdover,
    fun d k s _ => dpllTo_evt _ k s⟩
  case slew =>
    rw [slewTick_slew, natAbs_towardZero]
    exact ⟨by push_cast; rw [mul_one], towardZero_mul_nonneg _ _⟩
  case holdover =>
    obtain ⟨t, ht, hslew⟩ := hoEnter_shown d.val short s
    rw [ht]
    refine ⟨dpllTo_state _ (by decide) _, hoShow_ref _ t, hoShow_stepWait _ t, ?_⟩
    rwa [State.dpll_, hoShow_dpll]

end Sys2Proof
end

section
/-! What the loop of a DPLL leaves of its state and its event counter (R125, R137, R145), and the commands of a DPLL (R129, R137, R138, R147,
R148): a tick, lock and its loss, the limits, and the commands that wait for a lap boundary. -/

namespace Sys2Proof.Machine

-- The default arguments of the frame lemmas wait for the proofs before them: a thread each, where proofs are elaborated side by side.
set_option Elab.async false

/-! ### Registers as fields -/

/-- The register at `a`, whole, as a field. -/
abbrev wordFld (a : Nat) : Fld := ⟨a, 0, 32⟩

theorem State.setRv_eq_setFld (s : State) (a v : Nat) : s.setRv a v = s.setFld (wordFld a) v := by
  have h : (wordFld a).put (s.rv a) v = v % 2 ^ 32 := by
    have := s.rv_lt a
    simp only [Fld.put_eq]
    omega
  rw [State.setFld, h]
  exact congrArg (s.setReg a) (BitVec.eq_of_toNat_eq (by simp))

theorem State.fld_wordFld (s : State) (a : Nat) : s.fld (wordFld a) = s.rv a := by
  have := s.rv_lt a
  simp only [State.fld, Fld.of]
  omega

theorem State.reg_of_wordFld {s t : State} {a : Nat} (h : t.fld (wordFld a) = s.fld (wordFld a)) : t.reg a = s.reg a := by
  rw [State.fld_wordFld, State.fld_wordFld] at h
  exact BitVec.eq_of_toNat_eq h

/-! ### What the loop shows, and what it leaves -/

/-- The fields that a tick's parts write beside the state of the DPLL and its counter. -/
def loopShown (d : Nat) : List Fld :=
  [F.DPLL_STATUS_SERVO_ABSENT d, F.DPLL_STATUS_HO_SHORT d, F.DPLL_STATUS_HO_FORCED d, F.DPLL_STATUS_STEP_WAIT d, F.DPLL_STATUS_PULL_LIM d,
    F.DPLL_STATUS_TB_COLD d, F.DPLL_STATUS_MODEL_VALID d, F.DPLL_STATUS_REF d, wordFld (Reg.DPLL_FREQ d), wordFld (Reg.DPLL_FREQ d + 4),
    wordFld (Reg.DPLL_TE_EST d), wordFld (Reg.DPLL_HO_DUR d), wordFld (Reg.DPLL_STEP_PEND d), wordFld (Reg.DPLL_STEP_PEND d + 4),
    wordFld (Reg.HO_Y_AVG d), wordFld (Reg.HO_Y_AVG d + 4), F.MTC_STATUS_RESTORED]

/-- The state of the DPLL, its counter, its enable and the selection that it follows. -/
def loopKept (d : Nat) : List Fld :=
  [F.DPLL_STATUS_STATE d, wordFld (Reg.DPLL_EVT d), F.DPLL_CFG_EN d, F.DPLL_STATUS_SEL_ABSENT d, F.SEL_STATUS_STATE d,
    F.SEL_STATUS_SELECTED d, F.SEL_STATUS_TARGET d]

theorem loopShown_apart {d : Nat} (hd : d < 8) : ∀ f ∈ loopShown d, ∀ g ∈ loopKept d, f.apart g := by
  simp only [loopShown, loopKept, List.forall_mem_cons, List.not_mem_nil, false_implies, implies_true, and_true, Fld.apart, wordFld,
    Reg.DPLL_STATUS, Reg.DPLL_EVT, Reg.DPLL_CFG, Reg.SEL_STATUS, Reg.DPLL_FREQ, Reg.DPLL_TE_EST, Reg.DPLL_HO_DUR, Reg.DPLL_STEP_PEND,
    Reg.HO_Y_AVG, Reg.MTC_STATUS]
  omega

/-- From `s` to `t` the loop of DPLL `d` has changed neither its state nor its counter, and it follows what it followed. -/
def State.loopKeeps (t s : State) (d : Nat) : Prop := ∀ f ∈ loopKept d, t.fld f = s.fld f

namespace State.loopKeeps

variable {s t u : State} {d : Nat}

theorem refl : s.loopKeeps s d := fun _ _ => rfl

theorem trans (h : u.loopKeeps t d) (h' : t.loopKeeps s d) : u.loopKeeps s d := fun f hf => (h f hf).trans (h' f hf)

/-- An update of parts of the state alone. -/
theorem of_regs (h : t.loopKeeps s d) (hr : u.regs = t.regs) : u.loopKeeps s d := fun f hf =>
  (State.fld_of_reg (State.reg_congr hr f.addr)).trans (h f hf)

theorem of_within {B : List Nat} {P : List Part} (h : u.within t B P) (hB : ∀ f ∈ loopKept d, regArea f.addr ∉ B) : u.loopKeeps t d :=
  fun f hf => h.fld (hB f hf)

theorem setDpll (h : t.loopKeeps s d) {e : Nat} {v : DpllPart} : (t.setDpll e v).loopKeeps s d := h.of_regs rfl

theorem setFld (h : t.loopKeeps s d) (hd : d < 8) {f : Fld} {v : Nat}
    (hf : f ∈ loopShown d := by simp only [loopShown, List.mem_cons, true_or, or_true]) : (t.setFld f v).loopKeeps s d :=
  fun g hg => (t.fld_setFld_apart v (loopShown_apart hd f hf g hg)).trans (h g hg)

theorem setFlag (h : t.loopKeeps s d) (hd : d < 8) {f : Fld} {b : Bool}
    (hf : f ∈ loopShown d := by simp only [loopShown, List.mem_cons, true_or, or_true]) : (t.setFlag f b).loopKeeps s d := h.setFld hd hf

theorem setRv (h : t.loopKeeps s d) (hd : d < 8) {a v : Nat}
    (hf : wordFld a ∈ loopShown d := by simp only [loopShown, List.mem_cons, true_or, or_true]) : (t.setRv a v).loopKeeps s d := by
  rw [State.setRv_eq_setFld]
  exact h.setFld hd hf

theorem setQuant_two (h : t.loopKeeps s d) (hd : d < 8) {a v : Nat}
    (hf : wordFld a ∈ loopShown d := by simp only [loopShown, List.mem_cons, true_or, or_true])
    (hf' : wordFld (a + 4) ∈ loopShown d := by simp only [loopShown, List.mem_cons, true_or, or_true]) :
    (t.setQuant a 2 v).loopKeeps s d :=
  (h.setRv hd hf).setRv hd hf'

theorem state (h : t.loopKeeps s d) : t.dpllState d = s.dpllState d := h _ (by simp [loopKept])

theorem evt (h : t.loopKeeps s d) : t.reg (Reg.DPLL_EVT d) = s.reg (Reg.DPLL_EVT d) :=
  State.reg_of_wordFld (h _ (by simp [loopKept]))

theorem enabled (h : t.loopKeeps s d) : t.flag (F.DPLL_CFG_EN d) = s.flag (F.DPLL_CFG_EN d) :=
  congrArg (· == 1) (h (F.DPLL_CFG_EN d) (by simp [loopKept]))

theorem dpllRef (h : t.loopKeeps s d) : t.dpllRef d = s.dpllRef d := by
  have hstate := h (F.SEL_STATUS_STATE d) (by simp [loopKept])
  have hsel := h (F.SEL_STATUS_SELECTED d) (by simp [loopKept])
  have htgt := h (F.SEL_STATUS_TARGET d) (by simp [loopKept])
  have habs := h (F.DPLL_STATUS_SEL_ABSENT d) (by simp [loopKept])
  unfold State.dpllRef State.selCur State.flag
  rw [hstate, hsel, htgt, habs]

end State.loopKeeps

/-! ### The parts of a tick -/

section
variable {d : Nat} (hd : d < 8) (s : State)

theorem detStart_keeps (i : Nat) (bo det : Int) : (detStart d i bo det s).loopKeeps s d := State.loopKeeps.refl.setDpll

include hd

theorem showEst_keeps : (showEst d s).loopKeeps s d := (State.loopKeeps.refl.setRv hd).setRv hd

theorem stepPend_keeps (v : Option Int) : (stepPend d v s).loopKeeps s d := (State.loopKeeps.refl.setQuant_two hd).setFlag hd

theorem dpllReturn_keeps (i : Nat) (delta : Int) : (dpllReturn d i delta s).loopKeeps s d := by
  unfold dpllReturn
  split
  · exact (stepPend_keeps hd _ _).trans ((detStart_keeps _ _ _ _).trans State.loopKeeps.refl.setDpll)
  · exact (detStart_keeps _ _ _ _).trans State.loopKeeps.refl.setDpll

theorem servoResume_keeps : (servoResume d s).loopKeeps s d := by
  unfold servoResume
  split
  · exact .refl
  · exact (showEst_keeps hd _).trans (State.loopKeeps.refl.setDpll.setFlag hd)

theorem steerTick_keeps (y : Int) : (steerTick d y s).loopKeeps s d := by
  have hshown : (showSteer d (pullClamp d y) (pullClamp d y != y) s).loopKeeps s d :=
    (State.loopKeeps.refl.setDpll.setFlag hd).setQuant_two hd
  exact (State.loopKeeps.of_within (steerTick_within_shown d y s) (by simp)).trans hshown

/-- What the entry to HOLDOVER latches before it shows the state. -/
theorem hoEnter_latched (short : Bool) : ∃ t, hoEnter d short s = dpllTo d 3 t ∧ t.loopKeeps s d ∧
    (t.dpll_ d).ticked = (s.dpll_ d).ticked := by
  unfold hoEnter
  extract_lets v w mean sh k m pe v' s1 s2
  have hv : v'.ticked = (s.dpll_ d).ticked := rfl
  clear_value v' sh
  have h1 : s1.loopKeeps s d := (State.loopKeeps.refl.setDpll.setQuant_two hd).setFlag hd
  have h2 : s2.loopKeeps s d := (stepPend_keeps hd _ none).trans (h1.setFlag hd)
  have hdpll : s2.dpll = (s.setDpll d v').dpll := (stepPend_dpll ..).trans (State.setQuant_dpll ..)
  clear_value s1 s2
  refine ⟨_, rfl, ?_, ?_⟩
  · refine (showEst_keeps hd _).trans ?_
    exact h2.setFld hd
  rw [State.dpll_, showEst_dpll, State.setFld_dpll, hdpll, ← hv]
  exact congrArg DpllPart.ticked (State.dpll__setDpll ..)

/-- What the entry to ACQUIRING measures and clears before it shows the state. -/
theorem acqEnter_measured (i : Nat) : ∃ t, acqEnter d i s = dpllTo d 1 t ∧ t.loopKeeps s d := by
  unfold acqEnter
  extract_lets first delta _ v s0 s1 s3 _ s2
  refine ⟨_, rfl, ?_⟩
  have h0 : s0.loopKeeps s d := ((showEst_keeps hd _).trans State.loopKeeps.refl.setDpll).setFld hd
  have h1 : s1.loopKeeps s d := by
    refine (stepPend_keeps hd _ none).trans ?_
    exact ((h0.setFlag hd).setFlag hd).setFlag hd
  have h2 : s2.loopKeeps s d := by
    unfold s2
    split
    · exact (detStart_keeps s1 i delta 0).trans h1
    · split
      · exact ((detStart_keeps s1 i delta 0).trans h1).setDpll
      · exact (dpllReturn_keeps hd s1 i delta).trans h1
  split
  · exact h2.setFlag hd
  · exact h2

end

/-! ### Changes of state (R137) -/

/-- From `s` to `t` DPLL `d` has entered state `k`, and the change is counted. -/
def State.enters (t s : State) (d k : Nat) : Prop := t.dpllState d = k ∧ t.reg (Reg.DPLL_EVT d) = s.reg (Reg.DPLL_EVT d) + 1

theorem dpllTo_enters {s t : State} {d k : Nat} (h : t.loopKeeps s d) (hk : k < 8) (hs : s.dpllState d ≠ k) :
    (dpllTo d k t).enters s d k :=
  ⟨dpllTo_state d hk t, by rw [dpllTo_evt, h.state, h.evt, if_neg hs]⟩

theorem State.enters.keep {s t u : State} {d k : Nat} (h : t.enters s d k) (hu : u.loopKeeps t d) : u.enters s d k :=
  ⟨hu.state.trans h.1, hu.evt.trans h.2⟩

theorem settle_keeps (d : Nat) (s : State) : (settle s).loopKeeps s d := .of_regs .refl (settle_regs s)

/-- Alignment is kept track of beside the registers (R162). -/
theorem tsTrack_within (s : State) : (tsTrack s).within s [] [.tm] := by
  refine .foldl fun t _ u => ?_
  dsimp only
  exact .ite (fun _ => .refl) (fun _ => .ite (fun _ => .refl) (fun _ => setTs_within ..))

theorem tsTrack_keeps (d : Nat) (s : State) : (tsTrack s).loopKeeps s d := .of_within (tsTrack_within s) (by simp)

/-- A tick's last steps leave the state that its rows entered. -/
theorem settle_tsTrack_keeps (d : Nat) (s : State) : (settle (tsTrack s)).loopKeeps s d := (settle_keeps d _).trans (tsTrack_keeps d s)

@[simp] theorem settle_dpll_ (s : State) (d : Nat) : (settle s).dpll_ d = s.dpll_ d := by
  unfold State.dpll_
  rw [settle_dpll]

/-! ### The rows of a tick (R134, R137) -/

theorem stockReads_within (e : Nat) (s : State) : (stockReads e s).within s [] [.tiu] := by
  have hread : ∀ n u, (rxtsRead e n u).within u [] [.tiu] := fun n u => by
    unfold rxtsRead
    extract_lets c recs _ u1
    have h1 : u1.within u [] [.tiu] := setTiu_within ..
    exact .ite (fun _ => h1) (fun _ => (setChan_within ..).trans h1)
  exact .ite (fun _ => .foldl fun n _ u => .ite (fun _ => .refl) (fun _ => hread n u)) (fun _ => .refl)

/-- The state from which the rows of a tick go on: the stamps are read, the command is taken, and the loop has run in this lap. -/
def tickStart (d : Nat) (s : State) : State :=
  let s0 := stockReads (dpllTe d) s
  s0.setDpll d { s0.dpll_ d with now := none, ticked := true }

theorem tickStart_within (d : Nat) (s : State) : (tickStart d s).within s [] [.tiu, .dpll] :=
  (setDpll_within ..).after (stockReads_within ..).mono

theorem tickStart_ticked (d : Nat) (s : State) : ((tickStart d s).dpll_ d).ticked = true :=
  congrArg DpllPart.ticked (State.dpll__setDpll ..)

/-- The first tick of a lap, no register of its block written in it. -/
theorem dpllTick_first {d : Nat} {s : State} (ht : (s.dpll_ d).ticked = false) (hh : s.bus.held = []) :
    dpllTick d s = tsTrack (dpllRows d (s.dpll_ d).now (selAbsent d (servoResume d (tickStart d s)))) := by
  have hread : (stockReads (dpllTe d) s).dpll_ d = s.dpll_ d := (stockReads_within _ s).get (fun u => u.dpll_ d) (fun _ => rfl)
  have hheld : (tickStart d s).bus.held = [] := by
    rw [(tickStart_within d s).get State.bus (fun _ => rfl), hh]
  have hon : ∀ f, onHeld f (tickStart d s) = f (tickStart d s) := fun f => by
    unfold onHeld
    rw [hheld]
    rfl
  rw [dpllTick, if_neg (by rw [ht]; decide), ← hread]
  exact hon _

theorem dpllRows_disabled {d : Nat} {s : State} (cmd : Option Nat) (h : s.flag (F.DPLL_CFG_EN d) = false) :
    dpllRows d cmd s = steerTick d 0 (freerun d false s) := by
  unfold dpllRows
  rw [h]
  rfl

/-- Row 10 of R137: LOCKED without a reference. -/
theorem dpllRows_unreferenced {d : Nat} {s : State} (hen : s.flag (F.DPLL_CFG_EN d) = true) (hst : s.dpllState d = 2)
    (hf : s.flag (F.DPLL_STATUS_HO_FORCED d) = false) (href : s.dpllRef d = none) :
    dpllRows d none s = steerTick d ((hoEnter d false s).dpll_ d).y (hoEnter d false s) := by
  simp [dpllRows, hen, hst, hf, href]

theorem freerun_ticked (d : Nat) (s : State) : ((freerun d false s).dpll_ d).ticked = (s.dpll_ d).ticked := by
  unfold freerun
  extract_lets v _ s1 s2 s3 keep
  have h3 : s3.dpll = s2.dpll := (State.setRv_dpll ..).trans (stepPend_dpll ..)
  have h1 : s1.dpll_ d = { DpllPart.reset with cmd := v.cmd, rung := v.rung, ticked := v.ticked } := State.dpll__setDpll ..
  rw [State.dpll_, dpllTo_dpll, State.setRv_dpll, h3]
  exact (congrArg DpllPart.ticked h1).trans rfl

theorem freerun_state (d : Nat) (s : State) : (freerun d false s).dpllState d = 0 := dpllTo_state d (by decide) _

theorem steerTick_ticked (d : Nat) (y : Int) (s : State) : ((steerTick d y s).dpll_ d).ticked = (s.dpll_ d).ticked := by
  rw [(steerTick_within_shown d y s).get (fun u => u.dpll_ d) (fun _ => rfl)]
  unfold showSteer State.dpll_
  rw [State.setQuant_dpll]
  exact (congrArg DpllPart.ticked (State.dpll__setDpll s d _)).trans rfl

theorem servoResume_ticked (d : Nat) (s : State) : ((servoResume d s).dpll_ d).ticked = (s.dpll_ d).ticked := by
  unfold servoResume
  split
  · rfl
  · extract_lets v te
    rw [State.dpll_, showEst_dpll, State.setFlag_dpll]
    exact (congrArg DpllPart.ticked (State.dpll__setDpll s d _)).trans rfl

theorem servoResume_forced (d : Nat) (s : State) :
    (servoResume d s).flag (F.DPLL_STATUS_HO_FORCED d) = s.flag (F.DPLL_STATUS_HO_FORCED d) := by
  unfold servoResume
  split
  · rfl
  · rw [State.flag, showEst_fld _ _ Reg.indexed_ne Reg.indexed_ne, State.fld_setFlag_apart _ _ Fld.apart_within]
    rfl

theorem selAbsent_te0 {d : Nat} (h : d < 4) (s : State) : selAbsent d s = s := if_pos h

/-- An entry to HOLDOVER because the selection is absent leaves the enable, and the loop has run. -/
theorem selAbsent_leaves {d : Nat} (hd : d < 8) (s : State) : (selAbsent d s).flag (F.DPLL_CFG_EN d) = s.flag (F.DPLL_CFG_EN d) ∧
    ((selAbsent d s).dpll_ d).ticked = (s.dpll_ d).ticked := by
  unfold selAbsent
  split
  · exact ⟨rfl, rfl⟩
  · extract_lets gone s1
    have h1 : s1.flag (F.DPLL_CFG_EN d) = s.flag (F.DPLL_CFG_EN d) ∧ s1.dpll = s.dpll := by
      unfold s1
      split
      · exact ⟨State.flag_setFlag_ne _ _ _ _ Reg.indexed_ne, rfl⟩
      · exact ⟨rfl, rfl⟩
    obtain ⟨hen, hdpll⟩ := h1
    split
    · obtain ⟨t, ht, hkeep, htick⟩ := hoEnter_latched hd s1 (s.dpllState d == 1)
      rw [ht, State.flag, dpllTo_fld _ _ _ Reg.indexed_ne (.inl Reg.indexed_ne), State.dpll_, dpllTo_dpll]
      exact ⟨hkeep.enabled.trans hen, htick.trans (by rw [State.dpll_, hdpll]; rfl)⟩
    · exact ⟨hen, by rw [State.dpll_, hdpll]; rfl⟩

/-- The rows of a disabled DPLL leave it in FREERUN. -/
theorem dpllTick_disabled {d : Nat} {s : State} (hd : d < 8) (ht : (s.dpll_ d).ticked = false) (hh : s.bus.held = [])
    (hen : s.flag (F.DPLL_CFG_EN d) = false) : (dpllTick d s).dpllState d = 0 ∧ ((dpllTick d s).dpll_ d).ticked = true := by
  obtain ⟨hsel, htick⟩ := selAbsent_leaves hd (servoResume d (tickStart d s))
  have hoff : (selAbsent d (servoResume d (tickStart d s))).flag (F.DPLL_CFG_EN d) = false := by
    rw [hsel, (servoResume_keeps hd _).enabled, (tickStart_within d s).flag (by simp), hen]
  rw [dpllTick_first ht hh, dpllRows_disabled _ hoff]
  refine ⟨((tsTrack_keeps d _).trans (steerTick_keeps hd _ 0)).state.trans (freerun_state d _), ?_⟩
  rw [(tsTrack_within _).get (fun u => u.dpll_ d) (fun _ => rfl), steerTick_ticked, freerun_ticked, htick, servoResume_ticked,
    tickStart_ticked]

/-- A DPLL of TE0 that loses its reference in LOCKED enters HOLDOVER. -/
theorem dpllTick_unreferenced {d : Nat} {s : State} (hd : d < 4) (ht : (s.dpll_ d).ticked = false) (hh : s.bus.held = [])
    (hen : s.flag (F.DPLL_CFG_EN d) = true) (hnow : (s.dpll_ d).now = none) (hst : s.dpllState d = 2)
    (hf : s.flag (F.DPLL_STATUS_HO_FORCED d) = false) (href : s.dpllRef d = none) : (dpllTick d s).enters s d 3 := by
  have hd8 : d < 8 := by omega
  have hstart : (tickStart d s).loopKeeps s d := .of_within (tickStart_within d s) (by simp)
  have hkeep : (servoResume d (tickStart d s)).loopKeeps s d := (servoResume_keeps hd8 _).trans hstart
  have hforced : (servoResume d (tickStart d s)).flag (F.DPLL_STATUS_HO_FORCED d) = false := by
    rw [servoResume_forced, (tickStart_within d s).flag (by simp), hf]
  obtain ⟨t, hho, hlatch, -⟩ := hoEnter_latched hd8 (servoResume d (tickStart d s)) false
  rw [dpllTick_first ht hh, hnow, selAbsent_te0 hd, dpllRows_unreferenced (hkeep.enabled.trans hen) (hkeep.state.trans hst) hforced
    (hkeep.dpllRef.trans href), hho]
  have henter : (dpllTo d 3 t).enters s d 3 := dpllTo_enters (hlatch.trans hkeep) (by decide) (by rw [hst]; decide)
  exact henter.keep ((tsTrack_keeps d _).trans (steerTick_keeps hd8 _ _))

/-! ### The commands of a DPLL's own rows (R137, R138) -/

theorem exec_dpllTick_other {d : Fin 8} {m : Fin 2} {s : State} (h : m.val ≠ dpllTe d.val) : exec (.dpllTick d m) s = .next (settle s) := by
  change execDpllTick d m s = _
  rw [execDpllTick, if_neg (fun hc => h hc.1), fin_next]

theorem exec_dpllTick {d : Fin 8} {m : Fin 2} {s : State} (h : m.val = dpllTe d.val) (hr : s.dpllRuns d.val = true) :
    exec (.dpllTick d m) s = .next (settle (dpllTick d.val s)) := by
  change execDpllTick d m s = _
  rw [execDpllTick, if_pos ⟨h, hr⟩, fin_next]

section
variable {d : Fin 8} {s : State} (hrow : s.rowsPass d.val = true)
include hrow

theorem exec_dpllLock (hst : s.dpllState d.val = 1) (href : (s.dpllRef d.val).isSome = true) (hslew : (s.dpll_ d.val).slew = 0)
    (hwait : s.flag (F.DPLL_STATUS_STEP_WAIT d.val) = false) (hpe : (s.phErr d.val).natAbs ≤ s.lockThr d.val) :
    exec (.dpllLock d) s = .next (settle (tsTrack (dpllTo d.val 2 (s.setDpll d.val { s.dpll_ d.val with lockT := 0, unlockT := 0 })))) := by
  change execDpllLock d s = _
  rw [execDpllLock, if_pos (by simp [hrow, hst, href, hslew, hwait, hpe]), fin_next]

theorem exec_dpllUnlock (hst : s.dpllState d.val = 2) (href : (s.dpllRef d.val).isSome = true)
    (hpe : 4 * s.lockThr d.val < (s.phErr d.val).natAbs) :
    exec (.dpllUnlock d) s = .next (settle (tsTrack (dpllTo d.val 1 (s.setDpll d.val { s.dpll_ d.val with lockT := 0, unlockT := 0 })))) := by
  change execDpllUnlock d s = _
  rw [execDpllUnlock, if_pos (by simp [hrow, hst, href, hpe]), fin_next]

/-- At the limit a DPLL with a reference goes to ACQUIRING, and one without to LOST; the change is counted. -/
theorem exec_holdoverLimit (hst : s.dpllState d.val = 3) (hf : s.flag (F.DPLL_STATUS_HO_FORCED d.val) = false)
    (hlim : s.hoLimit d.val = true) :
    ∃ t, exec (.holdoverLimit d) s = .next (settle t) ∧ t.enters s d.val (if (s.dpllRef d.val).isSome then 1 else 4) := by
  refine ⟨_, (show execHoldoverLimit d s = _ by rw [execHoldoverLimit, if_pos (by simp [hrow, hst, hf, hlim]), fin_next]), ?_⟩
  cases href : s.dpllRef d.val with
  | none => exact dpllTo_enters .refl (by decide) (by rw [hst]; decide)
  | some i =>
    obtain ⟨t, hacq, hkeep⟩ := acqEnter_measured d.isLt s i
    change (tsTrack (acqEnter d.val i s)).enters s d.val 1
    rw [hacq]
    have henter : (dpllTo d.val 1 t).enters s d.val 1 := dpllTo_enters hkeep (by decide) (by rw [hst]; decide)
    exact henter.keep (tsTrack_keeps d.val _)

end

theorem exec_absenceLimit {d : Fin 8} {s : State} (ht : s.tclkOn = true) (hst : s.dpllState d.val = 3)
    (habs : s.flag (F.DPLL_STATUS_SERVO_ABSENT d.val) = true) (hlim : s.rv (Reg.DPLL_LOST_S d.val) ≠ 0) :
    exec (.absenceLimit d) s = .next (settle (dpllTo d.val 4 s)) := by
  change execAbsenceLimit d s = _
  rw [execAbsenceLimit, if_pos (by simp [ht, hst, habs, hlim]), fin_next]

/-! ### Commands that wait for a lap boundary (R147, R148) -/

/-- The command that waited, if any, is dropped and counted. -/
def cmdDrop (d : Nat) (s : State) : State :=
  if (s.dpll_ d).cmd.isSome then (s.bump16 (Reg.DPLL_CMD_REF d)).setDpll d { s.dpll_ d with cmd := none } else s

theorem landDpllCmd_refused {d code : Nat} {s : State} (h : s.cmdRefused d code = true) :
    landDpllCmd d code s = (cmdDrop d s).bump16 (Reg.DPLL_CMD_REF d) := if_pos h

theorem landDpllCmd_taken {d code : Nat} {s : State} (h : s.cmdRefused d code = false) :
    landDpllCmd d code s = (cmdDrop d s).setDpll d { s.dpll_ d with cmd := some code } := if_neg (by rw [h]; decide)

theorem cmdDrop_of_none {d : Nat} {s : State} (h : (s.dpll_ d).cmd = none) : cmdDrop d s = s := if_neg (by rw [h]; decide)

theorem cmdDrop_cmd (d : Nat) (s : State) : ((cmdDrop d s).dpll_ d).cmd = none := by
  cases h : (s.dpll_ d).cmd with
  | none => rw [cmdDrop_of_none h, h]
  | some c => rw [cmdDrop, if_pos (by rw [h]; rfl), State.dpll__setDpll]

theorem fld_bump16 (s : State) (a : Nat) : (s.bump16 a).fld ⟨a, 0, 16⟩ = min (s.fld ⟨a, 0, 16⟩ + 1) 65535 :=
  s.fld_bumpFld ⟨a, 0, 16⟩ (show 0 + 16 ≤ 32 by decide)

theorem cmdDrop_refs {d : Nat} {s : State} (h : (s.dpll_ d).cmd ≠ none) :
    (cmdDrop d s).fld ⟨Reg.DPLL_CMD_REF d, 0, 16⟩ = min (s.fld ⟨Reg.DPLL_CMD_REF d, 0, 16⟩ + 1) 65535 := by
  rw [cmdDrop, if_pos (Option.isSome_iff_ne_none.mpr h), State.setDpll_fld, fld_bump16]

theorem exec_dpllCmd {d : Fin 8} {s : State} (hon : s.blockOn 4 = true) {x : Instr × Nat}
    (hx : x ∈ [(Instr.dpllStep d, 1), (Instr.dpllReset d, 2), (Instr.dpllHold d, 3), (Instr.dpllRelease d, 4)]) :
    exec x.1 s = .next (settle (landDpllCmd d.val x.2 s)) := by
  have hland : ∀ code, fin (whenOn 4 (landDpllCmd d.val code) s) = .next (settle (landDpllCmd d.val code s)) := fun code => by
    rw [whenOn, if_pos hon, fin_next]
  simp only [List.mem_cons, List.not_mem_nil, or_false] at hx
  rcases hx with rfl | rfl | rfl | rfl
  · exact hland 1
  · exact hland 2
  · exact hland 3
  · exact hland 4

end Sys2Proof.Machine

namespace Sys2Proof

set_option Elab.async false

open Machine

/-- Settles O23: the rows by the state that each enters, and the commands by what becomes of the one that waited. -/
theorem dpllCommands : Obligations.DpllCommands := by
  unfold Obligations.DpllCommands
  refine ⟨fun d m s h => ⟨_, exec_dpllTick_other h, settle_sameBut s⟩,
    fun d m s hm hr ht hh => ⟨fun hen => ?disabled, fun hd hen hnow hst hf href => ?unreferenced⟩,
    fun d s hr hen h2 h3 => ?rows, fun d s ht hst habs hlim => ?absence, fun d s hon x hx => ⟨fun href => ?refused, fun href => ?taken⟩⟩
  case disabled =>
    obtain ⟨hstate, htick⟩ := dpllTick_disabled d.isLt ht hh hen
    exact ⟨_, exec_dpllTick hm hr, (settle_keeps d.val _).state.trans hstate, by rwa [settle_dpll_]⟩
  case unreferenced =>
    have henter := dpllTick_unreferenced hd ht hh hen hnow hst hf href
    exact ⟨_, exec_dpllTick hm hr, henter.keep (settle_keeps d.val _)⟩
  case rows =>
    have hrow : s.rowsPass d.val = true := by simp [State.rowsPass, hr, hen, h2, h3]
    have hclear : (s.setDpll d.val { s.dpll_ d.val with lockT := 0, unlockT := 0 }).loopKeeps s d.val := State.loopKeeps.refl.setDpll
    refine ⟨fun hst href hslew hwait hpe => ⟨_, exec_dpllLock hrow hst href hslew hwait hpe, ?lock⟩,
      fun hst href hpe => ⟨_, exec_dpllUnlock hrow hst href hpe, ?unlock⟩, fun hst hf hlim => ?limit⟩
    case lock => exact (dpllTo_enters hclear (by decide) (by rw [hst]; decide)).keep (settle_tsTrack_keeps d.val _)
    case unlock => exact (dpllTo_enters hclear (by decide) (by rw [hst]; decide)).keep (settle_tsTrack_keeps d.val _)
    case limit =>
      obtain ⟨t, hexec, henter⟩ := exec_holdoverLimit hrow hst hf hlim
      exact ⟨_, hexec, henter.keep (settle_keeps d.val t)⟩
  case absence =>
    have henter : (dpllTo d.val 4 s).enters s d.val 4 := dpllTo_enters .refl (by decide) (by rw [hst]; decide)
    exact ⟨_, exec_absenceLimit ht hst habs hlim, henter.keep (settle_keeps d.val _)⟩
  case refused =>
    refine ⟨_, exec_dpllCmd hon hx, ?_⟩
    rw [landDpllCmd_refused href]
    refine ⟨?_, fun hnone => ?_, fun hsome => ?_⟩
    · rw [settle_dpll_, State.dpll_, State.bump16_dpll]
      exact cmdDrop_cmd d.val s
    · rw [cmdDrop_of_none hnone]
      exact settle_sameBut _
    · rw [settle_fld, fld_bump16, cmdDrop_refs hsome]
      omega
  case taken =>
    refine ⟨_, exec_dpllCmd hon hx, ?_⟩
    rw [landDpllCmd_taken href]
    refine ⟨?_, fun hnone => ?_, fun hsome => ?_⟩
    · rw [settle_dpll_, State.dpll__setDpll]
    · rw [cmdDrop_of_none hnone]
      exact settle_sameBut _
    · rw [settle_fld, State.setDpll_fld, cmdDrop_refs hsome]

end Sys2Proof
end

section
/-! The commands of a timescale and the snapshot (R155, R157, R161), the updates of a steering port (R131), and the port clocks at a tie
(R154). -/

namespace Sys2Proof.Machine

-- The default arguments of the frame lemmas wait for the proofs before them: a thread each, where proofs are elaborated side by side.
set_option Elab.async false

/-! ### Quantities -/

theorem State.quant_of_regs {s t : State} {a n : Nat} (h : ∀ k, k < n → t.reg (a + 4 * k) = s.reg (a + 4 * k)) : t.quant a n = s.quant a n := by
  induction n generalizing a with
  | zero => rfl
  | succ n ih =>
    have hlow : t.rv a = s.rv a := State.rv_of_reg (h 0 (by omega))
    have hhigh : t.quant (a + 4) n = s.quant (a + 4) n := ih fun k hk => by
      rw [show a + 4 + 4 * k = a + 4 * (k + 1) by ring]
      exact h (k + 1) (by omega)
    rw [State.quant, State.quant, hlow, hhigh]

/-- Quantities in registers apart from those that are set. -/
theorem State.quant_setQuant_ne (s : State) {a b m n : Nat} (v : Nat) (h : b + 4 * n ≤ a ∨ a + 4 * m ≤ b) :
    (s.setQuant a m v).quant b n = s.quant b n :=
  State.quant_of_regs fun k hk => s.reg_setQuant_ne v (by omega)

theorem State.quant_setQuant (s : State) (a n v : Nat) : (s.setQuant a n v).quant a n = v % 2 ^ (32 * n) := by
  induction n generalizing s a v with
  | zero => exact (Nat.mod_one v).symm
  | succ n ih =>
    have hlow : (((s.setRv a v).setQuant (a + 4) n (v / 2 ^ 32)).rv a) = v % 2 ^ 32 := by
      rw [State.rv_of_reg (State.reg_setQuant_ne _ _ (by omega)), State.rv_setRv]
    rw [State.setQuant, State.quant, ih, hlow, show 32 * (n + 1) = 32 + 32 * n by ring, pow_add, Nat.mod_mul]

theorem quant_settle (s : State) (a n : Nat) : (settle s).quant a n = s.quant a n := State.quant_congr (settle_regs s) a n

@[simp] theorem settle_tsp (s : State) (i : Nat) : (settle s).tsp i = s.tsp i := by
  unfold State.tsp
  rw [settle_tm]

@[simp] theorem settle_pcp (s : State) (p : Nat) : (settle s).pcp p = s.pcp p := by
  unfold State.pcp
  rw [settle_tm]

@[simp] theorem settle_port (s : State) (k : Nat) : (settle s).port k = s.port k := by
  unfold State.port
  rw [settle_steer]

/-! ### Timescale commands (R155, R157) -/

/-- The command that waited, if any, is dropped and counted. -/
def tsDrop (i : Nat) (s : State) : State :=
  if (s.tsp i).cmd.isSome then (s.bump16 (Reg.TS_CMD_REF i)).setTs i { s.tsp i with cmd := none } else s

theorem tsDrop_of_none {i : Nat} {s : State} (h : (s.tsp i).cmd = none) : tsDrop i s = s := if_neg (by rw [h]; decide)

/-- The command waits for the lap boundary with its argument, in the place of one that waited. -/
def tsWait (i code : Nat) (d : Int) (s : State) : State := (tsDrop i s).setTs i { s.tsp i with cmd := some (code, d) }

theorem tsWait_cmd (i code : Nat) (d : Int) (s : State) : ((tsWait i code d s).tsp i).cmd = some (code, d) :=
  congrArg TsPart.cmd (State.tsp_setTs ..)

theorem tsWait_regs {i : Nat} (code : Nat) (d : Int) {s : State} (h : (s.tsp i).cmd = none) : (tsWait i code d s).regs = s.regs := by
  rw [tsWait, tsDrop_of_none h]
  rfl

/-- The argument that a command of timescale `i` copies; none where it is refused. -/
def State.tsArg (s : State) (i code : Nat) : Option Int :=
  let w := s.quant (Reg.TS_ARG i) 4
  let nsOk := decide (w / 2 ^ 32 % 2 ^ 30 < 10 ^ 9)
  if !(s.tsp i).run then none
  else match code with
    | 1 => if nsOk then some (tsOfWords w (w / 2 ^ 64 : Nat)) else none
    | 2 =>
      let d := tsOfWords w (signed 64 (w / 2 ^ 64))
      if nsOk && decide (0 ≤ ((s.tsp i).acc : Int) + d) then some d else none
    | 3 => if (s.tsOwner i).isSome then none else some (signed 64 (s.quant (Reg.TS_HRATE i) 2))
    | _ => none

theorem landTsCmd_refused {i : Nat} {v : Word} {s : State} (h : s.tsArg i (v.toNat % 16) = none) :
    landTsCmd i v s = (tsDrop i s).bump16 (Reg.TS_CMD_REF i) := by
  change (match s.tsArg i (v.toNat % 16) with
    | none => (tsDrop i s).bump16 (Reg.TS_CMD_REF i)
    | some d => tsWait i (v.toNat % 16) d s) = _
  rw [h]

theorem landTsCmd_taken {i : Nat} {v : Word} {d : Int} {s : State} (h : s.tsArg i (v.toNat % 16) = some d) :
    landTsCmd i v s = tsWait i (v.toNat % 16) d s := by
  change (match s.tsArg i (v.toNat % 16) with
    | none => (tsDrop i s).bump16 (Reg.TS_CMD_REF i)
    | some d => tsWait i (v.toNat % 16) d s) = _
  rw [h]

theorem State.tsArg_stopped {i : Nat} {s : State} (code : Nat) (h : (s.tsp i).run = false) : s.tsArg i code = none :=
  if_pos (by rw [h]; rfl)

section
variable {i : Nat} {s : State} (hrun : (s.tsp i).run = true)
include hrun

theorem State.tsArg_set (hns : s.quant (Reg.TS_ARG i) 4 / 2 ^ 32 % 2 ^ 30 < 10 ^ 9) :
    s.tsArg i 1 = some (tsOfWords (s.quant (Reg.TS_ARG i) 4) (s.quant (Reg.TS_ARG i) 4 / 2 ^ 64 : Nat)) := by
  unfold State.tsArg
  rw [hrun]
  exact if_pos (decide_eq_true hns)

theorem State.tsArg_adj (hns : s.quant (Reg.TS_ARG i) 4 / 2 ^ 32 % 2 ^ 30 < 10 ^ 9)
    (h0 : 0 ≤ ((s.tsp i).acc : Int) + tsOfWords (s.quant (Reg.TS_ARG i) 4) (signed 64 (s.quant (Reg.TS_ARG i) 4 / 2 ^ 64))) :
    s.tsArg i 2 = some (tsOfWords (s.quant (Reg.TS_ARG i) 4) (signed 64 (s.quant (Reg.TS_ARG i) 4 / 2 ^ 64))) := by
  unfold State.tsArg
  rw [hrun]
  exact if_pos (Bool.and_eq_true_iff.mpr ⟨decide_eq_true hns, decide_eq_true h0⟩)

theorem State.tsArg_hrate (hown : s.tsOwner i = none) : s.tsArg i 3 = some (signed 64 (s.quant (Reg.TS_HRATE i) 2)) := by
  unfold State.tsArg
  rw [hrun, hown]
  rfl

end

section
variable {i : Fin 16} {s : State} (hon : s.blockOn 5 = true)
include hon

theorem exec_tsSet : exec (.tsSet i) s = .next (settle (landTsCmd i.val 1 s)) := by
  change execTsSet i s = _
  rw [execTsSet, whenOn, if_pos hon, fin_next]

theorem exec_tsAdj : exec (.tsAdj i) s = .next (settle (landTsCmd i.val 2 s)) := by
  change execTsAdj i s = _
  rw [execTsAdj, whenOn, if_pos hon, fin_next]

theorem exec_tsHrate : exec (.tsHrate i) s = .next (settle (landTsCmd i.val 3 s)) := by
  change execTsHrate i s = _
  rw [execTsHrate, whenOn, if_pos hon, fin_next]

theorem exec_tsCfgWrite (v : Word) : exec (.tsCfgWrite i v) s = .next (settle (s.setReg (Reg.TS_CFG i.val) (v &&& 7))) := by
  change execTsCfgWrite i v s = _
  rw [execTsCfgWrite, whenOn, if_pos hon, fin_next, landTsCfg]

/-- At a stopped timescale where no command waits, a command is only counted as refused. -/
theorem exec_tsCmd_stopped (hrun : (s.tsp i.val).run = false) (hnone : (s.tsp i.val).cmd = none) {c : Instr}
    (hc : c ∈ [Instr.tsSet i, Instr.tsAdj i, Instr.tsHrate i]) : exec c s = .next (settle (s.bump16 (Reg.TS_CMD_REF i.val))) := by
  have hland : ∀ v, landTsCmd i.val v s = s.bump16 (Reg.TS_CMD_REF i.val) := fun v => by
    rw [landTsCmd_refused (State.tsArg_stopped _ hrun), tsDrop_of_none hnone]
  simp only [List.mem_cons, List.not_mem_nil, or_false] at hc
  rcases hc with rfl | rfl | rfl
  · rw [exec_tsSet hon, hland]
  · rw [exec_tsAdj hon, hland]
  · rw [exec_tsHrate hon, hland]

end

/-! ### The snapshot (R161) -/

theorem tsWords_lt (v : Nat) : tsWords v < 2 ^ 128 := by
  simp only [tsWords, tsFracOf, tsNsOf, tsSecOf]
  omega

/-- What the snapshot holds of a timescale. -/
def TsPart.snap (v : TsPart) : Nat := if v.run then tsWords v.acc else 0

theorem TsPart.snap_lt (v : TsPart) : v.snap < 2 ^ 128 := by
  unfold TsPart.snap
  split
  · exact tsWords_lt _
  · decide

/-- The snapshot of the timescales, one after the other. -/
def snapTimescales (s : State) : State := forEach (List.range 16) (fun s i => s.setQuant (Reg.SNAP_TS i) 4 (s.tsp i).snap) s

theorem timeSnap_eq (s : State) : timeSnap s = (snapTimescales (s.setQuant Reg.SNAP_MTC 4 s.tm.mtc)).setFlag F.TIME_SNAP_DONE true := rfl

theorem State.tsp_setQuant (s : State) (a n v i : Nat) : (s.setQuant a n v).tsp i = s.tsp i := by
  unfold State.tsp
  rw [State.setQuant_tm]

theorem snapTimescales_tsp (s : State) (i : Nat) : (snapTimescales s).tsp i = s.tsp i :=
  forEach_keeps (g := fun u => u.tsp i) (fun _ _ => State.tsp_setQuant ..) _ s

theorem snapTimescales_mtc (s : State) : (snapTimescales s).quant Reg.SNAP_MTC 4 = s.quant Reg.SNAP_MTC 4 :=
  forEach_keeps (g := fun u => u.quant Reg.SNAP_MTC 4)
    (fun u i => u.quant_setQuant_ne _ (.inl (by simp only [Reg.SNAP_MTC, Reg.SNAP_TS]; omega))) _ s

/-- Each round stores its own timescale, and no other round changes that. -/
theorem snapTimescales_ts (s : State) : ∀ i, i < 16 → (snapTimescales s).quant (Reg.SNAP_TS i) 4 = ((snapTimescales s).tsp i).snap := by
  refine forEach_range_each (Q := fun i u => u.quant (Reg.SNAP_TS i) 4 = (u.tsp i).snap) (fun u i _ => ?_) (fun u i j hj _ h => ?_) s
  · rw [State.quant_setQuant, State.tsp_setQuant]
    exact Nat.mod_eq_of_lt (TsPart.snap_lt _)
  · rw [u.quant_setQuant_ne _ (by simp only [Reg.SNAP_TS]; omega), State.tsp_setQuant, h]

theorem exec_timeSnapGo {s : State} (hon : s.blockOn 5 = true) : exec .timeSnapGo s = .next (settle (timeSnap s)) := by
  change execTimeSnapGo s = _
  rw [execTimeSnapGo, whenOn, if_pos hon, fin_next]

theorem timeSnap_spec (s : State) : (timeSnap s).flag F.TIME_SNAP_DONE = true ∧ (timeSnap s).quant Reg.SNAP_MTC 4 = s.tm.mtc % 2 ^ 128 ∧
    ∀ i, i < 16 → (timeSnap s).quant (Reg.SNAP_TS i) 4 = (s.tsp i).snap := by
  have hflag : ∀ (u : State) a, Reg.TIME_SNAP < a → (u.setFlag F.TIME_SNAP_DONE true).quant a 4 = u.quant a 4 := fun u a ha =>
    State.quant_of_regs fun k _ => u.reg_setFlag_ne _ _ (show a + 4 * k ≠ Reg.TIME_SNAP by omega)
  rw [timeSnap_eq]
  refine ⟨State.flag_setFlag _ _ _ (by decide) rfl, ?_, fun i hi => ?_⟩
  · rw [hflag _ _ (by decide), snapTimescales_mtc, State.quant_setQuant]
  · rw [hflag _ _ (by simp only [Reg.TIME_SNAP, Reg.SNAP_TS]; omega), snapTimescales_ts _ i hi, snapTimescales_tsp,
      State.tsp_setQuant]

/-! ### Steering ports (R131) -/

theorem exec_steeringUpdate {k : Fin 32} {s : State} (ht : s.tclkOn = true) (hj : (s.port k.val).j < 1000) :
    exec (.steeringUpdate k) s = .next (settle (s.setPort k.val
      { s.port k.val with cur := spread (s.port k.val).old (s.port k.val).new (s.port k.val).j, j := (s.port k.val).j + 1 })) := by
  change execSteeringUpdate k s = _
  rw [execSteeringUpdate, if_pos ht, fin_next]
  exact congrArg (fun u => Host.Outcome.next (settle u)) (if_pos hj)

theorem steerWrite_te0 (k : Nat) (w : Int) (s : State) : ((steerWrite k 0 w s).port k).pend = some (0, w) := by
  unfold steerWrite
  dsimp only
  split <;> exact congrArg Steer.pend (State.port_setPort ..)

/-! ### Port clocks (R154) -/

/-- The MTC of the tie that a port clock latches at, `ph` units of 4 ps after the edge of the boundary. -/
def State.tieAt (s : State) (ph : Nat) : Int := (s.tm.ring.head?.map (·.mtc)).getD s.tm.mtc + psToMtc (4 * ph : Nat)

/-- SYNC of port clock `p`, in PC_TRACK and in PORT_STATUS. -/
def pcSync (p : Nat) (b : Bool) (s : State) : State := (s.setFlag (F.PC_TRACK_SYNC p) b).setFlag (F.PORT_STATUS_PC_SYNC p) b

theorem pcSync_shows {p : Nat} (hp : p < 4) (b : Bool) (s : State) : (pcSync p b s).flag (F.PC_TRACK_SYNC p) = b := by
  rw [pcSync, State.flag_setFlag_ne _ _ _ _ (by simp only [Reg.PC_TRACK, Reg.PORT_STATUS]; omega)]
  exact State.flag_setFlag _ _ _ (show 16 + 1 ≤ 32 by decide) rfl

/-- The error of port clock `p` at the tie, in ps. -/
def State.pcErr (s : State) (p ph : Nat) : Int := roundDiv (((s.pcp p).val - s.tieAt ph) * 1000) (2 ^ 40)

/-- The laps that port clock `p` has been within 15 ps, with the one of error `err`. -/
def State.pcLaps (s : State) (p : Nat) (err : Int) : Nat := if err.natAbs ≤ 15 then (s.pcp p).laps + 1 else 0

/-- A loaded port clock takes the error of its tie. -/
def pcTake (p : Nat) (err : Int) (s : State) : State :=
  pcSteer p err ((s.setPc p { s.pcp p with laps := min (s.pcLaps p err) 8 }).setFld (F.PC_TRACK_DELTA p) (unsigned 16 (clampS 16 err)))

/-- What the tie makes of port clock `p`: it is loaded, or follows and is in SYNC by its error and its laps. -/
theorem pcTie_eq (p ph : Nat) (s : State) : pcTie p ph s =
    if !(s.pcp p).loaded then
      pcSync p false ((s.setPc p ⟨(s.tieAt ph % (2 ^ 120 : Nat)).toNat, true, 0⟩).setFld (F.PC_TRACK_DELTA p) 0)
    else if 40 < (s.pcErr p ph).natAbs then pcSync p false (pcTake p (s.pcErr p ph) s)
    else if 8 ≤ s.pcLaps p (s.pcErr p ph) then pcSync p true (pcTake p (s.pcErr p ph) s)
    else pcTake p (s.pcErr p ph) s := by
  unfold pcTie State.pcErr State.tieAt
  cases s.tm.ring <;> rfl

theorem pcTie_load {p : Nat} {s : State} (ph : Nat) (h : (s.pcp p).loaded = false) : pcTie p ph s =
    pcSync p false ((s.setPc p ⟨(s.tieAt ph % (2 ^ 120 : Nat)).toNat, true, 0⟩).setFld (F.PC_TRACK_DELTA p) 0) := by
  rw [pcTie_eq, if_pos (by rw [h]; rfl)]

theorem pcTie_follow {p : Nat} {s : State} (ph : Nat) (h : (s.pcp p).loaded = true) : pcTie p ph s =
    if 40 < (s.pcErr p ph).natAbs then pcSync p false (pcTake p (s.pcErr p ph) s)
    else if 8 ≤ s.pcLaps p (s.pcErr p ph) then pcSync p true (pcTake p (s.pcErr p ph) s) else pcTake p (s.pcErr p ph) s := by
  rw [pcTie_eq, if_neg (by rw [h]; decide)]

theorem le_pcLaps_iff (s : State) (p : Nat) (err : Int) : 8 ≤ s.pcLaps p err ↔ err.natAbs ≤ 15 ∧ 7 ≤ (s.pcp p).laps := by
  unfold State.pcLaps
  split <;> omega

theorem pcSteer_within (p : Nat) (err : Int) (s : State) : (pcSteer p err s).within s [] [.steer] :=
  .ite (fun _ => steerWrite_within ..) (fun _ => .refl)

/-- Whether an engine issues its laps does not depend on what the loops and the clocks keep. -/
theorem State.within.teRuns {s t : State} (h : t.within s [4, 5] [.tiu, .dpll, .tm]) (e : Nat) : t.teRuns e = s.teRuns e := by
  have hreset : t.inReset = s.inReset := h.get State.inReset (fun _ => rfl)
  have hrung : t.rung = s.rung := h.fld
  have hitin : t.itin = s.itin := h.get State.itin (fun _ => rfl)
  have hflt : t.flt = s.flt := h.get State.flt (fun _ => rfl)
  unfold State.teRuns State.tclkOn
  rw [hreset, hrung, hitin, hflt, h.wHeld]

theorem State.pcp_setFld (s : State) (f : Fld) (v q : Nat) : (s.setFld f v).pcp q = s.pcp q := by
  unfold State.pcp
  rw [State.setFld_tm]

theorem pcSync_pcp (p : Nat) (b : Bool) (s : State) (q : Nat) : (pcSync p b s).pcp q = s.pcp q :=
  (State.pcp_setFld ..).trans (State.pcp_setFld ..)

theorem pcSync_port (p : Nat) (b : Bool) (s : State) (k : Nat) : (pcSync p b s).port k = s.port k := by
  unfold pcSync State.port
  rw [State.setFlag_steer, State.setFlag_steer]

section
variable {p : Nat} (hp : p < 4) (err : Int) (s : State)

theorem pcTake_val : ((pcTake p err s).pcp p).val = (s.pcp p).val := by
  rw [pcTake, (pcSteer_within ..).get (fun u => u.pcp p) (fun _ => rfl), State.pcp_setFld, State.pcp_setPc]

theorem pcTake_sync : (pcTake p err s).flag (F.PC_TRACK_SYNC p) = s.flag (F.PC_TRACK_SYNC p) := by
  rw [pcTake, (pcSteer_within ..).flag (by simp), State.flag_setFld_apart _ _ Fld.apart_within]
  rfl

include hp

/-- The engine that runs the servo code writes the next increment. -/
theorem pcTake_pend (hr : s.teRuns 0 = true) (hv : s.rv Reg.DPLL_VER ≠ 0) :
    ((pcTake p err s).port (5 + p)).pend = some (0, roundDiv (s.mtcInc * 16) 25 + Config.pcCorrection err) := by
  have hw : ((s.setPc p { s.pcp p with laps := min (s.pcLaps p err) 8 }).setFld (F.PC_TRACK_DELTA p) (unsigned 16 (clampS 16 err))).within s
      [4, 5] [.tiu, .dpll, .tm] :=
    State.within.setFld (.update .refl rfl rfl) (regArea_mem (b := 5) (by simp only [inBlock, Reg.PC_TRACK]; omega))
  have hne : Reg.DPLL_VER ≠ (F.PC_TRACK_DELTA p).addr := by simp only [Reg.DPLL_VER, Reg.PC_TRACK]; omega
  rw [pcTake, pcSteer, if_pos (by rw [hw.teRuns, hr, State.rv_setFld_ne _ _ _ hne]; simpa using hv)]
  exact steerWrite_te0 ..

theorem pcTie_sync {ph : Nat} {s : State} (h : (s.pcp p).loaded = true) : (pcTie p ph s).flag (F.PC_TRACK_SYNC p) =
    if 40 < (s.pcErr p ph).natAbs then false
    else if (s.pcErr p ph).natAbs ≤ 15 ∧ 7 ≤ (s.pcp p).laps then true else s.flag (F.PC_TRACK_SYNC p) := by
  rw [pcTie_follow ph h]
  simp only [le_pcLaps_iff]
  split
  · exact pcSync_shows hp false _
  · split
    · exact pcSync_shows hp true _
    · exact pcTake_sync _ s

omit hp

/-- A tie that finds the clock loaded leaves what the clock takes from it, SYNC aside. -/
theorem pcTie_takes {β : Type} {g : State → β} (hg : ∀ b u, g (pcSync p b u) = g u) {ph : Nat} {s : State} (h : (s.pcp p).loaded = true) :
    g (pcTie p ph s) = g (pcTake p (s.pcErr p ph) s) := by
  rw [pcTie_follow ph h]
  split
  · exact hg _ _
  · split
    · exact hg _ _
    · rfl

end

theorem exec_pcTieLatch {p : Fin 4} {ph : Nat} {s : State} (hf : s.fclkOn = true) :
    exec (.pcTieLatch p ph) s = .next (settle (pcTie p.val ph s)) := by
  change execPcTieLatch p ph s = _
  rw [execPcTieLatch, if_pos hf, fin_next]

end Sys2Proof.Machine
end

section
/-! The boundary of a lap (R131, R137, R153, R158, R282): the words that it starts to spread, which nothing else at the boundary touches, and the
LOOPs that it ends. -/

namespace Sys2Proof.Machine

-- The default arguments of the frame lemmas wait for the proofs before them: a thread each, where proofs are elaborated side by side.
set_option Elab.async false

/-! ### A word that waits at a steering port (R131, R294) -/

theorem steerApply_due {k e : Nat} {w : Int} {s : State} (h : (s.port k).pend = some (e, w)) :
    (steerApply k e s).port k = ⟨(s.port k).new, (s.port k).new, w, 0, none⟩ := by
  simp [steerApply, h]

theorem steerApply_idle {k : Nat} {s : State} (e : Nat) (h : (s.port k).pend = none) : steerApply k e s = s := by
  simp [steerApply, h]

theorem steerApply_port_ne {k j : Nat} (e : Nat) (s : State) (h : k ≠ j) : (steerApply j e s).port k = s.port k := by
  unfold steerApply
  dsimp only
  split
  · split
    · exact State.port_setPort_ne _ _ h
    · rfl
  · rfl

/-- The words of all the ports of a list, by engine `e`. -/
def steerAll (e : Nat) (l : List Nat) (s : State) : State := forEach l (fun s k => steerApply k e s) s

theorem steerAll_idle {e k : Nat} {s : State} (l : List Nat) (h : (s.port k).pend = none) : (steerAll e l s).port k = s.port k := by
  induction l generalizing s with
  | nil => rfl
  | cons j l ih =>
    have hj : (steerApply j e s).port k = s.port k := by
      by_cases hkj : k = j
      · rw [← hkj, steerApply_idle e h]
      · exact steerApply_port_ne e s hkj
    exact (ih (by rw [hj, h])).trans hj

theorem steerAll_due {e k : Nat} {w : Int} {s : State} {l : List Nat} (hk : k ∈ l) (h : (s.port k).pend = some (e, w)) :
    (steerAll e l s).port k = ⟨(s.port k).new, (s.port k).new, w, 0, none⟩ := by
  induction l generalizing s with
  | nil => exact absurd hk List.not_mem_nil
  | cons j l ih =>
    by_cases hkj : k = j
    · subst hkj
      have hdue := steerApply_due h
      exact (steerAll_idle l (by rw [hdue])).trans hdue
    · have hj := steerApply_port_ne e s hkj
      exact (ih (List.mem_of_ne_of_mem hkj hk) (by rw [hj, h])).trans (by rw [hj])

/-! ### The steps and commands of a boundary leave the words (R147, R156, R157, R160) -/

theorem trgShift_within (t : Nat) (d : Int) (s : State) : (trgShift t d s).within s [0x102, 0x103] [.tm, .syn, .out] := by
  refine .ite (fun _ => .refl) (fun _ => .foldl fun i hi u => ?_)
  have hi := List.mem_range.mp hi
  have hs : regArea (Reg.TRG_STATUS i) ∈ [0x102, 0x103] := List.mem_cons_of_mem _ (trgReg_area (o := 0x38) hi (by decide))
  refine .ite (fun _ => .ite (fun _ => ?_) (fun _ => .ite (fun _ => ?_) (fun _ => .refl))) (fun _ => .refl)
  · refine (showNext_within hi _).after (State.within.setQuant (((setTrg_within ..).mono).setFlag hs) fun k hk => ?_)
    have ha := trgReg_area (i := i) (o := 0x44 + 4 * k) hi (by omega)
    rw [show Reg.TRG_SKEW i + 4 * k = 0x51000 + (0x44 + 4 * k) + 0x80 * i by simp only [Reg.TRG_SKEW]; omega]
    exact List.mem_cons_of_mem _ ha
  · exact (trgAfter_within hi _).after ((trgFire_within hi u).setFlag hs)

theorem tsStep_steer (t : Nat) (d : Int) (s : State) : (tsStep t d s).steer = s.steer :=
  (trgShift_within t d _).get State.steer (fun _ => rfl)

theorem mtcStep_steer (d : Int) (s : State) : (mtcStep d s).steer = s.steer := by
  unfold mtcStep
  extract_lets s1 s2
  have h2 : s2.steer = s.steer := by
    refine forEach_keeps (g := State.steer) (fun u p => ?_) _ s1
    dsimp only
    split <;> rfl
  refine (forEach_keeps (g := State.steer) (fun u t => ?_) _ s2).trans h2
  split
  · exact tsStep_steer ..
  · rfl

theorem dpllStep_steer (d : Nat) (ps : Int) (s : State) : (dpllStep d ps s).steer = s.steer := by
  unfold dpllStep
  split
  · exact mtcStep_steer ..
  · split
    · split
      · exact tsStep_steer ..
      · rfl
    · rfl

theorem detRebase_steer (d : Nat) (s : State) : (detRebase d s).steer = s.steer := State.setRv_steer ..

theorem stepApply_steer (d : Nat) (s : State) : (stepApply d s).steer = s.steer := by
  unfold stepApply
  dsimp only
  split
  · rw [stepPend, State.setFlag_steer, State.setQuant_steer, dpllStep_steer, detRebase_steer, State.setDpll_steer]
  · split
    · rw [dpllStep_steer, detRebase_steer]
    · rfl

theorem txgoSteps_steer (e : Nat) (s : State) : (txgoSteps e s).steer = s.steer := by
  refine (forEach_keeps (g := State.steer) (fun u x => ?_) _ _).trans rfl
  split
  · exact mtcStep_steer ..
  · split
    · exact tsStep_steer ..
    · rfl

theorem cmdApply_steer (d : Nat) (s : State) : (cmdApply d s).steer = s.steer := by
  unfold cmdApply
  dsimp only
  split <;> rfl

theorem tsReg_area {i o : Nat} (hi : i < 16) (ho : o < 0x80) : regArea (0x50400 + o + 0x80 * i) ∈ [5] :=
  regArea_mem (b := 5) (by simp only [inBlock]; omega)

theorem utcApply_within {i : Nat} (hi : i < 16) (s : State) : (utcApply s i).within s [5] [.tm] :=
  .ite (fun _ => State.within.setFld ((setTs_within ..).mono) (tsReg_area (o := 0x14) hi (by decide))) (fun _ => .refl)

theorem leapDone_within {i : Nat} (hi : i < 16) (k : Int) (s : State) : (leapDone i k s).within s [5] [] := by
  have hutc : regArea (Reg.TS_UTC i) ∈ [5] := tsReg_area (o := 0x14) hi (by decide)
  have hcfg : regArea (Reg.TS_LEAP_CFG i) ∈ [5] := tsReg_area (o := 0x50) hi (by decide)
  exact (((State.within.refl.setFld hutc).setFlag hutc).setFlag hcfg).bump (tsReg_area (o := 0x54) hi (by decide))

theorem leapRow_within {i : Nat} (hi : i < 16) (s : State) : (leapRow s i).within s [5] [] := by
  have hutc : regArea (Reg.TS_UTC i) ∈ [5] := tsReg_area (o := 0x14) hi (by decide)
  refine .ite (fun _ => .refl) (fun _ => ?_)
  extract_lets sec l ann s0 armed dir pend
  have h0 : s0.within s [5] [] := .ite (fun _ => State.within.refl.setFlag hutc) (fun _ => .refl)
  refine .ite (fun _ => ?_) (fun _ => .ite (fun _ => ?_) (fun _ => ?_))
  · exact ((leapDone_within hi 1 s0).trans h0).setFlag hutc
  · exact (leapDone_within hi (-1) s0).trans h0
  · exact (h0.setFlag hutc).setFlag hutc

theorem setSeconds_steer (t : Nat) (x : Int) (s : State) : (setSeconds t x s).steer = s.steer := by
  unfold setSeconds
  split
  · dsimp only
    split <;> rfl
  · rfl

theorem State.port_of_steer {s t : State} (h : t.steer = s.steer) (k : Nat) : t.port k = s.port k := by
  unfold State.port
  rw [h]

/-- A timescale's command writes no port but that of its own rate. -/
theorem tsApply_port (s : State) (t : Nat) {k : Nat} (hk : k < 16) : (tsApply s t).port k = s.port k := by
  unfold tsApply
  extract_lets v s0 p
  split
  · rfl
  · next code d _ =>
    extract_lets new s1
    have h0 : s0.steer = s.steer := rfl
    have h1 : s1.steer = s.steer := (tsStep_steer ..).trans h0
    clear_value s0 s1
    split
    · split
      · exact State.port_of_steer ((State.bump16_steer ..).trans h0) k
      · rw [State.port_setPort_ne _ _ (by omega), State.port_of_steer h0]
    · split
      · exact State.port_of_steer ((State.bump16_steer ..).trans h0) k
      · split
        · exact State.port_of_steer ((setSeconds_steer ..).trans h1) k
        · exact State.port_of_steer h1 k

/-- A timescale that starts or stops leaves every port but that of its own rate. -/
theorem tsEnable_port (s : State) (t : Nat) {k : Nat} (hk : k < 16) : (tsEnable s t).port k = s.port k := by
  unfold tsEnable
  extract_lets v en _ s0 s1
  have h0 : s0.port k = s.port k := State.port_setPort_ne _ _ (by omega)
  have h1 : s1.port k = s.port k := (State.port_of_steer (State.setQuant_steer ..) k).trans h0
  clear_value s1
  split
  · rfl
  · split
    · rfl
    · refine (forEach_keeps (g := fun u => u.port k) (fun u i => ?_) _ s1).trans h1
      split <;> rfl

/-! ### The boundary of the timekeeping island (R131, R158) -/

theorem hwRows_within {d : Nat} (hd : d < 8) (s : State) : (hwRows d s).within s [4] [.dpll] := by
  have hs : regArea (Reg.DPLL_STATUS d) ∈ [4] := dpllReg_area (o := 0x24) hd (by decide)
  unfold hwRows
  extract_lets v s0 st w s1 s2 _ m _ s3 lim s4
  have h0 : s0.within s [4] [.dpll] := .setFlag .refl hs
  have h2 : s2.within s [4] [.dpll] := (setDpll_within ..).after (h0.setFlag hs)
  have h3 : s3.within s [4] [.dpll] := by
    refine .ite (fun _ => ?_) (fun _ => h2)
    exact (dpllTo_within hd 3 _).after (State.within.setFld ((setDpll_within ..).after h2) hs)
  have h4 : s4.within s [4] [.dpll] := h3.setRv (dpllReg_area (o := 0x38) hd (by decide))
  refine .ite (fun _ => (setDpll_within ..).after h0) (fun _ => .ite (fun _ => ?_) (fun _ => h4))
  exact (dpllTo_within hd 4 _).after h4

/-- The hardware rows of the DPLLs of engine `e`. -/
def hwAll (e : Nat) (s : State) : State := forEach (teDplls e) (fun s d => hwRows d s) s

theorem hwAll_within (e : Nat) (s : State) : (hwAll e s).within s [4] [.dpll] := by
  refine .loop fun d hd u => hwRows_within ?_ u
  unfold teDplls at hd
  split at hd <;> simp at hd <;> omega

theorem showSteered_steer (s : State) : (showSteered s).steer = s.steer :=
  forEach_keeps (g := State.steer) (fun _ _ => State.setFlag_steer ..) _ s

theorem mem_allPorts {k : Nat} (hk : k < 9) : k ∈ allPorts := List.mem_append_left _ (List.mem_range.mpr hk)

/-- After the words nothing of the steps writes a port. -/
theorem lapSteps_port (e k : Nat) (s : State) : (lapSteps e s).port k = (steerAll e allPorts s).port k := by
  refine State.port_of_steer ((txgoSteps_steer e _).trans ?_) k
  exact forEach_keeps (g := State.steer) (fun u d => stepApply_steer d u) _ _

section
variable {e k : Nat} {w : Int} {s : State} (hk : k < 9) (h : (s.port k).pend = some (e, w))
include hk h

theorem lapSteps_due : (lapSteps e s).port k = ⟨(s.port k).new, (s.port k).new, w, 0, none⟩ :=
  (lapSteps_port ..).trans (steerAll_due (mem_allPorts hk) h)

/-- What an engine applies at its boundary starts to spread the word that it wrote for the port. -/
theorem lapApply_due : (lapApply e s).port k = ⟨(s.port k).new, (s.port k).new, w, 0, none⟩ := by
  unfold lapApply
  extract_lets s0 s1 s2 s3
  have h0 : s0.port k = s.port k := by
    unfold s0
    split
    · exact forEach_keeps (g := fun u => u.port k) (fun u t => tsEnable_port u t (by omega)) _ s
    · rfl
  have h1 : s1.port k = ⟨(s.port k).new, (s.port k).new, w, 0, none⟩ := by
    rw [← h0]
    exact lapSteps_due hk (by rw [h0, h])
  have h2 : s2.port k = s1.port k := by
    unfold s2
    split
    · exact (lapSteps_port ..).trans (steerAll_idle _ (by rw [h1]))
    · rfl
  have h3 : s3.port k = s2.port k := by
    unfold s3
    split
    · have hutc : (forEach (List.range 16) leapRow (forEach (List.range 16) utcApply (forEach (List.range 16) tsApply s2))).within
          (forEach (List.range 16) tsApply s2) [5] [.tm] :=
        (State.within.loop fun t ht u => utcApply_within (List.mem_range.mp ht) u).forEach
          fun t ht u => (leapRow_within (List.mem_range.mp ht) u).mono
      rw [hutc.get (fun u => u.port k) (fun _ => rfl)]
      exact forEach_keeps (g := fun u => u.port k) (fun u t => tsApply_port u t (by omega)) _ s2
    · rfl
  rw [State.port_of_steer (forEach_keeps (g := State.steer) (fun u d => cmdApply_steer d u) _ s3), h3, h2, h1]

theorem lapCore_due (hr : s.teRuns e = true) : (lapCore e s).port k = ⟨(s.port k).new, (s.port k).new, w, 0, none⟩ := by
  unfold lapCore
  extract_lets before s1 s2 s3
  have h1 : s1.port k = s.port k := (hwAll_within e s).get (fun u => u.port k) (fun _ => rfl)
  have h2 : s2.port k = ⟨(s.port k).new, (s.port k).new, w, 0, none⟩ := by
    unfold s2
    rw [if_pos hr, ← h1]
    exact lapApply_due hk (by rw [h1, h])
  have h3 : (showSteered s3).steer = s2.steer := by
    rw [showSteered_steer]
    unfold s3
    split <;> rfl
  rw [(tsTrack_within _).get (fun u => u.port k) (fun _ => rfl), State.port_of_steer h3, h2]

end

/-! ### The rest of the boundary (R282, R306, R328, R338) -/

theorem teEvents_within (e : Nat) (s : State) : (teEvents e s).within s [9] [.tm] := by
  unfold teEvents
  extract_lets mine _ s1
  have h1 : s1.within s [9] [.tm] := .update .refl rfl rfl
  refine h1.forEach fun x _ u => ?_
  extract_lets key q
  exact .ite (fun _ => State.within.refl.bumpSat.bump) (fun _ => .update .refl rfl rfl)

theorem teResume_within (e : Nat) (s : State) : (teResume e s).within s [] [.flt, .eng] := by
  refine .ite (fun _ => .refl) (fun _ => ?_)
  extract_lets _ s1
  have h1 : s1.within s [] [.flt, .eng] := .update .refl rfl rfl
  split
  · exact (engLoad_within ..).after h1
  · exact h1

theorem teSwap_within (e : Nat) (s : State) : (teSwap e s).within s [1, 3, 4] [.itin, .eng, .rat] := by
  refine .ite (fun _ => .refl) (fun _ => ?_)
  extract_lets b i _ s1 s2 s3
  have h1 : s1.within s [1, 3, 4] [.itin, .eng, .rat] := .update .refl rfl rfl
  have h2 : s2.within s [1, 3, 4] [.itin, .eng, .rat] := .ite (fun _ => h1) (fun _ => (engLoad_within ..).after h1)
  have h3 : s3.within s [1, 3, 4] [.itin, .eng, .rat] := h2.setRv.setRv
  exact .ite (fun _ => (rampTo_within ..).after ((teTarget_within ..).after h3)) (fun _ => h2)

theorem readsBegin_within (e : Nat) (s : State) : (readsBegin e s).within s [] [.tiu] := .update .refl rfl rfl

theorem heldRelease_within (e : Nat) (s : State) : (heldRelease e s).within s [] [.bus] := .update .refl rfl rfl

theorem lapEvents_within (e : Nat) (s : State) : (lapEvents e s).within s [] [.out] := by
  unfold lapEvents
  extract_lets s1
  have h1 : s1.within s [] [.out] := tmuxEvent_within ..
  exact .ite (fun _ => (tmuxEvent_within ..).trans h1) (fun _ => h1)

theorem noLoops_within (s : State) : (noLoops s).within s [4] [.dpll] :=
  .ite (fun _ => .refl) (fun _ => .loop fun _ hd u => .ite (fun _ => .refl) (fun _ => freerun_within (List.mem_range.mp hd) u))

/-- What comes after the lap has restarted at bundle 0. -/
theorem lapBoundary_within (e : Nat) (s : State) : (lapBoundary e s).within
    (teRestart e (teSwap e (teResume e (teEvents e (lapCore e (stockReads e s)))))) [4] [.tiu, .bus, .out, .dpll] :=
  (noLoops_within _).after ((lapEvents_within ..).after ((heldRelease_within ..).after (readsBegin_within ..).mono))

theorem lapBoundary_loops (e : Nat) (s : State) : ((lapBoundary e s).eng_ (4 + e)).loops = [] := by
  rw [(lapBoundary_within e s).get (fun u => u.eng_ (4 + e)) (fun _ => rfl)]
  exact congrArg EngPart.loops (State.eng__setEng ..)

/-- A word that the engine wrote for an APLL, the MTC or a port clock starts to be spread. -/
theorem lapBoundary_due {e k : Nat} {w : Int} {s : State} (hk : k < 9) (h : (s.port k).pend = some (e, w)) (hr : s.teRuns e = true) :
    (lapBoundary e s).port k = ⟨(s.port k).new, (s.port k).new, w, 0, none⟩ := by
  have hread : (stockReads e s).port k = s.port k := (stockReads_within e s).get (fun u => u.port k) (fun _ => rfl)
  have hruns : (stockReads e s).teRuns e = true := ((stockReads_within e s).mono.teRuns e).trans hr
  have hevents : ∀ u, (teEvents e u).port k = u.port k := fun u => (teEvents_within e u).get (fun v => v.port k) (fun _ => rfl)
  have hresume : ∀ u, (teResume e u).port k = u.port k := fun u => (teResume_within e u).get (fun v => v.port k) (fun _ => rfl)
  have hswap : ∀ u, (teSwap e u).port k = u.port k := fun u => (teSwap_within e u).get (fun v => v.port k) (fun _ => rfl)
  have hrestart : ∀ u, (teRestart e u).port k = u.port k := fun _ => rfl
  rw [(lapBoundary_within e s).get (fun u => u.port k) (fun _ => rfl), hrestart, hswap, hresume, hevents,
    lapCore_due hk (by rw [hread, h]) hruns, hread]

theorem exec_teLapBoundary {e : Fin 2} {s : State} (ht : s.tclkOn = true) (hrung : s.rung ≤ 1) :
    exec (.teLapBoundary e) s = .next (settle (lapBoundary e.val s)) := by
  have h2 : (s.rung == 2) = false := beq_eq_false_iff_ne.mpr (by omega)
  change execTeLapBoundary e s = _
  rw [execTeLapBoundary, if_pos (by rw [ht, h2]; rfl), fin_next]

theorem exec_tieTablePublish {i : Fin 16} {s : State} (ht : s.tclkOn = true) : exec (.tieTablePublish i) s =
    .next (settle (s.setTs i.val { s.tsp i.val with table := (s.nextTie i.val :: (s.tsp i.val).table).take 256 })) := by
  change execTieTablePublish i s = _
  rw [execTieTablePublish, if_pos ht, fin_next]

end Sys2Proof.Machine

namespace Sys2Proof

set_option Elab.async false

open Machine

/-- Settles O26: the commands by the argument that waits, the clocks by what a tie makes of them, and the boundary by the word that it starts to
spread. -/
theorem timescaleCommands : Obligations.TimescaleCommands := by
  unfold Obligations.TimescaleCommands
  refine ⟨fun i s hon => ⟨fun hrun hns => ⟨?set, fun h0 => ?adj⟩, fun hrun hown => ?hrate, fun hrun hnone c hc => ?stopped,
    fun v => ⟨_, exec_tsCfgWrite hon v, settle_sameBut _⟩⟩, fun s hon => ?snapshot, fun k s ht hj => ?steering,
    fun p ph s hf => ⟨fun hl => ?load, fun hl => ?follow⟩, fun e s ht hrung hr => ?boundary,
    fun i s ht => ⟨_, exec_tieTablePublish ht, settle_sameBut _⟩⟩
  case set =>
    have hland := landTsCmd_taken (v := 1) (State.tsArg_set hrun hns)
    refine ⟨_, exec_tsSet hon, ?_, fun hnone => ?_⟩
    · rw [settle_tsp, hland, tsWait_cmd]
      rfl
    · rw [settle_regs, hland, tsWait_regs _ _ hnone]
  case adj =>
    refine ⟨_, exec_tsAdj hon, ?_⟩
    rw [settle_tsp, landTsCmd_taken (v := 2) (State.tsArg_adj hrun hns h0), tsWait_cmd]
    rfl
  case hrate =>
    refine ⟨_, exec_tsHrate hon, ?_⟩
    rw [settle_tsp, landTsCmd_taken (v := 3) (State.tsArg_hrate hrun hown), tsWait_cmd]
    rfl
  case stopped => exact ⟨_, exec_tsCmd_stopped hon hrun hnone hc, settle_sameBut _⟩
  case snapshot =>
    obtain ⟨hdone, hmtc, hts⟩ := timeSnap_spec s
    refine ⟨_, exec_timeSnapGo hon, (settle_flag ..).trans hdone, (quant_settle ..).trans hmtc, fun i hi => ?_⟩
    exact (quant_settle ..).trans (hts i hi)
  case steering =>
    refine ⟨_, exec_steeringUpdate ht hj, ?_, ?_, ?_⟩
    · rw [settle_port, State.port_setPort]
    · rw [settle_port, State.port_setPort]
      rfl
    · rw [settle_steer]
      exact settle_sameBut _
  case load =>
    refine ⟨_, exec_pcTieLatch hf, ?_⟩
    rw [settle_pcp, settle_flag, pcTie_load ph hl, pcSync_pcp, State.pcp_setFld, State.pcp_setPc]
    exact ⟨rfl, rfl, pcSync_shows p.isLt false _⟩
  case follow =>
    refine ⟨_, exec_pcTieLatch hf, ?_, ?_, fun hr hv => ?_⟩
    · rw [settle_pcp, pcTie_takes (g := fun u => (u.pcp p.val).val) (fun b u => congrArg PcPart.val (pcSync_pcp _ b u _)) hl, pcTake_val]
    · rw [settle_flag]
      exact pcTie_sync p.isLt hl
    · rw [settle_port, pcTie_takes (g := fun u => u.port (5 + p.val)) (fun b u => pcSync_port _ b u _) hl]
      exact pcTake_pend p.isLt _ s hr hv
  case boundary =>
    refine ⟨_, exec_teLapBoundary ht hrung, ?_, fun k w hk hpend => ?_⟩
    · have heng : ∀ u : State, (settle u).eng_ (4 + e.val) = u.eng_ (4 + e.val) := fun u => by rw [State.eng_, settle_eng]; rfl
      rw [heng, lapBoundary_loops]
    · rw [settle_port, lapBoundary_due hk hpend hr]

end Sys2Proof
end

section
/-! The time that a clock edge counts (R151, R155, R163): the MTC and each running timescale take their increments, one of TCLK or ten of TBCLK,
and nothing after them at the edge touches either; in L3 the rung terms grow. -/

namespace Sys2Proof.Machine

/-! ### Loops whose rounds are independent -/

/-- A loop whose rounds but one leave what `g` reads, and whose round of `i` sees no more than `g`: it does what that round does. -/
theorem forEach_one {β : Type} {g : State → β} {f : State → Nat → State} {i : Nat} (hother : ∀ u j, j ≠ i → g (f u j) = g u)
    (hsees : ∀ u v, g u = g v → g (f u i) = g (f v i)) {l : List Nat} (hi : i ∈ l) (hl : l.Nodup) (s : State) :
    g (forEach l f s) = g (f s i) := by
  induction l generalizing s with
  | nil => exact absurd hi List.not_mem_nil
  | cons j l ih =>
    obtain ⟨hj, hl⟩ := List.nodup_cons.mp hl
    by_cases hij : j = i
    · subst hij
      exact forEach_keeps_of_mem (fun u k hk => hother u k (ne_of_mem_of_not_mem hk hj)) (f s j)
    · exact (ih (List.mem_of_ne_of_mem (Ne.symm hij) hi) hl (f s j)).trans (hsees _ _ (hother s j hij))

/-! ### The MTC and the timescales at an edge (R151, R155) -/

/-- The MTC and the timescales. -/
def State.times (s : State) : Nat × Tbl TsPart := (s.tm.mtc, s.tm.ts)

theorem State.mtc_of_times {s t : State} (h : t.times = s.times) : t.tm.mtc = s.tm.mtc := congrArg Prod.fst h

theorem State.tsp_of_times {s t : State} (h : t.times = s.times) (i : Nat) : t.tsp i = s.tsp i :=
  congrArg (fun x : Nat × Tbl TsPart => Tbl.get (fun _ => TsPart.reset) x.2 i) h

/-- The phases are counted in a table of their own (R170). -/
theorem phaseTick_keeps {β : Type} {g : State → β} (hg : ∀ (u : State) x, g { u with tm := { u.tm with aph := x } } = g u) (k : Nat) (s : State) :
    g (phaseTick k s) = g s := by
  unfold phaseTick
  exact forEach_keeps (fun u _ => hg u _) _ s

theorem State.tsp_of_tm {s t : State} (h : t.tm = s.tm) (i : Nat) : t.tsp i = s.tsp i := by
  rw [State.tsp, h]
  rfl

/-- The MTC after `k` increments. -/
def State.mtcAfter (s : State) (k : Nat) : Nat := (((s.tm.mtc : Int) + k * s.mtcInc) % (2 ^ 120 : Nat)).toNat

/-- Timescale `t` after `k` of its increments. -/
def State.tspAfter (s : State) (k t : Nat) : TsPart :=
  if (s.tsp t).run then { s.tsp t with acc := tsWrap ((s.tsp t).acc + s.tsAdvance t k) } else s.tsp t

theorem State.mtcAfter_congr {s u : State} (hsteer : u.steer = s.steer) (htm : u.tm = s.tm) (k : Nat) : u.mtcAfter k = s.mtcAfter k := by
  unfold State.mtcAfter State.mtcInc State.port
  rw [hsteer, htm]

theorem State.tspAfter_congr {s u : State} {t : Nat} (hsteer : u.steer = s.steer) (htsp : u.tsp t = s.tsp t) (k : Nat) :
    u.tspAfter k t = s.tspAfter k t := by
  unfold State.tspAfter State.tsAdvance State.mtcInc State.tsRate State.port
  rw [hsteer, htsp]

/-- Timescale `t` takes `k` of its increments. -/
def tsTick (k : Nat) (s : State) (t : Nat) : State :=
  if (s.tsp t).run then s.setTs t { s.tsp t with acc := tsWrap ((s.tsp t).acc + s.tsAdvance t k) } else s

theorem tsTick_own (k : Nat) (s : State) (t : Nat) : (tsTick k s t).tsp t = s.tspAfter k t := by
  unfold tsTick State.tspAfter
  split
  · exact State.tsp_setTs ..
  · rfl

theorem tsTick_other (k : Nat) (s : State) {t j : Nat} (h : t ≠ j) : (tsTick k s j).tsp t = s.tsp t := by
  unfold tsTick
  split
  · exact State.tsp_setTs_ne _ _ h
  · rfl

theorem tsTick_steer (k : Nat) (s : State) (t : Nat) : (tsTick k s t).steer = s.steer := by
  unfold tsTick
  split <;> rfl

theorem tsTick_mtc (k : Nat) (s : State) (t : Nat) : (tsTick k s t).tm.mtc = s.tm.mtc := by
  unfold tsTick
  split <;> rfl

theorem timeTick_eq (k : Nat) (s : State) :
    timeTick k s = forEach (List.range 16) (tsTick k) (phaseTick k (s.setMtc (s.mtcAfter k))) := rfl

theorem timeTick_mtc (k : Nat) (s : State) : (timeTick k s).tm.mtc = s.mtcAfter k := by
  have hlt : s.mtcAfter k < 2 ^ 120 := by
    unfold State.mtcAfter
    omega
  rw [timeTick_eq, forEach_keeps (g := fun u => u.tm.mtc) (tsTick_mtc k)]
  rw [phaseTick_keeps (g := fun u => u.tm.mtc) (fun _ _ => rfl)]
  exact Nat.mod_eq_of_lt hlt

theorem timeTick_tsp (k : Nat) (s : State) {t : Nat} (ht : t < 16) : (timeTick k s).tsp t = s.tspAfter k t := by
  obtain ⟨u, hu⟩ : ∃ u, u = phaseTick k (s.setMtc (s.mtcAfter k)) := ⟨_, rfl⟩
  have htsp : u.tsp t = s.tsp t := by rw [hu, phaseTick_keeps (g := fun v => v.tsp t) (fun _ _ => rfl)]; rfl
  have hsteer : u.steer = s.steer := by rw [hu, phaseTick_keeps (g := State.steer) (fun _ _ => rfl)]; rfl
  have hone := forEach_one (g := fun v => (v.steer, v.tsp t)) (f := tsTick k) (i := t)
    (fun v j hj => by rw [tsTick_steer, tsTick_other k v (Ne.symm hj)])
    (fun v w h => by
      obtain ⟨hst, hts⟩ := Prod.mk.inj h
      rw [tsTick_steer, tsTick_steer, tsTick_own, tsTick_own, State.tspAfter_congr hst hts, hst])
    (List.mem_range.mpr ht) List.nodup_range u
  rw [timeTick_eq, ← hu, (Prod.mk.inj hone).2, tsTick_own, State.tspAfter_congr hsteer htsp]

/-! ### The edges of each rung (R151, R163) -/

theorem pcTick_times (k : Nat) (s : State) : (pcTick k s).times = s.times := by
  refine forEach_keeps (g := State.times) (fun u p => ?_) _ s
  dsimp only
  split <;> rfl

theorem fabEdge_times (s : State) : (fabEdge s).times = s.times := by
  unfold fabEdge
  split
  · exact (pcTick_times ..).trans ((fabTick_within ..).get State.times (fun _ => rfl))
  · rfl

theorem rungEdge_rung (s : State) {d : Nat} (hd : d < 8) : ((rungEdge s).dpll_ d).rung = (s.dpll_ d).rung + 6 := by
  have hone := forEach_one (g := fun u => u.dpll_ d) (f := fun u d => u.setDpll d { u.dpll_ d with rung := (u.dpll_ d).rung + 6 }) (i := d)
    (fun u j hj => State.dpll__setDpll_ne _ _ (Ne.symm hj))
    (fun u v h => by rw [State.dpll__setDpll, State.dpll__setDpll, h])
    (List.mem_range.mpr hd) List.nodup_range s
  exact congrArg DpllPart.rung (hone.trans (State.dpll__setDpll ..))

section
variable {s : State} (hr : s.inReset = false)
include hr

/-- An edge of TCLK counts one increment, and no rung term grows. -/
theorem clockEdge_counts_tclk (h : s.rung ≤ 2) :
    (clockEdge s).times = (timeTick 1 { s with now := s.now + 2000 }).times ∧ (clockEdge s).dpll = s.dpll := by
  unfold clockEdge
  rw [if_neg (by simp [hr]; omega), if_neg (by omega), settle_dpll, State.times, settle_tm]
  obtain ⟨u, hu⟩ : ∃ u, timeTick 1 { s with now := s.now + 2000 } = u := ⟨_, rfl⟩
  have ht : u.within { s with now := s.now + 2000 } [] [.tm] := hu ▸ timeTick_within 1 _
  have hdco : (forEach (List.range 4) (fun s a => dcoStep a 2000 s) (tiuTick u)).within (tiuTick u) [] [.syn] :=
    .loop (fun a _ v => dcoStep_within a 2000 v)
  rw [hu]
  constructor
  · exact (fabEdge_times _).trans (hdco.get State.times (fun _ => rfl))
  · rw [(fabEdge_within _).get State.dpll (fun _ => rfl), hdco.get State.dpll (fun _ => rfl)]
    exact ht.get State.dpll (fun _ => rfl)

/-- An edge of TBCLK counts ten increments, and every rung term grows. -/
theorem clockEdge_counts_tbclk (h : s.rung = 3) :
    (clockEdge s).times = (timeTick 10 { s with now := s.now + 20000 }).times ∧
    ∀ d, d < 8 → ((clockEdge s).dpll_ d).rung = (s.dpll_ d).rung + 6 := by
  unfold clockEdge
  rw [if_neg (by simp [hr, h]), if_pos h, State.times, settle_tm]
  refine ⟨(rungEdge_within _).get State.times (fun _ => rfl), fun d hd => ?_⟩
  rw [settle_dpll_, rungEdge_rung _ hd, (timeTick_within 10 _).get (fun u => u.dpll_ d) (fun _ => rfl)]
  rfl

/-- What an edge makes of the MTC, the timescales and the rung terms; the device's time plays no part in it. -/
theorem clockEdge_counts (h : s.rung ≤ 3) : ∃ u : State, u.steer = s.steer ∧ u.tm = s.tm ∧
    (clockEdge s).times = (timeTick (if s.rung = 3 then 10 else 1) u).times ∧
    ∀ d, d < 8 → ((clockEdge s).dpll_ d).rung = (s.dpll_ d).rung + (if s.rung = 3 then 6 else 0) := by
  by_cases h3 : s.rung = 3
  · rw [if_pos h3, if_pos h3]
    exact ⟨{ s with now := s.now + 20000 }, rfl, rfl, clockEdge_counts_tbclk hr h3⟩
  · rw [if_neg h3, if_neg h3]
    obtain ⟨htimes, hdpll⟩ := clockEdge_counts_tclk hr (by omega)
    exact ⟨{ s with now := s.now + 2000 }, rfl, rfl, htimes, fun d _ => by rw [State.dpll_, hdpll]; rfl⟩

end

theorem State.tspAfter_run (s : State) (k t : Nat) : (s.tspAfter k t).run = (s.tsp t).run := by
  unfold State.tspAfter
  split <;> rfl

theorem State.tspAfter_acc (s : State) (k t : Nat) :
    (s.tspAfter k t).acc = if (s.tsp t).run then tsWrap ((s.tsp t).acc + s.tsAdvance t k) else (s.tsp t).acc := by
  unfold State.tspAfter
  split <;> rfl

end Sys2Proof.Machine

namespace Sys2Proof

open Machine

/-- Settles O25: a step on an empty queue is a clock edge, which counts its increments once. -/
theorem clockEdgeAdvancesTime : Obligations.ClockEdgeAdvancesTime := by
  unfold Obligations.ClockEdgeAdvancesTime
  intro s hq hr hrung
  obtain ⟨u, hsteer, htm, htimes, hterm⟩ := clockEdge_counts hr hrung
  refine ⟨_, step_idle hq, ?_, fun i hi => ?_, hterm⟩
  · rw [State.mtc_of_times htimes, timeTick_mtc, State.mtcAfter_congr hsteer htm, State.mtcAfter]
    split <;> rfl
  · rw [State.tsp_of_times htimes, timeTick_tsp _ _ hi, State.tspAfter_congr hsteer (State.tsp_of_tm htm i)]
    exact ⟨State.tspAfter_run .., State.tspAfter_acc ..⟩

end Sys2Proof
end

section
/-! The triggers (R164–R167): the commands by the status and the fire time that they leave, the grid point of an ALIGN, and the effects of a
fire. -/

namespace Sys2Proof.Machine

@[simp] theorem settle_trg (s : State) (i : Nat) : (settle s).trg i = s.trg i := by
  unfold State.trg
  rw [settle_tm]

/-- A one-bit field at a fixed place of an indexed register. -/
theorem State.flag_setFlag_bit (s : State) (a : Nat) (b : Bool) {l : Nat} (h : l + 1 ≤ 32 := by decide) :
    (s.setFlag ⟨a, l, 1⟩ b).flag ⟨a, l, 1⟩ = b := State.flag_setFlag _ _ _ h rfl

/-! ### TRG_NEXT (R169) -/

@[simp] theorem showNext_tm (i : Nat) (s : State) : (showNext i s).tm = s.tm := State.setQuant_tm ..

@[simp] theorem showNext_trg (i : Nat) (s : State) (j : Nat) : (showNext i s).trg j = s.trg j := by
  unfold State.trg
  rw [showNext_tm]

/-- The fire time is shown in TRG_NEXT alone. -/
theorem showNext_reg {i a : Nat} (s : State) (h : a < Reg.TRG_NEXT i ∨ Reg.TRG_STATUS i ≤ a) : (showNext i s).reg a = s.reg a :=
  State.reg_setQuant_ne _ _ fun k hk => by
    simp only [Reg.TRG_NEXT, Reg.TRG_STATUS] at h ⊢
    omega

/-- A new fire time leaves TRG_STATUS. -/
theorem showNext_setTrg_flag (i l w : Nat) (v : TrgPart) (s : State) :
    (showNext i (s.setTrg i v)).flag ⟨Reg.TRG_STATUS i, l, w⟩ = s.flag ⟨Reg.TRG_STATUS i, l, w⟩ :=
  State.flag_of_reg (f := ⟨Reg.TRG_STATUS i, l, w⟩) (showNext_reg (s.setTrg i v) (.inr le_rfl))

/-! ### ARM (R165) -/

theorem trgArm_refused {i : Nat} {s : State}
    (h : 10 ^ 9 ≤ s.quant (Reg.TRG_AT i) 4 / 2 ^ 32 % 2 ^ 30 ∨ (s.tsp (s.fld (F.TRG_CFG_TS i))).run = false) :
    trgArm i s = s.setFlag (F.TRG_STATUS_ARM_REF i) true :=
  if_pos (by
    rw [Bool.or_eq_true, decide_eq_true_iff, Bool.not_eq_true']
    exact h)

/-- TRG_STATUS after an ARM that is taken, `k` grid points having been missed. -/
def trgArmStatus (i : Nat) (late clamp : Bool) (k : Nat) (s : State) : State :=
  let s1 := ((s.setFlag (F.TRG_STATUS_ARM_REF i) false).setFlag (F.TRG_STATUS_LATE i) late).setFlag (F.TRG_STATUS_PER_CLAMP i) clamp
  (s1.setFld (F.TRG_STATUS_MISSED i) (min 0xffff (s1.fld (F.TRG_STATUS_MISSED i) + k))).setFlag (F.TRG_STATUS_ARMED i) true

theorem trgArmStatus_flags (i : Nat) (late clamp : Bool) (k : Nat) (s : State) :
    (trgArmStatus i late clamp k s).flag (F.TRG_STATUS_ARMED i) = true ∧ (trgArmStatus i late clamp k s).flag (F.TRG_STATUS_LATE i) = late ∧
    (trgArmStatus i late clamp k s).flag (F.TRG_STATUS_ARM_REF i) = false := by
  unfold trgArmStatus
  extract_lets s1
  refine ⟨State.flag_setFlag_bit .., ?_, ?_⟩
  · rw [State.flag_setFlag_apart _ _ Fld.apart_within, State.flag_setFld_apart _ _ Fld.apart_within,
      State.flag_setFlag_apart _ _ Fld.apart_within, State.flag_setFlag_bit ..]
  · rw [State.flag_setFlag_apart _ _ Fld.apart_within, State.flag_setFld_apart _ _ Fld.apart_within,
      State.flag_setFlag_apart _ _ Fld.apart_within, State.flag_setFlag_apart _ _ Fld.apart_within,
      State.flag_setFlag_bit ..]

/-- The time of TRG_AT. -/
def State.trgAt (s : State) (i : Nat) : Int := tsOfWords (s.quant (Reg.TRG_AT i) 4) (s.quant (Reg.TRG_AT i) 4 / 2 ^ 64 : Nat)

/-- An ARM of a ONCE trigger with the lead of 100 TCLK. -/
theorem trgArm_once {i : Nat} {s : State} (hns : s.quant (Reg.TRG_AT i) 4 / 2 ^ 32 % 2 ^ 30 < 10 ^ 9)
    (hrun : (s.tsp (s.fld (F.TRG_CFG_TS i))).run = true) (hper : s.flag (F.TRG_CFG_PERIODIC i) = false)
    (hlead : ((s.tsp (s.fld (F.TRG_CFG_TS i))).acc : Int) + s.tsAdvance (s.fld (F.TRG_CFG_TS i)) 100 ≤ s.trgAt i) :
    trgArm i s = showNext i ((trgArmStatus i false false 0 s).setTrg i
      ⟨s.trgAt i, s.trgAt i, 0, false, s.fld (F.TRG_CFG_TS i), s.fld (F.TRG_CFG_PE i), s.flag (F.TRG_CFG_TE i)⟩) := by
  have hlate : decide (s.trgAt i - (s.tsp (s.fld (F.TRG_CFG_TS i))).acc < s.tsAdvance (s.fld (F.TRG_CFG_TS i)) 100) = false :=
    decide_eq_false (by omega)
  unfold State.trgAt at hlate
  unfold trgArm
  rw [if_neg (by simp [hrun]; omega)]
  simp only [hper, hlate, Bool.false_and, Bool.false_eq_true, if_false, Nat.cast_zero, Int.zero_mul, Int.add_zero]
  rfl

/-! ### ALIGN (R166) -/

/-- The periods cover the gap, and one period less would not. -/
theorem periodsFor_least (g : Int) {p : Nat} (hp : 0 < p) :
    g ≤ periodsFor g p * p ∧ (periodsFor g p = 0 ∨ (periodsFor g p * p - p : Int) < g) := by
  unfold periodsFor
  split
  · next hg => exact ⟨by simpa using hg, .inl rfl⟩
  · next hg =>
    obtain ⟨n, rfl⟩ := Int.eq_ofNat_of_zero_le (Int.le_of_lt (Int.not_le.mp hg))
    have hdiv := Nat.div_add_mod' (n + p - 1) p
    have hmod := Nat.mod_lt (n + p - 1) hp
    rw [Int.toNat_natCast, ← Nat.cast_mul]
    omega

/-- The status that an ALIGN leaves. -/
def trgAlignStatus (i : Nat) (s : State) : State := (s.setFlag (F.TRG_STATUS_MISALIGNED i) false).setQuant (Reg.TRG_SKEW i) 2 0

theorem trgAlignStatus_shows (i : Nat) (s : State) :
    (trgAlignStatus i s).flag (F.TRG_STATUS_MISALIGNED i) = false ∧ (trgAlignStatus i s).quant (Reg.TRG_SKEW i) 2 = 0 := by
  refine ⟨?_, State.quant_setQuant ..⟩
  have hreg := (s.setFlag (F.TRG_STATUS_MISALIGNED i) false).reg_setQuant_ne (a := Reg.TRG_SKEW i) (x := Reg.TRG_STATUS i) (n := 2) 0
    (fun k _ => by simp only [Reg.TRG_SKEW, Reg.TRG_STATUS]; omega)
  exact (State.flag_of_reg hreg).trans (State.flag_setFlag_bit ..)

/-- The earliest time with a lead of 100 TCLK on the timescale of trigger `i`. -/
def State.trgNeed (s : State) (i : Nat) : Int := (s.tsp (s.trg i).ts).acc + s.tsAdvance (s.trg i).ts 100

/-- The first grid point from `need` on. -/
def TrgPart.gridFrom (v : TrgPart) (need : Int) : Int := v.anchor + periodsFor (need - v.anchor) v.period * v.period

theorem TrgPart.gridFrom_first (v : TrgPart) (need : Int) (h : 0 < v.period) : need ≤ v.gridFrom need ∧
    ∃ k : Nat, v.gridFrom need = v.anchor + k * v.period ∧ (k = 0 ∨ v.gridFrom need - v.period < need) := by
  obtain ⟨hle, hleast⟩ := periodsFor_least (need - v.anchor) h
  unfold TrgPart.gridFrom
  exact ⟨by omega, _, rfl, hleast.imp_right fun hlt => by omega⟩

theorem trgAlign_eq (i : Nat) (s : State) : trgAlign i s =
    if s.flag (F.TRG_STATUS_ARMED i) && (s.trg i).per then
      showNext i ((trgAlignStatus i s).setTrg i { s.trg i with f := (s.trg i).gridFrom (s.trgNeed i) })
    else trgAlignStatus i s := rfl

theorem trgAlign_shows (i : Nat) (s : State) :
    (trgAlign i s).flag (F.TRG_STATUS_MISALIGNED i) = false ∧ (trgAlign i s).quant (Reg.TRG_SKEW i) 2 = 0 := by
  obtain ⟨hflag, hskew⟩ := trgAlignStatus_shows i s
  rw [trgAlign_eq]
  split
  · refine ⟨(showNext_setTrg_flag ..).trans hflag, (State.quant_of_regs fun k _ => ?_).trans hskew⟩
    exact showNext_reg _ (.inr (by simp only [Reg.TRG_STATUS, Reg.TRG_SKEW]; omega))
  · exact ⟨hflag, hskew⟩

theorem trgAlign_armed {i : Nat} {s : State} (harm : s.flag (F.TRG_STATUS_ARMED i) = true) (hper : (s.trg i).per = true) :
    ((trgAlign i s).trg i).f = (s.trg i).gridFrom (s.trgNeed i) := by
  rw [trgAlign_eq, if_pos (by rw [harm, hper]; rfl), showNext_trg, State.trg_setTrg]

section
variable {i : Fin 16} {s : State} (hon : s.blockOn 5 = true)
include hon

theorem exec_trgArm : exec (.trgArm i) s = .next (settle (trgArm i.val s)) := by
  change execTrgArm i s = _
  rw [execTrgArm, whenOn, if_pos hon, fin_next]

theorem exec_trgDisarm : exec (.trgDisarm i) s = .next (settle (s.setFlag (F.TRG_STATUS_ARMED i.val) false)) := by
  change execTrgDisarm i s = _
  rw [execTrgDisarm, whenOn, if_pos hon, fin_next]

theorem exec_trgAlign : exec (.trgAlign i) s = .next (settle (trgAlign i.val s)) := by
  change execTrgAlign i s = _
  rw [execTrgAlign, whenOn, if_pos hon, fin_next]

end

/-! ### The effects of a fire (R164, R167) -/

/-- The pins that name trigger `i` become active. -/
def trgPins (i : Nat) (x : Int) (y : Nat) (s : State) : State :=
  forEach (List.range 4) (fun s k => if s.flag (F.TRIG_PIN_EN k) && s.fld (F.TRIG_PIN_TRG k) == i then pinFire k x y s else s) s

theorem setPin_pin (k : Nat) (b : Bool) (s : State) : Tbl.get (fun _ => false) (setPin k b s).tm.pin k = b :=
  Tbl.get_set_same (fun _ => false) s.tm.pin k b

theorem setPin_pin_ne {k j : Nat} (b : Bool) (s : State) (h : j ≠ k) :
    Tbl.get (fun _ => false) (setPin k b s).tm.pin j = Tbl.get (fun _ => false) s.tm.pin j :=
  Tbl.get_set_ne (fun _ => false) s.tm.pin b h

theorem pinFire_pin (k : Nat) (x : Int) (y : Nat) (s : State) : Tbl.get (fun _ => false) (pinFire k x y s).tm.pin k = true :=
  setPin_pin k true s

theorem pinFire_pin_ne {k j : Nat} (x : Int) (y : Nat) (s : State) (h : j ≠ k) :
    Tbl.get (fun _ => false) (pinFire k x y s).tm.pin j = Tbl.get (fun _ => false) s.tm.pin j :=
  setPin_pin_ne true s h

theorem trgPins_keeps {β : Type} {g : State → β} (hg : ∀ k x y u, g (pinFire k x y u) = g u) (i : Nat) (x : Int) (y : Nat) (s : State) :
    g (trgPins i x y s) = g s := by
  refine forEach_keeps (fun u k => ?_) _ s
  split
  · exact hg k x y u
  · rfl

theorem trgPins_within (i : Nat) (x : Int) (y : Nat) (s : State) : (trgPins i x y s).within s [] [.tm] :=
  .loop fun k _ u => .ite (fun _ => pinFire_within k x y u) (fun _ => .refl)

/-- Each round makes its own pin active where it names the trigger, and no other round changes that. -/
theorem trgPins_pin (i : Nat) (x : Int) (y : Nat) (s : State) {k : Nat} (hk : k < 4) (hen : s.flag (F.TRIG_PIN_EN k) = true)
    (htrg : s.fld (F.TRIG_PIN_TRG k) = i) : Tbl.get (fun _ => false) (trgPins i x y s).tm.pin k = true := by
  have hpins := forEach_range_each (n := 4)
    (Q := fun k u => u.flag (F.TRIG_PIN_EN k) = true → u.fld (F.TRIG_PIN_TRG k) = i → Tbl.get (fun _ => false) u.tm.pin k = true)
    (f := fun s k => if s.flag (F.TRIG_PIN_EN k) && s.fld (F.TRIG_PIN_TRG k) == i then pinFire k x y s else s) ?_ ?_ s k hk
  · have hregs : (trgPins i x y s).regs = s.regs := trgPins_keeps (g := State.regs) (fun _ _ _ _ => rfl) i x y s
    have hreg := State.reg_congr hregs (Reg.TRIG_PIN k)
    exact hpins ((State.flag_of_reg (f := F.TRIG_PIN_EN k) hreg).trans hen) ((State.fld_of_reg (f := F.TRIG_PIN_TRG k) hreg).trans htrg)
  · intro u j _
    split
    · exact fun _ _ => pinFire_pin ..
    · next hnot => exact fun he ht => absurd (by rw [he, ht]; exact beq_self_eq_true i) hnot
  · intro u j q hq _ h
    split
    · exact fun he ht => (pinFire_pin_ne x y u hq).trans (h he ht)
    · exact h

/-- The events of a fire: to the PEs where FCLK runs, and to the TEs where TCLK does. -/
def State.trgEvents (s : State) (i : Nat) : List (Nat × Nat × Nat) :=
  ((if s.fclkOn then (List.range 4).filter (fun p => (s.trg i).pe.testBit p) else []) ++
    (if (s.trg i).te && s.tclkOn then [4, 5] else [])).map (fun e => (e, i, (s.trg i).f.toNat))

/-- Events on their way to the engines. -/
def evSend (l : List (Nat × Nat × Nat)) (s : State) : State := { s with tm := { s.tm with evGate := s.tm.evGate ++ l } }

/-- A fire is counted, reaches its pins and outputs, and sends its events. -/
theorem trgFire_eq (i : Nat) (s : State) : ∃ x y, trgFire i s =
    evSend (s.trgEvents i) (outFire i x y (trgPins i x y (tmuxEvent (0x40 + i) (s.bump (Reg.TRG_EVT i))))) := ⟨_, _, rfl⟩

/-- Beside its count, a fire changes no register but those of the outputs. -/
theorem trgFire_counts (i : Nat) (s : State) : (trgFire i s).within (s.bump (Reg.TRG_EVT i)) [0x102] [.tm, .syn, .out] := by
  obtain ⟨x, y, heq⟩ := trgFire_eq i s
  rw [heq]
  have hpins : (trgPins i x y (tmuxEvent (0x40 + i) (s.bump (Reg.TRG_EVT i)))).within (s.bump (Reg.TRG_EVT i)) [0x102] [.tm, .syn, .out] :=
    (trgPins_within ..).after ((tmuxEvent_within ..).mono)
  exact (setTm_within ..).after ((outFire_within ..).after hpins)

theorem trgFire_reg {i o : Nat} (hi : i < 16) (ho : o < 0x80) (s : State) :
    (trgFire i s).reg (0x51000 + o + 0x80 * i) = (s.bump (Reg.TRG_EVT i)).reg (0x51000 + o + 0x80 * i) :=
  (trgFire_counts i s).reg _ (by rw [List.mem_singleton.mp (trgReg_area hi ho)]; decide)

/-- What a fire makes of the time part is what its pins and its events make of it. -/
theorem trgFire_tm (i : Nat) (s : State) : ∃ x y, ∃ u : State, u.within (s.bump (Reg.TRG_EVT i)) [] [.out] ∧
    (trgFire i s).tm = (evSend (s.trgEvents i) (trgPins i x y u)).tm := by
  obtain ⟨x, y, heq⟩ := trgFire_eq i s
  obtain ⟨u, hu⟩ : ∃ u, u = tmuxEvent (0x40 + i) (s.bump (Reg.TRG_EVT i)) := ⟨_, rfl⟩
  have hmux : u.within (s.bump (Reg.TRG_EVT i)) [] [.out] := hu ▸ tmuxEvent_within ..
  refine ⟨x, y, u, hu ▸ tmuxEvent_within .., ?_⟩
  rw [heq, ← hu, evSend, (outFire_within ..).get State.tm (fun _ => rfl), evSend]

theorem trgFire_trg (i j : Nat) (s : State) : (trgFire i s).trg j = s.trg j := by
  obtain ⟨x, y, u, hu, htm⟩ := trgFire_tm i s
  have hpins : (trgPins i x y u).trg j = s.trg j :=
    (trgPins_keeps (g := fun v => v.trg j) (fun _ _ _ _ => rfl) i x y u).trans (hu.get (fun v => v.trg j) (fun _ => rfl))
  rw [State.trg, htm]
  exact hpins

theorem trgFire_evGate (i : Nat) (s : State) : (trgFire i s).tm.evGate = s.tm.evGate ++ s.trgEvents i := by
  obtain ⟨x, y, u, hu, htm⟩ := trgFire_tm i s
  rw [htm, evSend, trgPins_keeps (g := fun v => v.tm.evGate) (fun _ _ _ _ => rfl), hu.get State.tm (fun _ => rfl)]
  rfl

theorem trgFire_pin {i k : Nat} {s : State} (hk : k < 4) (hen : s.flag (F.TRIG_PIN_EN k) = true)
    (htrg : s.fld (F.TRIG_PIN_TRG k) = i) : Tbl.get (fun _ => false) (trgFire i s).tm.pin k = true := by
  obtain ⟨x, y, u, hu, htm⟩ := trgFire_tm i s
  have hreg : u.reg (Reg.TRIG_PIN k) = s.reg (Reg.TRIG_PIN k) :=
    (hu.reg _ List.not_mem_nil).trans (State.reg_bump_ne _ (by simp only [Reg.TRIG_PIN, Reg.TRG_EVT]; omega))
  rw [htm]
  exact trgPins_pin i x y u hk ((State.flag_of_reg (f := F.TRIG_PIN_EN k) hreg).trans hen)
    ((State.fld_of_reg (f := F.TRIG_PIN_TRG k) hreg).trans htrg)

/-! ### After a fire (R165) -/

theorem trgAfter_once {i : Nat} {s : State} (h : (s.trg i).per = false) : trgAfter i s = s.setFlag (F.TRG_STATUS_ARMED i) false :=
  if_neg (by rw [h]; decide)

theorem trgAfter_periodic {i : Nat} {s : State} (h : (s.trg i).per = true) :
    trgAfter i s = showNext i (s.setTrg i { s.trg i with f := (s.trg i).f + (s.trg i).period }) := if_pos h

/-- Beside the triggers' own parts, nothing of the time part changes. -/
theorem trgAfter_keeps {β : Type} {g : TimePart → β} (hg : ∀ m x, g { m with trg := x } = g m) (i : Nat) (s : State) :
    g (trgAfter i s).tm = g s.tm := by
  cases h : (s.trg i).per with
  | false => rw [trgAfter_once h]; rfl
  | true =>
    rw [trgAfter_periodic h, showNext_tm]
    exact hg ..

theorem trgAfter_evt (i : Nat) (s : State) : (trgAfter i s).reg (Reg.TRG_EVT i) = s.reg (Reg.TRG_EVT i) := by
  cases h : (s.trg i).per with
  | false =>
    rw [trgAfter_once h]
    exact s.reg_setFlag_ne _ _ Reg.indexed_ne
  | true =>
    rw [trgAfter_periodic h]
    exact showNext_reg _ (.inr (by simp only [Reg.TRG_STATUS, Reg.TRG_EVT]; omega))

theorem exec_triggerFire {i : Fin 16} {s : State} (harm : s.flag (F.TRG_STATUS_ARMED i.val) = true)
    (hrun : (s.tsp (s.trg i.val).ts).run = true) (hrung : s.rung ≤ 3) (hf : (s.trg i.val).f < s.tsNext (s.trg i.val).ts) :
    exec (.triggerFire i) s = .next (settle (trgAfter i.val (trgFire i.val s))) := by
  change execTriggerFire i s = _
  rw [execTriggerFire, if_pos (by simp [harm, hrun, hrung, hf]), fin_next]

end Sys2Proof.Machine

namespace Sys2Proof

open Machine

/-- Settles O27: an ARM and an ALIGN by the status and the fire time that they leave, and a fire by its effects in turn. -/
theorem triggerCommands : Obligations.TriggerCommands := by
  unfold Obligations.TriggerCommands
  refine ⟨fun i s hon => ⟨fun href => ?refused, fun hns hrun hper hlead => ?armed, ⟨_, exec_trgDisarm hon, settle_sameBut _⟩, ?aligned⟩,
    fun i s harm hrun hrung hf => ?fire, fun k s => ⟨_, rfl, ?_, fun j hj => ?_, settle_regs _⟩⟩
  case refused =>
    refine ⟨_, exec_trgArm hon, ?_⟩
    rw [trgArm_refused href]
    exact settle_sameBut _
  case armed =>
    refine ⟨_, exec_trgArm hon, ?_⟩
    obtain ⟨harmed, hlate, href⟩ := trgArmStatus_flags i.val false false 0 s
    rw [trgArm_once hns hrun hper hlead, settle_flag, settle_flag, settle_flag, settle_trg, showNext_trg, State.trg_setTrg,
      showNext_setTrg_flag, showNext_setTrg_flag, showNext_setTrg_flag]
    exact ⟨harmed, hlate, href, rfl, rfl, rfl, rfl, rfl⟩
  case aligned =>
    obtain ⟨hflag, hskew⟩ := trgAlign_shows i.val s
    refine ⟨_, exec_trgAlign hon, (settle_flag ..).trans hflag, (quant_settle ..).trans hskew, fun harm hper hperiod => ?_⟩
    rw [settle_trg, trgAlign_armed harm hper]
    exact TrgPart.gridFrom_first _ _ hperiod
  case fire =>
    refine ⟨_, exec_triggerFire harm hrun hrung hf, ?_, fun k hk hen htrg => ?_, ?_, fun hper => ?_, fun hper => ?_⟩
    · rw [settle_reg, trgAfter_evt]
      exact (trgFire_reg (o := 0x3c) i.isLt (by decide) s).trans (State.reg_bump ..)
    · rw [settle_tm, trgAfter_keeps (g := TimePart.pin) (fun _ _ => rfl)]
      exact trgFire_pin hk hen htrg
    · rw [settle_tm, trgAfter_keeps (g := TimePart.evGate) (fun _ _ => rfl)]
      exact trgFire_evGate i.val s
    · rw [settle_flag, trgAfter_once ((congrArg TrgPart.per (trgFire_trg ..)).trans hper)]
      exact State.flag_setFlag_bit ..
    · have hstatus := (trgFire_reg (o := 0x38) i.isLt (by decide) s).trans (State.reg_bump_ne _ Reg.indexed_ne)
      have htrg : (trgFire i.val s).trg i.val = s.trg i.val := trgFire_trg ..
      rw [settle_flag, settle_trg, trgAfter_periodic ((congrArg TrgPart.per htrg).trans hper), showNext_trg, State.trg_setTrg, htrg,
        showNext_setTrg_flag]
      exact ⟨((State.flag_of_reg (f := F.TRG_STATUS_ARMED i.val) hstatus).trans harm), rfl⟩
  · rw [settle_tm]
    exact setPin_pin k.val false s
  · rw [settle_tm]
    exact setPin_pin_ne false s hj

end Sys2Proof
end

section
/-! The APLLs (R170–R185): nominal frequencies, configuration and relocks by the state and the registers that they leave, the start of a
search, and the DCO's way to its target. -/

namespace Sys2Proof.Machine

/-! ### What a relock leaves (R180, R190, R192) -/

/-- The outputs' operations leave the registers of the APLLs, but for the event counters. -/
theorem State.within.apllReg {s t : State} {P : List Part} {a x : Nat} (h : t.within s [0x101, 0x102] P) (ha : a < 4)
    (hx : x / 0x40 = 0x1800 + a ∧ x % 0x40 ≠ 0x28) : t.reg x = s.reg x := by
  have h6 : regArea x = 6 := regArea_of_block (by simp only [inBlock]; omega)
  exact h.reg x (by rw [h6]; decide)

theorem apllWaitLow_reg {a x : Nat} (ha : a < 4) (hx : x / 0x40 = 0x1800 + a ∧ x % 0x40 ≠ 0x28) (hs : x ≠ Reg.APLL_STATUS a) (s : State) :
    (apllWaitLow a s).reg x = s.reg x := by
  have he : x ≠ Reg.APLL_EVT a := by simp only [Reg.APLL_EVT]; omega
  rw [(apllWaitLow_outs a s).apllReg ha hx, State.reg_bump_ne _ he, State.reg_setFld_ne _ _ _ hs]

theorem apllWaitLow_quant_freq {a : Nat} (ha : a < 4) (s : State) :
    (apllWaitLow a s).quant (Reg.APLL_FREQ a) 3 = s.quant (Reg.APLL_FREQ a) 3 :=
  State.quant_of_regs fun k hk =>
    apllWaitLow_reg ha (by simp only [Reg.APLL_FREQ]; omega) (by simp only [Reg.APLL_FREQ, Reg.APLL_STATUS]; omega) s

theorem setOut_synApll (s : State) (o : Nat) (v : OutPart) : (s.setOut o v).syn.apll = s.syn.apll := rfl

theorem hoFail_synApll (o : Nat) (s : State) : (hoFail o s).syn.apll = s.syn.apll := by
  unfold hoFail
  rw [setOut_synApll, State.bump_syn, State.setFlag_syn]

theorem hoOrphans_synApll (a : Nat) (s : State) : (hoOrphans a s).syn.apll = s.syn.apll := by
  refine forEach_keeps (g := fun u => u.syn.apll) (fun u o => ?_) _ s
  split
  · exact hoFail_synApll o u
  · rfl

theorem apllWaitLow_synApll (a : Nat) (s : State) : (apllWaitLow a s).syn.apll = s.syn.apll := by
  unfold apllWaitLow
  extract_lets s1 s2
  have h1 : s1.syn.apll = s.syn.apll := by
    unfold s1
    rw [State.bump_syn, State.setFld_syn]
  refine (hoOrphans_synApll a s2).trans ((forEach_keeps (g := fun u => u.syn.apll) (fun u o => ?_) _ s1).trans h1)
  extract_lets h
  split
  · rfl
  · split
    · split
      · exact hoFail_synApll o u
      · exact setOut_synApll ..
    · exact setOut_synApll ..

/-- A relock keeps the nominal frequencies and the DCOs of all APLLs. -/
theorem apllWaitLow_apll (a : Nat) (s : State) (b : Nat) : (apllWaitLow a s).apll b = s.apll b := by
  unfold State.apll
  rw [apllWaitLow_synApll]

/-! ### A nominal frequency (R172, R174, R178, R180) -/

/-- The frequency that `v` gives is in the registers of APLL `a`. -/
def freqStored (a v : Nat) (s : State) : State := s.setQuant (Reg.APLL_FREQ a) 3 (v % 2 ^ 48 + v / 2 ^ 80 % 2 ^ 10 * 2 ^ 80)

theorem freqStored_freq (a v : Nat) (s : State) : nOfFreq ((freqStored a v s).quant (Reg.APLL_FREQ a) 3) = nOfFreq v := by
  unfold freqStored nOfFreq
  rw [State.quant_setQuant]
  omega

theorem freqStored_apllState (a v : Nat) (s : State) : (freqStored a v s).apllState a = s.apllState a :=
  State.fld_of_reg (f := F.APLL_STATUS_STATE a) (State.reg_setQuant_ne _ _ fun k hk => by simp only [Reg.APLL_FREQ, Reg.APLL_STATUS]; omega)

/-- The frequency that `v` gives is stored and in force. -/
def freqInForce (a v : Nat) (s : State) : State :=
  (freqStored a v s).setApll a { (freqStored a v s).apll a with nom := nOfFreq v }

theorem freqInForce_freq (a v : Nat) (s : State) : nOfFreq ((freqInForce a v s).quant (Reg.APLL_FREQ a) 3) = nOfFreq v :=
  (congrArg nOfFreq (State.quant_congr (State.setApll_regs ..) ..)).trans (freqStored_freq a v s)

theorem freqInForce_nom (a v : Nat) (s : State) : ((freqInForce a v s).apll a).nom = nOfFreq v :=
  congrArg ApllPart.nom (State.apll_setApll ..)

theorem State.apll_setFld (s : State) (f : Fld) (v b : Nat) : (s.setFld f v).apll b = s.apll b := by
  unfold State.apll
  rw [State.setFld_syn]

theorem State.apllState_setFld (a st : Nat) (s : State) (h : st < 8 := by decide) :
    (s.setFld (F.APLL_STATUS_STATE a) st).apllState a = st :=
  (State.fld_setFld _ _ _ (show 0 + 3 ≤ 32 by decide)).trans (Nat.mod_eq_of_lt h)

/-- A field of APLL_STATUS is apart from the words of APLL_FREQ. -/
theorem quant_freq_setFld (a l w v : Nat) (s : State) :
    (s.setFld ⟨Reg.APLL_STATUS a, l, w⟩ v).quant (Reg.APLL_FREQ a) 3 = s.quant (Reg.APLL_FREQ a) 3 :=
  State.quant_of_regs fun k hk => State.reg_setFld_ne _ _ _ (by simp only [Reg.APLL_FREQ, Reg.APLL_STATUS]; omega)

section
variable {a v : Nat} {s : State}

theorem landApllFreq_illegal (ha : a ≠ 0) (hq : freqLegal (pfdUnits (s.fld (F.APLL_CFG_PFDSEL a)) * nOfFreq v) = false) :
    landApllFreq a v s = apllRefuse a s := by
  rw [landApllFreq, if_neg ha]
  exact if_pos (by rw [hq]; rfl)

variable (ha : a ≠ 0) (hq : freqLegal (pfdUnits (s.fld (F.APLL_CFG_PFDSEL a)) * nOfFreq v) = true)
include ha hq

theorem landApllFreq_staged (h : s.apllState a = 0 ∨ s.apllState a = 2) :
    landApllFreq a v s = (freqStored a v s).setFlag (F.APLL_STATUS_FREQ_PEND a) true := by
  rw [landApllFreq, if_neg ha]
  refine (if_neg (by rw [hq]; decide)).trans ?_
  rcases h with h | h
  · rw [h]
    rfl
  · rw [h]
    rfl

theorem landApllFreq_waitLow (h : s.apllState a = 1) : landApllFreq a v s = freqStored a v s := by
  rw [landApllFreq, if_neg ha]
  refine (if_neg (by rw [hq]; decide)).trans ?_
  rw [h]
  rfl

theorem landApllFreq_locked (h : 3 ≤ s.apllState a) :
    landApllFreq a v s = if within1000ppm (pfdUnits (s.fld (F.APLL_CFG_PFDSEL a)) * nOfFreq v) (s.apll a).searched
      then (freqInForce a v s).setFld (F.APLL_STATUS_STATE a) 4 else apllWaitLow a (freqInForce a v s) := by
  rw [landApllFreq, if_neg ha]
  refine (if_neg (by rw [hq]; decide)).trans ?_
  obtain ⟨n, hn⟩ : ∃ n, s.apllState a = n + 3 := ⟨_, (Nat.sub_add_cancel h).symm⟩
  rw [hn]
  rfl

theorem landApllFreq_freq (h4 : a < 4) : nOfFreq ((landApllFreq a v s).quant (Reg.APLL_FREQ a) 3) = nOfFreq v := by
  rcases (by omega : (s.apllState a = 0 ∨ s.apllState a = 2) ∨ s.apllState a = 1 ∨ 3 ≤ s.apllState a) with h | h | h
  · rw [landApllFreq_staged ha hq h, State.setFlag, quant_freq_setFld, freqStored_freq]
  · rw [landApllFreq_waitLow ha hq h, freqStored_freq]
  · rw [landApllFreq_locked ha hq h]
    split
    · rw [quant_freq_setFld, freqInForce_freq]
    · rw [apllWaitLow_quant_freq h4, freqInForce_freq]

theorem landApllFreq_pends (h : s.apllState a = 0 ∨ s.apllState a = 2) :
    (landApllFreq a v s).flag (F.APLL_STATUS_FREQ_PEND a) = true ∧ (landApllFreq a v s).apllState a = s.apllState a := by
  rw [landApllFreq_staged ha hq h]
  exact ⟨State.flag_setFlag_bit .., (State.fld_setFlag_apart _ _ Fld.apart_within).trans (freqStored_apllState ..)⟩

/-- A frequency written while the APLL runs is in force at once; the APLL slews to it or is searched again. -/
theorem landApllFreq_moves (h4 : a < 4) (h : 3 ≤ s.apllState a) :
    (landApllFreq a v s).apllState a =
      (if within1000ppm (pfdUnits (s.fld (F.APLL_CFG_PFDSEL a)) * nOfFreq v) (s.apll a).searched then 4 else 1) ∧
    ((landApllFreq a v s).apll a).nom = nOfFreq v := by
  rw [landApllFreq_locked ha hq h]
  split
  · exact ⟨State.apllState_setFld .., (congrArg ApllPart.nom (State.apll_setFld ..)).trans (freqInForce_nom ..)⟩
  · exact ⟨apllWaitLow_state h4 _, (congrArg ApllPart.nom (apllWaitLow_apll ..)).trans (freqInForce_nom ..)⟩

end

/-! ### APLL_CFG (R174, R180) -/

/-- An APLL other than APLL0 that is turned off; the rest is its outputs'. -/
theorem apllOff_outs {a : Nat} (ha : a ≠ 0) {s : State} (h : s.apllState a ≠ 0) :
    (apllOff a s).within (s.setFld (F.APLL_STATUS_STATE a) 0) [0x101, 0x102] [.syn] := by
  unfold apllOff
  rw [if_neg h, if_neg ha]
  exact (hoOrphans_within a _).trans (.loop fun o _ u => (outStop_within o u).mono)

theorem apllOff_state {a : Nat} (ha : a ≠ 0) (h4 : a < 4) (s : State) : (apllOff a s).apllState a = 0 := by
  by_cases h : s.apllState a = 0
  · rwa [apllOff, if_pos h]
  · exact (State.fld_of_reg (f := F.APLL_STATUS_STATE a) ((apllOff_outs ha h).apllReg h4 (by simp only [Reg.APLL_STATUS]; omega))).trans
      (State.apllState_setFld a 0 s)

theorem apllOff_cfg {a : Nat} (ha : a ≠ 0) (h4 : a < 4) (s : State) : (apllOff a s).reg (Reg.APLL_CFG a) = s.reg (Reg.APLL_CFG a) := by
  by_cases h : s.apllState a = 0
  · rw [apllOff, if_pos h]
  · rw [(apllOff_outs ha h).apllReg h4 (by simp only [Reg.APLL_CFG]; omega), State.reg_setFld_ne _ _ _ Reg.indexed_ne]

theorem apllWake_cfg {a : Nat} (h4 : a < 4) (s : State) : (apllWake a s).reg (Reg.APLL_CFG a) = s.reg (Reg.APLL_CFG a) := by
  have hwait := apllWaitLow_reg (x := Reg.APLL_CFG a) h4 (by simp only [Reg.APLL_CFG]; omega) Reg.indexed_ne s
  unfold apllWake
  split
  · dsimp only
    split
    · exact hwait
    · exact (State.reg_setFlag_ne _ _ _ (by simp only [Reg.APLL_CFG, Reg.BOOT_STATUS]; omega)).trans hwait
  · rfl

theorem apllWake_of_not_allowed {a : Nat} {s : State} (h : s.apllAllowed a = false) : apllWake a s = s :=
  if_neg (by rw [h]; simp)

section
variable (a : Nat) (v : Word) (s : State)

/-- EN of what a write to APLL_CFG stores. -/
theorem cfgStored_en : (s.setReg (Reg.APLL_CFG a) (v &&& 7)).flag (F.APLL_CFG_EN a) = v.getLsbD 2 := by
  have hbit : ((v &&& 7).getLsbD 2) = v.getLsbD 2 := by rw [BitVec.getLsbD_and]; exact Bool.and_true _
  rw [State.flag, State.fld, State.rv_setReg, ← hbit, BitVec.getLsbD, Nat.testBit_eq_decide_div_mod_eq]
  rfl

theorem cfgStored_apllState : (s.setReg (Reg.APLL_CFG a) (v &&& 7)).apllState a = s.apllState a :=
  State.fld_setReg_ne _ _ _ Reg.indexed_ne

theorem cfgStored_apllAllowed : (s.setReg (Reg.APLL_CFG a) (v &&& 7)).apllAllowed a = s.apllAllowed a := by
  have hrung : (s.setReg (Reg.APLL_CFG a) (v &&& 7)).rung = s.rung :=
    State.fld_setReg_ne _ _ F.RUNG_STATUS_RUNG (by simp only [Reg.RUNG_STATUS, Reg.APLL_CFG]; omega)
  unfold State.apllAllowed
  rw [hrung]
  rfl

variable {a v s} (ha : a ≠ 0)
include ha

theorem landApllCfg_off (hv : v.getLsbD 2 = false) : landApllCfg a v s = apllOff a (s.setReg (Reg.APLL_CFG a) (v &&& 7)) := by
  rw [landApllCfg, if_neg ha]
  exact if_pos (by rw [cfgStored_en, hv]; rfl)

theorem landApllCfg_wake (hv : v.getLsbD 2 = true) (h : s.apllState a = 0) :
    landApllCfg a v s = apllWake a (s.setReg (Reg.APLL_CFG a) (v &&& 7)) := by
  rw [landApllCfg, if_neg ha]
  exact (if_neg (by rw [cfgStored_en, hv]; decide)).trans (if_pos h)

theorem landApllCfg_wake_state (h4 : a < 4) (hv : v.getLsbD 2 = true) (h : s.apllState a = 0) :
    (landApllCfg a v s).apllState a = if s.apllAllowed a then 1 else 0 := by
  have h0 := (cfgStored_apllState a v s).trans h
  rw [landApllCfg_wake ha hv h, ← cfgStored_apllAllowed a v s]
  split
  · next hal => exact apllWake_state h4 ((cfgStored_en a v s).trans hv) hal h0
  · next hal => rw [apllWake_of_not_allowed (Bool.not_eq_true _ ▸ hal), h0]

end

/-! ### RELOCK (R174, R180) -/

theorem apllRelock_runs {a : Nat} (ha : a ≠ 0) {s : State} (h : 3 ≤ s.apllState a) : apllRelock a s = apllWaitLow a s := by
  rw [apllRelock, if_neg (by simp [ha])]
  obtain ⟨n, hn⟩ : ∃ n, s.apllState a = n + 3 := ⟨_, (Nat.sub_add_cancel h).symm⟩
  rw [hn]
  rfl

theorem apllRelock_off {a : Nat} (ha : a ≠ 0) {s : State} (h : s.apllState a = 0) : apllRelock a s = s := by
  rw [apllRelock, if_neg (by simp [ha]), h]
  rfl

/-! ### The start of a search (R175, R520) -/

theorem bandSearch_shows (a : Nat) (s : State) : (bandSearch a s).apllState a = 2 ∧ (bandSearch a s).flag F.BOOT_STATUS_GATED = false ∧
    ((bandSearch a s).apll a).nom = nOfFreq (s.quant (Reg.APLL_FREQ a) 3) := by
  have hboot : Reg.APLL_STATUS a ≠ Reg.BOOT_STATUS := by simp only [Reg.APLL_STATUS, Reg.BOOT_STATUS]; omega
  refine ⟨(State.fld_setFlag_apart _ _ (.inl hboot)).trans (State.apllState_setFld a 2 _), State.flag_setFlag_bit .., ?_⟩
  unfold bandSearch State.setFlag
  rw [State.apll_setFld, State.apll_setFld, State.apll_setApll]

theorem exec_bandSearchStart {a : Fin 4} {s : State} (h : s.apllState a.val = 1) (hal : s.apllAllowed a.val = true) (hg : s.bandGate = true)
    (hlow : ∀ o, o < 16 → (s.outp o).grp = a.val → s.running o = true → s.flag (F.OUT_STATUS_HANDED_OVER o) = true) :
    exec (.bandSearchStart a) s = .next (settle (bandSearch a.val s)) := by
  have hall : (s.groupOuts a.val).all (fun o => !s.running o || s.flag (F.OUT_STATUS_HANDED_OVER o)) = true := by
    refine List.all_eq_true.mpr fun o ho => ?_
    obtain ⟨h16, hgrp⟩ := List.mem_filter.mp ho
    have himp := hlow o (List.mem_range.mp h16) (beq_iff_eq.mp hgrp)
    cases hr : s.running o with
    | false => rfl
    | true => exact himp hr
  exact congrArg fin (if_pos (by rw [h, hal, hg, hall]; rfl))

/-! ### The VCO check (R176) -/

/-- A measured frequency of `hz` is beyond 0.2 % of f_PFD × N × (1 + y). -/
def State.vcoOff (s : State) (a hz : Nat) : Bool :=
  decide ((s.dcoTarget a * 25000000).natAbs < ((hz : Int) * 2 ^ 96 - s.dcoTarget a * 25000000).natAbs * 500)

/-- VCO_RANGE shown as `bad`, its rise counted. -/
def showVcoRange (a : Nat) (bad : Bool) (s : State) : State :=
  if bad && !s.flag (F.APLL_STATUS_VCO_RANGE a) then (s.setFlag (F.APLL_STATUS_VCO_RANGE a) bad).bump (Reg.APLL_EVT a)
  else s.setFlag (F.APLL_STATUS_VCO_RANGE a) bad

theorem exec_vcoRangeCheck {a : Fin 4} {hz : Nat} {s : State} (h : 3 ≤ s.apllState a.val) :
    exec (.vcoRangeCheck a hz) s = .next (settle (showVcoRange a.val (s.vcoOff a.val hz) s)) := by
  have hbad : decide (2 * (s.dcoTarget a.val * 25000000).natAbs < ((hz : Int) * 2 ^ 96 - s.dcoTarget a.val * 25000000).natAbs * 1000) =
      s.vcoOff a.val hz := decide_eq_decide.mpr (by omega)
  rw [← hbad]
  exact congrArg fin (if_pos h)

theorem showVcoRange_flag (a : Nat) (bad : Bool) (s : State) : (showVcoRange a bad s).flag (F.APLL_STATUS_VCO_RANGE a) = bad := by
  unfold showVcoRange
  split
  · exact (State.flag_bump_ne _ _ Reg.indexed_ne).trans (State.flag_setFlag_bit ..)
  · exact State.flag_setFlag_bit ..

theorem showVcoRange_evt (a : Nat) (bad : Bool) (s : State) : (showVcoRange a bad s).reg (Reg.APLL_EVT a) =
    s.reg (Reg.APLL_EVT a) + (if bad && !s.flag (F.APLL_STATUS_VCO_RANGE a) then 1 else 0) := by
  have hset : (s.setFlag (F.APLL_STATUS_VCO_RANGE a) bad).reg (Reg.APLL_EVT a) = s.reg (Reg.APLL_EVT a) :=
    State.reg_setFlag_ne _ _ _ Reg.indexed_ne
  unfold showVcoRange
  split
  · rw [State.reg_bump, hset]
  · rw [hset]
    exact (BitVec.add_zero _).symm

/-- The frequency that the check expects, in units of 2⁻⁹⁶ Hz. -/
theorem dcoTarget_hz (s : State) (a : Nat) : s.dcoTarget a * 25000000 =
    pfdUnits (s.apll a).pfd * (s.apll a).nom * 25000000 * (2 ^ 48 + (if s.apllSteered a then (s.port a).cur else 0)) := by
  unfold State.dcoTarget State.vcoNom State.apllY
  push_cast
  ring

/-! ### The DCO (R178) -/

/-- The farthest that the DCO of APLL `a` moves in `ps`. -/
def State.dcoLimit (s : State) (a ps : Nat) : Nat :=
  (s.apll a).searched * 2 ^ 48 * max 1 (s.fld ⟨Reg.APLL_SLOPE a, 0, 16⟩) * ps / 10 ^ 18

theorem dcoStep_dco {a : Nat} {s : State} (h : 3 ≤ s.apllState a) (ps : Nat) : ((dcoStep a ps s).apll a).dco =
    (s.apll a).dco + max (-(s.dcoLimit a ps : Int)) (min (s.dcoLimit a ps) (s.dcoTarget a - (s.apll a).dco)) := by
  rw [dcoStep, if_neg (by omega)]
  exact congrArg ApllPart.dco (State.apll_setApll ..)

/-- A step of at most `lim` toward a target does not pass it. -/
theorem clamp_toward {lim : Int} (hl : 0 ≤ lim) (x target : Int) :
    (x ≤ target → x ≤ x + max (-lim) (min lim (target - x)) ∧ x + max (-lim) (min lim (target - x)) ≤ target) ∧
    (target ≤ x → target ≤ x + max (-lim) (min lim (target - x)) ∧ x + max (-lim) (min lim (target - x)) ≤ x) := by omega

theorem dcoStep_moves {a : Nat} {s : State} (h : 3 ≤ s.apllState a) (ps : Nat) :
    (((dcoStep a ps s).apll a).dco - (s.apll a).dco).natAbs ≤ s.dcoLimit a ps := by
  rw [dcoStep_dco h, add_sub_cancel_left]
  exact Int.ofNat_le.mp (natAbs_clamp_le (Int.natCast_nonneg _) _)

/-! ### The commands -/

section
variable {a : Fin 4} {s : State} (hon : s.blockOn 6 = true)
include hon

theorem exec_apllFreqWrite (v : Nat) : exec (.apllFreqWrite a v) s = .next (settle (landApllFreq a.val v s)) :=
  congrArg fin (whenOn_of_blockOn hon _)

theorem exec_apllCfgWrite (v : Word) : exec (.apllCfgWrite a v) s = .next (settle (landApllCfg a.val v s)) :=
  congrArg fin (whenOn_of_blockOn hon _)

theorem exec_apllCommit : exec (.apllCommit a) s = .next (settle (apllCommit a.val s)) := congrArg fin (whenOn_of_blockOn hon _)

theorem exec_apllRelock : exec (.apllRelock a) s = .next (settle (apllRelock a.val s)) := congrArg fin (whenOn_of_blockOn hon _)

end

theorem exec_apllSlewDone {a : Fin 4} {s : State} (h : s.apllState a.val = 4) (hd : (s.apll a.val).dco = s.dcoTarget a.val) :
    exec (.apllSlewDone a) s = .next (settle (s.setFld (F.APLL_STATUS_STATE a.val) 3)) :=
  congrArg fin (if_pos (by simp [h, hd]))

@[simp] theorem settle_apllState (s : State) (a : Nat) : (settle s).apllState a = s.apllState a := settle_fld ..

@[simp] theorem settle_apll (s : State) (a : Nat) : (settle s).apll a = s.apll a := by
  unfold State.apll
  rw [settle_syn]

end Sys2Proof.Machine

namespace Sys2Proof

open Machine

/-- Settles O28: each write and command by the state and the registers that it leaves, and the DCO by its clamped step. -/
theorem apllCommands : Obligations.ApllCommands := by
  unfold Obligations.ApllCommands
  refine ⟨fun a v s hon => ⟨fun h0 => ?fixed, fun ha hq => ?illegal, fun ha hq => ?legal⟩, fun a v s hon ha => ⟨fun hv => ?off, fun hv h => ?wake⟩,
    fun a s hon => ⟨fun hr => ?refused, fun hr => ?pends, fun h0 hr => ?inL0, fun ha h => ?relock, fun ha h => ?stopped⟩,
    fun a s => ⟨fun h hal hg hlow => ?search, fun h hd => ⟨_, exec_apllSlewDone h hd, settle_sameBut _⟩, fun hz h => ?vco, fun ps h => ?dco⟩⟩
  case fixed =>
    refine ⟨_, exec_apllFreqWrite hon v, ?_⟩
    rw [landApllFreq, if_pos h0]
    exact settle_sameBut s
  case illegal =>
    refine ⟨_, exec_apllFreqWrite hon v, ?_⟩
    rw [landApllFreq_illegal ha hq]
    exact settle_sameBut _
  case legal =>
    refine ⟨_, exec_apllFreqWrite hon v, ?_, fun h => ?_, fun h => ?_⟩
    · rw [quant_settle]
      exact landApllFreq_freq ha hq a.isLt
    · rw [settle_flag, settle_apllState]
      exact landApllFreq_pends ha hq h
    · rw [settle_apllState, settle_apll]
      exact landApllFreq_moves ha hq a.isLt h
  case off =>
    refine ⟨_, exec_apllCfgWrite hon v, ?_⟩
    rw [settle_reg, settle_apllState, landApllCfg_off ha hv, apllOff_cfg ha a.isLt, State.reg_setReg]
    exact ⟨rfl, apllOff_state ha a.isLt _⟩
  case wake =>
    refine ⟨_, exec_apllCfgWrite hon v, ?_, (settle_apllState ..).trans (landApllCfg_wake_state ha a.isLt hv h)⟩
    rw [settle_reg, landApllCfg_wake ha hv h, apllWake_cfg a.isLt, State.reg_setReg]
  case refused =>
    refine ⟨_, exec_apllCommit hon, ?_⟩
    rw [apllCommit, if_pos hr]
    exact settle_sameBut _
  case pends =>
    refine ⟨_, exec_apllCommit hon, ?_⟩
    rw [apllCommit, if_neg (Bool.eq_false_iff.mp hr)]
    exact settle_sameBut _
  case inL0 =>
    refine ⟨_, exec_apllRelock hon, ?_⟩
    rw [apllRelock, if_pos (by simp [h0, hr])]
    exact settle_sameBut _
  case relock =>
    refine ⟨_, exec_apllRelock hon, ?_⟩
    rw [apllRelock_runs ha h, settle_apllState]
    exact apllWaitLow_state a.isLt s
  case stopped =>
    refine ⟨_, exec_apllRelock hon, ?_⟩
    rw [apllRelock_off ha h]
    exact settle_sameBut s
  case search =>
    refine ⟨_, exec_bandSearchStart h hal hg hlow, ?_⟩
    rw [settle_apllState, settle_flag, settle_apll]
    exact bandSearch_shows a.val s
  case vco =>
    intro want bad
    have hbad : bad = s.vcoOff a.val hz := by
      unfold State.vcoOff
      rw [dcoTarget_hz]
    refine ⟨_, exec_vcoRangeCheck h, ?_⟩
    rw [settle_flag, settle_reg, hbad]
    exact ⟨showVcoRange_flag .., showVcoRange_evt ..⟩
  case dco =>
    intro x y
    have hy : y = x + max (-(s.dcoLimit a.val ps : Int)) (min (s.dcoLimit a.val ps) (s.dcoTarget a.val - x)) := dcoStep_dco h ps
    obtain ⟨hup, hdown⟩ := clamp_toward (Int.natCast_nonneg (s.dcoLimit a.val ps)) x (s.dcoTarget a.val)
    refine ⟨by rwa [hy], by rwa [hy], ?_⟩
    calc (y - x).natAbs * 10 ^ 18 ≤ s.dcoLimit a.val ps * 10 ^ 18 := Nat.mul_le_mul_right _ (dcoStep_moves h ps)
      _ ≤ _ := Nat.div_mul_le_self _ _

end Sys2Proof
end

section
/-! The GNSS receiver outside its epochs (R205–R212, R217, R220): what its front end stores and captures, its states and channels as registers,
the check of GSCLK, and the updates and searches of its channels. -/

namespace Sys2Proof.Machine

/-! ### The next state of a command of the receiver -/

@[simp] theorem settle_rxState (s : State) : (settle s).rxState = s.rxState := settle_fld ..

@[simp] theorem settle_gch (s : State) (c : Nat) : (settle s).gch c = s.gch c := settle_fld ..

/-- After a command that updates registers and the receiver's own part, only the registers that it updated differ beside that part. -/
theorem State.within.onlyRegs_gnss {t s : State} {B l : List Nat} (h : t.within s B [.gnss]) (hr : ∀ a, a ∉ l → t.reg a = s.reg a) :
    (settle t).onlyRegs { s with gnss := (settle t).gnss } l := by
  have hparts : t.sameBut { { s with gnss := t.gnss } with regs := t.regs } := by
    unfold State.sameBut
    exact congrArg (fun u : State => { u with gnss := t.gnss, regs := t.regs, out := s.out, irq := s.irq }) h.parts
  rw [settle_gnss]
  exact settle_onlyRegs hr hparts

/-! ### The front end (R205, R206) -/

theorem landGfeCtrl_eq (v : Word) (s : State) :
    landGfeCtrl v s = (s.setReg Reg.GFE_CTRL (v &&& 0x1f)).setGnss
      { s.gnss with gfe := if v.getLsbD 0 && !s.flag F.GFE_CTRL_EN then v.toNat / 2 % 16 else s.gnss.gfe } := by
  unfold landGfeCtrl
  extract_lets rise s1
  by_cases h : rise = true
  · rw [if_pos h, if_pos h]
    rfl
  · rw [if_neg h, if_neg h]
    rfl

theorem State.gfeDiv_eq (s : State) :
    s.gfeDiv = if s.inReset = true ∨ 3 ≤ s.rung ∨ s.flag F.GFE_CTRL_EN = false then none
      else some (if s.gnss.gfe % 4 = 0 then 1 else if s.gnss.gfe % 4 = 1 then 2 else 5) := by
  have hlow : (s.inReset || 3 ≤ s.rung || !s.flag F.GFE_CTRL_EN) = true ↔ s.inReset = true ∨ 3 ≤ s.rung ∨ s.flag F.GFE_CTRL_EN = false := by
    simp [or_assoc]
  unfold State.gfeDiv
  by_cases h : s.inReset = true ∨ 3 ≤ s.rung ∨ s.flag F.GFE_CTRL_EN = false
  · rw [if_pos (hlow.mpr h), if_pos h]
  · rw [if_neg (mt hlow.mp h), if_neg h]
    split
    case h_1 h0 => rw [h0, if_pos rfl]
    case h_2 h1 => rw [h1, if_neg (by decide), if_pos rfl]
    case h_3 h0 h1 => rw [if_neg h0, if_neg h1]

theorem State.capture_unselected (s : State) (i q : Nat) : s.capture (s.gnss.gfe.testBit 2) i q = none := if_pos rfl

theorem State.capture_selected (s : State) (i q : Nat) : s.capture (!s.gnss.gfe.testBit 2) i q =
    some (sampleLevel (s.gnss.gfe.testBit 3) i, sampleLevel (s.gnss.gfe.testBit 3) q) := if_neg (Bool.not_ne_self _)

/-! ### The receiver's state (R212, R220) -/

theorem rxTo_rxState {st : Nat} (h : st < 8) (s : State) : (rxTo st s).rxState = st := by
  unfold rxTo
  split
  case isTrue hs => exact hs
  case isFalse =>
    exact (State.fld_setRv_ne _ _ _ (by decide)).trans ((State.fld_setFld _ _ _ (by decide)).trans (Nat.mod_eq_of_lt h))

/-- GNSS_EVT counts a change of state, and no other. -/
theorem rxTo_evt (st : Nat) (s : State) : (rxTo st s).reg Reg.GNSS_EVT = s.reg Reg.GNSS_EVT + if s.rxState = st then 0 else 1 := by
  unfold rxTo
  split
  · exact (BitVec.add_zero _).symm
  · rw [State.reg_bump, State.reg_setFld_ne _ _ _ (by decide)]

theorem rxTo_reg (st : Nat) (s : State) {a : Nat} (hs : a ≠ Reg.RX_STATUS) (he : a ≠ Reg.GNSS_EVT) : (rxTo st s).reg a = s.reg a := by
  unfold rxTo
  split
  · rfl
  · rw [State.reg_bump_ne _ he, State.reg_setFld_ne _ _ _ hs]

theorem toAcquire_of_ne {s : State} (h : s.rxState ≠ 1) :
    toAcquire s = ((s.setGnss { s.gnss with acqFrom := s.tiu.count }).setFld F.RX_STATUS_STATE 1).bump Reg.GNSS_EVT := if_neg h

/-! ### The channels (R220) -/

/-- The other registers of the receiver lie below the channels' own. -/
theorem Reg.ne_gnssChStatus {a c : Nat} (h : a < 0x70100 := by decide) : a ≠ Reg.GNSS_CH_STATUS c := by
  simp only [Reg.GNSS_CH_STATUS]
  omega

theorem Reg.gnssChStatus_ne {a c : Nat} (h : a < 0x70100 := by decide) : Reg.GNSS_CH_STATUS c ≠ a := (Reg.ne_gnssChStatus h).symm

theorem State.gch_setRv_other (s : State) {c k : Nat} (h : k ≠ c) (v : Nat) : (s.setRv (Reg.GNSS_CH_STATUS c) v).gch k = s.gch k :=
  State.fld_setRv_ne _ _ _ (by simp only [Reg.GNSS_CH_STATUS]; omega)

theorem State.gch_setRv_zero (s : State) (c : Nat) : (s.setRv (Reg.GNSS_CH_STATUS c) 0).gch c = 0 := by
  simp [State.gch, State.fld, Fld.of]

theorem State.gch_of_reg {s t : State} {c : Nat} (h : t.reg (Reg.GNSS_CH_STATUS c) = s.reg (Reg.GNSS_CH_STATUS c)) : t.gch c = s.gch c :=
  State.fld_of_reg (f := ⟨Reg.GNSS_CH_STATUS c, 0, 2⟩) h

theorem showTracking_reg (s : State) {a : Nat} (h : a ≠ Reg.RX_STATUS) : (showTracking s).reg a = s.reg a := State.reg_setFld_ne _ _ _ h

theorem showTracking_gnss (s : State) : (showTracking s).gnss = s.gnss := State.setFld_gnss ..

theorem showTracking_gch (s : State) (c : Nat) : (showTracking s).gch c = s.gch c :=
  State.gch_of_reg (showTracking_reg s Reg.gnssChStatus_ne)

theorem showTracking_rxState (s : State) : (showTracking s).rxState = s.rxState := State.fld_setFld_apart _ _ (by decide)

theorem gchIdleAll_gch (s : State) {c : Nat} (h : c < 48) : (gchIdleAll s).gch c = 0 := by
  have hidle : (forEach (List.range 48) (fun s c => s.setRv (Reg.GNSS_CH_STATUS c) 0) s).gch c = 0 :=
    forEach_range_each (Q := fun c s => s.gch c = 0) (fun u k _ => u.gch_setRv_zero k)
      (fun u k j hj _ hu => (u.gch_setRv_other hj 0).trans hu) s c h
  exact (State.gch_of_reg (showTracking_reg _ Reg.gnssChStatus_ne)).trans hidle

theorem gchIdleAll_rxState (s : State) : (gchIdleAll s).rxState = s.rxState :=
  (showTracking_rxState _).trans (forEach_keeps (g := State.rxState) (fun _ _ => State.fld_setRv_ne _ _ _ Reg.ne_gnssChStatus) _ s)

theorem gchIdleAll_reg (s : State) {a : Nat} (h : a < 0x70100) (hs : a ≠ Reg.RX_STATUS) : (gchIdleAll s).reg a = s.reg a := by
  have hloop : (forEach (List.range 48) (fun s c => s.setRv (Reg.GNSS_CH_STATUS c) 0) s).reg a = s.reg a :=
    forEach_keeps (g := fun u : State => u.reg a) (fun u _ => u.reg_setRv_ne 0 (Reg.ne_gnssChStatus h)) _ s
  exact (showTracking_reg _ hs).trans hloop

/-! ### OFF (R212) -/

/-- The registers of OFF: the state entered with every channel idle, and no burst window. -/
theorem rxOff_regs (s : State) : (rxOff s).regs = ((rxTo 0 (gchIdleAll s)).setFlag F.RX_STATUS_BURST false).regs := rfl

theorem rxOff_reg_idle (s : State) {a : Nat} (h : a ≠ Reg.RX_STATUS) : (rxOff s).reg a = (rxTo 0 (gchIdleAll s)).reg a := by
  rw [State.reg_congr (rxOff_regs s), State.reg_setFlag_ne _ _ _ h]

theorem rxOff_rxState (s : State) : (rxOff s).rxState = 0 := by
  rw [State.rxState, State.fld_of_reg (State.reg_congr (rxOff_regs s) _), State.fld_setFlag_apart _ _ (by decide)]
  exact rxTo_rxState (by decide) _

theorem rxOff_gch (s : State) {c : Nat} (h : c < 48) : (rxOff s).gch c = 0 := by
  have hkeep : (rxOff s).reg (Reg.GNSS_CH_STATUS c) = (gchIdleAll s).reg (Reg.GNSS_CH_STATUS c) :=
    (rxOff_reg_idle s Reg.gnssChStatus_ne).trans (rxTo_reg _ _ Reg.gnssChStatus_ne Reg.gnssChStatus_ne)
  exact (State.gch_of_reg hkeep).trans (gchIdleAll_gch s h)

theorem rxOff_evt (s : State) : (rxOff s).reg Reg.GNSS_EVT = s.reg Reg.GNSS_EVT + if s.rxState = 0 then 0 else 1 := by
  rw [rxOff_reg_idle s (by decide), rxTo_evt, gchIdleAll_rxState, gchIdleAll_reg _ (by decide) (by decide)]

theorem rxOff_reg (s : State) {a : Nat} (h : a < 0x70100) (hs : a ≠ Reg.RX_STATUS) (he : a ≠ Reg.GNSS_EVT) : (rxOff s).reg a = s.reg a := by
  rw [rxOff_reg_idle s hs, rxTo_reg _ _ hs he, gchIdleAll_reg s h hs]

/-! ### GNSS_CTRL (R212) -/

/-- BB_EN of what a write to GNSS_CTRL stores. -/
theorem gnssCtrlStored_bbEn (v : Word) (s : State) : (s.setReg Reg.GNSS_CTRL (v &&& 0x703)).flag F.GNSS_CTRL_BB_EN = v.getLsbD 0 := by
  have hbit : (v &&& 0x703).getLsbD 0 = v.getLsbD 0 := by rw [BitVec.getLsbD_and]; exact Bool.and_true _
  rw [State.flag, State.fld, State.rv_setReg, ← hbit, BitVec.getLsbD, Nat.testBit_eq_decide_div_mod_eq]
  rfl

theorem landGnssCtrl_on {v : Word} (hv : v.getLsbD 0 = true) (s : State) : landGnssCtrl v s = s.setReg Reg.GNSS_CTRL (v &&& 0x703) :=
  if_neg (by rw [gnssCtrlStored_bbEn, hv]; decide)

theorem landGnssCtrl_off {v : Word} (hv : v.getLsbD 0 = false) (s : State) :
    landGnssCtrl v s = rxOff (s.setReg Reg.GNSS_CTRL (v &&& 0x703)) := if_pos (by rw [gnssCtrlStored_bbEn, hv]; rfl)

theorem landGnssCtrl_reg (v : Word) (s : State) : (landGnssCtrl v s).reg Reg.GNSS_CTRL = v &&& 0x703 := by
  cases hv : v.getLsbD 0 with
  | true => rw [landGnssCtrl_on hv, State.reg_setReg]
  | false => rw [landGnssCtrl_off hv, rxOff_reg _ (by decide) (by decide) (by decide), State.reg_setReg]

/-! ### The check of GSCLK (R207) -/

/-- `edges` of GSCLK in a second are more than 1 ppm off. -/
def gsclkBad (edges : Nat) : Bool := decide (40920000 < ((edges : Int) - 40920000).natAbs * 10 ^ 6)

/-- The offset that the check found is shown. -/
def gsclkOffset (edges : Nat) (s : State) : State :=
  s.setFld F.GSCLK_MON_OFFSET (unsigned 16 (clampS 16 (roundDiv (((edges : Int) - 40920000) * 10 ^ 8) 40920000)))

/-- What the check leaves: the offset shown, and a changed FREQ_ERR counted, from which a search starts anew. -/
def gsclkChecked (edges : Nat) (s : State) : State :=
  if s.flag F.GSCLK_MON_FREQ_ERR = gsclkBad edges then gsclkOffset edges s
  else (((gsclkOffset edges s).setFlag F.GSCLK_MON_FREQ_ERR (gsclkBad edges)).bump Reg.GNSS_EVT).setGnss
    { s.gnss with acqFrom := s.tiu.count }

theorem gsclkOffset_freqErr (edges : Nat) (s : State) :
    (gsclkOffset edges s).flag F.GSCLK_MON_FREQ_ERR = s.flag F.GSCLK_MON_FREQ_ERR := by
  unfold gsclkOffset
  rw [State.flag_setFld_apart _ _ (by decide)]

theorem gsclkOffset_reg (edges : Nat) (s : State) {a : Nat} (h : a ≠ Reg.GSCLK_MON) : (gsclkOffset edges s).reg a = s.reg a := by
  unfold gsclkOffset
  rw [State.reg_setFld_ne _ _ _ h]

theorem gsclkChecked_freqErr (edges : Nat) (s : State) : (gsclkChecked edges s).flag F.GSCLK_MON_FREQ_ERR = gsclkBad edges := by
  unfold gsclkChecked
  split
  case isTrue h => rw [gsclkOffset_freqErr, h]
  case isFalse => rw [State.setGnss_flag, State.flag_bump_ne _ _ (by decide), State.flag_setFlag _ _ _ (by decide) rfl]

theorem gsclkChecked_evt (edges : Nat) (s : State) : (gsclkChecked edges s).reg Reg.GNSS_EVT =
    s.reg Reg.GNSS_EVT + if gsclkBad edges = s.flag F.GSCLK_MON_FREQ_ERR then 0 else 1 := by
  unfold gsclkChecked
  split
  case isTrue h => rw [if_pos h.symm, gsclkOffset_reg _ _ (by decide)]; exact (BitVec.add_zero _).symm
  case isFalse h =>
    rw [if_neg (Ne.symm h), State.setGnss_reg, State.reg_bump, State.reg_setFlag_ne _ _ _ (by decide), gsclkOffset_reg _ _ (by decide)]

theorem gsclkChecked_reg (edges : Nat) (s : State) {a : Nat} (hm : a ≠ Reg.GSCLK_MON) (he : a ≠ Reg.GNSS_EVT) :
    (gsclkChecked edges s).reg a = s.reg a := by
  unfold gsclkChecked
  split
  · exact gsclkOffset_reg _ _ hm
  · rw [State.setGnss_reg, State.reg_bump_ne _ he, State.reg_setFlag_ne _ _ _ hm, gsclkOffset_reg _ _ hm]

theorem gsclkChecked_within (edges : Nat) (s : State) : (gsclkChecked edges s).within s [7] [.gnss] := by
  have hoff : (gsclkOffset edges s).within s [7] [.gnss] := State.within.refl.setFld
  exact .ite (fun _ => hoff) (fun _ => (setGnss_within ..).after hoff.setFlag.bump)

/-! ### A channel's loops (R209, R217) -/

/-- Channel `c` shows state `st` and the signal `cn0`. -/
def gchShow (c st cn0 : Nat) (s : State) : State := (s.setFld ⟨Reg.GNSS_CH_STATUS c, 0, 2⟩ st).setFld ⟨Reg.GNSS_CH_STATUS c, 16, 8⟩ cn0

theorem gchShow_gch (c cn0 : Nat) {st : Nat} (h : st < 4) (s : State) : (gchShow c st cn0 s).gch c = st :=
  (State.fld_setFld_apart _ _ Fld.apart_within).trans
    ((State.fld_setFld _ _ _ (show 0 + 2 ≤ 32 by decide)).trans (Nat.mod_eq_of_lt h))

theorem gchShow_cn0 (c st : Nat) {cn0 : Nat} (h : cn0 < 256) (s : State) : (gchShow c st cn0 s).fld ⟨Reg.GNSS_CH_STATUS c, 16, 8⟩ = cn0 :=
  (State.fld_setFld _ _ _ (show 16 + 8 ≤ 32 by decide)).trans (Nat.mod_eq_of_lt h)

theorem gchShow_reg (c st cn0 : Nat) (s : State) {a : Nat} (h : a ≠ Reg.GNSS_CH_STATUS c) : (gchShow c st cn0 s).reg a = s.reg a :=
  (State.reg_setFld_ne _ _ _ h).trans (State.reg_setFld_ne _ _ _ h)

theorem gchShow_gnss (c st cn0 : Nat) (s : State) : (gchShow c st cn0 s).gnss = s.gnss := State.setFld_gnss ..

theorem gchShow_within {c : Nat} (h : c < 48) (st cn0 : Nat) (s : State) : (gchShow c st cn0 s).within s [7, 0x101] [] :=
  .setFld (.setFld .refl (chStatus_area h)) (chStatus_area h)

theorem trackTo_some (c : Nat) (lock : Bool) (cn0 : Nat) (s : State) :
    trackTo c (some lock) cn0 s = gchShow c (if lock then 2 else 1) cn0 s := by
  cases lock <;> rfl

theorem trackTo_none_on {c cn0 : Nat} {s : State} (h : s.gch c = 2 ∧ s.rung ≤ 1 ∧ 24 ≤ cn0) : trackTo c none cn0 s = gchShow c 2 cn0 s :=
  if_pos (by simpa [and_assoc] using h)

theorem trackTo_none_lost {c cn0 : Nat} {s : State} (h : ¬ (s.gch c = 2 ∧ s.rung ≤ 1 ∧ 24 ≤ cn0)) : trackTo c none cn0 s = gchLost c s :=
  if_neg (by simpa [and_assoc] using h)

theorem gchLost_status (c : Nat) (s : State) : (gchLost c s).reg (Reg.GNSS_CH_STATUS c) = 0 := by
  rw [gchLost, State.reg_bump_ne _ Reg.gnssChStatus_ne, State.reg_setRv]
  rfl

theorem gchLost_evt (c : Nat) (s : State) : (gchLost c s).reg Reg.GNSS_EVT = s.reg Reg.GNSS_EVT + 1 := by
  rw [gchLost, State.reg_bump, State.reg_setRv_ne _ _ Reg.ne_gnssChStatus]

theorem loopsRun_within (c : Nat) (taps : Taps) (s : State) : (loopsRun c taps s).within s [] [.gnss] := setGnss_within ..

theorem loopsRun_taps (c : Nat) (taps : Taps) (s : State) :
    (Tbl.get (fun _ => GnssChan.reset) (loopsRun c taps s).gnss.chan c).taps = taps :=
  congrArg GnssChan.taps (Tbl.get_set_same _ _ _ _)

/-- An update with a result leaves the state and the signal that the loops give, and the correlators' outputs. -/
theorem trackTo_some_leaves {c cn0 : Nat} {lock : Bool} {taps : Taps} {s t : State} (hc : c < 48) (hcn0 : cn0 < 256)
    (ht : t = settle (showTracking (trackTo c (some lock) cn0 (loopsRun c taps s)))) :
    t.gch c = (if lock then 2 else 1) ∧ t.fld ⟨Reg.GNSS_CH_STATUS c, 16, 8⟩ = cn0 ∧
      (Tbl.get (fun _ => GnssChan.reset) t.gnss.chan c).taps = taps ∧
      t.onlyRegs { s with gnss := t.gnss } [Reg.GNSS_CH_STATUS c, Reg.RX_STATUS] := by
  have hst : (if lock then 2 else 1) < 4 := by cases lock <;> decide
  rw [trackTo_some] at ht
  generalize (if lock then 2 else 1) = st at hst ht ⊢
  have hstatus : (showTracking (gchShow c st cn0 (loopsRun c taps s))).reg (Reg.GNSS_CH_STATUS c) =
      (gchShow c st cn0 (loopsRun c taps s)).reg (Reg.GNSS_CH_STATUS c) := showTracking_reg _ Reg.gnssChStatus_ne
  have hloops : (loopsRun c taps s).within s [7, 0x101] [.gnss] := (loopsRun_within ..).mono
  have hshow := (gchShow_within hc st cn0 _).after hloops
  rw [ht]
  refine ⟨?_, ?_, ?_, ((showTracking_within _).after hshow).onlyRegs_gnss (fun a ha => ?_)⟩
  · rw [settle_gch, showTracking_gch, gchShow_gch _ _ hst]
  · rw [settle_fld, State.fld_of_reg hstatus, gchShow_cn0 _ _ hcn0]
  · rw [settle_gnss, showTracking_gnss, gchShow_gnss, loopsRun_taps]
  · simp only [List.mem_cons, List.not_mem_nil, or_false, not_or] at ha
    rw [showTracking_reg _ ha.2, gchShow_reg _ _ _ _ ha.1]
    rfl

/-! ### A search that ends (R211) -/

@[simp] theorem State.setGch_reg (s : State) (c : Nat) (v : GnssChan) (a : Nat) : (s.setGch c v).reg a = s.reg a := rfl

@[simp] theorem State.setGch_rv (s : State) (c : Nat) (v : GnssChan) (a : Nat) : (s.setGch c v).rv a = s.rv a := rfl

theorem State.chan_setGch (s : State) (c : Nat) (v : GnssChan) : Tbl.get (fun _ => GnssChan.reset) (s.setGch c v).gnss.chan c = v :=
  Tbl.get_set_same _ _ _ _

theorem setGch_within (s : State) (c : Nat) (v : GnssChan) : (s.setGch c v).within s [] [.gnss] := setGnss_within ..

theorem acqHand_taken {c k sat : Nat} {x : AcqCell} {s : State} (hidle : s.gch c = 0) (hbin : 2 * x.bin.natAbs < acqBins k s.acqWindow)
    (hphase : x.phase < (constellation k).points) :
    acqHand c k sat x s = (s.setRv (Reg.GNSS_CH_STATUS c) (1 + k * 4 + sat * 256)).setGch c
      ⟨x.bin * (constellation k).step, x.phase, Vector.replicate 7 (0, 0)⟩ :=
  if_pos (by simp [hidle, hbin, hphase])

/-- A satellite that is handed over leaves the channel pulling in from the cell, and the next search begun. -/
theorem acqHand_leaves {c k sat : Nat} {x : AcqCell} {s t : State} (hc : c < 48) (hk : k < 3) (hsat : sat < 256) (hidle : s.gch c = 0)
    (hbin : 2 * x.bin.natAbs < acqBins k s.acqWindow) (hphase : x.phase < (constellation k).points)
    (ht : t = settle (acqHand c k sat x (s.setGnss { s.gnss with acqFrom := s.tiu.count }))) :
    t.rv (Reg.GNSS_CH_STATUS c) = 1 + k * 4 + sat * 256 ∧ t.gnss.acqFrom = s.tiu.count ∧
      Tbl.get (fun _ => GnssChan.reset) t.gnss.chan c = ⟨x.bin * (constellation k).step, x.phase, Vector.replicate 7 (0, 0)⟩ ∧
      t.onlyRegs { s with gnss := t.gnss } [Reg.GNSS_CH_STATUS c] := by
  rw [acqHand_taken (s := s.setGnss { s.gnss with acqFrom := s.tiu.count }) hidle hbin hphase] at ht
  have hnext : (s.setGnss { s.gnss with acqFrom := s.tiu.count }).within s [7, 0x101] [.gnss] := (setGnss_within ..).mono
  have hgiven := hnext.setRv (v := 1 + k * 4 + sat * 256) (chStatus_area hc)
  rw [ht]
  refine ⟨?_, ?_, ?_, State.within.onlyRegs_gnss ((setGch_within ..).after hgiven) (fun a ha => ?_)⟩
  · rw [settle_rv, State.setGch_rv, State.rv_setRv, Nat.mod_eq_of_lt (by omega)]
  · rw [settle_gnss]
    rfl
  · rw [settle_gnss, State.chan_setGch]
  · rw [State.setGch_reg, State.reg_setRv_ne _ _ (List.ne_of_not_mem_cons ha), State.setGnss_reg]

/-! ### HOLD_FIXED and RESURVEY (R212) -/

theorem landPosCmd_off (code : Nat) {s : State} (h : s.rxState = 0) : landPosCmd code s = s.bump16 Reg.POS_CMD_REF :=
  if_pos (by simp [h])

theorem landPosCmd_waits {code : Nat} {s : State} (h : s.rxState ≠ 0) (hc : code = 1 ∨ code = 2) :
    landPosCmd code s = s.setGnss { s.gnss with cmd := code } :=
  if_neg (by rcases hc with rfl | rfl <;> simp [h])

/-! ### The commands -/

section
variable {s : State}

theorem exec_gfeCtrlWrite (hon : s.hostOn = true) (v : Word) : exec (.gfeCtrlWrite v) s = .next (settle (landGfeCtrl v s)) :=
  congrArg fin (if_pos hon)

theorem exec_gnssCtrlWrite (hon : s.blockOn 7 = true) (v : Word) : exec (.gnssCtrlWrite v) s = .next (settle (landGnssCtrl v s)) :=
  congrArg fin (whenOn_of_blockOn hon _)

theorem exec_holdFixed (hon : s.blockOn 7 = true) : exec .holdFixed s = .next (settle (landPosCmd 1 s)) :=
  congrArg fin (whenOn_of_blockOn hon _)

theorem exec_resurvey (hon : s.blockOn 7 = true) : exec .resurvey s = .next (settle (landPosCmd 2 s)) :=
  congrArg fin (whenOn_of_blockOn hon _)

theorem exec_gsclkFreqCheck (ht : s.tclkOn = true) (edges : Nat) :
    exec (.gsclkFreqCheck edges) s = .next (settle (gsclkChecked edges s)) := congrArg fin (if_pos ht)

theorem exec_gsclkLost (ht : s.tclkOn = true) (ha : s.flag F.GSCLK_MON_ACTIVE = true) :
    exec .gsclkLost s = .next (settle (rxOff ((s.setFlag F.GSCLK_MON_ACTIVE false).bump Reg.GNSS_EVT))) :=
  congrArg fin (if_pos (by simp [ht, ha]))

theorem exec_gsclkReturn (ht : s.tclkOn = true) (ha : s.flag F.GSCLK_MON_ACTIVE = false) :
    exec .gsclkReturn s = .next (settle ((s.setFlag F.GSCLK_MON_ACTIVE true).bump Reg.GNSS_EVT)) :=
  congrArg fin (if_pos (by simp [ht, ha]))

theorem exec_trackingLoopUpdate {c : Fin 48} (hon : s.bbOn = true) (hc : s.gch c.val = 1 ∨ s.gch c.val = 2) (lock : Option Bool)
    (cn0 : Fin 256) (taps : Taps) : exec (.trackingLoopUpdate c lock cn0 taps) s =
      .next (settle (showTracking (trackTo c.val lock cn0.val (loopsRun c.val taps s)))) :=
  congrArg fin (if_pos (by simpa [hon] using hc))

theorem exec_acquisitionDone_none {k : Fin 3} {aided : Bool} (h : s.acqEnds k.val aided = true) (c : Fin 48) (sat : Fin 256) :
    exec (.acquisitionDone c k sat ⟨aided, none⟩) s = .next (settle (s.setGnss { s.gnss with acqFrom := s.tiu.count })) :=
  congrArg fin (if_pos h)

theorem exec_acquisitionDone_some {k : Fin 3} {aided : Bool} (h : s.acqEnds k.val aided = true) (c : Fin 48) (sat : Fin 256) (x : AcqCell) :
    exec (.acquisitionDone c k sat ⟨aided, some x⟩) s =
      .next (settle (acqHand c.val k.val sat.val x (s.setGnss { s.gnss with acqFrom := s.tiu.count }))) := congrArg fin (if_pos h)

theorem exec_fixTimeout (hon : s.bbOn = true) (hst : s.rxState = 2 ∨ s.rxState = 3) (h : s.tenSecs s.gnss.lastFix = true) :
    exec .fixTimeout s = .next (settle (toAcquire s)) := congrArg fin (if_pos (by simpa [hon, h] using hst))

theorem exec_noSatelliteTimeout (hon : s.bbOn = true) (hst : s.rxState = 4) (h : s.tenSecs s.gnss.lastSat = true) :
    exec .noSatelliteTimeout s = .next (settle (toAcquire s)) := congrArg fin (if_pos (by simp [hon, h, hst]))

end

end Sys2Proof.Machine

namespace Sys2Proof

open Machine

/-- Settles O30: each command by what its update leaves of the registers and of the receiver's own part. -/
theorem gnssReceiverCommands : Obligations.GnssReceiverCommands := by
  unfold Obligations.GnssReceiverCommands
  refine ⟨fun v s hon => ?gfe, State.gfeDiv_eq, by decide, fun i q s => ⟨s.capture_unselected i q, s.capture_selected i q⟩,
    fun v s hon => ?ctrl, fun e s ht => ?check, fun s ht => ⟨fun ha => ?lost, fun ha => ⟨_, exec_gsclkReturn ht ha, settle_sameBut _⟩⟩,
    fun c cn0 taps s hon hc => ⟨fun lock => ⟨_, exec_trackingLoopUpdate hon hc (some lock) cn0 taps, trackTo_some_leaves c.isLt cn0.isLt rfl⟩,
      fun hgo => ?goesOn, fun hlost => ?channelLost⟩,
    fun c k sat aided s hends => ⟨fun x hidle hbin hphase =>
      ⟨_, exec_acquisitionDone_some hends c sat x, acqHand_leaves c.isLt k.isLt sat.isLt hidle hbin hphase rfl⟩,
      _, exec_acquisitionDone_none hends c sat, settle_sameBut _⟩,
    fun s hon => ⟨fun h0 => ?refused, fun h0 => ?waits⟩, fun s hon => ⟨fun hst h => ?fix, fun hst h => ?satellite⟩⟩
  case gfe =>
    refine ⟨_, exec_gfeCtrlWrite hon v, ?_⟩
    rw [landGfeCtrl_eq]
    exact ⟨(settle_reg ..).trans (State.reg_setReg ..),
      State.within.onlyRegs_gnss (B := [7]) ((setGnss_within ..).after (State.within.refl.setReg))
        (fun a ha => State.reg_setReg_ne _ _ (List.ne_of_not_mem_cons ha)), settle_gnss _⟩
  case ctrl =>
    refine ⟨_, exec_gnssCtrlWrite hon v, (settle_reg ..).trans (landGnssCtrl_reg v s), fun hv => ?on, fun hv => ?off⟩
    case on =>
      rw [landGnssCtrl_on hv]
      exact settle_sameBut _
    case off =>
      have hst : (s.setReg Reg.GNSS_CTRL (v &&& 0x703)).rxState = s.rxState := State.fld_setReg_ne _ _ _ (by decide)
      rw [landGnssCtrl_off hv, settle_rxState, settle_reg, settle_gnss, rxOff_evt, hst, State.reg_setReg_ne _ _ (by decide)]
      exact ⟨rxOff_rxState _, fun c hc => (settle_gch ..).trans (rxOff_gch _ hc), rfl, rfl⟩
  case check =>
    refine ⟨_, exec_gsclkFreqCheck ht e, ?_⟩
    rw [settle_flag, settle_reg, gsclkChecked_freqErr]
    refine ⟨rfl, gsclkChecked_evt e s, (gsclkChecked_within e s).onlyRegs_gnss (fun a ha => ?_)⟩
    simp only [List.mem_cons, List.not_mem_nil, or_false, not_or] at ha
    exact gsclkChecked_reg e s ha.1 ha.2
  case lost =>
    have hactive : (rxOff ((s.setFlag F.GSCLK_MON_ACTIVE false).bump Reg.GNSS_EVT)).flag F.GSCLK_MON_ACTIVE = false :=
      (State.flag_of_reg (rxOff_reg _ (by decide) (by decide) (by decide))).trans
        ((State.flag_bump_ne _ _ (by decide)).trans (State.flag_setFlag _ _ _ (by decide) rfl))
    have hst : ((s.setFlag F.GSCLK_MON_ACTIVE false).bump Reg.GNSS_EVT).rxState = s.rxState :=
      (State.fld_setRv_ne _ _ _ (by decide)).trans (State.fld_setFlag_apart _ _ (by decide))
    refine ⟨_, exec_gsclkLost ht ha, (settle_flag ..).trans hactive, (settle_rxState _).trans (rxOff_rxState _), ?_⟩
    rw [settle_reg, rxOff_evt, hst, State.reg_bump, State.reg_setFlag_ne _ _ _ (by decide), BitVec.add_assoc]
    split <;> rfl
  case goesOn =>
    refine ⟨_, exec_trackingLoopUpdate hon hc none cn0 taps, ?_⟩
    rw [trackTo_none_on (s := loopsRun c.val taps s) hgo, settle_gch, showTracking_gch]
    exact gchShow_gch _ _ (by decide) _
  case channelLost =>
    refine ⟨_, exec_trackingLoopUpdate hon hc none cn0 taps, ?_⟩
    rw [trackTo_none_lost (s := loopsRun c.val taps s) hlost, settle_reg, settle_reg, showTracking_reg _ Reg.gnssChStatus_ne,
      showTracking_reg _ (by decide)]
    exact ⟨gchLost_status .., gchLost_evt ..⟩
  case refused =>
    rw [exec_holdFixed hon, exec_resurvey hon, landPosCmd_off 1 h0, landPosCmd_off 2 h0]
    exact ⟨⟨_, rfl, settle_sameBut _⟩, ⟨_, rfl, settle_sameBut _⟩⟩
  case waits =>
    rw [exec_holdFixed hon, exec_resurvey hon, landPosCmd_waits h0 (.inl rfl), landPosCmd_waits h0 (.inr rfl)]
    exact ⟨⟨_, rfl, settle_sameBut _⟩, ⟨_, rfl, settle_sameBut _⟩⟩
  case fix =>
    refine ⟨_, exec_fixTimeout hon hst h, ?_⟩
    rw [toAcquire_of_ne (by omega)]
    exact settle_sameBut _
  case satellite =>
    refine ⟨_, exec_noSatelliteTimeout hon hst h, ?_⟩
    rw [toAcquire_of_ne (by omega)]
    exact settle_sameBut _

end Sys2Proof
end

section
/-! The bring-up of an Ethernet port (R221–R228, R241, R242): what a change of state, a latch of the configuration, a lock and its loss leave
of the port's status, its counters and its parts. -/

namespace Sys2Proof.Machine

-- The default arguments of the lemmas wait for the proofs before them: a thread each, where proofs are elaborated side by side.
set_option Elab.async false

/-! ### What is read after a command, and the registers of a port -/

@[simp] theorem settle_prt_ (s : State) (p : Nat) : (settle s).prt_ p = s.prt_ p := by
  unfold State.prt_
  rw [settle_prt]

@[simp] theorem settle_pe_ (s : State) (p : Nat) : (settle s).pe_ p = s.pe_ p := by
  unfold State.pe_
  rw [settle_fab]

@[simp] theorem settle_portState (s : State) (p : Nat) : (settle s).portState p = s.portState p := settle_fld ..

/-- Two registers of one port (or PE) lie at different offsets. -/
theorem Reg.offset_ne {a b k : Nat} (h : a ≠ b := by decide) : a + k ≠ b + k := fun e => h (Nat.add_right_cancel e)

theorem State.prt_of_prt {s t : State} (h : t.prt = s.prt) (p : Nat) : t.prt_ p = s.prt_ p := by
  unfold State.prt_
  rw [h]

theorem State.pe_of_fab {s t : State} (h : t.fab = s.fab) (p : Nat) : t.pe_ p = s.pe_ p := by
  unfold State.pe_
  rw [h]

theorem State.fld_bump_ne (s : State) {a : Nat} (f : Fld) (h : f.addr ≠ a) : (s.bump a).fld f = s.fld f := s.fld_setRv_ne _ f h

/-! ### A change of state, and the locks that fall (R225) -/

section
variable (p : Nat) (s : State)

theorem portTo_state {st : Nat} (h : st < 8) : (portTo p st s).portState p = st :=
  (State.fld_bump_ne _ _ Reg.offset_ne).trans ((State.fld_setFld _ _ _ (show 0 + 3 ≤ 32 by decide)).trans (Nat.mod_eq_of_lt h))

theorem portTo_evt (st : Nat) : (portTo p st s).reg (Reg.PORT_EVT p) = s.reg (Reg.PORT_EVT p) + 1 := by
  rw [portTo, State.reg_bump, State.reg_setFld_ne _ _ _ Reg.offset_ne]

theorem portTo_reg (st : Nat) {a : Nat} (hs : a ≠ Reg.PORT_STATUS p) (he : a ≠ Reg.PORT_EVT p) : (portTo p st s).reg a = s.reg a := by
  rw [portTo, State.reg_bump_ne _ he, State.reg_setFld_ne _ _ _ hs]

/-- The other fields of the status stay. -/
theorem portTo_fld (st : Nat) {l w : Nat} (h : 3 ≤ l := by decide) :
    (portTo p st s).fld ⟨Reg.PORT_STATUS p, l, w⟩ = s.fld ⟨Reg.PORT_STATUS p, l, w⟩ :=
  (State.fld_bump_ne _ _ Reg.offset_ne).trans (State.fld_setFld_apart _ _ (.inr ⟨show 0 + 3 ≤ 32 by decide, .inl h⟩))

theorem portTo_flag (st : Nat) {l : Nat} (h : 3 ≤ l := by decide) :
    (portTo p st s).flag ⟨Reg.PORT_STATUS p, l, 1⟩ = s.flag ⟨Reg.PORT_STATUS p, l, 1⟩ := by
  unfold State.flag
  rw [portTo_fld p s st h]

@[simp] theorem portTo_prt (st : Nat) : (portTo p st s).prt = s.prt := rfl

@[simp] theorem portTo_fab (st : Nat) : (portTo p st s).fab = s.fab := rfl

theorem portUnlock_blockLock : (portUnlock p s).flag (F.PORT_STATUS_BLOCK_LOCK p) = false :=
  (State.flag_setFlag_apart _ _ Fld.apart_within).trans
    ((State.flag_setFlag_apart _ _ Fld.apart_within).trans (State.flag_setFlag _ _ _ (show 7 + 1 ≤ 32 by decide) rfl))

theorem portUnlock_rxcValid : (portUnlock p s).flag (F.PORT_STATUS_RXC_VALID p) = false :=
  State.flag_setFlag _ _ _ (show 11 + 1 ≤ 32 by decide) rfl

theorem portUnlock_reg {a : Nat} (hs : a ≠ Reg.PORT_STATUS p) : (portUnlock p s).reg a = s.reg a := by
  rw [portUnlock, State.reg_setFlag_ne _ _ _ hs, State.reg_setFlag_ne _ _ _ hs, State.reg_setFlag_ne _ _ _ hs]

theorem portUnlock_localFault : (portUnlock p s).flag (F.PORT_STATUS_LOCAL_FAULT p) = s.flag (F.PORT_STATUS_LOCAL_FAULT p) :=
  (State.flag_setFlag_apart _ _ Fld.apart_within).trans
    ((State.flag_setFlag_apart _ _ Fld.apart_within).trans (State.flag_setFlag_apart _ _ Fld.apart_within))

@[simp] theorem portUnlock_prt : (portUnlock p s).prt = s.prt := by
  rw [portUnlock, State.setFlag_prt, State.setFlag_prt, State.setFlag_prt]

@[simp] theorem portUnlock_fab : (portUnlock p s).fab = s.fab := by
  rw [portUnlock, State.setFlag_fab, State.setFlag_fab, State.setFlag_fab]

/-! ### The configuration comes into force (R221, R242) -/

theorem showCal_reg {a : Nat} (hs : a ≠ Reg.PORT_STATUS p) : (showCal p s).reg a = s.reg a := State.reg_setFlag_ne _ _ _ hs

theorem showCal_fld {l w : Nat} (h : l + w ≤ 13) : (showCal p s).fld ⟨Reg.PORT_STATUS p, l, w⟩ = s.fld ⟨Reg.PORT_STATUS p, l, w⟩ :=
  State.fld_setFlag_apart _ _ (.inr ⟨show 13 + 1 ≤ 32 by decide, .inr h⟩)

theorem portLatch_reg {a : Nat} (hs : a ≠ Reg.PORT_STATUS p) : (portLatch p s).reg a = s.reg a := by
  unfold portLatch
  extract_lets c _ s1 m fec
  split
  · rfl
  · rw [showCal_reg p _ hs, State.reg_setFld_ne _ _ _ hs, State.reg_setFld_ne _ _ _ hs]
    rfl

/-- Of the status a latch changes just the resolved mode, the FEC and whether the constants are valid. -/
theorem portLatch_fld {l w : Nat} (h : l + w ≤ 3 ∨ 7 ≤ l ∧ l + w ≤ 13) :
    (portLatch p s).fld ⟨Reg.PORT_STATUS p, l, w⟩ = s.fld ⟨Reg.PORT_STATUS p, l, w⟩ := by
  have hmode : (F.PORT_STATUS_MODE_RES p).apart ⟨Reg.PORT_STATUS p, l, w⟩ := .inr ⟨show 3 + 2 ≤ 32 by decide, by dsimp only; omega⟩
  have hfec : (F.PORT_STATUS_FEC_RES p).apart ⟨Reg.PORT_STATUS p, l, w⟩ := .inr ⟨show 5 + 2 ≤ 32 by decide, by dsimp only; omega⟩
  unfold portLatch
  extract_lets c _ s1 m fec
  split
  · rfl
  · rw [showCal_fld p _ (by omega), State.fld_setFld_apart _ _ hfec, State.fld_setFld_apart _ _ hmode]
    rfl

theorem portLatch_prt_ : (portLatch p s).prt_ p = { s.prt_ p with cfg := s.rv (Reg.PORT_CFG p) } := by
  unfold portLatch
  extract_lets c _ s1 m fec
  have h1 : s1.prt_ p = { s.prt_ p with cfg := c } := State.prt__setPrt ..
  split
  · exact h1
  · exact h1

@[simp] theorem portLatch_fab : (portLatch p s).fab = s.fab := by
  unfold portLatch
  extract_lets c _ s1 m fec
  split
  · rfl
  · rfl

theorem portLatch_state : (portLatch p s).portState p = s.portState p := portLatch_fld p s (l := 0) (w := 3) (.inl (by decide))

/-! ### LOCKING, and the start of bring-up (R225) -/

theorem portLocking_state : (portLocking p s).portState p = 3 := portTo_state p _ (by decide)

theorem portLocking_evt : (portLocking p s).reg (Reg.PORT_EVT p) = s.reg (Reg.PORT_EVT p) + 1 := by
  rw [portLocking, portTo_evt, portUnlock_reg p _ Reg.offset_ne, portLatch_reg p _ Reg.offset_ne]

theorem portLocking_reg {a : Nat} (hs : a ≠ Reg.PORT_STATUS p) (he : a ≠ Reg.PORT_EVT p) : (portLocking p s).reg a = s.reg a := by
  rw [portLocking, portTo_reg p _ _ hs he, portUnlock_reg p _ hs, portLatch_reg p _ hs]

theorem portLocking_rxcValid : (portLocking p s).flag (F.PORT_STATUS_RXC_VALID p) = false :=
  (portTo_flag p _ 3).trans (portUnlock_rxcValid p _)

theorem portLocking_localFault : (portLocking p s).flag (F.PORT_STATUS_LOCAL_FAULT p) = s.flag (F.PORT_STATUS_LOCAL_FAULT p) := by
  have hlatch := portLatch_fld p s (l := 9) (w := 1) (.inr (by decide))
  unfold State.flag at *
  rw [← hlatch]
  exact (portTo_flag p _ 3).trans (portUnlock_localFault p _)

theorem portLocking_prt_ : (portLocking p s).prt_ p = { s.prt_ p with cfg := s.rv (Reg.PORT_CFG p) } := by
  rw [portLocking, State.prt_of_prt (portTo_prt ..), State.prt_of_prt (portUnlock_prt ..), portLatch_prt_]

@[simp] theorem portLocking_fab : (portLocking p s).fab = s.fab := by
  rw [portLocking, portTo_fab, portUnlock_fab, portLatch_fab]

/-- Bring-up begins in AN where the configuration enables it. -/
theorem portStart_state : (portStart p s).portState p = if s.flag (F.PORT_CFG_AN_EN p) then 1 else 3 := by
  have hen : (portUnlock p (portLatch p s)).portCfg p F.PORT_CFG_AN_EN = s.fld (F.PORT_CFG_AN_EN p) := by
    rw [State.portCfg, State.prt_of_prt (portUnlock_prt ..), portLatch_prt_, State.fld]
  unfold portStart
  extract_lets s1
  rw [portTo_state p s1 (by split <;> decide), hen]
  simp only [State.flag, beq_iff_eq]

theorem portStart_evt : (portStart p s).reg (Reg.PORT_EVT p) = s.reg (Reg.PORT_EVT p) + 1 := by
  rw [portStart, portTo_evt, portUnlock_reg p _ Reg.offset_ne, portLatch_reg p _ Reg.offset_ne]

theorem portStart_reg {a : Nat} (hs : a ≠ Reg.PORT_STATUS p) (he : a ≠ Reg.PORT_EVT p) : (portStart p s).reg a = s.reg a := by
  rw [portStart, portTo_reg p _ _ hs he, portUnlock_reg p _ hs, portLatch_reg p _ hs]

theorem portStart_rxcValid : (portStart p s).flag (F.PORT_STATUS_RXC_VALID p) = false :=
  (portTo_flag p _ _).trans (portUnlock_rxcValid p _)

/-! ### A local fault, and errors that count (R227, R242) -/

theorem localFault_flag (on : Bool) : (localFault p on s).flag (F.PORT_STATUS_LOCAL_FAULT p) = on := by
  unfold localFault
  split
  case isTrue h => exact h
  case isFalse => rw [State.emit_flag, State.flag_setFlag _ _ _ (show 9 + 1 ≤ 32 by decide) rfl]

theorem localFault_fld (on : Bool) {l w : Nat} (h : l + w ≤ 9 ∨ 10 ≤ l := by decide) :
    (localFault p on s).fld ⟨Reg.PORT_STATUS p, l, w⟩ = s.fld ⟨Reg.PORT_STATUS p, l, w⟩ := by
  unfold localFault
  split
  · rfl
  · rw [State.emit_fld]
    exact State.fld_setFlag_apart _ _ (.inr ⟨show 9 + 1 ≤ 32 by decide, h.symm⟩)

theorem localFault_reg (on : Bool) {a : Nat} (hs : a ≠ Reg.PORT_STATUS p) : (localFault p on s).reg a = s.reg a := by
  unfold localFault
  split
  · rfl
  · rw [State.emit_reg, State.reg_setFlag_ne _ _ _ hs]

@[simp] theorem localFault_fab (on : Bool) : (localFault p on s).fab = s.fab := by
  unfold localFault
  split
  · rfl
  · rfl

/-- A local fault that begins is told to the partner. -/
theorem localFault_begins (h : s.flag (F.PORT_STATUS_LOCAL_FAULT p) = false) : Out.remoteFault p true ∈ (localFault p true s).out := by
  have he : localFault p true s = (s.setFlag (F.PORT_STATUS_LOCAL_FAULT p) true).emit (.remoteFault p true) := if_neg (by simp [h])
  rw [he]
  exact List.mem_append_right _ (List.mem_singleton.mpr rfl)

theorem portErrs_rv {a : Nat} (n : Nat) (ha : a ≠ Reg.ERR_EVT p) : (portErrs p a n s).rv a = min (2 ^ 32 - 1) (s.rv a + n) := by
  rw [portErrs, State.rv_setRv_ne _ _ ha, State.rv_setRv, Nat.mod_eq_of_lt (by omega)]

theorem portErrs_reg {a b : Nat} (n : Nat) (hb : b ≠ a) (he : b ≠ Reg.ERR_EVT p) : (portErrs p a n s).reg b = s.reg b := by
  rw [portErrs, State.reg_setRv_ne _ _ he, State.reg_setRv_ne _ _ hb]

@[simp] theorem portErrs_fab (a n : Nat) : (portErrs p a n s).fab = s.fab := rfl

/-! ### A lock and its loss (R225) -/

/-- The port once its lock conditions are met, `gear` being the gearbox offset found. -/
def linkShown (p gear : Nat) (s : State) : State :=
  let s1 := (s.setFlag (F.PORT_STATUS_BLOCK_LOCK p) true).setFlag (F.PORT_STATUS_FEC_LOCK p) (s.fld (F.PORT_STATUS_FEC_RES p) != 0)
  let s2 := (localFault p false s1).setFld ⟨Reg.PORT_RX_PHASE p, 16, 7⟩ gear
  (portTo p 4 s2).setFlag (F.PORT_STATUS_RXC_VALID p) true

theorem linkShown_state (gear : Nat) : (linkShown p gear s).portState p = 4 :=
  (State.fld_setFlag_apart _ _ Fld.apart_within).trans (portTo_state p _ (by decide))

/-- The locks are shown before the change of state, which leaves them. -/
theorem linkShown_lock (gear : Nat) {l : Nat} (h : l = 7 ∨ l = 8) : (linkShown p gear s).flag ⟨Reg.PORT_STATUS p, l, 1⟩ =
    ((s.setFlag (F.PORT_STATUS_BLOCK_LOCK p) true).setFlag (F.PORT_STATUS_FEC_LOCK p) (s.fld (F.PORT_STATUS_FEC_RES p) != 0)).flag
      ⟨Reg.PORT_STATUS p, l, 1⟩ := by
  unfold linkShown
  extract_lets s1 s2
  have hfault : (localFault p false s1).flag ⟨Reg.PORT_STATUS p, l, 1⟩ = s1.flag ⟨Reg.PORT_STATUS p, l, 1⟩ :=
    congrArg (· == 1) (localFault_fld p s1 false (by omega))
  rw [State.flag_setFlag_apart _ _ (.inr ⟨show 11 + 1 ≤ 32 by decide, .inr (by dsimp only; omega)⟩), portTo_flag p s2 4 (by omega),
    State.flag_setFld_apart _ _ (.inl Reg.offset_ne), hfault]

theorem linkShown_blockLock (gear : Nat) : (linkShown p gear s).flag (F.PORT_STATUS_BLOCK_LOCK p) = true :=
  (linkShown_lock p s gear (.inl rfl)).trans
    ((State.flag_setFlag_apart _ _ Fld.apart_within).trans (State.flag_setFlag _ _ _ (show 7 + 1 ≤ 32 by decide) rfl))

theorem linkShown_fecLock (gear : Nat) :
    (linkShown p gear s).flag (F.PORT_STATUS_FEC_LOCK p) = (s.fld (F.PORT_STATUS_FEC_RES p) != 0) :=
  (linkShown_lock p s gear (.inr rfl)).trans (State.flag_setFlag _ _ _ (show 8 + 1 ≤ 32 by decide) rfl)

theorem linkShown_rxcValid (gear : Nat) : (linkShown p gear s).flag (F.PORT_STATUS_RXC_VALID p) = true :=
  State.flag_setFlag _ _ _ (show 11 + 1 ≤ 32 by decide) rfl

theorem linkShown_gearbox {gear : Nat} (h : gear < 128) : (linkShown p gear s).fld (F.PORT_RX_PHASE_GEARBOX p) = gear := by
  have hstatus : (F.PORT_RX_PHASE_GEARBOX p).addr ≠ Reg.PORT_STATUS p := Reg.offset_ne
  have hevt : (F.PORT_RX_PHASE_GEARBOX p).addr ≠ Reg.PORT_EVT p := Reg.offset_ne
  unfold linkShown
  extract_lets s1 s2
  rw [State.fld_of_reg (State.reg_setFlag_ne _ _ _ hstatus), State.fld_of_reg (portTo_reg p s2 4 hstatus hevt),
    State.fld_setFld _ _ _ (show 16 + 7 ≤ 32 by decide)]
  exact Nat.mod_eq_of_lt h

theorem linkShown_reg (gear : Nat) {a : Nat} (hs : a ≠ Reg.PORT_STATUS p) (hg : a ≠ Reg.PORT_RX_PHASE p) (he : a ≠ Reg.PORT_EVT p) :
    (linkShown p gear s).reg a = s.reg a := by
  unfold linkShown
  extract_lets s1 s2
  rw [State.reg_setFlag_ne _ _ _ hs, portTo_reg p s2 4 hs he, State.reg_setFld_ne _ _ _ hg, localFault_reg p s1 false hs,
    State.reg_setFlag_ne _ _ _ hs, State.reg_setFlag_ne _ _ _ hs]

variable {p} in
theorem linkShown_within (hp : p < 4) (gear : Nat) : (linkShown p gear s).within s [0x200 + p] [.out] := by
  have hlocks : ((s.setFlag (F.PORT_STATUS_BLOCK_LOCK p) true).setFlag (F.PORT_STATUS_FEC_LOCK p)
      (s.fld (F.PORT_STATUS_FEC_RES p) != 0)).within s [0x200 + p] [.out] :=
    (State.within.refl.setFlag (portStatus_area hp)).setFlag (portStatus_area hp)
  have hgear : regArea (Reg.PORT_RX_PHASE p) ∈ [0x200 + p] := portReg_area hp (by simp only [Reg.PORT_RX_PHASE]; omega)
  exact (State.within.step (portTo_within hp 4 _)
    ((State.within.step (localFault_within hp false _) hlocks (by simp)).setFld hgear) (by simp)).setFlag (portStatus_area hp)

@[simp] theorem cutFrames_reg (a : Nat) : (cutFrames p s).reg a = s.reg a := rfl

/-- No frame is being released and none waits. -/
theorem cutFrames_pe_ : ((cutFrames p s).pe_ p).cur = none ∧ ((cutFrames p s).pe_ p).rx = [] := by
  unfold cutFrames
  rw [State.pe__setPe]
  exact ⟨rfl, rfl⟩

/-- The port back in LOCKING: what the loss of block lock (`block`) or of FEC lock (`fec`) leaves of its locks. -/
def lossShown (p : Nat) (block fec : Bool) (s : State) : State :=
  let s1 := portLocking p (cutFrames p s)
  (s1.setFlag (F.PORT_STATUS_BLOCK_LOCK p) (!block)).setFlag (F.PORT_STATUS_FEC_LOCK p) (!fec && s1.fld (F.PORT_STATUS_FEC_RES p) != 0)

/-- Frames that a loss discards: one in progress at the receive MAC (`frame`) or on its way into the engine. -/
def State.framesLost (s : State) (p : Nat) (frame : Bool) : Nat :=
  if frame || (s.pe_ p).cur.isSome || !(s.pe_ p).rx.isEmpty then 1 else 0

/-- The port after the loss of its link. -/
def linkLost (p : Nat) (block fec fault frame : Bool) (s : State) : State :=
  portErrs p (Reg.RX_CODE_ERR p) (s.framesLost p frame) (localFault p fault (lossShown p block fec s))

theorem State.framesLost_eq (frame : Bool) :
    s.framesLost p frame = if frame = true ∨ (s.pe_ p).cur ≠ none ∨ (s.pe_ p).rx ≠ [] then 1 else 0 := by
  have hb : (frame || (s.pe_ p).cur.isSome || !(s.pe_ p).rx.isEmpty) = true ↔ frame = true ∨ (s.pe_ p).cur ≠ none ∨ (s.pe_ p).rx ≠ [] := by
    simp [Option.isSome_iff_ne_none, or_assoc]
  unfold State.framesLost
  simp only [hb]

theorem lossShown_reg (block fec : Bool) {a : Nat} (hs : a ≠ Reg.PORT_STATUS p) (he : a ≠ Reg.PORT_EVT p) :
    (lossShown p block fec s).reg a = s.reg a := by
  unfold lossShown
  extract_lets s1
  rw [State.reg_setFlag_ne _ _ _ hs, State.reg_setFlag_ne _ _ _ hs, portLocking_reg p _ hs he, cutFrames_reg]

theorem lossShown_evt (block fec : Bool) : (lossShown p block fec s).reg (Reg.PORT_EVT p) = s.reg (Reg.PORT_EVT p) + 1 := by
  unfold lossShown
  extract_lets s1
  rw [State.reg_setFlag_ne _ _ _ Reg.offset_ne, State.reg_setFlag_ne _ _ _ Reg.offset_ne, portLocking_evt, cutFrames_reg]

/-- Fields of the status apart from the two locks are those of a port that has entered LOCKING. -/
theorem lossShown_fld (block fec : Bool) {l w : Nat} (h : l + w ≤ 7 ∨ 9 ≤ l := by decide) :
    (lossShown p block fec s).fld ⟨Reg.PORT_STATUS p, l, w⟩ = (portLocking p (cutFrames p s)).fld ⟨Reg.PORT_STATUS p, l, w⟩ := by
  unfold lossShown
  extract_lets s1
  rw [State.fld_setFlag_apart _ _ (.inr ⟨show 8 + 1 ≤ 32 by decide, by dsimp only; omega⟩),
    State.fld_setFlag_apart _ _ (.inr ⟨show 7 + 1 ≤ 32 by decide, by dsimp only; omega⟩)]

theorem lossShown_blockLock (block fec : Bool) : (lossShown p block fec s).flag (F.PORT_STATUS_BLOCK_LOCK p) = !block :=
  (State.flag_setFlag_apart _ _ Fld.apart_within).trans (State.flag_setFlag _ _ _ (show 7 + 1 ≤ 32 by decide) rfl)

theorem lossShown_localFault (block fec : Bool) :
    (lossShown p block fec s).flag (F.PORT_STATUS_LOCAL_FAULT p) = s.flag (F.PORT_STATUS_LOCAL_FAULT p) :=
  (congrArg (· == 1) (lossShown_fld p s block fec)).trans (portLocking_localFault p _)

theorem linkLost_fld (block fec fault frame : Bool) {l w : Nat} (h : l + w ≤ 9 ∨ 10 ≤ l := by decide) :
    (linkLost p block fec fault frame s).fld ⟨Reg.PORT_STATUS p, l, w⟩ = (lossShown p block fec s).fld ⟨Reg.PORT_STATUS p, l, w⟩ :=
  (State.fld_of_reg (portErrs_reg p _ _ Reg.offset_ne Reg.offset_ne)).trans (localFault_fld p _ fault h)

theorem linkLost_state (block fec fault frame : Bool) : (linkLost p block fec fault frame s).portState p = 3 :=
  (linkLost_fld p s block fec fault frame).trans ((lossShown_fld p s block fec).trans (portLocking_state p _))

theorem linkLost_blockLock (block fec fault frame : Bool) : (linkLost p block fec fault frame s).flag (F.PORT_STATUS_BLOCK_LOCK p) = !block :=
  (congrArg (· == 1) (linkLost_fld p s block fec fault frame)).trans (lossShown_blockLock p s block fec)

theorem linkLost_rxcValid (block fec fault frame : Bool) : (linkLost p block fec fault frame s).flag (F.PORT_STATUS_RXC_VALID p) = false :=
  (congrArg (· == 1) ((linkLost_fld p s block fec fault frame).trans (lossShown_fld p s block fec))).trans (portLocking_rxcValid p _)

theorem linkLost_localFault (block fec fault frame : Bool) :
    (linkLost p block fec fault frame s).flag (F.PORT_STATUS_LOCAL_FAULT p) = fault :=
  (State.flag_of_reg (portErrs_reg p _ _ Reg.offset_ne Reg.offset_ne)).trans (localFault_flag p _ fault)

theorem linkLost_evt (block fec fault frame : Bool) :
    (linkLost p block fec fault frame s).reg (Reg.PORT_EVT p) = s.reg (Reg.PORT_EVT p) + 1 := by
  rw [linkLost, portErrs_reg p _ _ Reg.offset_ne Reg.offset_ne, localFault_reg p _ _ Reg.offset_ne, lossShown_evt]

theorem linkLost_codeErr (block fec fault frame : Bool) : (linkLost p block fec fault frame s).rv (Reg.RX_CODE_ERR p) =
    min (2 ^ 32 - 1) (s.rv (Reg.RX_CODE_ERR p) + s.framesLost p frame) := by
  rw [linkLost, portErrs_rv p _ _ Reg.offset_ne, State.rv_of_reg (localFault_reg p _ fault Reg.offset_ne),
    State.rv_of_reg (lossShown_reg p s block fec Reg.offset_ne Reg.offset_ne)]

theorem linkLost_tells (block fec frame : Bool) (h : s.flag (F.PORT_STATUS_LOCAL_FAULT p) = false) :
    Out.remoteFault p true ∈ (linkLost p block fec true frame s).out :=
  localFault_begins p (lossShown p block fec s) ((lossShown_localFault p s block fec).trans h)

theorem lossShown_fab (block fec : Bool) : (lossShown p block fec s).fab = (cutFrames p s).fab := by
  unfold lossShown
  extract_lets s1
  rw [State.setFlag_fab, State.setFlag_fab, portLocking_fab]

/-- The engine is left with no frame of the port. -/
theorem linkLost_pe_ (block fec fault frame : Bool) :
    ((linkLost p block fec fault frame s).pe_ p).rx = [] ∧ ((linkLost p block fec fault frame s).pe_ p).cur = none := by
  have hfab : (linkLost p block fec fault frame s).fab = (cutFrames p s).fab := by
    rw [linkLost, portErrs_fab, localFault_fab, lossShown_fab]
  rw [State.pe_of_fab hfab]
  exact ⟨(cutFrames_pe_ p s).2, (cutFrames_pe_ p s).1⟩

/-! ### RESTART and RETRAIN (R225, R228) -/

/-- A restart of a port that is not DISABLED. -/
theorem portRestart_leaves (h : s.portState p ≠ 0) : (portRestart p s).portState p = (if s.flag (F.PORT_CFG_AN_EN p) then 1 else 3) ∧
    (portRestart p s).flag (F.TRAIN_COEF_VALID p) = false ∧ (portRestart p s).flag (F.PORT_STATUS_RXC_VALID p) = false ∧
    (portRestart p s).reg (Reg.PORT_EVT p) = s.reg (Reg.PORT_EVT p) + 1 := by
  unfold portRestart
  rw [if_neg h]
  extract_lets s1
  generalize { s1.prt_ p with offer := none } = part
  have hreg : ∀ a, a ≠ Reg.TRAIN_COEF p → (s1.setPrt p part).reg a = s.reg a := fun a ha => by
    rw [State.setPrt_reg, State.reg_setFlag_ne _ _ _ ha, cutFrames_reg]
  refine ⟨?_, ?_, portStart_rxcValid .., ?_⟩
  · rw [portStart_state, State.flag_of_reg (hreg _ Reg.offset_ne)]
  · rw [State.flag_of_reg (portStart_reg p _ Reg.offset_ne Reg.offset_ne), State.setPrt_flag,
      State.flag_setFlag _ _ _ (show 24 + 1 ≤ 32 by decide) rfl]
  · rw [portStart_evt, hreg _ Reg.offset_ne]

theorem portRestart_disabled (h : s.portState p = 0) : portRestart p s = s := if_pos h

theorem portRetrain_taken (h4 : s.portState p = 4) (hm : s.fld (F.PORT_STATUS_MODE_RES p) ≤ 1) (ht : s.portCfg p F.PORT_CFG_TRAIN_EN = 1) :
    portRetrain p s = portTo p 2 (portUnlock p (cutFrames p s)) := if_pos (by simp [h4, hm, ht])

theorem portRetrain_refused (h : s.portState p ≠ 4 ∨ 2 ≤ s.fld (F.PORT_STATUS_MODE_RES p) ∨ s.portCfg p F.PORT_CFG_TRAIN_EN = 0) :
    portRetrain p s = s.bump16 (Reg.PORT_CMD_REF p) := by
  refine if_neg fun hc => ?_
  simp only [Bool.and_eq_true, decide_eq_true_eq] at hc
  omega

theorem landPortCmd_restart : landPortCmd p 1 s = portRestart p s := if_pos rfl

theorem landPortCmd_retrain : landPortCmd p 2 s = portRetrain p s := (if_neg (by decide)).trans (if_pos rfl)

/-! ### Auto-negotiation and training (R223, R224) -/

/-- The mode and the FEC that the port resolves with the partner's advertisement `lp`. -/
def State.anResult (s : State) (p lp : Nat) : Option (Nat × Nat) :=
  if portMode (s.portCfg p F.PORT_CFG_MODE) = 2 then some (2, 0)
  else anResolve (portMode (s.portCfg p F.PORT_CFG_MODE)) (s.portCfg p F.PORT_CFG_FEC_ALLOW) (s.rv (Reg.PORT_AN_ADV p)) lp

/-- The port with the partner's page stored. -/
def anPaged (p lp : Nat) (s : State) : State := s.setRv (Reg.PORT_AN_LP p) ((lp &&& 0x33) ||| 0x100)

/-- The port with its result shown. -/
def anShown (p lp m fec : Nat) (s : State) : State :=
  showCal p (((anPaged p lp s).setFld (F.PORT_STATUS_MODE_RES p) m).setFld (F.PORT_STATUS_FEC_RES p) fec)

variable {p s} {lp m fec : Nat}

/-- The FEC resolved is one of three. -/
theorem State.anResult_fec (h : s.anResult p lp = some (m, fec)) : fec < 4 := by
  unfold State.anResult anResolve at h
  simp only at h
  split_ifs at h <;> (injection h with h; injection h; omega)

theorem anComplete_none (h : s.anResult p lp = none) : anComplete p lp s = (anPaged p lp s).bump (Reg.PORT_EVT p) := by
  unfold State.anResult at h
  unfold anComplete
  simp only [h]
  rfl

/-- What is shown leaves the configuration in force. -/
theorem anShown_portCfg (f : Nat → Fld) : (showCal p (((s.setRv (Reg.PORT_AN_LP p) ((lp &&& 0x33) ||| 0x100)).setFld
    (F.PORT_STATUS_MODE_RES p) m).setFld (F.PORT_STATUS_FEC_RES p) fec)).portCfg p f = s.portCfg p f := rfl

theorem anComplete_train (h : s.anResult p lp = some (m, fec)) (ht : m ≤ 1 ∧ s.portCfg p F.PORT_CFG_TRAIN_EN = 1) :
    anComplete p lp s = portTo p 2 (anShown p lp m fec s) := by
  unfold State.anResult at h
  unfold anComplete
  simp only [h]
  refine if_pos ?_
  rwa [Bool.and_eq_true, decide_eq_true_eq, decide_eq_true_eq, anShown_portCfg]

theorem anComplete_lock (h : s.anResult p lp = some (m, fec)) (ht : ¬ (m ≤ 1 ∧ s.portCfg p F.PORT_CFG_TRAIN_EN = 1)) :
    anComplete p lp s = portLocking p (anShown p lp m fec s) := by
  unfold State.anResult at h
  unfold anComplete
  simp only [h]
  refine if_neg ?_
  rwa [Bool.and_eq_true, decide_eq_true_eq, decide_eq_true_eq, anShown_portCfg]

theorem anShown_reg {a : Nat} (hs : a ≠ Reg.PORT_STATUS p) : (anShown p lp m fec s).reg a = (anPaged p lp s).reg a := by
  rw [anShown, showCal_reg p _ hs, State.reg_setFld_ne _ _ _ hs, State.reg_setFld_ne _ _ _ hs]

theorem anShown_mode (hm : m < 4) : (anShown p lp m fec s).fld (F.PORT_STATUS_MODE_RES p) = m :=
  (showCal_fld p _ (by decide)).trans ((State.fld_setFld_apart _ _ Fld.apart_within).trans
    ((State.fld_setFld _ _ _ (show 3 + 2 ≤ 32 by decide)).trans (Nat.mod_eq_of_lt hm)))

theorem anShown_fec (hf : fec < 4) : (anShown p lp m fec s).fld (F.PORT_STATUS_FEC_RES p) = fec :=
  (showCal_fld p _ (by decide)).trans ((State.fld_setFld _ _ _ (show 5 + 2 ≤ 32 by decide)).trans (Nat.mod_eq_of_lt hf))

theorem anPaged_page (lp : Fin 64) : (anPaged p lp.val s).rv (Reg.PORT_AN_LP p) = (lp.val &&& 0x33) ||| 0x100 := by
  have hlt : ∀ l : Fin 64, (l.val &&& 0x33) ||| 0x100 < 2 ^ 32 := by decide
  rw [anPaged, State.rv_setRv, Nat.mod_eq_of_lt (hlt lp)]

theorem anPaged_reg {a : Nat} (h : a ≠ Reg.PORT_AN_LP p) : (anPaged p lp s).reg a = s.reg a := State.reg_setRv_ne _ _ h

/-- Whatever is resolved, the page is stored and the change or the restart counts. -/
theorem anComplete_counts (lp : Fin 64) : (anComplete p lp.val s).rv (Reg.PORT_AN_LP p) = (lp.val &&& 0x33) ||| 0x100 ∧
    (anComplete p lp.val s).reg (Reg.PORT_EVT p) = s.reg (Reg.PORT_EVT p) + 1 := by
  have hevt : (anPaged p lp.val s).reg (Reg.PORT_EVT p) = s.reg (Reg.PORT_EVT p) := anPaged_reg Reg.offset_ne
  have hlp := Reg.offset_ne (a := 0x80014) (b := 0x80004) (k := 0x1000 * p)
  have hlp' := Reg.offset_ne (a := 0x80014) (b := 0x8006c) (k := 0x1000 * p)
  have hstatus := Reg.offset_ne (a := 0x8006c) (b := 0x80004) (k := 0x1000 * p)
  cases hr : s.anResult p lp.val with
  | none =>
    rw [anComplete_none hr, State.rv_of_reg (State.reg_bump_ne _ hlp'), State.reg_bump, hevt]
    exact ⟨anPaged_page lp, rfl⟩
  | some r =>
    by_cases ht : r.1 ≤ 1 ∧ s.portCfg p F.PORT_CFG_TRAIN_EN = 1
    · rw [anComplete_train hr ht, State.rv_of_reg (portTo_reg p _ 2 hlp hlp'), portTo_evt, State.rv_of_reg (anShown_reg hlp),
        anShown_reg hstatus, hevt]
      exact ⟨anPaged_page lp, rfl⟩
    · rw [anComplete_lock hr ht, State.rv_of_reg (portLocking_reg p _ hlp hlp'), portLocking_evt, State.rv_of_reg (anShown_reg hlp),
        anShown_reg hstatus, hevt]
      exact ⟨anPaged_page lp, rfl⟩

/-- A completed training stores what it found, and the port locks. -/
theorem trainDone_leaves {coef : Nat} (h : coef < 2 ^ 24) : (trainDone p coef s).portState p = 3 ∧
    (trainDone p coef s).rv (Reg.TRAIN_COEF p) = coef + 2 ^ 24 ∧ ((trainDone p coef s).prt_ p).rxEq = some ((trainDone p coef s).prt_ p).eq ∧
    ((trainDone p coef s).prt_ p).offer = none ∧ (trainDone p coef s).reg (Reg.PORT_EVT p) = s.reg (Reg.PORT_EVT p) + 1 := by
  generalize hu : ((s.draw.2.setPrt p { s.draw.2.prt_ p with eq := s.draw.1, rxEq := some s.draw.1, offer := none }).setRv
    (Reg.TRAIN_COEF p) (coef + 2 ^ 24)) = u
  have hdone : trainDone p coef s = portLocking p u := congrArg (portLocking p) hu
  have hprt : u.prt_ p = { s.draw.2.prt_ p with eq := s.draw.1, rxEq := some s.draw.1, offer := none } := by
    rw [← hu, State.prt_of_prt (State.setRv_prt ..), State.prt__setPrt]
  have hcoef : u.rv (Reg.TRAIN_COEF p) = coef + 2 ^ 24 := by rw [← hu, State.rv_setRv, Nat.mod_eq_of_lt (by omega)]
  have hevt : u.reg (Reg.PORT_EVT p) = s.reg (Reg.PORT_EVT p) := by
    rw [← hu, State.reg_setRv_ne _ _ Reg.offset_ne, State.setPrt_reg]
    rfl
  rw [hdone, portLocking_prt_, hprt, portLocking_evt, hevt, State.rv_of_reg (portLocking_reg p _ Reg.offset_ne Reg.offset_ne), hcoef]
  exact ⟨portLocking_state .., rfl, rfl, rfl, rfl⟩

/-! ### The commands -/

theorem landPortCfg_waits {v : Word} (h : (s.rat.xfers.any (fun x => x.addr == Reg.PORT_CFG p) ||
    (v &&& 0xffff137f).toNat % 32 != s.rv (Reg.PORT_CFG p) % 32) = true) :
    landPortCfg p v s = s.askXfer (Reg.PORT_CFG p) (v &&& 0xffff137f) := if_pos h

theorem landPortCfg_stored {v : Word} (h : (s.rat.xfers.any (fun x => x.addr == Reg.PORT_CFG p) ||
    (v &&& 0xffff137f).toNat % 32 != s.rv (Reg.PORT_CFG p) % 32) = false) :
    landPortCfg p v s = s.setReg (Reg.PORT_CFG p) (v &&& 0xffff137f) := if_neg (by simp only [h, Bool.false_eq_true, not_false_eq_true])

theorem whenPort_of {st : Nat} (hf : s.fclkOn = true) (hst : s.portState p = st) (f : State → State) : whenPort p st f s = f s :=
  if_pos (by simp [hf, hst])

end

section
variable {p : Fin 4} {s : State}

theorem exec_portCfgWrite (hon : s.blockOn 8 = true) (v : Word) : exec (.portCfgWrite p v) s = .next (settle (landPortCfg p.val v s)) :=
  congrArg fin (whenOn_of_blockOn hon _)

theorem exec_portRestart (hon : s.blockOn 8 = true) : exec (.portRestart p) s = .next (settle (portRestart p.val s)) :=
  congrArg fin ((whenOn_of_blockOn hon _).trans (landPortCmd_restart ..))

theorem exec_portRetrain (hon : s.blockOn 8 = true) : exec (.portRetrain p) s = .next (settle (portRetrain p.val s)) :=
  congrArg fin ((whenOn_of_blockOn hon _).trans (landPortCmd_retrain ..))

theorem exec_anComplete (hf : s.fclkOn = true) (h : s.portState p.val = 1) (lp : Fin 64) :
    exec (.anComplete p lp) s = .next (settle (anComplete p.val lp.val s)) := congrArg fin (whenPort_of hf h _)

theorem exec_trainComplete (hf : s.fclkOn = true) (h : s.portState p.val = 2) (pre main post : Fin 64) :
    exec (.trainComplete p pre main post) s =
      .next (settle (trainDone p.val (pre.val + 2 ^ 8 * main.val + 2 ^ 16 * post.val) s)) := congrArg fin (whenPort_of hf h _)

theorem exec_trainTimeout_an (hf : s.fclkOn = true) (h : s.portState p.val = 2) (hen : s.portCfg p.val F.PORT_CFG_AN_EN = 1) :
    exec (.trainTimeout p) s = .next (settle (portStart p.val s)) := congrArg fin ((whenPort_of hf h _).trans (if_pos hen))

theorem exec_trainTimeout_again (hf : s.fclkOn = true) (h : s.portState p.val = 2) (hen : s.portCfg p.val F.PORT_CFG_AN_EN ≠ 1) :
    exec (.trainTimeout p) s = .next (settle (s.bump (Reg.PORT_EVT p.val))) := congrArg fin ((whenPort_of hf h _).trans (if_neg hen))

theorem exec_linkUp (hf : s.fclkOn = true) (h : s.portState p.val = 3) (gear : Fin 128) :
    exec (.linkUp p gear) s = .next (settle (linkShown p.val gear.val s)) := congrArg fin (whenPort_of hf h _)

theorem exec_lockingTimeout_an (hf : s.fclkOn = true) (h : s.portState p.val = 3) (hen : s.portCfg p.val F.PORT_CFG_AN_EN = 1) :
    exec (.lockingTimeout p) s = .next (settle (portStart p.val s)) := congrArg fin ((whenPort_of hf h _).trans (if_pos hen))

theorem exec_lockingTimeout_again (hf : s.fclkOn = true) (h : s.portState p.val = 3) (hen : s.portCfg p.val F.PORT_CFG_AN_EN ≠ 1) :
    exec (.lockingTimeout p) s = .next (settle ((portLatch p.val s).bump (Reg.PORT_EVT p.val))) :=
  congrArg fin ((whenPort_of hf h _).trans (if_neg hen))

theorem exec_linkLoss (hf : s.fclkOn = true) (h : s.portState p.val = 4) (block fec fault frame : Bool) :
    exec (.linkLoss p block fec fault frame) s = .next (settle (linkLost p.val block fec fault frame s)) :=
  congrArg fin (whenPort_of hf h _)

theorem exec_remoteFault (hf : s.fclkOn = true) (h : s.portState p.val ≠ 0) :
    exec (.remoteFault p) s = .next (settle (s.setFlag (F.PORT_STATUS_REMOTE_FAULT p.val) true)) := congrArg fin (if_pos (by simp [hf, h]))

theorem exec_remoteFaultClear (hf : s.fclkOn = true) :
    exec (.remoteFaultClear p) s = .next (settle (s.setFlag (F.PORT_STATUS_REMOTE_FAULT p.val) false)) := congrArg fin (if_pos hf)

/-- What a command that changes registers of its port alone leaves, beside what has left the device. -/
theorem State.within.onlyRegs_out {t s : State} {B l : List Nat} (h : t.within s B [.out]) (hr : ∀ a, a ∉ l → t.reg a = s.reg a) :
    (settle t).onlyRegs s l := by
  have hparts : t.sameBut { s with regs := t.regs } := by
    unfold State.sameBut
    exact congrArg (fun u : State => { u with regs := t.regs, out := s.out, irq := s.irq }) h.parts
  exact settle_onlyRegs hr hparts

end

end Sys2Proof.Machine

namespace Sys2Proof

open Machine

/-- Settles O32: each command by the state that it enters, its counter, and what its update leaves of the port's own part. -/
theorem portBringUp : Obligations.PortBringUp := by
  unfold Obligations.PortBringUp
  refine ⟨fun p v s hon => ⟨fun h => ?asks, fun h => ?stored⟩,
    fun p s hon => ⟨fun h => ?restart, fun h => ?disabled, fun h4 hm ht => ?retrain, fun h => ?refused⟩,
    fun p lp s hf h => ?negotiated,
    fun p s hf h => ⟨fun pre main post => ?trained, fun hen hcfg => ?trainAn,
      fun hen => ⟨_, exec_trainTimeout_again hf h (by omega), settle_sameBut _⟩⟩,
    fun p s hf h => ⟨fun gear => ?up, ?locking⟩, fun p block fec lf frame s hf h => ?lost,
    fun p s hf => ⟨fun h => ⟨_, exec_remoteFault hf h, settle_sameBut _⟩, _, exec_remoteFaultClear hf, settle_sameBut _⟩⟩
  case asks =>
    refine ⟨_, exec_portCfgWrite hon v, ?_⟩
    rw [landPortCfg_waits h]
    exact settle_sameBut _
  case stored =>
    refine ⟨_, exec_portCfgWrite hon v, ?_⟩
    rw [landPortCfg_stored h]
    exact settle_sameBut _
  case restart =>
    refine ⟨_, exec_portRestart hon, ?_⟩
    rw [settle_portState, settle_flag, settle_flag, settle_reg]
    exact portRestart_leaves p.val s h
  case disabled =>
    refine ⟨_, exec_portRestart hon, ?_⟩
    rw [portRestart_disabled p.val s h]
    exact settle_sameBut _
  case retrain =>
    refine ⟨_, exec_portRetrain hon, ?_⟩
    rw [portRetrain_taken p.val s h4 hm ht, settle_portState, settle_flag, settle_reg, portTo_evt, portUnlock_reg _ _ Reg.offset_ne,
      cutFrames_reg]
    exact ⟨portTo_state _ _ (by decide), (portTo_flag ..).trans (portUnlock_blockLock ..), rfl⟩
  case refused =>
    refine ⟨_, exec_portRetrain hon, ?_⟩
    rw [portRetrain_refused p.val s h]
    exact settle_sameBut _
  case negotiated =>
    intro r
    obtain ⟨hpage, hevt⟩ := anComplete_counts (p := p.val) (s := s) lp
    refine ⟨_, exec_anComplete hf h lp, (settle_rv ..).trans hpage, (settle_reg ..).trans hevt, fun hr => ?_, fun m fec hr ht => ?_,
      fun m fec hr ht => ?_⟩
    · rw [settle_portState, anComplete_none hr]
      exact (State.fld_of_reg ((State.reg_bump_ne _ Reg.offset_ne).trans (anPaged_reg Reg.offset_ne))).trans h
    · rw [settle_portState, settle_fld, settle_fld, anComplete_train hr ht]
      exact ⟨portTo_state _ _ (by decide), (portTo_fld ..).trans (anShown_mode (by omega)),
        (portTo_fld ..).trans (anShown_fec (State.anResult_fec hr))⟩
    · rw [settle_portState, anComplete_lock hr ht]
      exact portLocking_state ..
  case trained =>
    refine ⟨_, exec_trainComplete hf h pre main post, ?_⟩
    rw [settle_portState, settle_rv, settle_prt_, settle_reg]
    exact trainDone_leaves (by omega)
  case trainAn =>
    refine ⟨_, exec_trainTimeout_an hf h hen, ?_⟩
    rw [settle_portState, settle_reg, portStart_state, if_pos hcfg]
    exact ⟨rfl, portStart_evt ..⟩
  case up =>
    refine ⟨_, exec_linkUp hf h gear, ?_⟩
    rw [settle_portState, settle_flag, settle_flag, settle_flag, settle_fld]
    refine ⟨linkShown_state .., linkShown_blockLock .., linkShown_fecLock .., linkShown_rxcValid .., linkShown_gearbox _ _ gear.isLt,
      (linkShown_within s p.isLt gear.val).onlyRegs_out fun a ha => ?_⟩
    simp only [List.mem_cons, List.not_mem_nil, or_false, not_or] at ha
    obtain ⟨hs, hg, he⟩ := ha
    exact linkShown_reg _ _ _ hs hg he
  case locking =>
    by_cases hen : s.portCfg p.val F.PORT_CFG_AN_EN = 1
    · refine ⟨_, exec_lockingTimeout_an hf h hen, ?_⟩
      rw [settle_portState, settle_reg, portStart_state]
      exact ⟨portStart_evt .., fun h0 => absurd h0 (by omega), fun _ hcfg => if_pos hcfg⟩
    · refine ⟨_, exec_lockingTimeout_again hf h hen, ?_⟩
      rw [settle_portState, settle_reg, State.reg_bump, portLatch_reg _ _ Reg.offset_ne]
      exact ⟨rfl, fun _ => (State.fld_bump_ne _ _ Reg.offset_ne).trans ((portLatch_state ..).trans h), fun h1 => absurd h1 hen⟩
  case lost =>
    obtain ⟨hrx, hcur⟩ := linkLost_pe_ p.val s block fec lf frame
    refine ⟨_, exec_linkLoss hf h block fec lf frame, ?_⟩
    rw [settle_portState, settle_flag, settle_flag, settle_flag, settle_pe_, settle_rv, settle_reg, linkLost_codeErr, State.framesLost_eq]
    refine ⟨linkLost_state .., linkLost_blockLock .., linkLost_rxcValid .., linkLost_localFault .., hrx, hcur, fun hclear hlf => ?_, rfl,
      linkLost_evt ..⟩
    rw [hlf]
    exact settle_out_mem (linkLost_tells _ _ _ _ _ hclear)

end Sys2Proof
end

section
/-! The frames that a port receives (R222, R230, R242, R251) and its basket (R377): the counters that a frame moves, the gate where it waits,
and what a pop answers. -/

namespace Sys2Proof.Machine

-- The default arguments of the lemmas wait for the proofs before them: a thread each, where proofs are elaborated side by side.
set_option Elab.async false

/-! ### Counters (R67, R242) -/

theorem State.quant_bump48 (s : State) (a k : Nat) : (s.bump48 a k).quant a 2 = (s.quant a 2 + k) % 2 ^ 48 := by
  rw [State.bump48, State.quant_setQuant_two]
  omega

theorem State.quant_bump48_ne (s : State) {a b : Nat} (k : Nat) (h : b + 8 ≤ a ∨ a + 8 ≤ b) : (s.bump48 a k).quant b 2 = s.quant b 2 :=
  State.quant_setQuant_ne s _ h

theorem State.reg_bump48_ne (s : State) {a b : Nat} (k : Nat) (h : b ≠ a ∧ b ≠ a + 4) : (s.bump48 a k).reg b = s.reg b :=
  State.reg_setQuant_ne s _ fun j hj => by
    have : j = 0 ∨ j = 1 := by omega
    rcases this with rfl | rfl
    · exact h.1
    · exact h.2

@[simp] theorem State.bump48_fab (s : State) (a k : Nat) : (s.bump48 a k).fab = s.fab := State.setQuant_fab ..

@[simp] theorem State.bump48_out (s : State) (a k : Nat) : (s.bump48 a k).out = s.out := State.setQuant_out ..

/-- A quantity of two words is as it was where both words are. -/
theorem State.quant_two_of_reg {s t : State} {a : Nat} (h0 : t.reg a = s.reg a) (h1 : t.reg (a + 4) = s.reg (a + 4)) :
    t.quant a 2 = s.quant a 2 := by
  rw [State.quant_two, State.quant_two, State.rv_of_reg h0, State.rv_of_reg h1]

section
variable (p : Nat) (s : State)

theorem portErr_reg {a b : Nat} (hb : b ≠ a) (he : b ≠ Reg.ERR_EVT p) : (portErr p a s).reg b = s.reg b := by
  rw [portErr, State.reg_bump_ne _ he, State.reg_bumpSat_ne _ hb]

theorem portErr_rv {a : Nat} (he : a ≠ Reg.ERR_EVT p) : (portErr p a s).rv a = min (s.rv a + 1) (2 ^ 32 - 1) := by
  rw [portErr, State.rv_of_reg (State.reg_bump_ne _ he), State.rv_bumpSat]

@[simp] theorem portErr_fab (a : Nat) : (portErr p a s).fab = s.fab := by rw [portErr, State.bump_fab, State.bumpSat_fab]

/-- An error that may count leaves the other registers. -/
theorem portErr_ite_reg {c : Prop} [Decidable c] {a b : Nat} (hb : b ≠ a) (he : b ≠ Reg.ERR_EVT p) :
    (if c then portErr p a s else s).reg b = s.reg b := by
  split
  · exact portErr_reg p s hb he
  · rfl

theorem portErr_ite_fab {c : Prop} [Decidable c] (a : Nat) : (if c then portErr p a s else s).fab = s.fab := by
  split
  · exact portErr_fab p s a
  · rfl

/-! ### A frame is received (R222, R230, R251) -/

/-- The frame as it waits at the receive gate. -/
def rxWaiting (p : Nat) (r : RxIn) (s : State) : RxFrame :=
  { octets := r.octets, cut := r.cut, good := fcsGood r.octets, tooLong := decide (s.maxFrame p < r.octets.length),
    runt := decide (r.octets.length < 64), stamp := s.rxStamp p r.phi r.bit, unsync := !s.flag (F.PC_TRACK_SYNC p), uncal := !s.calValid p }

/-- The port with the frame waiting last. -/
def rxQueued (p : Nat) (r : RxIn) (s : State) : State :=
  (s.setFld ⟨Reg.PORT_RX_PHASE p, 0, 16⟩ r.phi).setPe p { s.pe_ p with rx := (s.pe_ p).rx ++ [rxWaiting p r s] }

theorem rxFrame_eq (r : RxIn) : rxFrame p r s = rxCount p r (rxQueued p r s) := rfl

/-- The errors of the line that come with a frame. -/
def lineErrors (p : Nat) (r : RxIn) (s : State) : State :=
  portErrs p (Reg.FEC_UNCORR p) r.fecUncorr (portErrs p (Reg.FEC_CORR p) r.fecCorr (portErrs p (Reg.RX_CODE_ERR p) r.codeErr s))

/-- The traffic that a whole frame is, and the check of its FCS. -/
def rxTraffic (p : Nat) (r : RxIn) (s : State) : State :=
  let s2 := ((lineErrors p r s).bump48 (Reg.RX_FRAMES p) 1).bump48 (Reg.RX_OCTETS p) r.octets.length
  if fcsGood r.octets then s2 else portErr p (Reg.RX_FCS_ERR p) s2

theorem lineErrors_reg (r : RxIn) {b : Nat} (hc : b ≠ Reg.RX_CODE_ERR p) (hf : b ≠ Reg.FEC_CORR p) (hu : b ≠ Reg.FEC_UNCORR p)
    (he : b ≠ Reg.ERR_EVT p) : (lineErrors p r s).reg b = s.reg b := by
  rw [lineErrors, portErrs_reg p _ _ hu he, portErrs_reg p _ _ hf he, portErrs_reg p _ _ hc he]

theorem lineErrors_quant (r : RxIn) {o : Nat} (h : o = 0x80100 ∨ o = 0x80108) :
    (lineErrors p r s).quant (o + 0x1000 * p) 2 = s.quant (o + 0x1000 * p) 2 := by
  have hreg : ∀ b, Reg.RX_FRAMES p ≤ b → b < Reg.RX_CODE_ERR p → (lineErrors p r s).reg b = s.reg b := fun b hlo hhi => by
    simp only [Reg.RX_FRAMES, Reg.RX_CODE_ERR] at hlo hhi
    exact lineErrors_reg p s r (by simp only [Reg.RX_CODE_ERR]; omega) (by simp only [Reg.FEC_CORR]; omega) (by simp only [Reg.FEC_UNCORR]; omega)
      (by simp only [Reg.ERR_EVT]; omega)
  simp only [Reg.RX_FRAMES, Reg.RX_CODE_ERR] at hreg
  exact State.quant_two_of_reg (hreg _ (by omega) (by omega)) (hreg _ (by omega) (by omega))

theorem rxCount_cut {r : RxIn} (h : r.cut = true) : rxCount p r s = lineErrors p r s := if_pos h

/-- What a whole frame's length or kind lets count beside its traffic leaves the other registers. -/
theorem rxCount_whole {r : RxIn} (h : r.cut = false) {b : Nat} (hr : b ≠ Reg.RX_RUNT p) (ho : b ≠ Reg.RX_OVERSIZE p)
    (hp : b ≠ Reg.RX_PAUSE p) (he : b ≠ Reg.ERR_EVT p) : (rxCount p r s).reg b = (rxTraffic p r s).reg b := by
  unfold rxCount
  extract_lets n s1 s2 s3 s4 s5
  have h3 : s3 = rxTraffic p r s := rfl
  have h4 : s4.reg b = s3.reg b := portErr_ite_reg p s3 hr he
  have h5 : s5.reg b = s4.reg b := portErr_ite_reg p s4 ho he
  rw [if_neg (by simp [h]), portErr_ite_reg p s5 hp he, h5, h4, h3]

theorem rxCount_fab (r : RxIn) : (rxCount p r s).fab = s.fab := by
  unfold rxCount
  extract_lets n s1 s2 s3 s4 s5
  have h1 : s1.fab = s.fab := by rw [portErrs_fab, portErrs_fab, portErrs_fab]
  have h2 : s2.fab = s1.fab := by rw [State.bump48_fab, State.bump48_fab]
  have h3 : s3.fab = s2.fab := by
    simp only [s3]
    split
    · rfl
    · exact portErr_fab ..
  split
  · exact h1
  · rw [portErr_ite_fab, portErr_ite_fab, portErr_ite_fab, h3, h2, h1]

/-- A failed FCS counts beside the traffic. -/
theorem rxTraffic_quant (r : RxIn) {a : Nat} (h : a + 8 ≤ Reg.RX_FCS_ERR p) (he : Reg.ERR_EVT p < a) : (rxTraffic p r s).quant a 2 =
    (((lineErrors p r s).bump48 (Reg.RX_FRAMES p) 1).bump48 (Reg.RX_OCTETS p) r.octets.length).quant a 2 := by
  unfold rxTraffic
  extract_lets s2
  split
  · rfl
  · exact State.quant_two_of_reg (portErr_reg p s2 (by omega) (by omega)) (portErr_reg p s2 (by omega) (by omega))

theorem rxTraffic_frames (r : RxIn) : (rxTraffic p r s).quant (Reg.RX_FRAMES p) 2 = (s.quant (Reg.RX_FRAMES p) 2 + 1) % 2 ^ 48 := by
  rw [rxTraffic_quant p s r (by simp only [Reg.RX_FRAMES, Reg.RX_FCS_ERR]; omega) (by simp only [Reg.RX_FRAMES, Reg.ERR_EVT]; omega),
    State.quant_bump48_ne _ _ (by simp only [Reg.RX_FRAMES, Reg.RX_OCTETS]; omega), State.quant_bump48, lineErrors_quant p s r (.inl rfl)]

theorem rxTraffic_octets (r : RxIn) :
    (rxTraffic p r s).quant (Reg.RX_OCTETS p) 2 = (s.quant (Reg.RX_OCTETS p) 2 + r.octets.length) % 2 ^ 48 := by
  rw [rxTraffic_quant p s r (by simp only [Reg.RX_OCTETS, Reg.RX_FCS_ERR]; omega) (by simp only [Reg.RX_OCTETS, Reg.ERR_EVT]; omega),
    State.quant_bump48, State.quant_bump48_ne _ _ (by simp only [Reg.RX_FRAMES, Reg.RX_OCTETS]; omega), lineErrors_quant p s r (.inr rfl)]

theorem rxTraffic_fcsErr (r : RxIn) : (rxTraffic p r s).rv (Reg.RX_FCS_ERR p) =
    if fcsGood r.octets then s.rv (Reg.RX_FCS_ERR p) else min (s.rv (Reg.RX_FCS_ERR p) + 1) (2 ^ 32 - 1) := by
  unfold rxTraffic
  extract_lets s2
  have hoct : Reg.RX_FCS_ERR p ≠ Reg.RX_OCTETS p ∧ Reg.RX_FCS_ERR p ≠ Reg.RX_OCTETS p + 4 := by
    simp only [Reg.RX_FCS_ERR, Reg.RX_OCTETS]
    omega
  have hfr : Reg.RX_FCS_ERR p ≠ Reg.RX_FRAMES p ∧ Reg.RX_FCS_ERR p ≠ Reg.RX_FRAMES p + 4 := by
    simp only [Reg.RX_FCS_ERR, Reg.RX_FRAMES]
    omega
  have h2 : s2.rv (Reg.RX_FCS_ERR p) = s.rv (Reg.RX_FCS_ERR p) := by
    refine State.rv_of_reg ?_
    rw [State.reg_bump48_ne _ _ hoct, State.reg_bump48_ne _ _ hfr,
      lineErrors_reg p s r Reg.offset_ne Reg.offset_ne Reg.offset_ne Reg.offset_ne]
  split
  · exact h2
  · rw [portErr_rv p s2 Reg.offset_ne, h2]

theorem rxCount_frames {r : RxIn} (h : r.cut = false) :
    (rxCount p r s).quant (Reg.RX_FRAMES p) 2 = (s.quant (Reg.RX_FRAMES p) 2 + 1) % 2 ^ 48 := by
  rw [← rxTraffic_frames]
  exact State.quant_two_of_reg (rxCount_whole p s h Reg.offset_ne Reg.offset_ne Reg.offset_ne Reg.offset_ne)
    (rxCount_whole p s h (by simp only [Reg.RX_FRAMES, Reg.RX_RUNT]; omega) (by simp only [Reg.RX_FRAMES, Reg.RX_OVERSIZE]; omega)
      (by simp only [Reg.RX_FRAMES, Reg.RX_PAUSE]; omega) (by simp only [Reg.RX_FRAMES, Reg.ERR_EVT]; omega))

theorem rxCount_octets {r : RxIn} (h : r.cut = false) :
    (rxCount p r s).quant (Reg.RX_OCTETS p) 2 = (s.quant (Reg.RX_OCTETS p) 2 + r.octets.length) % 2 ^ 48 := by
  rw [← rxTraffic_octets]
  exact State.quant_two_of_reg (rxCount_whole p s h Reg.offset_ne Reg.offset_ne Reg.offset_ne Reg.offset_ne)
    (rxCount_whole p s h (by simp only [Reg.RX_OCTETS, Reg.RX_RUNT]; omega) (by simp only [Reg.RX_OCTETS, Reg.RX_OVERSIZE]; omega)
      (by simp only [Reg.RX_OCTETS, Reg.RX_PAUSE]; omega) (by simp only [Reg.RX_OCTETS, Reg.ERR_EVT]; omega))

theorem rxCount_fcsErr {r : RxIn} (h : r.cut = false) : (rxCount p r s).rv (Reg.RX_FCS_ERR p) =
    if fcsGood r.octets then s.rv (Reg.RX_FCS_ERR p) else min (s.rv (Reg.RX_FCS_ERR p) + 1) (2 ^ 32 - 1) :=
  (State.rv_of_reg (rxCount_whole p s h Reg.offset_ne Reg.offset_ne Reg.offset_ne Reg.offset_ne)).trans (rxTraffic_fcsErr p s r)

theorem rxQueued_reg (r : RxIn) {a : Nat} (h : a ≠ Reg.PORT_RX_PHASE p) : (rxQueued p r s).reg a = s.reg a := State.reg_setFld_ne s _ _ h

theorem rxQueued_quant (r : RxIn) {a : Nat} (h : Reg.PORT_RX_PHASE p < a) : (rxQueued p r s).quant a 2 = s.quant a 2 :=
  State.quant_two_of_reg (rxQueued_reg p s r (by omega)) (rxQueued_reg p s r (by omega))

theorem rxFrame_rx (r : RxIn) : ((rxFrame p r s).pe_ p).rx = (s.pe_ p).rx ++ [rxWaiting p r s] := by
  rw [rxFrame_eq, State.pe_of_fab (rxCount_fab ..), rxQueued, State.pe__setPe]

end

/-! ### The basket (R377) -/

section
variable {p : Nat} {s : State}

theorem basketPop_record {b : BasketRec} {rest : List BasketRec} (h : (s.prt_ p).basket = b :: rest) : basketPop p s =
    (BasketRec.words (some b), (s.setPrt p { s.prt_ p with basket := rest }).setRv (Reg.BASKET_STATUS p) rest.length) := by
  unfold basketPop
  simp only [h]

theorem basketPop_empty (h : (s.prt_ p).basket = []) : basketPop p s = (BasketRec.words none, s) := by
  unfold basketPop
  simp only [h]

/-- The record that is popped is latched in the buffer of the ports' block. -/
theorem basketRead_snapOf {m : Master} (hp : p < 4) : (basketRead m p s).snapOf m 8 = some ⟨Reg.BASKET_REC p, (basketPop p s).1⟩ := by
  have hblock : Reg.BASKET_REC p / 0x10000 = 8 := by simp only [Reg.BASKET_REC]; omega
  have h := latch_snapOf m (Reg.BASKET_REC p) (basketPop p s).1 (basketPop p s).2
  rw [hblock] at h
  exact h

theorem basketRead_reply (m : Master) : (basketRead m p s).bus.reply = ⟨.ok, [(basketPop p s).1.headD 0]⟩ := rfl

theorem exec_basketPop {p : Fin 4} {m : Master} (h : s.reaches m 2) (hon : s.blockOn 8 = true) :
    exec (.basketPop p m) s = .next (settle (basketRead m p.val (s.tlp m 2))) :=
  congrArg fin ((reads_of_reaches h _).trans (whenOn_of_blockOn ((tlp_blockOn ..).trans hon) _))

theorem tlp_prt_ (m : Master) (n : Nat) : (s.tlp m n).prt_ p = s.prt_ p := tlp_get (g := fun u => u.prt_ p) (fun _ _ => rfl) s m n

theorem exec_rxFrame {p : Fin 4} (hf : s.fclkOn = true) (h : s.portState p.val = 4) (r : RxIn) :
    exec (.rxFrame p r) s = .next (settle (rxFrame p.val r s)) := congrArg fin (whenPort_of hf h _)

theorem exec_esmcTimeout {p : Fin 4} (hon : s.blockOn 3 = true) (h : 2500000000 ≤ s.since (s.prt_ p.val).esmcRx) :
    exec (.esmcTimeout p) s = .next (settle (s.setFld (F.REF_QL_QL_RANK (12 + p.val)) 15)) :=
  congrArg fin (if_pos (Bool.and_eq_true_iff.mpr ⟨hon, decide_eq_true h⟩))

end

end Sys2Proof.Machine

namespace Sys2Proof

open Machine

/-- Settles O33: a frame by where it waits and the counters that its kind moves, the basket by what its pop leaves. -/
theorem portFramesAndBasket : Obligations.PortFramesAndBasket := by
  unfold Obligations.PortFramesAndBasket
  refine ⟨fun p r s hf h => ?frame, fun p m s hm hon => ⟨fun b rest hb => ?record, fun hb => ?empty⟩,
    fun p s hon h => ⟨_, exec_esmcTimeout hon h, settle_sameBut _⟩⟩
  case frame =>
    have hphase : ∀ {o : Nat}, 0x80018 < o → Reg.PORT_RX_PHASE p.val < o + 0x1000 * p.val := fun h => by
      simp only [Reg.PORT_RX_PHASE]
      omega
    refine ⟨_, rxWaiting p.val r s, exec_rxFrame hf h r, ?_, rfl, rfl, rfl, rfl, rfl, fun hc => ?_, fun hc _ _ => ⟨?_, ?_, ?_⟩⟩
    · rw [settle_pe_, rxFrame_rx]
    · rw [quant_settle, rxFrame_eq, rxCount_cut _ _ hc, lineErrors_quant _ _ _ (.inl rfl), rxQueued_quant _ _ _ (hphase (by decide))]
    · rw [quant_settle, rxFrame_eq, rxCount_frames _ _ hc, rxQueued_quant _ _ _ (hphase (by decide))]
    · rw [quant_settle, rxFrame_eq, rxCount_octets _ _ hc, rxQueued_quant _ _ _ (hphase (by decide))]
    · rw [settle_rv, rxFrame_eq, rxCount_fcsErr _ _ hc, State.rv_of_reg (rxQueued_reg _ _ _ Reg.offset_ne)]
  case record =>
    have hpop := basketPop_record (s := s.tlp m 2) ((congrArg PortPart.basket (tlp_prt_ m 2)).trans hb)
    have hread := basketRead_snapOf (s := s.tlp m 2) (m := m) p.isLt
    have hreply := basketRead_reply (p := p.val) (s := s.tlp m 2) m
    rw [hpop] at hread hreply
    refine ⟨_, exec_basketPop hm hon, ?_, ?_, ?_, ?_⟩
    · rw [settle_prt_, basketRead, hpop]
      exact congrArg PortPart.basket (State.prt__setPrt (s.tlp m 2) p.val _)
    · rw [State.snapOf, settle_bus]
      exact hread
    · rw [settle_bus]
      exact hreply
    · rw [settle_prt, settle_bus, basketRead, hpop]
      exact settle_onlyRegs (fun a ha => State.reg_setRv_ne _ _ (List.ne_of_not_mem_cons ha)) rfl
  case empty =>
    have hpop := basketPop_empty (s := s.tlp m 2) ((congrArg PortPart.basket (tlp_prt_ m 2)).trans hb)
    refine ⟨_, exec_basketPop hm hon, ?_, ?_⟩
    · rw [settle_bus, basketRead_reply, hpop]
      rfl
    · rw [settle_bus, basketRead, hpop]
      exact settle_sameBut _

end Sys2Proof
end

section
/-! The frames that leave a port (R225, R227, R254, R258, R259, R331, R377): a committed reply, the reservation of an originated frame, and its
departure, each sent or withheld. -/

namespace Sys2Proof.Machine

-- The default arguments of the lemmas wait for the proofs before them: a thread each, where proofs are elaborated side by side.
set_option Elab.async false

/-- A register of a port is none of the PEs'. -/
theorem Reg.port_ne_pe {p a b q : Nat} (hp : p < 4) (h : a < 0x81000 ∧ 0x90000 ≤ b := by decide) : a + 0x1000 * p ≠ b + q := by omega

/-- What a command that updates registers and the fabric's part leaves. -/
theorem State.within.onlyRegs_fab {t s : State} {B l : List Nat} (h : t.within s B [.fab]) (hr : ∀ a, a ∉ l → t.reg a = s.reg a) :
    (settle t).onlyRegs { s with fab := (settle t).fab } l := by
  have hparts : t.sameBut { { s with fab := t.fab } with regs := t.regs } := by
    unfold State.sameBut
    exact congrArg (fun u : State => { u with fab := t.fab, regs := t.regs, out := s.out, irq := s.irq }) h.parts
  rw [settle_fab]
  exact settle_onlyRegs hr hparts

section
variable (p : Nat) (s : State)

/-! ### A frame goes out -/

@[simp] theorem txFrame_fab (tp : Nat) (l : List Byte) : (txFrame p tp l s).fab = s.fab := by
  rw [txFrame, State.bump48_fab, State.bump48_fab, State.emit_fab]

theorem txFrame_sends (tp : Nat) (l : List Byte) : Out.frame p tp l ∈ (txFrame p tp l s).out := by
  rw [txFrame, State.bump48_out, State.bump48_out]
  exact List.mem_append_right _ (List.mem_singleton.mpr rfl)

/-- The counters of the replies and of the originated frames lie above those of the frames sent. -/
theorem txFrame_quant (tp : Nat) (l : List Byte) {o : Nat} (h : 0x80120 ≤ o) :
    (txFrame p tp l s).quant (o + 0x1000 * p) 2 = s.quant (o + 0x1000 * p) 2 := by
  have hoct : Reg.TX_OCTETS p + 8 ≤ o + 0x1000 * p := by simp only [Reg.TX_OCTETS]; omega
  have hfr : Reg.TX_FRAMES p + 8 ≤ o + 0x1000 * p := by simp only [Reg.TX_FRAMES]; omega
  rw [txFrame, State.quant_bump48_ne _ _ (.inr hoct), State.quant_bump48_ne _ _ (.inr hfr)]
  rfl

theorem txFrame_frames (tp : Nat) (l : List Byte) :
    (txFrame p tp l s).quant (Reg.TX_FRAMES p) 2 = (s.quant (Reg.TX_FRAMES p) 2 + 1) % 2 ^ 48 := by
  have hoct : Reg.TX_FRAMES p + 8 ≤ Reg.TX_OCTETS p := by simp only [Reg.TX_FRAMES, Reg.TX_OCTETS]; omega
  rw [txFrame, State.quant_bump48_ne _ _ (.inl hoct), State.quant_bump48]
  rfl

/-! ### A committed reply leaves (R254, R331) -/

/-- The PE without the committed reply `c`. -/
def State.lessCommit (s : State) (p : Nat) (c : Commit) : State := s.setPe p { s.pe_ p with commits := (s.pe_ p).commits.erase c }

/-- The reply `c` sent and counted. -/
def replySent (p : Nat) (c : Commit) (s : State) : State := (txFrame p c.tp c.octets (s.lessCommit p c)).bump48 (Reg.TX_REPLIES p) 1

theorem State.lessCommit_commits (c : Commit) : ((s.lessCommit p c).pe_ p).commits = (s.pe_ p).commits.erase c := by
  rw [State.lessCommit, State.pe__setPe]

theorem lessCommit_within (c : Commit) : (s.lessCommit p c).within s [] [.fab] := setPe_within ..

variable {p s} {c : Commit}

theorem replyLeave_clash (hc : firstCommit (s.pe_ p).commits = some c) (h : swapClash p c s = true) :
    replyLeave p s = (s.lessCommit p c).bumpSat (Reg.SWAP_REFUSED p) := by
  unfold replyLeave
  simp only [hc, h]
  rfl

theorem replyLeave_withheld (hc : firstCommit (s.pe_ p).commits = some c) (h : swapClash p c s = false) (ho : s.txOff p = true) :
    replyLeave p s = portErr p (Reg.TX_SUPPRESSED p) (s.lessCommit p c) := by
  unfold replyLeave
  simp only [hc, h, ho]
  rfl

theorem replyLeave_sent (hc : firstCommit (s.pe_ p).commits = some c) (h : swapClash p c s = false) (ho : s.txOff p = false) :
    replyLeave p s = if c.clipped then ((replySent p c s).bumpSat (Reg.REPLY_CLIPPED p)).bump (Reg.PE_EVT p) else replySent p c s := by
  unfold replyLeave
  simp only [hc, h, ho]
  rfl

variable (p s c)

theorem replySent_fab : (replySent p c s).fab = (s.lessCommit p c).fab := by rw [replySent, State.bump48_fab, txFrame_fab]

theorem replySent_replies : (replySent p c s).quant (Reg.TX_REPLIES p) 2 = (s.quant (Reg.TX_REPLIES p) 2 + 1) % 2 ^ 48 := by
  rw [replySent, State.quant_bump48, txFrame_quant p _ _ _ (by decide)]
  rfl

theorem replySent_frames : (replySent p c s).quant (Reg.TX_FRAMES p) 2 = (s.quant (Reg.TX_FRAMES p) 2 + 1) % 2 ^ 48 := by
  have hrep : Reg.TX_FRAMES p + 8 ≤ Reg.TX_REPLIES p := by simp only [Reg.TX_FRAMES, Reg.TX_REPLIES]; omega
  rw [replySent, State.quant_bump48_ne _ _ (.inl hrep), txFrame_frames]
  rfl

theorem replySent_sends : Out.frame p c.tp c.octets ∈ (replySent p c s).out := by
  rw [replySent, State.bump48_out]
  exact txFrame_sends ..

variable {p s c}

/-- A clipped reply counts at its PE, whose registers are none of the port's. -/
theorem clipped_quant (hp : p < 4) {o : Nat} (h : o + 4 < 0x81000) (u : State) :
    ((u.bumpSat (Reg.REPLY_CLIPPED p)).bump (Reg.PE_EVT p)).quant (o + 0x1000 * p) 2 = u.quant (o + 0x1000 * p) 2 := by
  have hreg : ∀ a, a < 0x90000 → ((u.bumpSat (Reg.REPLY_CLIPPED p)).bump (Reg.PE_EVT p)).reg a = u.reg a := fun a ha => by
    rw [State.reg_bump_ne _ (by simp only [Reg.PE_EVT]; omega), State.reg_bumpSat_ne _ (by simp only [Reg.REPLY_CLIPPED]; omega)]
  exact State.quant_two_of_reg (hreg _ (by omega)) (hreg _ (by omega))

/-- A reply that is sent, clipped or not, leaves the list, goes out and counts. -/
theorem replyLeave_sent_leaves (hp : p < 4) (hc : firstCommit (s.pe_ p).commits = some c) (h : swapClash p c s = false)
    (ho : s.txOff p = false) : ((replyLeave p s).pe_ p).commits = (s.pe_ p).commits.erase c ∧
      Out.frame p c.tp c.octets ∈ (replyLeave p s).out ∧
      (replyLeave p s).quant (Reg.TX_REPLIES p) 2 = (s.quant (Reg.TX_REPLIES p) 2 + 1) % 2 ^ 48 ∧
      (replyLeave p s).quant (Reg.TX_FRAMES p) 2 = (s.quant (Reg.TX_FRAMES p) 2 + 1) % 2 ^ 48 := by
  have hcommits : ((replySent p c s).pe_ p).commits = (s.pe_ p).commits.erase c := by
    rw [State.pe_of_fab (replySent_fab ..), State.lessCommit_commits]
  rw [replyLeave_sent hc h ho]
  split
  · rw [clipped_quant hp (by decide), clipped_quant hp (by decide), State.bump_out, State.bumpSat_out,
      State.pe_of_fab (State.bump_fab ..), State.pe_of_fab (State.bumpSat_fab ..)]
    exact ⟨hcommits, replySent_sends .., replySent_replies .., replySent_frames ..⟩
  · exact ⟨hcommits, replySent_sends .., replySent_replies .., replySent_frames ..⟩

/-! ### The originated frames (R257–R259) -/

theorem showOrig_reg {a : Nat} (h : a ≠ Reg.ORIG_LEVEL p) : (showOrig p s).reg a = s.reg a := by
  unfold showOrig
  extract_lets e oct
  rw [State.reg_setFld_ne _ _ _ h, State.reg_setFld_ne _ _ _ h]

@[simp] theorem showOrig_fab : (showOrig p s).fab = s.fab := by
  unfold showOrig
  extract_lets e oct
  rw [State.setFld_fab, State.setFld_fab]

@[simp] theorem State.turnAt_fab (grid : Nat) : (s.turnAt p grid).fab = s.fab := by
  unfold State.turnAt
  split
  · rfl
  · rfl

/-- The PE with the head of its queue in a place at `x`. -/
def State.reserved (s : State) (p : Nat) (d : Desc) (rest : List Desc) (x : Nat) : State :=
  s.setPe p { s.pe_ p with
    queue := rest, credit := (s.pe_ p).credit - (d.len + 20) * 25600, resv := (s.pe_ p).resv ++ [⟨d, x⟩] }

/-- The timestamp point of the place that the head `d` of the queue takes: the first free one, at least 16 FCLK ahead. -/
def origPlace (p : Nat) (d : Desc) (s : State) : Nat :=
  (s.opp p (freeOpp p (d.len + 20) s ((s.pe_ p).commits.length + (s.pe_ p).resv.length + 1)
    (s.oppFrom p (((s.pcp p).val : Int) + 16 * s.pcInc p + s.octs p 8)))).toNat

theorem origReserve_takes {d : Desc} {rest : List Desc} (hq : (s.pe_ p).queue = d :: rest)
    (hc : (d.len + 20) * 25600 ≤ (s.pe_ p).credit) (hr : (s.pe_ p).runs = true) :
    origReserve p s = showOrig p (s.reserved p d rest (origPlace p d s)) := by
  have hgo : ¬ (decide ((s.pe_ p).credit < (d.len + 20) * 25600) || !(s.pe_ p).runs) = true := by simp [hr, hc]
  unfold origReserve
  simp only [hq]
  rw [if_neg hgo]
  rfl

theorem origReserve_waits {d : Desc} {rest : List Desc} (hq : (s.pe_ p).queue = d :: rest)
    (hc : (s.pe_ p).credit < (d.len + 20) * 25600) : origReserve p s = s := by
  unfold origReserve
  simp only [hq, hc, decide_true, Bool.true_or, if_true]

/-- The PE without the first of its reserved frames. -/
def State.lessResv (s : State) (p : Nat) (rest : List Resv) : State := showOrig p (s.setPe p { s.pe_ p with resv := rest })

/-- The octets of a reserved frame as it leaves, but for its FCS. -/
def origBody (p : Nat) (r : Resv) (s : State) : List Byte :=
  let body := (s.pe_ p).orig.bytes r.d.off (r.d.len - 4)
  if r.d.mode = 2 then insertStamp r.d r.tp body s else body

/-- The record of a departure enters the basket where the descriptor asks for one. -/
def recorded (p : Nat) (r : Resv) (supp : Bool) (s : State) : State := if r.d.mode = 1 then basketPut p (basketOf p r supp s) s else s

theorem origLeave_withheld {r : Resv} {rest : List Resv} (h : (s.pe_ p).resv = r :: rest) (ho : s.txOff p = true) :
    origLeave p s = recorded p r true (portErr p (Reg.TX_SUPPRESSED p) (s.lessResv p rest)) := by
  unfold origLeave
  simp only [h, ho]
  rfl

theorem origLeave_sent {r : Resv} {rest : List Resv} (h : (s.pe_ p).resv = r :: rest) (ho : s.txOff p = false) :
    origLeave p s =
      recorded p r false ((txFrame p r.tp (origBody p r s ++ fcsOf (origBody p r s)) (s.lessResv p rest)).bump48 (Reg.TX_ORIGINATED p) 1) := by
  unfold origLeave
  simp only [h, ho]
  rfl

/-- A record that enters the basket, or is dropped, changes the basket's registers and counts. -/
theorem basketPut_reg (b : BasketRec) {a : Nat} (hd : a ≠ Reg.BASKET_DROP p) (he : a ≠ Reg.ERR_EVT p) (hs : a ≠ Reg.BASKET_STATUS p)
    (hv : a ≠ Reg.BASKET_EVT p) : (basketPut p b s).reg a = s.reg a := by
  unfold basketPut
  extract_lets r
  split
  · exact portErr_reg p s hd he
  · rw [State.reg_bump_ne _ hv, State.reg_setRv_ne _ _ hs, State.setPrt_reg]

theorem basketPut_fab (b : BasketRec) : (basketPut p b s).fab = s.fab := by
  unfold basketPut
  extract_lets r
  split
  · exact portErr_fab ..
  · rfl

theorem basketPut_out (b : BasketRec) : (basketPut p b s).out = s.out := by
  unfold basketPut
  extract_lets r
  split
  · rw [portErr, State.bump_out, State.bumpSat_out]
  · rfl

theorem recorded_fab (r : Resv) (supp : Bool) : (recorded p r supp s).fab = s.fab := by
  unfold recorded
  split
  · exact basketPut_fab _
  · rfl

theorem recorded_out (r : Resv) (supp : Bool) : (recorded p r supp s).out = s.out := by
  unfold recorded
  split
  · exact basketPut_out _
  · rfl

/-- The traffic counters and TX_SUPPRESSED are none of the registers that a record changes. -/
theorem recorded_reg (r : Resv) (supp : Bool) {a : Nat} (h : Reg.RX_FRAMES p ≤ a ∧ a < Reg.BASKET_STATUS p) :
    (recorded p r supp s).reg a = s.reg a := by
  have hd : a ≠ Reg.BASKET_DROP p := by simp only [Reg.BASKET_STATUS, Reg.BASKET_DROP] at *; omega
  have he : a ≠ Reg.ERR_EVT p := by simp only [Reg.RX_FRAMES, Reg.ERR_EVT] at *; omega
  have hv : a ≠ Reg.BASKET_EVT p := by simp only [Reg.BASKET_STATUS, Reg.BASKET_EVT] at *; omega
  unfold recorded
  split
  · exact basketPut_reg _ hd he (by omega) hv
  · rfl

theorem lessResv_resv (rest : List Resv) : ((s.lessResv p rest).pe_ p).resv = rest := by
  rw [State.lessResv, State.pe_of_fab showOrig_fab, State.pe__setPe]

theorem lessResv_reg (hp : p < 4) (rest : List Resv) {o : Nat} (h : o < 0x81000) :
    (s.lessResv p rest).reg (o + 0x1000 * p) = s.reg (o + 0x1000 * p) :=
  showOrig_reg (Reg.port_ne_pe hp ⟨h, by decide⟩)

theorem originated_within : Reg.RX_FRAMES p ≤ Reg.TX_ORIGINATED p ∧ Reg.TX_ORIGINATED p + 4 < Reg.BASKET_STATUS p := by
  simp only [Reg.RX_FRAMES, Reg.TX_ORIGINATED, Reg.BASKET_STATUS]
  omega

theorem recorded_originated (r : Resv) (supp : Bool) :
    (recorded p r supp s).quant (Reg.TX_ORIGINATED p) 2 = s.quant (Reg.TX_ORIGINATED p) 2 := by
  obtain ⟨hlo, hhi⟩ := originated_within (p := p)
  exact State.quant_two_of_reg (recorded_reg r supp ⟨hlo, by omega⟩) (recorded_reg r supp ⟨by omega, hhi⟩)

theorem lessResv_originated (hp : p < 4) (rest : List Resv) :
    (s.lessResv p rest).quant (Reg.TX_ORIGINATED p) 2 = s.quant (Reg.TX_ORIGINATED p) 2 := by
  refine State.quant_two_of_reg (lessResv_reg hp rest (by decide)) ?_
  rw [show Reg.TX_ORIGINATED p + 4 = 0x8012c + 0x1000 * p by simp only [Reg.TX_ORIGINATED]; omega]
  exact lessResv_reg hp rest (by decide)

/-- A reserved frame that is sent: it goes out with its FCS, and counts. -/
theorem origLeave_sent_leaves (hp : p < 4) {r : Resv} {rest : List Resv} (h : (s.pe_ p).resv = r :: rest) (ho : s.txOff p = false) :
    ((origLeave p s).pe_ p).resv = rest ∧ Out.frame p r.tp (origBody p r s ++ fcsOf (origBody p r s)) ∈ (origLeave p s).out ∧
      (origLeave p s).quant (Reg.TX_ORIGINATED p) 2 = (s.quant (Reg.TX_ORIGINATED p) 2 + 1) % 2 ^ 48 := by
  rw [origLeave_sent h ho, State.pe_of_fab (recorded_fab ..), State.pe_of_fab (State.bump48_fab ..), State.pe_of_fab (txFrame_fab ..),
    recorded_out, State.bump48_out, recorded_originated, State.quant_bump48, txFrame_quant p _ _ _ (by decide), lessResv_originated hp]
  exact ⟨lessResv_resv rest, txFrame_sends .., rfl⟩

/-- One that is withheld counts as such alone. -/
theorem origLeave_withheld_leaves (hp : p < 4) {r : Resv} {rest : List Resv} (h : (s.pe_ p).resv = r :: rest) (ho : s.txOff p = true) :
    ((origLeave p s).pe_ p).resv = rest ∧ (origLeave p s).quant (Reg.TX_ORIGINATED p) 2 = s.quant (Reg.TX_ORIGINATED p) 2 ∧
      (origLeave p s).rv (Reg.TX_SUPPRESSED p) = min (s.rv (Reg.TX_SUPPRESSED p) + 1) (2 ^ 32 - 1) := by
  have hsupp : Reg.RX_FRAMES p ≤ Reg.TX_SUPPRESSED p ∧ Reg.TX_SUPPRESSED p < Reg.BASKET_STATUS p := by
    simp only [Reg.RX_FRAMES, Reg.TX_SUPPRESSED, Reg.BASKET_STATUS]
    omega
  have hquant : (portErr p (Reg.TX_SUPPRESSED p) (s.lessResv p rest)).quant (Reg.TX_ORIGINATED p) 2 =
      (s.lessResv p rest).quant (Reg.TX_ORIGINATED p) 2 := by
    refine State.quant_two_of_reg (portErr_reg p _ Reg.offset_ne Reg.offset_ne) (portErr_reg p _ ?_ ?_)
    · simp only [Reg.TX_ORIGINATED, Reg.TX_SUPPRESSED]
      omega
    · simp only [Reg.TX_ORIGINATED, Reg.ERR_EVT]
      omega
  rw [origLeave_withheld h ho, State.pe_of_fab (recorded_fab ..), State.pe_of_fab (portErr_fab ..), recorded_originated, hquant,
    lessResv_originated hp, State.rv_of_reg (recorded_reg r true hsupp), portErr_rv p _ Reg.offset_ne,
    State.rv_of_reg (lessResv_reg hp rest (by decide))]
  exact ⟨lessResv_resv rest, rfl, rfl⟩

end

/-! ### The commands -/

section
variable {p : Fin 4} {s : State}

theorem exec_replyDeparture (hf : s.fclkOn = true) : exec (.replyDeparture p) s = .next (settle (replyLeave p.val s)) := congrArg fin (if_pos hf)

theorem exec_origReservation (hf : s.fclkOn = true) (grid : Nat) :
    exec (.origReservation p grid) s = .next (settle (origReserve p.val (s.turnAt p.val grid))) := congrArg fin (if_pos hf)

theorem exec_origDeparture (hf : s.fclkOn = true) : exec (.origDeparture p) s = .next (settle (origLeave p.val s)) := congrArg fin (if_pos hf)

end

end Sys2Proof.Machine

namespace Sys2Proof

open Machine

/-- Settles O35: each departure by whether it is sent, and the reservation by what it takes of the queue and the credit. -/
theorem fabricFramesOut : Obligations.FabricFramesOut := by
  unfold Obligations.FabricFramesOut
  refine ⟨fun p s c hf hc h => ⟨fun ho => ?reply, fun ho => ?withheld⟩, fun p s c hf hc h => ?swap,
    fun p grid s d rest hf hq => ⟨fun hcr hr => ?takes, fun hcr => ?waits⟩, fun p s r rest hf h => ⟨fun ho => ?orig, fun ho => ?suppressed⟩⟩
  case reply =>
    obtain ⟨hcommits, hout, hreplies, hframes⟩ := replyLeave_sent_leaves p.isLt hc h ho
    refine ⟨_, exec_replyDeparture hf, ?_, settle_out_mem hout, ?_, ?_⟩
    · rw [settle_pe_, hcommits]
    · rw [quant_settle, hreplies]
    · rw [quant_settle, hframes]
  case withheld =>
    have hin := (portErr_within (p := p.val) (a := Reg.TX_SUPPRESSED p.val) (portReg_area p.isLt (by simp only [Reg.TX_SUPPRESSED]; omega))
      (s.lessCommit p.val c) p.isLt).mono (P := [.fab]) (fun _ hb => hb) (by simp)
    refine ⟨_, exec_replyDeparture hf, ?_⟩
    rw [replyLeave_withheld hc h ho]
    refine ⟨?_, ?_, (hin.trans ((lessCommit_within ..).mono (by simp))).onlyRegs_fab fun a ha => ?_⟩
    · rw [settle_pe_, State.pe_of_fab (portErr_fab ..), State.lessCommit_commits]
    · rw [settle_rv, portErr_rv _ _ Reg.offset_ne]
      rfl
    · simp only [List.mem_cons, List.not_mem_nil, or_false, not_or] at ha
      exact portErr_reg _ _ ha.1 ha.2
  case swap =>
    have harea : regArea (Reg.SWAP_REFUSED p.val) ∈ [9] := regArea_mem (b := 9) (by simp only [inBlock, Reg.SWAP_REFUSED]; omega)
    refine ⟨_, exec_replyDeparture hf, ?_⟩
    rw [replyLeave_clash hc h]
    refine ⟨?_, (((lessCommit_within ..).mono (by simp)).bumpSat harea).onlyRegs_fab fun a ha => ?_⟩
    · rw [settle_pe_, State.pe_of_fab (State.bumpSat_fab ..), State.lessCommit_commits]
    · exact State.reg_bumpSat_ne _ (List.ne_of_not_mem_cons ha)
  case takes =>
    have hpe : (s.turnAt p.val grid).pe_ p.val = s.pe_ p.val := State.pe_of_fab (State.turnAt_fab grid) _
    have hx := origReserve_takes (s := s.turnAt p.val grid) (by rw [hpe, hq]) (by rwa [hpe]) (by rwa [hpe])
    generalize origPlace p.val d (s.turnAt p.val grid) = x at hx
    have hin : ((s.turnAt p.val grid).reserved p.val d rest x).within (s.turnAt p.val grid) [9] [.fab] := (setPe_within ..).mono
    refine ⟨_, x, exec_origReservation hf grid, ?_⟩
    rw [hx, settle_pe_, State.pe_of_fab showOrig_fab, State.reserved, State.pe__setPe, hpe]
    refine ⟨rfl, Nat.sub_add_cancel hcr, rfl, ?_⟩
    rw [← hpe]
    exact ((showOrig_within p.isLt _).after hin).onlyRegs_fab fun a ha => showOrig_reg (List.ne_of_not_mem_cons ha)
  case waits =>
    have hpe : (s.turnAt p.val grid).pe_ p.val = s.pe_ p.val := State.pe_of_fab (State.turnAt_fab grid) _
    refine ⟨_, exec_origReservation hf grid, ?_⟩
    rw [origReserve_waits (s := s.turnAt p.val grid) (by rw [hpe, hq]) (by rwa [hpe])]
    exact settle_sameBut _
  case orig =>
    obtain ⟨hresv, hout, hcount⟩ := origLeave_sent_leaves p.isLt h ho
    refine ⟨_, exec_origDeparture hf, ?_, fun hm => ?_, ?_⟩
    · rw [settle_pe_, hresv]
    · rw [origBody, if_neg hm] at hout
      exact settle_out_mem hout
    · rw [quant_settle, hcount]
  case suppressed =>
    obtain ⟨hresv, hcount, hsupp⟩ := origLeave_withheld_leaves p.isLt h ho
    refine ⟨_, exec_origDeparture hf, ?_, ?_, ?_⟩
    · rw [settle_pe_, hresv]
    · rw [quant_settle, hcount]
    · rw [settle_rv, hsupp]

end Sys2Proof
end

section
/-! The PARSE and EMIT operations (R235, R291–R294): what a bundle of one syllable of a port or timekeeping engine leaves, what becomes
of a live program by its reply, its claim and its decision, and the records, steering words and steps of the timekeeping engines. -/

namespace Sys2Proof.Machine

-- The default arguments of the lemmas wait for the proofs before them: a thread each, where proofs are elaborated side by side.
set_option Elab.async false

/-! ### A bundle of one syllable on a static engine (R276, R277) -/

section
variable {s u : State} {y : Syl} {op md : Nat} {f : State → State} {regs : List (Nat × Nat)} (hs : y.e ≠ .se)
include hs

/-- The syllable has its effect, and the results that it leaves held are then written. -/
theorem issue_static (h : s.runs1 y op md) {l : List Flight} (hl : ((f s).eng_ y.e.num).hold = l) (hi : ∀ x ∈ l, x.inst = y.inst) :
    issue op md y f s = (f s).setEng y.e.num (l.foldl EngPart.take { (f s).eng_ y.e.num with hold := [] }) := by
  obtain ⟨⟨-, -, hlast, -⟩, -⟩ := id h
  have hpc : (f s).atPc ((f s).nextPc y) = f s := by
    rw [State.nextPc, if_neg hs]
    rfl
  rw [issue_runs1 s y op md f h, seBook_static op md y s hs, pcNext_last _ y hlast, hpc, bundleEnd_solo (f s) y l hlast hl hi]

/-- An effect that is a result gives just that. -/
theorem issue_gives (h : s.runs1 y op md) {lat : Nat} {pred : Option (Nat × Bool)} (hf : f s = result y lat regs pred s) :
    (settle (issue op md y f s)).gives s y op md lat regs pred := by
  have hres := gives_result s y op md lat regs pred h.1
  rw [seBook_static op md y s hs] at hres
  rw [issue_runs1 s y op md f h, seBook_static op md y s hs, hf]
  exact hres

/-- An effect that leaves the engines alone is all that the bundle does. -/
theorem issue_effect (h : s.runs1 y op md) (hf : f s = u) (he : u.eng = s.eng) :
    issue op md y f s = u.setEng y.e.num (u.eng_ y.e.num) := by
  obtain ⟨⟨-, -, -, hhold, -⟩, -⟩ := id h
  have heng : (f s).eng_ y.e.num = s.eng_ y.e.num := by
    unfold State.eng_
    rw [hf, he]
  rw [issue_static hs h (l := []) (by rw [heng, hhold]) (by simp), List.foldl_nil, heng, ← hhold, ← heng, hf]

theorem issue_does (h : s.runs1 y op md) (hf : f s = u) (he : u.eng = s.eng) : (settle (issue op md y f s)).does u y := by
  rw [issue_effect hs h hf he]
  refine ⟨fun k => ?_, ?_⟩
  · rw [State.eng_settle, State.eng_setEng]
    split
    · next hk => rw [hk]
    · rfl
  · rw [settle_eng, State.nextPc, if_neg hs]
    exact settle_sameBut _

/-- An effect that leaves one result held writes that result beside what else it does. -/
theorem issue_takes (h : s.runs1 y op md) (hf : f s = u)
    (he : u.eng_ y.e.num = { s.eng_ y.e.num with hold := [s.flight y 1 regs none] }) :
    issue op md y f s = u.setEng y.e.num ((s.eng_ y.e.num).take (s.flight y 1 regs none)) := by
  obtain ⟨⟨-, -, -, hhold, -⟩, -⟩ := id h
  have heng : (f s).eng_ y.e.num = { s.eng_ y.e.num with hold := [s.flight y 1 regs none] } := by rw [hf, he]
  rw [issue_static hs h (l := [s.flight y 1 regs none]) (by rw [heng]) (by simp [State.flight]), heng, List.foldl_cons, List.foldl_nil, hf,
    ← hhold]

/-- What a bundle without a result leaves beside the engines' parts is as its effect leaves it. -/
theorem issue_effect_parts (h : s.runs1 y op md) (hf : f s = u) (he : u.eng = s.eng) :
    (settle (issue op md y f s)).fab = u.fab ∧ (settle (issue op md y f s)).regs = u.regs ∧
      (settle (issue op md y f s)).steer = u.steer ∧ (settle (issue op md y f s)).tm = u.tm := by
  rw [issue_effect hs h hf he, settle_fab, settle_regs, settle_steer, settle_tm]
  exact ⟨rfl, rfl, rfl, rfl⟩

/-- The result is written, and the rest is as the effect leaves it. -/
theorem issue_takes_parts (h : s.runs1 y op md) (hf : f s = u)
    (he : u.eng_ y.e.num = { s.eng_ y.e.num with hold := [s.flight y 1 regs none] }) :
    (settle (issue op md y f s)).eng_ y.e.num = (s.eng_ y.e.num).take (s.flight y 1 regs none) ∧
      (settle (issue op md y f s)).fab = u.fab ∧ (settle (issue op md y f s)).regs = u.regs ∧
      (settle (issue op md y f s)).tiu = u.tiu := by
  rw [issue_takes hs h hf he, State.eng_settle, State.eng_setEng_same, settle_fab, settle_regs, settle_tiu]
  exact ⟨rfl, rfl, rfl, rfl⟩

omit hs in
/-- A result of an instruction that also updated `u`, which has left the engines and the rotation of the registers alone, is held. -/
theorem result_held (hhold : (s.eng_ y.e.num).hold = []) (he : u.eng = s.eng) (hg : ∀ n, u.physG y n = s.physG y n) :
    (result y 1 regs none u).eng_ y.e.num = { s.eng_ y.e.num with hold := [s.flight y 1 regs none] } := by
  have heng : u.eng_ y.e.num = s.eng_ y.e.num := by
    unfold State.eng_
    rw [he]
  have hfl : u.flight y 1 regs none = s.flight y 1 regs none := by
    unfold State.flight
    simp only [hg, le_refl, true_or, if_true, Option.bind_none]
  rw [result_eq, if_pos (.inl (le_refl 1)), State.eng_setEng_same, heng, hfl, hhold, List.nil_append]

end

/-! ### The live programs of a port (R246) -/

section
variable {s t : State} {p k : Nat} {i : Inst}

theorem State.inst?_of_fab (h : t.fab = s.fab) (p k : Nat) : t.inst? p k = s.inst? p k := by
  unfold State.inst?
  rw [State.pe_of_fab h]

theorem State.inst?_k (h : s.inst? p k = some i) : i.k = k := by
  have hk := List.find?_some h
  simpa using hk

/-- A PE whose live programs are as before has each of them. -/
theorem State.inst?_setPe {e : PePart} (h : e.insts = (s.pe_ p).insts) (k : Nat) : (s.setPe p e).inst? p k = s.inst? p k := by
  unfold State.inst?
  rw [State.pe__setPe, h]

theorem State.inst?_modInst {g : Inst → Inst} (hg : ∀ j, (g j).k = j.k) (h : s.inst? p k = some i) :
    (s.modInst p k g).inst? p k = some (g i) := by
  have hik := State.inst?_k h
  have hkeep : (fun j : Inst => j.k == k) ∘ (fun j => if j.k = k then g j else j) = fun j => j.k == k := by
    funext j
    dsimp only [Function.comp_apply]
    split
    · rw [hg]
    · rfl
  unfold State.inst? at h
  unfold State.inst? State.modInst
  extract_lets e
  rw [State.pe__setPe]
  dsimp only [e]
  rw [List.find?_map, hkeep, h, Option.map_some, if_pos hik]

theorem State.modInst_eng (g : Inst → Inst) : (s.modInst p k g).eng = s.eng := State.setPe_eng ..

theorem State.modInst_pe_ (g : Inst → Inst) : ((s.modInst p k g).pe_ p).commits = (s.pe_ p).commits ∧
    ((s.modInst p k g).pe_ p).sent = (s.pe_ p).sent := by
  unfold State.modInst
  extract_lets e
  rw [State.pe__setPe]
  exact ⟨rfl, rfl⟩

theorem Inst.whole_iff (i : Inst) : i.whole = true ↔ i.late = false ∧ beatsOf i.frame.octets ≤ i.rel := by
  simp [Inst.whole]

/-! ### A beat of the reply (R291) -/

/-- The reply then holds the beat. -/
theorem setBeat_inst? (h : s.inst? p k = some i) (j v : Nat) : (setBeat p k j v s).inst? p k =
    some { i with reply := Tbl.set (fun _ => (0 : DWord)) i.reply j (BitVec.ofNat 64 v) } := by
  unfold setBeat
  extract_lets s1
  have h1 : s1.inst? p k = some { i with reply := Tbl.set (fun _ => (0 : DWord)) i.reply j (BitVec.ofNat 64 v) } :=
    State.inst?_modInst (fun _ => rfl) h
  simp only [h1]
  rw [State.inst?_setPe (by rfl), h1]

theorem setBeat_eq (p k j v : Nat) (s : State) : setBeat p k j v s = { s with fab := (setBeat p k j v s).fab } := by
  unfold setBeat
  extract_lets s1
  split
  · rfl
  · rfl

theorem setBeat_eng (p k j v : Nat) (s : State) : (setBeat p k j v s).eng = s.eng := by
  rw [setBeat_eq]

/-- A bundle whose effect is a beat of the reply changes that beat alone, beside the replies committed already. -/
theorem issue_setBeat {y : Syl} {op md a v : Nat} {f : State → State} (hs : y.e ≠ .se) (h : s.runs1 y op md) (hi : s.inst? p k = some i)
    (hf : f s = setBeat p k a v s) :
    ((settle (issue op md y f s)).inst? p k).map (fun j => Tbl.get (fun _ => (0 : DWord)) j.reply a) = some (BitVec.ofNat 64 v) ∧
      (∀ b, b ≠ a → ((settle (issue op md y f s)).inst? p k).map (fun j => Tbl.get (fun _ => (0 : DWord)) j.reply b) =
        some (Tbl.get (fun _ => (0 : DWord)) i.reply b)) ∧
      (settle (issue op md y f s)).does { s with fab := (settle (issue op md y f s)).fab } y := by
  obtain ⟨hfab, -⟩ := issue_effect_parts hs h hf (setBeat_eng ..)
  have hinst := (State.inst?_of_fab hfab p k).trans (setBeat_inst? hi a v)
  have hdoes := issue_does hs h hf (setBeat_eng ..)
  rw [setBeat_eq, ← hfab] at hdoes
  rw [hinst]
  exact ⟨congrArg some (Tbl.get_set_same ..), fun b hb => congrArg some (Tbl.get_set_ne _ _ _ hb), hdoes⟩

/-! ### A claim (R235, R236, R293) -/

theorem State.turnAt_reg (grid a : Nat) : (s.turnAt p grid).reg a = s.reg a := by
  unfold State.turnAt
  split
  · rfl
  · rfl

theorem State.turnAt_eng (grid : Nat) : (s.turnAt p grid).eng = s.eng := by
  unfold State.turnAt
  split
  · rfl
  · rfl

/-- The phase of the transmitter's word clock is none of the constants. -/
theorem State.turnAt_cal (grid : Nat) : ((s.turnAt p grid).prt_ p).calRx = (s.prt_ p).calRx ∧
    ((s.turnAt p grid).prt_ p).calTx = (s.prt_ p).calTx := by
  unfold State.turnAt
  split
  · exact ⟨rfl, rfl⟩
  · rw [State.prt__setPrt]
    exact ⟨rfl, rfl⟩

theorem State.calValid_congr (hrx : (t.prt_ p).calRx = (s.prt_ p).calRx) (htx : (t.prt_ p).calTx = (s.prt_ p).calTx)
    (hr : t.reg (Reg.PORT_STATUS p) = s.reg (Reg.PORT_STATUS p)) : t.calValid p = s.calValid p := by
  have hmode : t.modeIdx p = s.modeIdx p := by
    have hm : t.fld (F.PORT_STATUS_MODE_RES p) = s.fld (F.PORT_STATUS_MODE_RES p) := State.fld_of_reg hr
    have hf : t.fld (F.PORT_STATUS_FEC_RES p) = s.fld (F.PORT_STATUS_FEC_RES p) := State.fld_of_reg hr
    unfold State.modeIdx
    rw [hm, hf]
  unfold State.calValid
  rw [hrx, htx, hmode]

theorem txClaim_fab (tgt : Int) :
    (txClaim p k tgt s).fab = (s.modInst p k (fun j => { j with claim := some (claimFor p k tgt s) })).fab := by
  unfold txClaim
  extract_lets c s1
  rw [portErr_ite_fab]

theorem txClaim_inst? (h : s.inst? p k = some i) (tgt : Int) :
    (txClaim p k tgt s).inst? p k = some { i with claim := some (claimFor p k tgt s) } :=
  (State.inst?_of_fab (txClaim_fab tgt) p k).trans (State.inst?_modInst (fun _ => rfl) h)

theorem txClaim_reg (tgt : Int) {a : Nat} (hl : a ≠ Reg.TX_LATE_START p) (he : a ≠ Reg.ERR_EVT p) : (txClaim p k tgt s).reg a = s.reg a := by
  unfold txClaim
  extract_lets c s1
  exact portErr_ite_reg p s1 hl he

/-- A claim changes registers and the fabric's part alone. -/
theorem txClaim_parts (tgt : Int) : (txClaim p k tgt s).prt = s.prt ∧ (txClaim p k tgt s).eng = s.eng := by
  unfold txClaim
  extract_lets c s1
  split
  · rw [portErr, State.bump_prt, State.bumpSat_prt, State.bump_eng, State.bumpSat_eng]
    exact ⟨State.setPe_prt .., State.setPe_eng ..⟩
  · exact ⟨State.setPe_prt .., State.setPe_eng ..⟩

/-- The names of a live program's registers turn with its number and the rotation of its bank. -/
theorem State.physG_inst {y : Syl} {q : Fin 4} (he : y.e = .pe q) (hk : y.inst = some k) (hi : s.inst? q.val k = some i) (n : Nat) :
    s.physG y n = if n < 32 then n else 32 + ((n - 32) + i.f * k) % 32 := by
  unfold State.physG
  simp only [he, hk, hi]

/-! ### The decision of a reply (R254, R259, R260, R293) -/

/-- The state with the reply of program `k` decided. -/
def State.decided (s : State) (p k : Nat) : State := s.modInst p k (fun j => { j with done := true })

theorem State.decided_inst? (h : s.inst? p k = some i) : (s.decided p k).inst? p k = some { i with done := true } :=
  State.inst?_modInst (fun _ => rfl) h

/-- The reply of the claim `c` committed, and the claim no longer in force. -/
def replyCommitted (p k len : Nat) (i : Inst) (c : Claim) (s : State) : State :=
  let r := replyFrame i len
  let e := c.tp + s.octs p r.1.length
  let s2 := tmuxEvent (0x5c + p) ((s.decided p k).modInst p k (fun j => { j with claim := none }))
  let q := s2.pe_ p
  s2.setPe p { q with
    commits := q.commits ++ [⟨k, i.bank, c.tp, len, r.1, r.2⟩]
    sent := (i.bank, c.tp, e) :: q.sent.filter (fun x => decide (e < x.2.2 + 2048 * s.pcInc p)) }

theorem txGo_done {len : Nat} (hi : s.inst? p k = some i) (hd : i.done = true) : txGo p k len s = s := by
  unfold txGo
  simp only [hi, hd]
  rfl

theorem txGo_unclaimed {len : Nat} (hi : s.inst? p k = some i) (hd : i.done = false) (hc : i.claim = none) :
    txGo p k len s = s.decided p k := by
  unfold txGo
  simp only [hi, hd, hc]
  rfl

/-- A claimed reply is refused by the originated share, then by the echo meter, else committed. -/
theorem txGo_claimed {len : Nat} {c : Claim} (hi : s.inst? p k = some i) (hd : i.done = false) (hc : i.claim = some c) :
    txGo p k len s =
      if clash p (c.tp - s.octs p 8) (c.tp + s.octs p (replyFrame i len).1.length) s then (s.decided p k).count48 (Reg.CLASH_REFUSED p)
      else if echoRefuses p c.tp (c.tp + s.octs p (replyFrame i len).1.length) s then (s.decided p k).count48 (Reg.ECHO_REFUSED p)
      else replyCommitted p k len i c s := by
  unfold txGo
  simp only [hi, hd, hc]
  rfl

theorem replyCommitted_leaves {len : Nat} {c : Claim} (hi : s.inst? p k = some i) :
    (replyCommitted p k len i c s).inst? p k = some { i with done := true, claim := none } ∧
      ((replyCommitted p k len i c s).pe_ p).commits =
        (s.pe_ p).commits ++ [⟨k, i.bank, c.tp, len, (replyFrame i len).1, (replyFrame i len).2⟩] ∧
      (replyCommitted p k len i c s).eng = s.eng := by
  unfold replyCommitted
  extract_lets r e s2 q
  have hfab : s2.fab = ((s.decided p k).modInst p k (fun j => { j with claim := none })).fab :=
    (tmuxEvent_within ..).get State.fab (fun _ => rfl)
  have heng : s2.eng = s.eng := ((tmuxEvent_within ..).get State.eng (fun _ => rfl)).trans
    ((State.modInst_eng _).trans (State.modInst_eng _))
  have hcommits : q.commits = (s.pe_ p).commits := by
    dsimp only [q]
    rw [State.pe_of_fab hfab, (State.modInst_pe_ _).1]
    exact (State.modInst_pe_ _).1
  refine ⟨?_, ?_, ?_⟩
  · rw [State.inst?_setPe (by rfl), State.inst?_of_fab hfab]
    exact State.inst?_modInst (g := fun j => { j with claim := none }) (fun _ => rfl) (State.decided_inst? hi)
  · rw [State.pe__setPe, hcommits]
  · rw [State.setPe_eng, heng]

theorem State.count48_fab (s : State) (a : Nat) : (s.count48 a).fab = s.fab := State.bump48_fab ..

theorem State.count48_eng (s : State) (a : Nat) : (s.count48 a).eng = s.eng := State.setQuant_eng ..

/-- Whatever becomes of the reply, it is decided, and no engine is changed. -/
theorem txGo_decides {len : Nat} (hi : s.inst? p k = some i) (hd : i.done = false) :
    ((txGo p k len s).inst? p k).map (·.done) = some true ∧ (txGo p k len s).eng = s.eng := by
  have hdec := State.decided_inst? hi
  have heng : (s.decided p k).eng = s.eng := State.modInst_eng _
  cases hc : i.claim with
  | none =>
    rw [txGo_unclaimed hi hd hc, hdec]
    exact ⟨rfl, heng⟩
  | some c =>
    obtain ⟨hinst, -, hceng⟩ := replyCommitted_leaves (len := len) (c := c) hi
    rw [txGo_claimed hi hd hc]
    split
    · rw [State.inst?_of_fab (State.count48_fab ..), hdec, State.count48_eng]
      exact ⟨rfl, heng⟩
    · split
      · rw [State.inst?_of_fab (State.count48_fab ..), hdec, State.count48_eng]
        exact ⟨rfl, heng⟩
      · rw [hinst]
        exact ⟨rfl, hceng⟩

/-! ### The timekeeping engines (R294) -/

theorem rxtsRead_parts (e n : Nat) (s : State) : (rxtsRead e n s).regs = s.regs ∧ (rxtsRead e n s).eng = s.eng := by
  unfold rxtsRead
  extract_lets c recs s1
  split
  · exact ⟨rfl, rfl⟩
  · exact ⟨rfl, rfl⟩

/-- The engine has the record that it read. -/
theorem rxtsRead_recs {e n : Nat} {r : TiuRec} (h : (s.chan n).buf.head? = some r) :
    Tbl.get (fun _ => none) (rxtsRead e n s).tiu.recs (24 * e + n) = some r := by
  unfold rxtsRead
  simp only [h]
  split
  · exact Tbl.get_set_same (fun _ => none) s.tiu.recs (24 * e + n) (some r)
  · exact Tbl.get_set_same (fun _ => none) s.tiu.recs (24 * e + n) (some r)

/-- In FIFO mode the record is popped. -/
theorem rxtsRead_buf (e n : Nat) (s : State) : ((rxtsRead e n s).chan n).buf =
    if s.flag (F.CH_CFG_LATEST n) then (s.chan n).buf else (s.chan n).buf.tail := by
  unfold rxtsRead
  extract_lets c recs tiu s1
  have hflag : s1.flag (F.CH_CFG_LATEST n) = s.flag (F.CH_CFG_LATEST n) := rfl
  rw [← hflag]
  split
  · rfl
  · rw [State.chan_setChan]

theorem steerWrite_free {k te : Nat} {w : Int} (h : ∀ v, (s.port k).pend ≠ some (0, v)) :
    steerWrite k te w s = s.setPort k { s.port k with pend := some (te, w) } := by
  unfold steerWrite
  extract_lets q
  split
  · next v hv => exact absurd hv (h v)
  · rfl

/-- TE0's word stands against TE1's. -/
theorem steerWrite_held {k te : Nat} {v w : Int} (h : (s.port k).pend = some (0, v)) :
    steerWrite k te w s = if te = 0 then s.setPort k { s.port k with pend := some (0, w) } else s := by
  unfold steerWrite
  simp only [h]

/-- A steering word changes what waits at its port alone. -/
theorem steerWrite_leaves (k te : Nat) (w : Int) (s : State) : ((steerWrite k te w s).port k).cur = (s.port k).cur ∧
    (∀ n, n ≠ k → (steerWrite k te w s).port n = s.port n) ∧ (steerWrite k te w s).regs = s.regs ∧ (steerWrite k te w s).eng = s.eng := by
  have hset : ∀ q : Option (Nat × Int), ((s.setPort k { s.port k with pend := q }).port k).cur = (s.port k).cur ∧
      (∀ n, n ≠ k → (s.setPort k { s.port k with pend := q }).port n = s.port n) ∧ (s.setPort k { s.port k with pend := q }).regs = s.regs ∧
      (s.setPort k { s.port k with pend := q }).eng = s.eng := fun q => by
    rw [State.port_setPort]
    exact ⟨rfl, fun n hn => State.port_setPort_ne _ _ hn, rfl, rfl⟩
  by_cases h : ∃ v, (s.port k).pend = some (0, v)
  · obtain ⟨v, hv⟩ := h
    rw [steerWrite_held hv]
    split
    · exact hset _
    · exact ⟨rfl, fun _ _ => rfl, rfl, rfl⟩
  · rw [steerWrite_free (not_exists.mp h)]
    exact hset _

/-- The mark of a steered DPLL is none of the ports', the registers' or the engines'. -/
theorem markSteered_parts (e n : Nat) (s : State) :
    (markSteered e n s).steer = s.steer ∧ (markSteered e n s).regs = s.regs ∧ (markSteered e n s).eng = s.eng := by
  unfold markSteered
  exact ⟨forEach_keeps (g := State.steer) (fun _ _ => State.setDpll_steer ..) _ s,
    forEach_keeps (g := State.regs) (fun _ _ => State.setDpll_regs ..) _ s,
    forEach_keeps (g := State.eng) (fun _ _ => State.setDpll_eng ..) _ s⟩

theorem stepAsk_eq (e n : Nat) (d : Int) (s : State) : stepAsk e n d s = { s with tm := (stepAsk e n d s).tm } := by
  unfold stepAsk
  extract_lets others
  split
  · rfl
  · rfl

/-- A step asked for waits, unless it is TE1's and TE0 has asked for one of the same target. -/
theorem stepAsk_waits (e n : Nat) (d : Int) (s : State) : (e, n, d) ∈ (stepAsk e n d s).tm.stepReq ∨
    (e = 1 ∧ ∃ x q, q ≠ 1 ∧ (q, n, x) ∈ s.tm.stepReq) := by
  unfold stepAsk
  extract_lets others
  split
  case isTrue h =>
    obtain ⟨he, hne⟩ := Bool.and_eq_true_iff.mp h
    obtain ⟨⟨q, m, x⟩, hq⟩ := List.exists_mem_of_ne_nil others (by simpa using hne)
    have he1 : e = 1 := by simpa using he
    obtain ⟨hmem, hcond⟩ := List.mem_filter.mp hq
    simp only [Bool.and_eq_true, beq_iff_eq, bne_iff_ne] at hcond
    obtain ⟨rfl, hqe⟩ := hcond
    exact .inr ⟨he1, x, q, he1 ▸ hqe, hmem⟩
  case isFalse => exact .inl (List.mem_append_right _ (List.mem_singleton.mpr rfl))

end

/-! ### The effects of the commands -/

section
variable {s : State} {y : Syl}

theorem onInst_of {p : Fin 4} {k : Nat} {i : Inst} (he : y.e = .pe p) (hk : y.inst = some k) (hi : s.inst? p.val k = some i)
    (f : Nat → Inst → State → State) : onInst y f s = f p.val i s := by
  unfold onInst
  simp only [he, hk, hi]

theorem onTe_of {k : Fin 2} (he : y.e = .te k) (f : State → State) : onTe y f s = f s := by
  unfold onTe
  simp only [he]

theorem sylTe_of {k : Fin 2} (he : y.e = .te k) : sylTe y = k.val := by
  unfold sylTe
  simp only [he]

theorem result_parts (lat : Nat) (regs : List (Nat × Nat)) (pred : Option (Nat × Bool)) :
    (result y lat regs pred s).regs = s.regs ∧ (result y lat regs pred s).tiu = s.tiu ∧ (result y lat regs pred s).fab = s.fab := by
  rw [result_eq]
  exact ⟨State.setEng_regs .., State.setEng_tiu .., State.setEng_fab ..⟩

/-- The state with the claim of program `k` for the target `tgt`, and its timestamp point given. -/
def claimGiven (y : Syl) (p k : Nat) (tgt : Int) (s : State) : State :=
  let u := txClaim p k tgt s
  resPair y 1 (mFlags (claimFor p k tgt s).tp (!u.flag (F.PC_TRACK_SYNC p)) (!u.calValid p)) u

theorem claimGiven_leaves {p : Fin 4} {k : Nat} {i : Inst} (he : y.e = .pe p) (hk : y.inst = some k) (hi : s.inst? p.val k = some i)
    (tgt : Int) (grid : Nat) (hhold : (s.eng_ y.e.num).hold = []) :
    let c := claimFor p.val k tgt (s.turnAt p.val grid)
    (claimGiven y p.val k tgt (s.turnAt p.val grid)).inst? p.val k = some { i with claim := some c } ∧
      (claimGiven y p.val k tgt (s.turnAt p.val grid)).eng_ y.e.num = { s.eng_ y.e.num with
        hold := [s.flight y 1 (pairRegs y (mFlags c.tp (!s.flag (F.PC_TRACK_SYNC p.val)) (!s.calValid p.val))) none] } := by
  intro c
  have hturn : (s.turnAt p.val grid).inst? p.val k = some i := (State.inst?_of_fab (State.turnAt_fab grid) ..).trans hi
  obtain ⟨hrx, htx⟩ := State.turnAt_cal (s := s) (p := p.val) grid
  unfold claimGiven
  extract_lets u
  have hinst : u.inst? p.val k = some { i with claim := some c } := txClaim_inst? hturn tgt
  obtain ⟨hprt, heng⟩ : u.prt = (s.turnAt p.val grid).prt ∧ u.eng = (s.turnAt p.val grid).eng := txClaim_parts tgt
  have hreg : ∀ a, a ≠ Reg.TX_LATE_START p.val → a ≠ Reg.ERR_EVT p.val → u.reg a = s.reg a := fun a hl hev =>
    (txClaim_reg tgt hl hev).trans (State.turnAt_reg ..)
  have hsync : u.flag (F.PC_TRACK_SYNC p.val) = s.flag (F.PC_TRACK_SYNC p.val) :=
    State.flag_of_reg (hreg _ (by simp only [Reg.PC_TRACK, Reg.TX_LATE_START]; omega) (by simp only [Reg.PC_TRACK, Reg.ERR_EVT]; omega))
  have hcal : u.calValid p.val = s.calValid p.val := by
    have hup : u.prt_ p.val = (s.turnAt p.val grid).prt_ p.val := State.prt_of_prt hprt _
    exact State.calValid_congr (by rw [hup, hrx]) (by rw [hup, htx]) (hreg _ Reg.offset_ne Reg.offset_ne)
  rw [hsync, hcal]
  obtain ⟨-, -, hfab⟩ := result_parts (s := u) (y := y) 1 (pairRegs y (mFlags c.tp (!s.flag (F.PC_TRACK_SYNC p.val)) (!s.calValid p.val))) none
  refine ⟨(State.inst?_of_fab hfab ..).trans hinst, result_held hhold (heng.trans (State.turnAt_eng grid)) fun n => ?_⟩
  rw [State.physG_inst he hk hinst, State.physG_inst he hk hi]

theorem State.chan_of_tiu {t : State} (h : t.tiu = s.tiu) (n : Nat) : t.chan n = s.chan n := by
  unfold State.chan
  rw [h]

/-- A record that its arrival gate presents late is as it is. -/
theorem gateLate_parts (late : Bool) (n : Nat) : (if late then s.gateLate n else s).regs = s.regs ∧
    (if late then s.gateLate n else s).tiu = s.tiu ∧ (if late then s.gateLate n else s).eng = s.eng := by
  cases late with
  | false => exact ⟨rfl, rfl, rfl⟩
  | true => exact ⟨rfl, rfl, rfl⟩

/-- The state with the record of channel SRCA given to engine `e`, late at its arrival gate or not. -/
def recordGiven (y : Syl) (e : Nat) (late : Bool) (s : State) : State :=
  let u := resPair y 1 (((TiuRec.words (s.chan y.a.val).buf.head?).map BitVec.toNat).foldr (fun w acc => w + 2 ^ 32 * acc) 0) s
  rxtsRead e y.a.val (if late then u.gateLate (8 + y.a.val) else u)

theorem recordGiven_leaves (e : Nat) (late : Bool) (hhold : (s.eng_ y.e.num).hold = []) :
    (recordGiven y e late s).regs = s.regs ∧
      (recordGiven y e late s).eng_ y.e.num = { s.eng_ y.e.num with
        hold := [s.flight y 1 (pairRegs y
          (((TiuRec.words (s.chan y.a.val).buf.head?).map BitVec.toNat).foldr (fun w acc => w + 2 ^ 32 * acc) 0)) none] } ∧
      (∀ r, (s.chan y.a.val).buf.head? = some r → Tbl.get (fun _ => none) (recordGiven y e late s).tiu.recs (24 * e + y.a.val) = some r) ∧
      ((recordGiven y e late s).chan y.a.val).buf =
        if s.flag (F.CH_CFG_LATEST y.a.val) then (s.chan y.a.val).buf else (s.chan y.a.val).buf.tail := by
  unfold recordGiven
  generalize ((TiuRec.words (s.chan y.a.val).buf.head?).map BitVec.toNat).foldr (fun w acc => w + 2 ^ 32 * acc) 0 = v
  extract_lets u
  obtain ⟨hur, hut, -⟩ := result_parts (s := s) (y := y) 1 (pairRegs y v) none
  obtain ⟨hgr, hgt, hge⟩ := gateLate_parts (s := u) late (8 + y.a.val)
  obtain ⟨hwr, hwe⟩ := rxtsRead_parts e y.a.val (if late then u.gateLate (8 + y.a.val) else u)
  have hchan : (if late then u.gateLate (8 + y.a.val) else u).chan y.a.val = s.chan y.a.val := State.chan_of_tiu (hgt.trans hut) _
  have hflag : (if late then u.gateLate (8 + y.a.val) else u).flag (F.CH_CFG_LATEST y.a.val) = s.flag (F.CH_CFG_LATEST y.a.val) :=
    State.flag_of_reg (State.reg_congr (hgr.trans hur) _)
  have heng : (rxtsRead e y.a.val (if late then u.gateLate (8 + y.a.val) else u)).eng_ y.e.num = u.eng_ y.e.num := by
    unfold State.eng_
    rw [hwe, hge]
  refine ⟨hwr.trans (hgr.trans hur), ?_, fun r hr => rxtsRead_recs (by rw [hchan, hr]), ?_⟩
  · rw [heng]
    exact result_held hhold rfl (fun _ => rfl)
  · rw [rxtsRead_buf, hchan, hflag]

/-- The word that then waits at its port. -/
theorem steerEffect_free {k e : Nat} (w : Int) (h : ∀ v, (s.port k).pend ≠ some (0, v)) :
    ((markSteered e k (steerWrite k e w s)).port k).pend = some (e, w) := by
  rw [State.port_of_steer (markSteered_parts ..).1, steerWrite_free h, State.port_setPort]

theorem steerEffect_held {k e : Nat} {v : Int} (w : Int) (h : (s.port k).pend = some (0, v)) :
    ((markSteered e k (steerWrite k e w s)).port k).pend = if e = 0 then some (0, w) else some (0, v) := by
  rw [State.port_of_steer (markSteered_parts ..).1, steerWrite_held h]
  split
  · rw [State.port_setPort]
  · exact h

/-! ### The commands that do more than give a result -/

section
variable {p : Fin 4} {k : Nat} {i : Inst} (he : y.e = .pe p) (hk : y.inst = some k) (hi : s.inst? p.val k = some i)
include he hk hi

theorem exec_txb : ∃ f, exec (.txb y) s = .next (settle (issue 0x20 y.md.val y f s)) ∧
    f s = setBeat p.val k y.a.val (txb y.md.val (i.beat y.a.val) (s.rg y y.b.val).toNat) s := by
  refine ⟨_, rfl, (onInst_of he hk hi _).trans ?_⟩
  rw [State.inst?_k hi]

theorem exec_txcsum : ∃ f, exec (.txcsum y) s = .next (settle (issue 0x22 y.md.val y f s)) ∧
    f s = setBeat p.val k y.a.val (txcsum (y.md.val % 4) (decide (4 ≤ y.md.val)) (i.beat y.a.val) (s.rg y y.b.val).toNat) s := by
  refine ⟨_, rfl, (onInst_of he hk hi _).trans ?_⟩
  rw [State.inst?_k hi]

/-- TXTS gives the timestamp point of its claim. -/
theorem exec_txts (grid : Nat) : ∃ f, exec (.txts y grid) s = .next (settle (issue 0x21 y.md.val y f s)) ∧
    f s = claimGiven y p.val k ((s.pairV y y.a.val % 2 ^ 120 : Nat) : Int) (s.turnAt p.val grid) := by
  have hturn : (s.turnAt p.val grid).inst? p.val k = some i := (State.inst?_of_fab (State.turnAt_fab grid) ..).trans hi
  refine ⟨_, rfl, (onInst_of he hk hi _).trans ?_⟩
  rw [State.inst?_k hi]
  simp only [txClaim_inst? hturn, Option.bind_some]
  rfl

theorem exec_txgo : ∃ f, exec (.txgo y) s = .next (settle (issue 0x23 y.md.val y f s)) ∧
    f s = txGo p.val k ((s.rg y y.b.val).toNat % 2 ^ 14) s := by
  refine ⟨_, rfl, (onInst_of he hk hi _).trans ?_⟩
  rw [State.inst?_k hi]

end

section
variable {k : Fin 2} (he : y.e = .te k)
include he

theorem exec_teRxts (ha : y.a.val < 24) (late : Bool) : ∃ f b, exec (.teRxts ⟨y, late⟩) s = .next (settle (issue 0x1f y.md.val y f s)) ∧
    f s = recordGiven y k.val b s := by
  refine ⟨_, late && decide (y.a.val < 24) && !(s.chan y.a.val).buf.isEmpty, congrArg fin (onTe_of he _), ?_⟩
  simp only [if_pos ha, sylTe_of he]
  rfl

theorem exec_teTxb : ∃ f, exec (.teTxb y) s = .next (settle (issue 0x20 y.md.val y f s)) ∧
    f s = markSteered k.val y.a.val (steerWrite y.a.val k.val (steerWord y.a.val (s.rg y y.b.val).toNat) s) := by
  refine ⟨_, congrArg fin (onTe_of he _), ?_⟩
  rw [sylTe_of he]

theorem exec_teTxgo : ∃ f, exec (.teTxgo y) s = .next (settle (issue 0x23 y.md.val y f s)) ∧
    f s = stepAsk k.val y.a.val (signed 64 (s.rg y y.b.val).toNat) s := by
  refine ⟨_, congrArg fin (onTe_of he _), ?_⟩
  rw [sylTe_of he]

end

end

end Sys2Proof.Machine

namespace Sys2Proof

open Machine

/-- Settles O40: each command through what its effect leaves of its program, its channel, its port or the steps asked for. -/
theorem parseAndEmitOperations : Obligations.ParseAndEmitOperations := by
  unfold Obligations.ParseAndEmitOperations
  refine ⟨fun y s p k i he hk hi => ?port, fun y s k he => ?time⟩
  case port =>
    have hs : y.e ≠ .se := by simp [he]
    refine ⟨fun h => ⟨_, rfl, issue_gives hs h (onInst_of he hk hi _)⟩, fun h => ⟨_, rfl, ?rxlen⟩,
      fun h => ⟨_, rfl, fun hm => issue_gives hs h ((onInst_of he hk hi _).trans (if_pos hm)),
        fun hm => issue_gives hs h ((onInst_of he hk hi _).trans (if_neg hm))⟩,
      fun h => ⟨_, rfl, issue_gives hs h (onInst_of he hk hi _)⟩, fun h => ?txb, fun h => ?txcsum, fun h grid => ?txts,
      fun h => ⟨fun hd => ?txgoAgain, fun hd => ?txgo⟩⟩
    case rxlen =>
      simp only [← Inst.whole_iff]
      exact issue_gives hs h (onInst_of he hk hi _)
    case txb =>
      obtain ⟨f, hexec, hf⟩ := exec_txb he hk hi
      exact ⟨_, hexec, issue_setBeat hs h hi hf⟩
    case txcsum =>
      obtain ⟨f, hexec, hf⟩ := exec_txcsum he hk hi
      obtain ⟨hbeat, -, hdoes⟩ := issue_setBeat hs h hi hf
      exact ⟨_, hexec, hbeat, hdoes⟩
    case txts =>
      obtain ⟨⟨-, -, -, hhold, -⟩, -⟩ := id h
      obtain ⟨f, hexec, hf⟩ := exec_txts he hk hi grid
      obtain ⟨hinst, hheld⟩ := claimGiven_leaves he hk hi ((s.pairV y y.a.val % 2 ^ 120 : Nat) : Int) grid hhold
      obtain ⟨heng, hfab, -⟩ := issue_takes_parts hs h hf hheld
      exact ⟨_, hexec, (State.inst?_of_fab hfab ..).trans hinst, heng⟩
    case txgoAgain =>
      obtain ⟨f, hexec, hf⟩ := exec_txgo he hk hi
      exact ⟨_, hexec, issue_does hs h (hf.trans (txGo_done hi hd)) rfl⟩
    case txgo =>
      obtain ⟨f, hexec, hf⟩ := exec_txgo he hk hi
      obtain ⟨hdecided, heng⟩ := txGo_decides (len := (s.rg y y.b.val).toNat % 2 ^ 14) hi hd
      obtain ⟨hfab, -⟩ := issue_effect_parts hs h hf heng
      have hinst := State.inst?_of_fab hfab p.val k
      refine ⟨_, hexec, ?_, fun hc => hinst.trans ?_, fun c hc => ?_⟩
      · rw [hinst, hdecided]
      · rw [txGo_unclaimed hi hd hc]
        exact State.decided_inst? hi
      · intro r hclash hecho
        rw [txGo_claimed hi hd hc, if_neg (by rw [hclash]; decide), if_neg (by rw [hecho]; decide)] at hfab
        obtain ⟨hcinst, hcommits, -⟩ := replyCommitted_leaves (len := (s.rg y y.b.val).toNat % 2 ^ 14) (c := c) hi
        exact ⟨(State.inst?_of_fab hfab ..).trans hcinst, (congrArg PePart.commits (State.pe_of_fab hfab _)).trans hcommits⟩
  case time =>
    have hs : y.e ≠ .se := by simp [he]
    refine ⟨fun h => ⟨_, congrArg fin (onTe_of he _), issue_gives hs h (by rw [sylTe_of he]; rfl)⟩, fun h ha late => ?rxts,
      fun h => ?steer, fun h => ?step⟩
    case rxts =>
      obtain ⟨⟨-, -, -, hhold, -⟩, -⟩ := id h
      obtain ⟨f, b, hexec, hf⟩ := exec_teRxts he ha late
      obtain ⟨hr, hheld, hrecs, hbuf⟩ := recordGiven_leaves k.val b hhold
      obtain ⟨heng, -, hregs, htiu⟩ := issue_takes_parts hs h hf hheld
      refine ⟨_, hexec, fun r hr => ?_, fun _ => hregs.trans hr, ?_, heng⟩
      · rw [htiu, hrecs r hr]
      · rw [State.chan_of_tiu htiu, hbuf]
    case steer =>
      obtain ⟨f, hexec, hf⟩ := exec_teTxb he
      generalize steerWord y.a.val (s.rg y y.b.val).toNat = w at hf ⊢
      obtain ⟨hsteer, hmregs, hmeng⟩ := markSteered_parts k.val y.a.val (steerWrite y.a.val k.val w s)
      obtain ⟨hcur, hothers, hwregs, hweng⟩ := steerWrite_leaves y.a.val k.val w s
      obtain ⟨-, hregs, hports, -⟩ := issue_effect_parts hs h hf (hmeng.trans hweng)
      have hport := State.port_of_steer hports
      refine ⟨_, hexec, ?_, ?_, fun n hn => ?_, hregs.trans (hmregs.trans hwregs)⟩
      · rw [hport]
        by_cases hheld : ∃ v, (s.port y.a.val).pend = some (0, v)
        · obtain ⟨v, hv⟩ := hheld
          simp only [steerEffect_held w hv, hv]
        · rw [steerEffect_free w (not_exists.mp hheld)]
          split
          · next v hv => exact absurd ⟨v, hv⟩ hheld
          · rfl
      · rw [hport, State.port_of_steer hsteer, hcur]
      · rw [hport, State.port_of_steer hsteer, hothers n hn]
    case step =>
      obtain ⟨f, hexec, hf⟩ := exec_teTxgo he
      generalize signed 64 (s.rg y y.b.val).toNat = d at hf ⊢
      have heq := stepAsk_eq k.val y.a.val d s
      have heng : (stepAsk k.val y.a.val d s).eng = s.eng := by rw [heq]
      obtain ⟨-, -, -, htm⟩ := issue_effect_parts hs h hf heng
      have hdoes := issue_does hs h hf heng
      rw [heq, ← htm] at hdoes
      refine ⟨_, hexec, ?_, hdoes⟩
      rw [htm]
      exact stepAsk_waits ..

end Sys2Proof
end
